-- ==== Sys2Proof/Word.lean ====
section
/-! DEFINITION. The register word of the engine and its plainest arithmetic (spec/00_scope.md: every register is 32 bits wide). -/

namespace Sys2Proof

/-- A 32-bit register or memory word. -/
abbrev Word := BitVec 32

/-- A sparse memory of words: (address, word) pairs, strictly rising addresses, no entry equal to the default content. -/
abbrev Store := List (Nat × Word)

/-- The word whose value is `n` modulo 2^32. DESIGN CHOICE (notes/assumptions/66.md). -/
abbrev word (n : Nat) : Word := BitVec.ofNat 32 n

/-- The 32-bit two's complement of an integer. -/
abbrev wordOfInt (n : Int) : Word := BitVec.ofInt 32 n

end Sys2Proof
end

