-- ==== Sys2Proof/Syntax.lean ====
section
/-! DEFINITION. The commands the engine takes: one constructor for each row of spec/opcode_table.json, with the row's
operands, and the types of those operands. -/

namespace Sys2Proof

/-- Who makes a register-bus access: the host through the control port, or Vat thread `t` (R17, R148).
DESIGN CHOICE (notes/assumptions/19.md). -/
inductive Origin where
  | host
  | vat (t : Fin 8)
  deriving DecidableEq, Repr

/-- A measured trim: the item and the GAIN and OFFSET measured for it (chapter 10). -/
structure TrimMeas where
  item : Fin 16
  gain : Nat
  offset : Int
  deriving DecidableEq, Repr

/-- The place of an operand of a row whose measured value the state holds: the row says no more than that it happens.
DESIGN CHOICE (notes/assumptions/60.md). -/
abbrev Held := Unit

/-- A PoE classification: PD_CLS as the straps gave it then, and the class that the PSE granted. -/
structure PoeClass where
  strap : Fin 8
  granted : Nat
  deriving DecidableEq, Repr

/-- A conversion as the analogue side gives it: the raw value before the trims (R230), and whether its acquisition began
within 5 µs of a change of the injection into its input (R235). -/
structure ConvMeas where
  raw : Int
  settling : Bool
  deriving DecidableEq, Repr

/-- What the receiver finds wrong with a packet (R265 to R267, R291): nothing, a corrected header, an uncorrectable
header, a payload CRC error, a receiver overflow, or a start-of-transmission error. -/
inductive PacketErr where
  | none | eccCorr | eccUnc | crc | overflow | sot
  deriving DecidableEq, Repr

/-- A frame-start packet: its virtual channel, its frame number, and the line time (10 ns) and frame period (10 µs) that
intake measures. -/
structure StartPacket where
  vc : Nat
  f : Nat
  line : Nat
  fper : Nat
  deriving DecidableEq, Repr

/-- A line packet: virtual channel, data type code (0 RAW14, 1 RAW10, 2 RAW12), line slot, error, pixels. -/
structure LinePacket where
  vc : Nat
  kind : Nat
  y : Nat
  err : PacketErr
  px : List Nat
  deriving DecidableEq, Repr

/-- A Velva frame (Table 20.3) without its CRC: TYPE, FLAGS, ORIGIN, HOPS, OHOP, SEQ, payload bytes. -/
structure VFrame where
  ty : Nat
  flags : Nat
  origin : Nat
  hops : Nat
  ohop : Nat
  seq : Nat
  pl : List Nat
  deriving DecidableEq, Repr

/-- What a heat-model update meets (chapter 19): the raw HKIN26 value of a fresh conversion when one is due (R403), and, for a
thermal cut, whether a NOR page program was in flight, the µs from t0 to the start of the record program, and whether that
program succeeded. -/
structure HeatMeas where
  diode : Int
  prog : Bool
  us : Nat
  programmed : Bool
  deriving DecidableEq, Repr

/-- What opening a medium finds (R479): whether it succeeded, the capacity in MiB, the measured write speed in MB/s, the eMMC
health values, the FORMAT_ID and N_w of a valid label, and the index entries of the card's wheels when the card is not the one
the medium held before. -/
structure MediumOpen where
  good : Bool
  capMiB : Nat
  wrate : Nat
  preEol : Nat
  lifeA : Nat
  lifeB : Nat
  label : Option (Nat × Nat)
  index : Option (List (Nat × List Word))
  deriving DecidableEq, Repr

/-- What a start-up step of the rows START_STEP_DONE finds (Table 4.1, R95, R287): nothing beside its completion; the three check
words of step 4 (tables in DRAM, trims, journal); the heads that answered and those whose start completed, in step 10, as
bitmaps. DEDUCED (notes/assumptions/9.md). -/
inductive StepReport where
  | work
  | checks (dram trims journal : Bool)
  | heads (answered started : Nat)
  deriving DecidableEq, Repr

/-- The commands and happenings of the block, in the order of the opcode table. An operand that the environment
measures (a voltage, a lock time, whether a device answered) comes with the command. -/
inductive Instr where
  /-- REGISTER_WRITE (R7). A control-port write or Vat PUT to a register without a row of its own is checked, and then applied whole or rejected whole. -/
  | registerWrite (o : Origin) (a : BitVec 24) (v : Word)
  /-- W1C_WRITE (R12). A write of 1 clears the named W1C bits; a bit set in the same fabric cycle stays set. -/
  | w1cWrite (o : Origin) (a : BitVec 24) (v : Word)
  /-- RC_READ (R11). A read of an RC register returns its value and clears it by that value; PEAK fields fall to their present value. -/
  | rcRead (o : Origin) (a : BitVec 24)
  /-- AC_INPUT_VALID (R26). AC has complied for 1.0 s and becomes valid; the bus returns to AC. -/
  | acInputValid
  /-- AC_INPUT_INVALID (R26). AC goes out of range for three half-cycles, or no peak above 75 V arrives within 12 ms, and becomes invalid. -/
  | acInputInvalid
  /-- POE_INPUT_VALID (R26). The PoE stage completes IEEE 802.3bt power-up and classification, and the input becomes valid. -/
  | poeInputValid (cls : PoeClass) (type events : Nat)
  /-- POE_INPUT_INVALID (R26). The PSE removes power and the PoE input becomes invalid. -/
  | poeInputInvalid
  /-- BROWNOUT (R33). The bus stays below 10.2 V for 5 µs; the engine performs a brownout reset and removes the rails. -/
  | brownout
  /-- POWER_ON_RESET (R76). The always-on supply comes up after the bus has been below 5.0 V, and start-up runs from step 1. -/
  | powerOnReset
  /-- BUS_P_UPDATE (R36). A new moving-average BUS_P value is compared with the effective limit, and OVER is set or cleared. -/
  | busPUpdate (p : Held)
  /-- PWR_SHED_HEAT (R36). The excess has lasted T_HEAT; the heater is switched off and HEAT_SHED is set. -/
  | pwrShedHeat
  /-- PWR_SHED_BOOST (R36). The excess has lasted T_BOOST; the charger is limited to 1 W and BOOST_LIM is set. -/
  | pwrShedBoost
  /-- PWR_EAVES_FORCED (R36). The excess has lasted T_EAVES; Eaves is forced and EAVES_FORCED is set. -/
  | pwrEavesForced
  /-- BOOST_READMIT (R37). The charger's headroom test has held for 5.0 s; the charger is re-admitted and BOOST_LIM clears. -/
  | boostReadmit
  /-- HEATER_READMIT (R37). The heater's headroom test has held for 5.0 s; the heater is re-admitted and HEAT_SHED clears. -/
  | heaterReadmit
  /-- PWR_GOV_WRITE (R36). New governor delays are applied to the excess in progress, counted from the moment OVER set. -/
  | pwrGovWrite (o : Origin) (v : Word)
  /-- EAVES_REL (R38). A write of PWR_CLR.EAVES_REL releases forced Eaves when the limit is at least 16.00 W. -/
  | eavesRel (o : Origin)
  /-- HTR_OC_CLR (R44). A write of PWR_CLR.HTR_OC_CLR clears the heater over-current latch. -/
  | htrOcClr (o : Origin)
  /-- HSUP_OC_CLR (R45). A write of PWR_CLR.HSUP_OC_CLR clears HSUP_OC and re-enables the head supply when EN is 1. -/
  | hsupOcClr (o : Origin)
  /-- PWR_HTR_WRITE (R44). A write of the heater enable and duty is stored; a new period begins when the output becomes allowed. -/
  | pwrHtrWrite (o : Origin) (v : Word)
  /-- HEATER_PERIOD (R44). A 100 ms heater period starts, with the on-time at its start. -/
  | heaterPeriod
  /-- HEATER_ON_TIME_END (R44). The heater on-time ends; the current is measured and OPEN is judged. -/
  | heaterOnTimeEnd (m : Held)
  /-- PWR_HTR_OC (R44). A heater current above 2.6 A for 100 µs switches the output off and latches OC. -/
  | pwrHtrOc
  /-- PWR_HSUP_OC (R45). A head-supply current above 0.50 A for 1 ms switches the supply off and latches HSUP_OC. -/
  | pwrHsupOc
  /-- RAIL_PG_LOSS (R40). A rail loses power-good for 20 µs after step 1 and causes a brownout reset with RAIL_FAULT set. -/
  | railPgLoss (rail : Fin 8)
  /-- HBUS_OVERLOAD (R525). The HBUS current exceeds 1.3 A and the limiter folds back to 0.30 A. -/
  | hbusOverload
  /-- HBUS_RETRY (R525). Every 100 ms the folded-back HBUS limiter retries full current for 10 ms. -/
  | hbusRetry (cleared : Bool)
  /-- CLK_SLIP_WARN (R59). The phase error leaves ±150 ps; the safe state is forced, the DRAM enters self-refresh and the domains stop. -/
  | clkSlipWarn
  /-- CLK_PLL_LOSS (R58). A PLL loss is declared on the phase error, the frequency or a crystal failure. -/
  | clkPllLoss (inRefresh : Bool)
  /-- CLK_XO_FAIL (R57). No crystal edge arrives for 8 RC cycles, or the amplitude stays low for 16 cycles, and a crystal failure is declared. -/
  | clkXoFail
  /-- PLL_RELOCK (R64). The PLL relocks within RELOCK_MAX and the engine resumes in place in the order of Table 3.3. -/
  | pllRelock (lockTime : Nat)
  /-- RELOCK_TIMEOUT (R65). The PLL has not relocked within RELOCK_MAX, and a clock-fail recovery reset follows. -/
  | relockTimeout
  /-- CLOCK_FAIL_RECOVERY (R65). A failed crystal meets the start criterion again, and a clock-fail recovery reset starts at step 2. -/
  | clockFailRecovery
  /-- EAVES_DIVISOR_CHANGE (R53). At an alignment point the sampled Eaves condition changes, and the divisors are applied. -/
  | eavesDivisorChange
  /-- CLK_SW_FORCED (R68). A mux switch finds no outgoing edge in 64 RC cycles, completes on the fourth incoming edge and sets SW_FORCED. -/
  | clkSwForced
  /-- DRAM_LOST_CLEAR (R67). A write of 1 to DRAM_LOST clears it once retraining has completed, and contexts accept frames again. -/
  | dramLostClear (o : Origin)
  /-- LFO_MEASURE_START (R70). The LFDLY delay expires and the count of 1024 LFO cycles begins. -/
  | lfoMeasureStart
  /-- LFO_MEASURE_DONE (R70). The 1024 LFO cycles are counted, and LF_VALID or LF_FAIL is set. -/
  | lfoMeasureDone (err : Int)
  /-- LFO_MEASURE_TIMEOUT (R70). The 1024 cycles are not counted within 34.0 ms; LF_FAIL is set. -/
  | lfoMeasureTimeout
  /-- LFO_REMEASURE (R70). After a failure the measurement is repeated every 1 s of the RC oscillator. -/
  | lfoRemeasure
  /-- SUPPLY_QUALIFY (R39). The bus, the input, PWR_AVAIL and the rail sequence are met, and start-up step 1 completes. -/
  | supplyQualify (failed : Option (Fin 8))
  /-- CRYSTAL_START (R55). The XO amplitude has held for 4096 cycles, and step 2 completes. -/
  | crystalStart (amp : Nat)
  /-- PLL_LOCK (R56). The phase error has held within ±50 ps for 1024 reference cycles, and step 3 completes. -/
  | pllLock (lockTime : Nat) (phErr : Int)
  /-- DRAM_TRAINING_DONE (R87). A step 5 training path ends; on success the values are stored, and on failure the next path is tried from step 4. -/
  | dramTrainingDone (ok : Bool)
  /-- START_STEP_DONE (R75). A later start-up step completes its work and the next step begins. -/
  | startStepDone (r : StepReport)
  /-- START_STEP_FAIL (R86). A step does not complete within its maximum time; the failure is journalled and Table 4.3 applies. -/
  | startStepFail (bad answered : Nat)
  /-- STEP_RETRY (R86). A failed step 1, 2 or 3 is retried after its interval on the RC oscillator. -/
  | stepRetry
  /-- SPOT_CHECK_DONE (R205). The 1.5 ms spot check of restored or retained trims agrees or disagrees. -/
  | spotCheckDone (ms : List TrimMeas)
  /-- INITIAL_CALIBRATION_DONE (R206). The 180 ms initial calibration ends; implausible items are repeated once and then set to nominal. -/
  | initialCalibrationDone (ms : List TrimMeas)
  /-- HOST_GO (R83). A write of START_CTL.HOST_GO requests host hand-over, either stored as GO_PENDING or taken at once. -/
  | hostGo (o : Origin)
  /-- HOST_WAIT_EXPIRY (R85). HOST_WAIT runs out in step 13. -/
  | hostWaitExpiry
  /-- SOFT_RESET (R81). A write of 0x50F7 to START_CTL.SOFT_KEY performs a soft reset. -/
  | softReset (o : Origin)
  /-- RESET_N_LOW (R80). A low pulse on RESET_N of 1 µs or longer is recognised; the safe state is forced and the start is held. -/
  | resetNLow
  /-- RESET_N_RISE (R80). RESET_N rises and the held start continues. -/
  | resetNRise
  /-- START_KICK (R90). A write of KICK equal to the previous value plus 1 restarts the heartbeat watchdog and clears HOST_LOST. -/
  | startKick (o : Origin) (v : Word)
  /-- HB_HOST_LOST (R90). HB_T passes without an accepted kick; HOST_LOST is set. -/
  | hbHostLost
  /-- WATCHDOG_RESET (R90). A further RST_T passes with RST_EN set, and a watchdog reset is performed. -/
  | watchdogReset
  /-- RIND_REQ (R92). A write of START_STATE.RIND_REQ is checked and starts the ordered entry into Rind. -/
  | rindReq (o : Origin)
  /-- RIND_ENTRY_COMPLETE (R92). Frames, profiles, the Cellar close and NOR record have ended; the DRAM enters self-refresh and the rails drop to Rind levels. -/
  | rindEntryComplete
  /-- RIND_WAKE (R93). An enabled wake source fires; the rails, clocks and DRAM return and the threads resume, or an entry in progress is cancelled. -/
  | rindWake (src : Fin 7)
  /-- RIND_TIMER_EXPIRY (R93). START_RIND_T expires on the LFO and wakes the engine. -/
  | rindTimerExpiry
  /-- JOURNAL_COPY_WRITTEN (R98). The 256-byte start-journal record is programmed to NOR, or WRITE_FAIL is set. -/
  | journalCopyWritten (ok : Bool)
  /-- NOR_ERASE_DONE (R539). A background NOR sector erase completes and the waiting writer may use the sector. -/
  | norEraseDone (which : Fin 3)
  /-- STATUS (R104). A STATUS transaction returns the status word captured at the CP_CS_N fall. -/
  | status (clocks : Nat)
  /-- READ (R107). A READ transaction returns one register with its code and CRC in the trailer. -/
  | read (tag : BitVec 4) (addr : BitVec 24) (clocks : Nat)
  /-- WRITE (R105). A WRITE transaction is sealed, checked within the seal and applied, with its code shown in the next status word. -/
  | write (tag : BitVec 4) (addr : BitVec 24) (data crc : Word) (clocks : Nat)
  /-- BULK_READ (R107). A BULK READ returns N consecutive registers or window words after checking the whole range. -/
  | bulkRead (tag : BitVec 4) (addr : BitVec 24) (len : Word) (clocks : Nat)
  /-- BULK_WRITE (R110). A BULK WRITE hands N words to a write window at the seal. -/
  | bulkWrite (tag : BitVec 4) (addr : BitVec 24) (len : Word) (words : List Word) (clocks : Nat)
  /-- PAGE_READ (R111). A PAGE READ returns words of the held Cellar page, and frees it when word 1023 completes its trailer. -/
  | pageRead (tag : BitVec 4) (addr : BitVec 24) (len : Word) (clocks : Nat)
  /-- PAGE_RELEASE (R111). A PAGE RELEASE frees the held page. -/
  | pageRelease (tag : BitVec 4) (addr : BitVec 24) (crc : Word) (clocks : Nat)
  /-- RESERVED_OP (R104). A header with a reserved OP ends with E_ADDR and no effect. -/
  | reservedOp (op tag : BitVec 4) (addr : BitVec 24) (clocks : Nat)
  /-- KEY_STAGE_WRITE (R118). A bulk write of 7 or 11 words replaces the staged key material. -/
  | keyStageWrite (ws : List Word)
  /-- KEY_IMPORT (R118). KEY_CMD with OP import starts long operation 5 for the named slot. -/
  | keyImport (o : Origin) (slot : Fin 512) (alg : Fin 4)
  /-- KEY_IMPORT_DONE (R118). The key import ends; the check value decides between the new key and E_AUTH, and staging is zeroed. -/
  | keyImportDone
  /-- KEY_CLEAR (R120). KEY_CMD with OP clear empties the named slot at the seal. -/
  | keyClear (o : Origin) (slot : Fin 512)
  /-- KEY_LOCK_SET (R121). A write of KEY_LOCK.LOCK = 1 locks key commands until the next reset. -/
  | keyLockSet (o : Origin)
  /-- DISPATCH (R124). The dispatcher takes the highest-priority capture, sets PEND and queues deliveries to its drains. -/
  | dispatch
  /-- VECTOR_READ (R136). A read of GUT_VEC_A or GUT_VEC_B returns the top presented source and acknowledges a non-latched one. -/
  | vectorRead (o : Origin) (b : Bool)
  /-- PEND_CLEAR (R128). A W1C write to GUT_PEND acknowledges latched sources. -/
  | pendClear (o : Origin) (m : Fin 16) (v : Word)
  /-- GUT_SRC_WRITE (R127). A write of a source configuration changes its route and presentation, and a STORM change refills the bucket. -/
  | gutSrcWrite (o : Origin) (n : Fin 512) (v : Word)
  /-- STORM_REFILL (R130). A token is added after the refill period, capturing a summary occurrence when SUPP is non-zero. -/
  | stormRefill (n : Fin 512)
  /-- IRQ_PULSE_END (R134). The 64-cycle re-arm pulse ends and IRQA_N or IRQB_N falls again. -/
  | irqPulseEnd
  /-- JOURNAL_RECORD_WRITTEN (R138). A queued D5 record is programmed into the NOR fault journal ring, or dropped on failure. -/
  | journalRecordWritten (ok : Bool)
  /-- REPORT_LINE (R139). A queued D6 delivery is sent as one 20-character line on the chosen UART. -/
  | reportLine
  /-- ALARM_HANDOFF (R437). The Velva engine takes a D3 delivery and sends it as an ALARM frame on every usable port. -/
  | alarmHandoff
  /-- MARKER_HANDOFF (R485). The Cellar takes a D4 delivery, starts the alarm time and writes a marker into every armed stream. -/
  | markerHandoff
  /-- ADD (R145). Vat ADD instruction. -/
  | add (t : Fin 8) (rd ra rb : Fin 16)
  /-- SUB (R145). Vat SUB instruction. -/
  | sub (t : Fin 8) (rd ra rb : Fin 16)
  /-- AND (R145). Vat bitwise AND instruction. -/
  | and (t : Fin 8) (rd ra rb : Fin 16)
  /-- OR (R145). Vat bitwise OR instruction. -/
  | or (t : Fin 8) (rd ra rb : Fin 16)
  /-- XOR (R145). Vat bitwise XOR instruction. -/
  | xor (t : Fin 8) (rd ra rb : Fin 16)
  /-- SLL (R145). Vat shift left by a register. -/
  | sll (t : Fin 8) (rd ra rb : Fin 16)
  /-- SRL (R145). Vat logical shift right by a register. -/
  | srl (t : Fin 8) (rd ra rb : Fin 16)
  /-- SRA (R145). Vat arithmetic shift right by a register. -/
  | sra (t : Fin 8) (rd ra rb : Fin 16)
  /-- SLT (R145). Vat signed set-less-than. -/
  | slt (t : Fin 8) (rd ra rb : Fin 16)
  /-- SLTU (R145). Vat unsigned set-less-than. -/
  | sltu (t : Fin 8) (rd ra rb : Fin 16)
  /-- MIN (R145). Vat signed minimum. -/
  | min (t : Fin 8) (rd ra rb : Fin 16)
  /-- MAX (R145). Vat signed maximum. -/
  | max (t : Fin 8) (rd ra rb : Fin 16)
  /-- MUL (R145). Vat low 32 bits of a product. -/
  | mul (t : Fin 8) (rd ra rb : Fin 16)
  /-- MULH (R145). Vat high 32 bits of a signed product. -/
  | mulh (t : Fin 8) (rd ra rb : Fin 16)
  /-- ADDI (R145). Vat add with a sign-extended immediate. -/
  | addi (t : Fin 8) (rd ra : Fin 16) (imm : BitVec 18)
  /-- ANDI (R145). Vat AND with a zero-extended immediate. -/
  | andi (t : Fin 8) (rd ra : Fin 16) (imm : BitVec 18)
  /-- ORI (R145). Vat OR with a zero-extended immediate. -/
  | ori (t : Fin 8) (rd ra : Fin 16) (imm : BitVec 18)
  /-- XORI (R145). Vat XOR with a zero-extended immediate. -/
  | xori (t : Fin 8) (rd ra : Fin 16) (imm : BitVec 18)
  /-- SLLI (R145). Vat shift left by an immediate. -/
  | slli (t : Fin 8) (rd ra : Fin 16) (imm : BitVec 18)
  /-- SRLI (R145). Vat logical shift right by an immediate. -/
  | srli (t : Fin 8) (rd ra : Fin 16) (imm : BitVec 18)
  /-- SRAI (R145). Vat arithmetic shift right by an immediate. -/
  | srai (t : Fin 8) (rd ra : Fin 16) (imm : BitVec 18)
  /-- SLTI (R145). Vat signed set-less-than with an immediate. -/
  | slti (t : Fin 8) (rd ra : Fin 16) (imm : BitVec 18)
  /-- LUI (R145). Vat load of an upper immediate. -/
  | lui (t : Fin 8) (rd : Fin 16) (imm22 : BitVec 22)
  /-- LD (R149). Vat load of a data-memory word. -/
  | ld (t : Fin 8) (rd ra : Fin 16) (imm : BitVec 18)
  /-- ST (R149). Vat store of a data-memory word. -/
  | st (t : Fin 8) (rd ra : Fin 16) (imm : BitVec 18)
  /-- AMOADD (R149). Vat atomic fetch-and-add on data memory. -/
  | amoadd (t : Fin 8) (rd ra rb : Fin 16)
  /-- AMOSWAP (R149). Vat atomic swap on data memory. -/
  | amoswap (t : Fin 8) (rd ra rb : Fin 16)
  /-- HALT (R159). The thread enters Halted and raises VAT_HALT. -/
  | halt (t : Fin 8)
  /-- BREAK (R158). The thread traps with cause BREAK. -/
  | brk (t : Fin 8)
  /-- RTT (R158). The thread returns from its trap handler to EPC + 1. -/
  | rtt (t : Fin 8)
  /-- BEQ (R145). Vat branch if equal. -/
  | beq (t : Fin 8) (ra rb : Fin 16) (off : BitVec 18)
  /-- BNE (R145). Vat branch if not equal. -/
  | bne (t : Fin 8) (ra rb : Fin 16) (off : BitVec 18)
  /-- BLT (R145). Vat branch if less than, signed. -/
  | blt (t : Fin 8) (ra rb : Fin 16) (off : BitVec 18)
  /-- BGE (R145). Vat branch if greater or equal, signed. -/
  | bge (t : Fin 8) (ra rb : Fin 16) (off : BitVec 18)
  /-- BLTU (R145). Vat branch if less than, unsigned. -/
  | bltu (t : Fin 8) (ra rb : Fin 16) (off : BitVec 18)
  /-- BGEU (R145). Vat branch if greater or equal, unsigned. -/
  | bgeu (t : Fin 8) (ra rb : Fin 16) (off : BitVec 18)
  /-- JAL (R145). Vat jump and link. -/
  | jal (t : Fin 8) (rd : Fin 16) (target : BitVec 14)
  /-- JALR (R145). Vat jump to a register and link. -/
  | jalr (t : Fin 8) (rd ra : Fin 16)
  /-- BCODE (R147). Vat branch if the last code is not OK. -/
  | bcode (t : Fin 8) (off : BitVec 18)
  /-- SPAWN (R157). Starts another stopped or halted thread at ra with V1 set from rb. -/
  | spawn (t : Fin 8) (ra rb : Fin 16) (u : Fin 8)
  /-- FNUM (R151). Reads the frame number of a context's latest frame start. -/
  | fnum (t : Fin 8) (rd ctx : Fin 16)
  /-- RDT (R145). Reads PTP time, the uptime tick count or the thread number. -/
  | rdt (t : Fin 8) (rd : Fin 16) (sel : Fin 4)
  /-- GET (R147). Reads a register at a fixed page and offset over the register bus. -/
  | get (t : Fin 8) (rd : Fin 16) (page : BitVec 8) (word14 : BitVec 14)
  /-- PUT (R147). Writes a register at a fixed page and offset over the register bus. -/
  | put (t : Fin 8) (rd : Fin 16) (page : BitVec 8) (word14 : BitVec 14)
  /-- GETR (R147). Reads a register at an address taken from a register. -/
  | getr (t : Fin 8) (rd ra : Fin 16)
  /-- PUTR (R147). Writes a register at an address taken from a register. -/
  | putr (t : Fin 8) (rd ra : Fin 16)
  /-- CODE (R147). Copies the thread's last code into a register. -/
  | code (t : Fin 8) (rd : Fin 16)
  /-- WFRM (R152). Waits for a frame point of a context, returning at once in the sticky form when the count is non-zero. -/
  | wfrm (t : Fin 8) (rd ctx : Fin 16) (pt : Fin 4) (sticky : Bool)
  /-- WSHG (R151). Waits for the end of the next shingle of a context. -/
  | wshg (t : Fin 8) (rd ctx : Fin 16)
  /-- WEVT (R153). Waits for a gutter source presented to the thread's D2, with an optional time-out. -/
  | wevt (t : Fin 8) (rd ra rb : Fin 16)
  /-- WEVT_TIMEOUT (R153). The WEVT time-out expires with no source taken; rd is set to 0. -/
  | wevtTimeout (t : Fin 8)
  /-- TSET (R154). Arms the thread timer one-shot or periodic, discarding any pending expiry. -/
  | tset (t : Fin 8) (ra : Fin 16) (periodic : Bool)
  /-- WTIM (R154). Waits for the thread timer's expiry. -/
  | wtim (t : Fin 8) (rd : Fin 16)
  /-- THREAD_TIMER_EXPIRY (R154). The thread timer expires, waking WTIM and raising OVERRUN for missed periods. -/
  | threadTimerExpiry (t : Fin 8)
  /-- YIELD (R144). Gives up the issue slot until every other eligible thread has issued. -/
  | yield (t : Fin 8)
  /-- CSEL (R146). Sets the thread's current context. -/
  | csel (t : Fin 8) (ctx : Fin 16)
  /-- COMMIT (R170). Arms a commit of a context's pending bank through INT_COMMIT. -/
  | commit (t : Fin 8) (ctx : Fin 16)
  /-- FIRE (R250). Starts an actuator profile on a channel through ACT_CMD. -/
  | fire (t : Fin 8) (ch : Fin 4) (prof : Fin 32)
  /-- HKT (R226). Triggers the named converters through HK_TRIGCMD. -/
  | hkt (t : Fin 8) (mask : BitVec 3)
  /-- BANK (R186). Requests a table bank swap as a TBL_CMD SWAP write. -/
  | bank (t : Fin 8) (tbl : BitVec 8)
  /-- ANAQ (R400). Returns an analysis summary of a context's last result. -/
  | anaq (t : Fin 8) (rd ctx : Fin 16) (sel : Fin 4)
  /-- EMIT (R156). Raises the thread's EMIT source n with DATA taken from ra. -/
  | emit (t : Fin 8) (ra : Fin 16) (n : Fin 8)
  /-- THREAD_START (R159). VAT_TCTL START runs a thread at the given PC with IN_TRAP cleared. -/
  | threadStart (o : Origin) (t : Fin 8) (pc : BitVec 14)
  /-- THREAD_STOP (R161). VAT_TCTL STOP stops a thread once its current instruction completes, abandoning any wait. -/
  | threadStop (o : Origin) (t : Fin 8)
  /-- THREAD_RESUME (R159). VAT_TCTL RESUME continues a thread at PC, or at EPC + 1 when it is Trapped. -/
  | threadResume (o : Origin) (t : Fin 8)
  /-- THREAD_STEP (R159). VAT_TCTL STEP issues one instruction of a stopped thread. -/
  | threadStep (o : Origin) (t : Fin 8)
  /-- VAT_REG_WRITE (R162). A host write of a thread register V1–V15, allowed only while the thread is not running. -/
  | vatRegWrite (o : Origin) (t : Fin 8) (r : Fin 16) (v : Word)
  /-- VAT_LOAD_WRITE (R163). A bulk write stores image words at VAT_LADDR and advances it. -/
  | vatLoadWrite (ws : List Word)
  /-- CHECK (R164). VAT_CMD CHECK starts long operation 6 on the staged or NOR image. -/
  | check (o : Origin) (nor start : Bool)
  /-- RECIPE_CHECK_DONE (R165). The image check ends, installing the image on success and optionally starting T0. -/
  | recipeCheckDone
  /-- STOPALL (R168). VAT_CMD STOPALL stops every thread. -/
  | stopall (o : Origin)
  /-- CLEAR (R168). VAT_CMD CLEAR clears both Vat memories and marks no image installed. -/
  | clear (o : Origin)
  /-- STORE (R166). VAT_CMD STORE starts a background write of the staged image to the unused NOR slot. -/
  | store (o : Origin)
  /-- IMAGE_STORE_DONE (R166). The NOR image store ends, or sets STORE_FAIL. -/
  | imageStoreDone (ok : Bool)
  /-- FRAME_START (R270). A frame-start packet on an enabled head is stamped, numbered, judged for acceptance and skipping, and applies armed commits. -/
  | frameStart (p : StartPacket) (e : PacketErr)
  /-- IMAGE_LINE (R266). A long packet of the head's data type delivers an image line, repaired or lost on error. -/
  | imageLine (p : LinePacket)
  /-- FRAME_END (R269). A frame-end packet gives the END point, ends resync frames and judges a short frame. -/
  | frameEnd (vc : Nat) (e : PacketErr) (y : Nat)
  /-- INT_DT_UNKNOWN (R266). A packet of an unsupported data type on an enabled head's VC is discarded. -/
  | intDtUnknown (vc : Nat) (dt : BitVec 6) (e : PacketErr)
  /-- INT_VC_UNMAPPED (R266). A packet on a VC that no enabled head uses is discarded and counted. -/
  | intVcUnmapped (vc : Nat) (e : PacketErr)
  /-- DESKEW_SEQUENCE (R265). An initial skew calibration sequence is received and high-speed data is accepted. -/
  | deskewSequence
  /-- INT_HEAD_LOST (R275). An enabled head delivers no valid packet for LOSS_T and is declared lost. -/
  | intHeadLost (n : Fin 6)
  /-- INT_LINK_DOWN (R278). No packet arrives for 200 ms while a head is enabled, and the link goes down. -/
  | intLinkDown
  /-- INT_HEAD_DISAGREE (R277). A head-state disagreement lasts DIS_T and sets DIS. -/
  | intHeadDisagree (n : Fin 6)
  /-- TELEMETRY_SAMPLE (R281). Every 62.5 ms the substrate value is sampled for the RATE calculation. -/
  | telemetrySample
  /-- CONTEXT_ENABLE (R173). A write of INT_CnCTL.EN = 1 turns a context ON, or sets EN_PEND while it is STOPPING. -/
  | contextEnable (o : Origin) (c : Fin 8) (prio : BitVec 3)
  /-- CONTEXT_DISABLE (R173). A write of INT_CnCTL.EN = 0 makes a context STOPPING or OFF, or clears EN_PEND. -/
  | contextDisable (o : Origin) (c : Fin 8) (prio : BitVec 3)
  /-- INT_COMMIT_WRITE (R172). A write of INT_COMMIT is judged as a whole and arms commits of the named contexts. -/
  | intCommitWrite (o : Origin) (v : Word)
  /-- RUN_END (R176). A pipeline run ends and the next ready run starts in round-robin order. -/
  | runEnd (lat : Held)
  /-- INT_HNCFG_WRITE (R274). A write of a head configuration; EN = 0 discards the VC and breaks a frame in progress. -/
  | intHncfgWrite (o : Origin) (n : Fin 6) (v : Word)
  /-- INT_LINK_WRITE (R278). A write of the link configuration, allowed only with no head enabled, takes the link down. -/
  | intLinkWrite (o : Origin) (v : Word)
  /-- INT_MAP_WRITE (R273). A write of the context-to-source map. -/
  | intMapWrite (o : Origin) (v : Word)
  /-- BIAS_WRITE (R283). A bias or reference-current write is held pending until the next START point of the mapped context. -/
  | biasWrite (o : Origin) (n : Fin 4) (iref : Bool) (v : Word)
  /-- I2C_PUSH (R285). A write of INT_I2CCMD pushes a head I2C command onto the queue. -/
  | i2cPush (o : Origin) (v : Word)
  /-- I2C_COMMAND_DONE (R286). An I2C command ends on the bus with its status. -/
  | i2cCommandDone (st : Fin 5) (rd : Word)
  /-- I2C_RESULT_READ (R285). A read of INT_I2CRES takes the reader's oldest result and frees its entry. -/
  | i2cResultRead (o : Origin)
  /-- PLAY (R288). INT_CnXCMD PLAY plays the replay buffer once as a frame of C6 or C7. -/
  | play (o : Origin) (g : Fin 2)
  /-- GENERATOR_FRAME (R288). The pattern generator's frame period expires and a generated frame starts. -/
  | generatorFrame (g : Fin 2)
  /-- XLOAD_WRITE (R289). A bulk write stores replay pixels at INT_XLADDR and advances it. -/
  | xloadWrite (ws : List Word)
  /-- STAGING_OPEN (R187). A write of TBL_LSEL opens staging on the inactive bank of a table. -/
  | stagingOpen (o : Origin) (n : BitVec 8)
  /-- TBL_LOAD_WRITE (R188). A bulk write stores table image words at TBL_LADDR and advances it. -/
  | tblLoadWrite (ws : List Word)
  /-- LOAD (R189). TBL_CMD LOAD starts long operation 1 to check the staged image. -/
  | load (o : Origin)
  /-- TABLE_LOAD_DONE (R189). The table check ends; the bank becomes VALID and HELD, or EMPTY. -/
  | tableLoadDone
  /-- SWAP (R191). TBL_CMD SWAP makes the VALID bank ACTIVE and the old one RETIRING. -/
  | swap (o : Origin) (n : BitVec 8)
  /-- DISCARD (R190). TBL_CMD DISCARD closes staging and empties the staging bank. -/
  | discard (o : Origin)
  /-- RETRAIN (R198). TBL_CMD RETRAIN starts long operation 3 to drain frames and retrain the DRAM. -/
  | retrain (o : Origin)
  /-- RETRAIN_DONE (R198). The DRAM retraining ends OK, or sets DRAM_LOST. -/
  | retrainDone (ok : Bool)
  /-- TABLE_READ (R196). A bulk read of TBL_RDATA returns a bank or statistics slot snapshot and advances TBL_RADDR. -/
  | tableRead (n : Nat)
  /-- TRIM_REF_FAULT (R204). The reference condition has been wrong for 1 ms; the fallback mirror is used and ripening stops. -/
  | trimRefFault
  /-- REF_FAULT_CLEAR (R204). The fault has been absent for 100 ms; ripening resumes and a full run starts. -/
  | refFaultClear
  /-- RIPENING_ROUND (R209). A ripening round completes and moves each plausible trim one eighth towards its measurement. -/
  | ripeningRound (ms : List TrimMeas)
  /-- TRIM_DT_TEST (R210). Every 100 ms the temperature change since T_FULL is tested and may start a full run. -/
  | trimDtTest
  /-- TRIM_FULL_DONE (R210). A full run ends and writes every plausible result together. -/
  | trimFullDone (ms : List TrimMeas)
  /-- TRIM_STALE (R218). An item not refreshed for 60 s sets its STALE bit. -/
  | trimStale (item : Fin 16)
  /-- FULL (R217). REF_CMD FULL starts a full run. -/
  | full (o : Origin)
  /-- APPLY (R215). REF_CMD APPLY checks the loaded trim record and applies it or holds it for step 12. -/
  | apply (o : Origin)
  /-- NOMINAL (R217). REF_CMD NOMINAL sets every trim to nominal. -/
  | nominal (o : Origin)
  /-- ABORT (R217). REF_CMD ABORT abandons a full run in progress. -/
  | abort (o : Origin)
  /-- REF_TRIM_WRITE (R213). A write of a trim word takes effect under R212 and clears its NOMINAL bit. -/
  | refTrimWrite (o : Origin) (item : Fin 16) (v : Word)
  /-- REF_LOAD_WRITE (R215). A bulk write loads a trim record for APPLY. -/
  | refLoadWrite (ws : List Word)
  /-- REF_SAVE_READ (R216). A 24-word bulk read of REF_SAVE returns the trim record in force. -/
  | refSaveRead
  /-- HK_TRIGCMD (R226). A write of HK_TRIGCMD triggers the named HKT converters, judged as a whole. -/
  | hkTrigcmd (o : Origin) (mask : BitVec 3)
  /-- HK_PERIOD_TIMER (R223). A converter's period timer expires and triggers a run. -/
  | hkPeriodTimer (j : Fin 3)
  /-- HK_RUN_START (R222). The trigger delay expires and entry 0 begins its acquisition. -/
  | hkRunStart (j : Fin 3)
  /-- CONVERSION_COMPLETE (R230). A conversion ends and its trimmed result and flags are written, feeding windows and consumers. -/
  | conversionComplete (j : Fin 3) (m : ConvMeas)
  /-- URGENT_REQUEST (R229). An actuator urgent request aborts the conversion in progress and starts an urgent conversion. -/
  | urgentRequest (ch : Fin 4)
  /-- HK_STALE (R236). An input's age exceeds its limit and its consequence applies. -/
  | hkStale (n : Fin 32)
  /-- HK_DIAG_START (R234). A write of HK_DIAG with EN = 1 injects the DAC into the target input. -/
  | hkDiagStart (o : Origin) (n : Fin 32) (code : BitVec 10)
  /-- HK_DIAG_STOP (R235). A write of HK_DIAG with EN = 0 ends the injection. -/
  | hkDiagStop (o : Origin) (n : Fin 32) (code : BitVec 10)
  /-- HK_DIAG_END (R235). The injection reaches its 100 ms limit and ends. -/
  | hkDiagEnd
  /-- HK_TRIG_WRITE (R227). A write of HK_xTRIG or HK_xPER takes effect after the run and restarts the period timer. -/
  | hkTrigWrite (o : Origin) (j : Fin 3) (per : Bool) (v : Word)
  /-- STARTUP_SEQ_TRIGGER (R238). Every 1 ms before hand-over HKA runs the start-up sequence, and a cut on T_D is judged. -/
  | startupSeqTrigger (raws : List Int) (m : HeatMeas)
  /-- ACT_CMD_FIRE (R250). ACT_CMD FIRE starts a profile on an idle channel, or makes it pending while the channel decays. -/
  | actCmdFire (o : Origin) (ch : Fin 4) (prof : Fin 32)
  /-- ACT_CMD_STOP (R253). ACT_CMD STOP ends a running profile into fast decay, or discards a pending FIRE. -/
  | actCmdStop (o : Origin) (ch : Fin 4)
  /-- ACT_CMD_CLEAR (R253). ACT_CMD CLEAR clears the OC, OPEN, STALL and DECAY_TO latches. -/
  | actCmdClear (o : Origin) (ch : Fin 4)
  /-- PWM_PERIOD_START (R245). A channel's PWM period starts; phases end or begin, the duty is applied and an urgent request is issued. -/
  | pwmPeriodStart (ch : Fin 4)
  /-- ACT_DECAY_TO (R254). DECAY lasts 50 ms; the switches turn off and DECAY_TO latches. -/
  | actDecayTo (ch : Fin 4)
  /-- ACT_OC (R255). A bridge over-current comparator trips, forcing fast decay and latching OC. -/
  | actOc (ch : Fin 4)
  /-- ACT_CLAMP (R243). VBST exceeds VSET + 3.0 V and the clamp conducts. -/
  | actClamp (mv : Nat)
  /-- ACT_PAIR_WRITE (R259). A write of ACT_PAIR sets or clears a bridge pair. -/
  | actPairWrite (o : Origin) (v : Word)
  /-- ACT_CFG_WRITE (R260). A write of a channel configuration or of ACT_PWM, allowed only with the channels idle. -/
  | actCfgWrite (o : Origin) (ch : Option (Fin 4)) (v : Word)
  /-- PRS_GO (R317). A write of PRS_GOn starts the press blind time once the close profile has been fired. -/
  | prsGo (o : Origin) (n : Fin 4)
  /-- SUN_TIMER (R313). SUN_T · 2^m expires and POPEN is fired to probe the scene. -/
  | sunTimer (n : Fin 4)
  /-- CAPTURE (R328). PRS_CMDn CAPTURE starts long operation 2 and makes a press due on command. -/
  | capture (o : Origin) (n : Fin 4)
  /-- PRESS_CAPTURE_TIMEOUT (R328). No GO is accepted within 1.5 s; the capture ends with E_STATE and DUE is withdrawn. -/
  | pressCaptureTimeout
  /-- CANCEL (R316). PRS_CMDn CANCEL returns a DUE press to IDLE. -/
  | cancel (o : Origin) (n : Fin 4)
  /-- SUN_REL (R313). PRS_CMDn SUN_REL ends the SUN wait at once. -/
  | sunRel (o : Origin) (n : Fin 4)
  /-- FORGET (R326). PRS_CMDn FORGET resets K1 and the learning reference. -/
  | forget (o : Origin) (n : Fin 4)
  /-- AGC_BUILD_DONE (R338). An AGC mapping build completes after a thermal frame's DONE and becomes available. -/
  | agcBuildDone (c : Fin 8)
  /-- RND_WPUB (R350). A write of RND_WPUB publishes a warp grid at the next frame start of its context. -/
  | rndWpub (o : Origin) (v : Word)
  /-- PORT_ENABLE (R352). A write of OUT_PnCTL with EN = 1 turns a port ON, or sets EN_PEND while it is DRAINING. -/
  | portEnable (o : Origin) (p : Fin 8) (v : Word)
  /-- PORT_DISABLE (R361). A write of OUT_PnCTL with EN = 0 makes a port DRAINING or OFF, or clears EN_PEND. -/
  | portDisable (o : Origin) (p : Fin 8) (v : Word)
  /-- ENCODER_STRIPE_DONE (R368). A stripe finishes coding; a completed frame is written to the ring and offered to sessions and the Cellar. -/
  | encoderStripeDone (len : Nat) (nals : List Nat)
  /-- IDR (R367). ENC_EnCMD IDR requests an IDR frame. -/
  | idr (o : Origin) (e : Fin 16)
  /-- SNAP (R374). ENC_EnCMD SNAP codes the next delivered frame on a JPEG channel. -/
  | snap (o : Origin) (e : Fin 16)
  /-- ENC_RC_WRITE (R365). A write of rate control or DECIM applies from the next frame and restarts the decimation count. -/
  | encRcWrite (o : Origin) (e : Fin 16) (v : Word)
  /-- ANALYSIS_RESULT (R379). A frame's analysis completes; tracks, zones, crossings and loiter timers are published together. -/
  | analysisResult (c : Fin 8)
  /-- ANALYSIS_ENABLE (R381). A write of ANA_CnCTL.EN = 1 starts the background model. -/
  | analysisEnable (o : Origin) (c : Fin 8) (v : Word)
  /-- ANALYSIS_DISABLE (R399). A write of ANA_CnCTL.EN = 0 abandons analysis and ends every track. -/
  | analysisDisable (o : Origin) (c : Fin 8) (v : Word)
  /-- HOMOG (R390). ANA_CnPUB HOMOG publishes the pending homography. -/
  | homog (o : Origin) (c : Fin 8)
  /-- ZONES (R394). ANA_CnPUB ZONES publishes the pending zones and clears memberships. -/
  | zones (o : Origin) (c : Fin 8)
  /-- TRACK_READ (R398). A bulk read of ANA_TDATA returns the track table of one result. -/
  | trackRead (n : Nat)
  /-- HEAT_UPDATE (R401). A heat-model update advances the node temperatures and judges WARN, ASK and the cut. -/
  | heatUpdate (m : HeatMeas)
  /-- HEAT_AMB_WRITE (R404). A write of the ambient temperature renews the report. -/
  | heatAmbWrite (o : Origin) (v : Word)
  /-- AMBIENT_STALE (R404). The ambient report ages beyond 10 s and becomes a broken input. -/
  | ambientStale
  /-- HEAT_ENFORCE (R409). ASK has held for GRACE, and Eaves is enforced. -/
  | heatEnforce
  /-- HEAT_RELEASE (R410). T_HOT has stayed low for ENF_HOLD, and enforced Eaves ends. -/
  | heatRelease
  /-- THERMAL_RESTART (R416). The cool-down expires on the LFO, and a thermal restart begins at step 1. -/
  | thermalRestart
  /-- ETHERNET_FRAME (R421). A received frame is classified, queued and forwarded by the switch, with PTP correction and snooping. -/
  | ethernetFrame (p : Fin 3) (bytes : List Nat) (damaged : Bool)
  /-- SW_PTP_SETLO (R425). A write of SW_PTP_SETLO loads the PTP counter. -/
  | swPtpSetlo (o : Origin) (v : Word)
  /-- SW_PTP_ADJ (R425). A write of SW_PTP_ADJ adds a signed step to the PTP counter. -/
  | swPtpAdj (o : Origin) (v : Word)
  /-- PTP_TIME_READ (R425). A read of SW_PTP_LO latches SW_PTP_HI. -/
  | ptpTimeRead (o : Origin)
  /-- PDELAY_REQ (R426). In P2P mode a Pdelay_Req is sent on CHA and CHB every 1 s. -/
  | pdelayReq
  /-- SW_LINK_UP (R430). A port's link comes up; error counters are zeroed and quarantine ends. -/
  | swLinkUp (p : Fin 3) (g1000 : Bool)
  /-- SW_LINK_DOWN (R430). A PHY gets no valid signal for 6 ms and declares its link down. -/
  | swLinkDown (p : Fin 3)
  /-- ROLLCALL (R447). A ROLLCALL token accepted on CHA gives the hop index, sends RC_ENTRY and is forwarded or ended. -/
  | rollcall (p : Fin 2) (v : VFrame)
  /-- RC_ENTRY (R432). An RC_ENTRY is relayed towards the head and entered in the result. -/
  | rcEntry (p : Fin 2) (v : VFrame)
  /-- RC_END (R448). An RC_END ends the head's search as LINE or PARTIAL. -/
  | rcEnd (p : Fin 2) (v : VFrame)
  /-- GOSSIP (R449). A GOSSIP frame updates the gossip table, is relayed, and may set the time. -/
  | gossip (p : Fin 2) (v : VFrame)
  /-- BEACON (R450). A BEACON renews uplink reachability and is relayed. -/
  | beacon (p : Fin 2) (v : VFrame)
  /-- ALARM (R440). A new ALARM frame is acknowledged, logged, relayed and reported. -/
  | alarm (p : Fin 2) (v : VFrame)
  /-- HOP_ACK (R433). A HOP_ACK ends the attempts for the acknowledged frame and lowers TX_ERR. -/
  | hopAck (p : Fin 2) (v : VFrame)
  /-- LINK_EVT (R445). A LINK_EVT flushes addresses, may open a ring, and may start a roll-call. -/
  | linkEvt (p : Fin 2) (v : VFrame)
  /-- RING_CTL (R444). A RING_CTL sets TOPO and opens VELVA_ONLY ports. -/
  | ringCtl (p : Fin 2) (v : VFrame)
  /-- PROBE (R433). A PROBE on a quarantined port is acknowledged. -/
  | probe (p : Fin 2) (v : VFrame)
  /-- BUDDY_CTL (R494). A BUDDY_CTL opens, accepts, refuses or closes a buddy stream. -/
  | buddyCtl (p : Fin 2) (v : VFrame)
  /-- BUDDY_DATA (R495). A BUDDY_DATA frame is acknowledged and written to the hosted wheel in SEQ order. -/
  | buddyData (p : Fin 2) (v : VFrame)
  /-- HOP_ACK_TIMEOUT (R433). A hop-acked attempt gets no HOP_ACK in 2 ms; TX_ERR rises and the frame is retried or given up. -/
  | hopAckTimeout (k : Nat)
  /-- ALARM_RESEND (R437). An alarm is resent on an UPLINK port at 2 ms intervals, three times in all. -/
  | alarmResend (k : Nat)
  /-- PROBE_TIMER (R436). A quarantined port sends a PROBE every 100 ms. -/
  | probeTimer (p : Fin 2)
  /-- GOSSIP_TIMER (R449). GOSSIP_T expires and a GOSSIP is sent on every Velva port. -/
  | gossipTimer
  /-- BEACON_TIMER (R450). A unit with UPLINK_OWN floods a BEACON every 100 ms. -/
  | beaconTimer
  /-- VLV_UPLINK_LOST (R450). No BEACON arrives within UPLINK_T and UPLINK_REACH is lost. -/
  | vlvUplinkLost
  /-- VLV_DISAGREE (R451). A view disagreement lasts DISAGREE_T and is reported once. -/
  | vlvDisagree (kind : Fin 4) (k : Nat)
  /-- VELVA_ONLY_TIMEOUT (R443). A port gets no RING_CTL within 2 s and stays VELVA_ONLY. -/
  | velvaOnlyTimeout (p : Fin 2)
  /-- AUTO_ROLLCALL (R443). 50 ms after a LINK_EVT with UP, the head starts a roll-call. -/
  | autoRollcall
  /-- ROLLCALL_TIMEOUT (R448). 600 ms pass without an end and the search ends PARTIAL. -/
  | rollcallTimeout
  /-- START (R446). VLV_RC_CMD START begins a roll-call from the head. -/
  | start (o : Origin)
  /-- RC_ABORT (R446). VLV_RC_CMD ABORT ends a running search with result 5. -/
  | rcAbort (o : Origin)
  /-- FORGET_ENTRY (R449). VLV_GCMD FORGET removes one gossip table entry. -/
  | forgetEntry (o : Origin) (k : BitVec 8)
  /-- FORGET_ALL (R449). VLV_GCMD FORGET all empties the gossip table. -/
  | forgetAll (o : Origin)
  /-- CNT_CLR (R436). A write of SW_PnCLR.CNT_CLR zeroes the error counters and ends quarantine. -/
  | cntClr (o : Origin) (p : Fin 3)
  /-- TEN_MPUB (R459). A write of TEN_MPUB publishes the named mask groups. -/
  | tenMpub (o : Origin) (v : Word)
  /-- SES_STAGE_WRITE (R462). A 24-word bulk write stages a session entry. -/
  | sesStageWrite (ws : List Word)
  /-- SES_WRITE (R462). SES_CMD WRITE replaces the selected session entry with the staged one. -/
  | sesWrite (o : Origin)
  /-- SES_ON (R462). SES_CMD ON puts a session into WAIT_IDR and requests an IDR frame. -/
  | sesOn (o : Origin)
  /-- SES_OFF (R462). SES_CMD OFF stops a session after the frame being sent. -/
  | sesOff (o : Origin)
  /-- SES_CLEAR (R462). SES_CMD CLEAR empties an OFF session. -/
  | sesClear (o : Origin)
  /-- PACKET_SEND (R472). The egress scheduler sends the next packet by class order, weights and buckets, encrypted under SRTP. -/
  | packetSend (hp : Bool)
  /-- EGRESS_TICK (R473). Every 100 ms class allowances and tenant skip ratios are computed. -/
  | egressTick
  /-- SES_STALL (R475). The oldest queued frame has waited QWAIT; the session stalls and its queue is withheld. -/
  | sesStall (n : Fin 4096)
  /-- CARD_INSERT (R479). A microSD insertion starts opening the card. -/
  | cardInsert
  /-- CARD_REMOVE (R478). The microSD card is removed and the medium becomes ABSENT. -/
  | cardRemove
  /-- MEDIUM_OPEN_DONE (R479). Opening a medium ends with READY, FULL, UNFORMATTED or FAILED. -/
  | mediumOpenDone (m : Fin 2) (o : MediumOpen)
  /-- MEDIUM_COMMAND_DONE (R478). A medium command completes or fails; three failures make the medium FAILED. -/
  | mediumCommandDone (m : Fin 2) (good write : Bool) (e : Fin 17)
  /-- FORMAT (R480). CEL_CMD FORMAT starts long operation 4. -/
  | format (o : Origin) (m : Fin 2)
  /-- CELLAR_FORMAT_DONE (R480). The format completes with a new FORMAT_ID and the medium READY. -/
  | cellarFormatDone
  /-- EJECT (R481). CEL_CMD EJECT closes the open wheels and sets the medium OFF. -/
  | eject (o : Origin) (m : Fin 2)
  /-- ATTACH (R479). CEL_CMD ATTACH opens an OFF medium again. -/
  | attach (o : Origin) (m : Fin 2)
  /-- UNPROT_ALL (R490). CEL_CMD UNPROT_ALL clears PROT on every wheel of a medium. -/
  | unprotAll (o : Origin) (m : Fin 2)
  /-- PROTECT (R490). CEL_WCMD PROTECT sets PROT on one wheel. -/
  | protect (o : Origin) (m : Fin 2) (w : BitVec 17)
  /-- UNPROTECT (R490). CEL_WCMD UNPROTECT clears PROT on one wheel. -/
  | unprotect (o : Origin) (m : Fin 2) (w : BitVec 17)
  /-- ALARM_TIME_EXPIRY (R484). ALARM_T expires and the alarm cause ends. -/
  | alarmTimeExpiry
  /-- CEL_REC_STOP (R484). POST seconds pass after the last cause; the recording stops and its wheel closes. -/
  | celRecStop (e : Fin 16)
  /-- PAGE_WRITTEN (R488). A 4 KiB data page is written to the open wheel, opening or closing wheels as needed. -/
  | pageWritten (e : Fin 19)
  /-- BUDDY_OPEN_TIMEOUT (R493). A buddy OPEN gets no answer within 10 ms, and the port is ruled out. -/
  | buddyOpenTimeout (e : Fin 16)
  /-- BUDDY_RETRY (R495). An unacknowledged BUDDY_DATA frame is repeated after 2 ms, up to 8 attempts. -/
  | buddyRetry (e : Fin 16)
  /-- CEL_PF_CLOSE (R497). The power-fail closing of the wheels completes. -/
  | celPfClose (n : Nat)
  /-- WHEEL_REPAIR_DONE (R498). An open wheel left by a reset is scanned and closed with STATE 4. -/
  | wheelRepairDone (m : Fin 2) (good : Nat)
  /-- RET_START (R501). CEL_RCMD START fills the page buffers with the requested wheels. -/
  | retStart (o : Origin)
  /-- RET_STOP (R501). CEL_RCMD STOP ends retrieval and empties the unheld buffers. -/
  | retStop (o : Origin)
  /-- RETRIEVAL_PAGE_FILLED (R501). A medium page is read into a free page buffer, or the range ends. -/
  | retrievalPageFilled
  /-- CEL_RET_STALL (R501). All four buffers stay filled for RSTALL_T, and the stall is reported. -/
  | celRetStall
  /-- JOB_START (R502). CEL_NjCMD START begins a network job that sends recorded frames to a session. -/
  | jobStart (o : Origin) (j : Fin 8)
  /-- JOB_STOP (R502). CEL_NjCMD STOP ends a network job. -/
  | jobStop (o : Origin) (j : Fin 8)
  /-- CHARACTER_RECEIVED (R507). A received character is stored in the FIFO with its flags, or dropped on overrun. -/
  | characterReceived (u : Fin 4) (samples : List Nat)
  /-- UART_RX_READ (R510). A read of UART_nRX pops the oldest entry. -/
  | uartRxRead (o : Origin) (u : Fin 4)
  /-- UART_RXW_READ (R510). A bulk read of UART_nRXW pops the entries it delivers. -/
  | uartRxwRead (u : Fin 4) (n : Nat)
  /-- UART_TX_WRITE (R511). A write of UART_nTX pushes one character. -/
  | uartTxWrite (o : Origin) (u : Fin 4) (v : Word)
  /-- UART_TXW_WRITE (R511). A bulk write of UART_nTXW pushes N characters. -/
  | uartTxwWrite (u : Fin 4) (ws : List Word)
  /-- CHARACTER_SENT (R512). A character's last stop bit ends, and the next starts back to back or HOLD counts. -/
  | characterSent (u : Fin 4)
  /-- DE_HOLD_END (R512). HOLD ticks pass with the FIFO empty, and DE deasserts. -/
  | deHoldEnd (u : Fin 4)
  /-- TURN_END (R513). The receiver is idle and TURN bit times pass, so a waiting character may start. -/
  | turnEnd (u : Fin 4)
  /-- ABR_ARM (R514). A write of ABR_EN = 1 arms the bit-rate measurement. -/
  | abrArm (o : Origin) (u : Fin 4) (v : Word)
  /-- AUTO_BAUD_DONE (R514). The known character's edges are measured and decoded, setting DIV or reporting failure. -/
  | autoBaudDone (u : Fin 4) (samples : List Nat) (t : Nat)
  /-- IDLE_TIMEOUT (R515). RXD stays idle for IDLE_T bit times and the idle event is raised. -/
  | idleTimeout (u : Fin 4)
  /-- RXFLUSH (R510). UART_nCTL RXFLUSH empties the receive FIFO. -/
  | rxflush (o : Origin) (u : Fin 4)
  /-- TXFLUSH (R511). UART_nCTL TXFLUSH empties the transmit FIFO. -/
  | txflush (o : Origin) (u : Fin 4)
  /-- GENERATOR_LINE (R288). The C6 or C7 generator delivers line y of a generated frame at START + (y + 1) · LINE, and its last line at START + H · LINE gives the frame's END point. -/
  | generatorLine (g : Fin 2)
  /-- PWM_OFF_EDGE (R245). A bridge's on-time ends within the PWM period, and the bridge switches to its decay mode, giving the off-edge trigger of converters with KIND 4 and PT 1. -/
  | pwmOffEdge (ch : Fin 4)
  /-- RIPENING_SLOT (R208). The period count of an idle converter reaches its ripening slot, and a ripening conversion starts. -/
  | ripeningSlot (j : Fin 3)
  /-- DRAM_RETRAINING_DONE (R64). DRAM retraining from stored values after an abrupt loss, or the background full training after a failed RETRAIN, completes, after which DRAM_LOST may be cleared. -/
  | dramRetrainingDone
  /-- OBSERVED_REACHABLE_LOST (R452). No Velva frame with HOPS = 0 has arrived on a port for 3 · GOSSIP_T, so its neighbour stops being observed reachable and a buddy stream on that port ends. -/
  | observedReachableLost (p : Fin 2)
  /-- ALWAYS_ON_SUPPLY_LOST (R416). The bus falls below 5.0 V, the Rind island loses its always-on supply, a running cool-down is abandoned and the engine enters Cold. -/
  | alwaysOnSupplyLost
  /-- CHARGER_AT_VSET (R242). VBST reaches ACT_BST.VSET and the charger stops, or VBST falls below it and the charger runs again, changing ACT_STAT.CHG_ON. -/
  | chargerAtVset (reached : Bool)
  deriving DecidableEq, Repr

end Sys2Proof
end

