-- ==== Sys2Proof/Decode.lean ====
section
/-! DEFINITION. The commands that words spell by the bits of spec/opcode_table.json: the table gives no row any bits, since the
block takes commands, not instruction words. -/

namespace Sys2Proof

/-- The command that a word spells by the table's bits: none, for no row of the table gives bits.
DESIGN CHOICE (notes/assumptions/59.md). -/
def decodeTableWord (_nbits _w : Nat) : Option Instr := none

end Sys2Proof
end

