-- ==== Sys2Proof/Config.lean ====
section
/-! DEFINITION. What one unit fixes, and the values the spec leaves open: constants without a body, so that no proof can
rest on a value of them. -/

namespace Sys2Proof.Config

/-- The unit ID, a factory value (Table 5.8). DESIGN CHOICE (notes/assumptions/6.md). -/
opaque unitId : Nat
/-- VREF at 25 °C in µV, a factory value (REF_FACT). DESIGN CHOICE (notes/assumptions/6.md). -/
opaque vrefUv : Nat
/-- The diode calibration D_ZERO and D_SLOPE, factory values (R405). DESIGN CHOICE (notes/assumptions/6.md). -/
opaque diodeZero : Nat
opaque diodeSlope : Int
/-- The MAC address word [31:0] of port p, a factory value (SW_PnMAC). DESIGN CHOICE (notes/assumptions/6.md). -/
opaque portMac : Nat → Nat
/-- The programmed OTP key slots, four bits, a factory value (VAT_OTP). DESIGN CHOICE (notes/assumptions/6.md). -/
opaque otpProg : Nat
/-- The SHA-256 hash held by OTP key slot `k` (chapter 07, recipe images), a factory value.
DESIGN CHOICE (notes/assumptions/6.md). -/
opaque otpHash : Nat → Nat
/-- The LFDLY straps as the carrier board sets them (R70).
DESIGN CHOICE (notes/assumptions/6.md). -/
opaque lfdlyStrap : Nat
/-- Whether the eMMC is fitted (R537). DESIGN CHOICE (notes/assumptions/6.md). -/
opaque emmcFitted : Bool
/-- The words of a statistics slot that no record has been written to (R197, R201: the spec gives none).
DESIGN CHOICE (notes/assumptions/8.md). -/
opaque unwritten : Nat → Nat → Word
/-- Tap `t` of phase `φ` of the scaler's coefficient sets K_0 and K_1, fixed in the engine (R356).
DESIGN CHOICE (notes/assumptions/8.md). -/
opaque scalerTap : Nat → Nat → Nat → Int
/-- The background value of pixel `k` that no learning frame has set (R381 gives none for a pixel excluded throughout).
DESIGN CHOICE (notes/assumptions/8.md). -/
opaque bgUnset : Nat → Nat
/-- Byte `i` of the coded data that channel `e` made under the number `q` (one for each coded frame): the encoder's output, which the spec does not give.
DESIGN CHOICE (notes/assumptions/8.md). -/
opaque codedByte : Nat → Nat → Nat → Nat
/-- Where the `k`-th NAL unit (the entropy-coded data of a JPEG frame, for `k` = 0) stands in the coded data of that frame.
DESIGN CHOICE (notes/assumptions/8.md). -/
opaque nalStart : Nat → Nat → Nat → Nat
/-- Byte `i` of page `p` of wheel `k` of medium `m` as a card brought it, where the model has not seen it written.
DESIGN CHOICE (notes/assumptions/4.md). -/
opaque mediumByte : Nat → Nat → Nat → Nat → Nat
/-- A free value: the `n`-th value that the spec leaves open in a run (DESIGN CHOICE, see the assumption log).
DESIGN CHOICE (notes/assumptions/7.md). -/
opaque free : Nat → Word

end Sys2Proof.Config
end

