-- ==== Sys2Proof/Machine/Operands.lean ====
section
/-! DEFINITION. Fields of words, saturation, rounding and the checksums the spec names: the operand forms shared by
every command. -/

namespace Sys2Proof.Machine

/-- The value of field `[hi:lo]` of a word. -/
def bits (w : Word) (hi lo : Nat) : Nat := w.toNat / 2 ^ lo % 2 ^ (hi - lo + 1)

/-- One bit of a word. -/
def bit (w : Word) (n : Nat) : Bool := w.toNat / 2 ^ n % 2 == 1

/-- The word with field `[hi:lo]` replaced by `v` (modulo the field's width). -/
def putBits (w : Word) (hi lo v : Nat) : Word :=
  word (w.toNat - bits w hi lo * 2 ^ lo + v % 2 ^ (hi - lo + 1) * 2 ^ lo)

/-- A field read as a two's complement integer. -/
def sbits (w : Word) (hi lo : Nat) : Int :=
  let n := hi - lo + 1
  let v := bits w hi lo
  if v < 2 ^ (n - 1) then (v : Int) else (v : Int) - 2 ^ n

/-- A field value placed at bit `lo`. -/
def at_ (v lo : Nat) : Nat := v * 2 ^ lo

/-- A Boolean as a bit. -/
def b2n (b : Bool) : Nat := if b then 1 else 0

/-- Saturating at `mx`. DESIGN CHOICE (notes/assumptions/66.md). -/
def sat (mx n : Nat) : Nat := min mx n

/-- An integer clamped to `lo`..`hi`. -/
def clampI (lo hi x : Int) : Int := max lo (min hi x)

/-- An integer as `n` bits of two's complement. DESIGN CHOICE (notes/assumptions/66.md). -/
def toBits (n : Nat) (x : Int) : Nat := (x % 2 ^ n).toNat

/-- `n` bits of two's complement as an integer. -/
def ofBits (n v : Nat) : Int := if v % 2 ^ n < 2 ^ (n - 1) then ((v % 2 ^ n : Nat) : Int) else ((v % 2 ^ n : Nat) : Int) - 2 ^ n

/-- `a / b` rounded to nearest, half away from zero; `b` positive. -/
def roundHalfAway (a : Int) (b : Nat) : Int :=
  if 0 ≤ a then (2 * a + b) / (2 * b) else - ((-2 * a + b) / (2 * b))

/-- `a / b` rounded up. -/
def ceilDiv (a b : Nat) : Nat := (a + b - 1) / b

/-- The greatest `r` with `r * r ≤ n`, by bits from 2^k down. -/
def isqrtFrom (n : Nat) : Nat → Nat → Nat
  | 0, r => if (r + 1) * (r + 1) ≤ n then r + 1 else r
  | k + 1, r => isqrtFrom n k (if (r + 2 ^ (k + 1)) * (r + 2 ^ (k + 1)) ≤ n then r + 2 ^ (k + 1) else r)

/-- The integer square root of a number below 2^64. -/
def isqrt (n : Nat) : Nat := isqrtFrom n 32 0

/-- One byte into a CRC-16 with polynomial 0x1021, most significant bit first (chapter 05, Table 6.2). -/
def crc16Byte (crc b : Nat) : Nat :=
  (List.range 8).foldl (fun c _ => if c / 2 ^ 15 % 2 = 1 then (c * 2 % 2 ^ 16) ^^^ 0x1021 else c * 2 % 2 ^ 16)
    (crc ^^^ (b * 256))

/-- The bytes of a word, most significant byte first. -/
def wordBytes (w : Word) : List Nat := [bits w 31 24, bits w 23 16, bits w 15 8, bits w 7 0]

/-- CRC-16 over words fed most significant byte first, initial value 0xFFFF (R106, Table 6.2). -/
def crc16 (ws : List Word) : Nat := (ws.flatMap wordBytes).foldl crc16Byte 0xFFFF

/-- One byte into the reflected CRC-32 of IEEE 802.3. -/
def crc32Byte (crc b : Nat) : Nat :=
  (List.range 8).foldl (fun c _ => if c % 2 = 1 then (c / 2) ^^^ 0xEDB88320 else c / 2) (crc ^^^ b)

/-- CRC-32 of IEEE 802.3 over bytes. -/
def crc32 (bs : List Nat) : Nat := (bs.foldl crc32Byte 0xFFFFFFFF) ^^^ 0xFFFFFFFF

/-- CRC-32 of IEEE 802.3 over words, most significant byte first. -/
def crc32Words (ws : List Word) : Nat := crc32 (ws.flatMap wordBytes)

/-- The CRC word that ends a write (R106): the complement of the CRC in [31:16] and the CRC in [15:0]. -/
def crcWord (ws : List Word) : Word := let c := crc16 ws; word ((0xFFFF - c) * 65536 + c)

/-- The `k`-th element of a list, or a default. -/
def nth {α : Type} (d : α) (l : List α) (k : Nat) : α := l.getD k d

/-- The list with element `k` changed. -/
def upd {α : Type} (l : List α) (k : Nat) (f : α → α) : List α := l.modify k f

/-- The list with element `k` changed, where the places after its end hold `d`. -/
def updFrom {α : Type} (d : α) : List α → Nat → (α → α) → List α
  | [], 0, f => [f d]
  | [], k + 1, f => d :: updFrom d [] k f
  | x :: t, 0, f => f x :: t
  | x :: t, k + 1, f => x :: updFrom d t k f

/-- The value a keyed list holds for `k`, or a default. -/
def aget {α : Type} (d : α) (m : List (Nat × α)) (k : Nat) : α := (m.lookup k).getD d

/-- The keyed list with `v` at `k`, in rising order of keys. -/
def aput {α : Type} : List (Nat × α) → Nat → α → List (Nat × α)
  | [], k, v => [(k, v)]
  | (j, w) :: t, k, v => if k < j then (k, v) :: (j, w) :: t else if k = j then (k, v) :: t else (j, w) :: aput t k v

/-- The keyed list without `k`. -/
def adel {α : Type} (m : List (Nat × α)) (k : Nat) : List (Nat × α) := m.filter (fun p => p.1 != k)

/-- The word a sparse memory holds at `a`, where an unlisted address reads as `d a`. -/
def memGet (d : Nat → Word) (m : Store) (a : Nat) : Word := (m.lookup a).getD (d a)

/-- The sparse memory after a write, in canonical form: writing the default removes the entry. -/
def memPut (d : Nat → Word) : Store → Nat → Word → Store
  | [], a, v => if v = d a then [] else [(a, v)]
  | (k, w) :: t, a, v =>
    if a < k then (if v = d a then (k, w) :: t else (a, v) :: (k, w) :: t)
    else if a = k then (if v = d a then t else (a, v) :: t)
    else (k, w) :: memPut d t a v

/-- Consecutive words written from address `a`, `step` apart. -/
def memPutList (d : Nat → Word) (m : Store) (a step : Nat) : List Word → Store
  | [] => m
  | v :: vs => memPutList d (memPut d m a v) (a + step) step vs

/-- `n` consecutive words read from address `a`, `step` apart. -/
def memGetList (d : Nat → Word) (m : Store) (a step n : Nat) : List Word :=
  (List.range n).map fun i => memGet d m (a + step * i)

/-- The content of memory that nothing has written since it was cleared. -/
def zeroes (_ : Nat) : Word := 0

/-- The addresses of a sparse memory rise strictly. -/
def risingFrom : Nat → Store → Bool
  | _, [] => true
  | lo, (k, _) :: t => decide (lo ≤ k) && risingFrom (k + 1) t

/-- The canonical form of a sparse memory: addresses strictly rising and no entry equal to the default content. -/
def Memory.wf (d : Nat → Word) (m : Store) : Bool := risingFrom 0 m && m.all fun p => p.2 != d p.1

end Sys2Proof.Machine
end

