-- ==== Sys2Proof/Machine/Regs.lean ====
section
/-! DEFINITION. The register map: every register of pages 0x00 to 0x15 with its fields, access codes, reset values and
legal ranges, from the register reference of each chapter (R1, R2, R4, R5, Table 0.3). -/

namespace Sys2Proof.Machine

/-- The access codes of Table 0.3 (spec/00_scope.md). -/
inductive Acc where
  | rw | ro | wo | w1c | rc | cw
  deriving DecidableEq, Repr

/-- One field of a register: bits `[hi:lo]`, access, reset value, and the legal range `mn`..`mx` of a written value. -/
structure Fld where
  hi : Nat
  lo : Nat
  acc : Acc
  rst : Nat
  mn : Nat
  mx : Nat
  deriving DecidableEq, Repr

/-- Whether a register is an ordinary one or a transfer window (Table 5.5). -/
inductive Win where
  | none | read | write
  deriving DecidableEq, Repr

/-- A register family: `n1` blocks of stride `s1`, each of `n2` words of stride `s2`. -/
structure Reg where
  base : Nat
  n1 : Nat
  s1 : Nat
  n2 : Nat
  s2 : Nat
  win : Win
  flds : List Fld
  deriving DecidableEq, Repr

/-- A field whose every value is legal. -/
def fd (hi lo : Nat) (a : Acc) (rst : Nat := 0) : Fld := ⟨hi, lo, a, rst, 0, 2 ^ (hi - lo + 1) - 1⟩
/-- A field with a legal range. -/
def fr (hi lo : Nat) (a : Acc) (rst mn mx : Nat) : Fld := ⟨hi, lo, a, rst, mn, mx⟩
/-- A single register. -/
def r1 (base : Nat) (f : List Fld) : Reg := ⟨base, 1, 4, 1, 4, .none, f⟩
/-- An array of registers. -/
def rn (base n s : Nat) (f : List Fld) : Reg := ⟨base, n, s, 1, 4, .none, f⟩
/-- A two-dimensional array of registers. -/
def rnm (base n s m t : Nat) (f : List Fld) : Reg := ⟨base, n, s, m, t, .none, f⟩
/-- A read window. -/
def rwin (base : Nat) : Reg := ⟨base, 1, 4, 1, 4, .read, [fd 31 0 .ro]⟩
/-- A write window. -/
def wwin (base : Nat) : Reg := ⟨base, 1, 4, 1, 4, .write, [fd 31 0 .wo]⟩

/-! Page 0x00, ID_ (Table 5.8) -/
abbrev ID_PART := 0x000000
abbrev ID_VER := 0x000004
abbrev ID_UNIT_LO := 0x000008
abbrev ID_UNIT_HI := 0x00000C
abbrev ID_STATUS := 0x000010
abbrev ID_UPTIME := 0x000014
abbrev ID_SCRATCH := 0x000018

def page00 : List Reg := [
  r1 ID_PART [fd 31 16 .ro 0x57A1, fd 15 0 .ro 0x4160],
  r1 ID_VER [fd 31 24 .ro 2, fd 23 16 .ro 3, fd 15 8 .ro 2],
  r1 ID_UNIT_LO [fd 31 0 .ro], r1 ID_UNIT_HI [fd 31 0 .ro],
  r1 ID_STATUS [fd 31 0 .ro 0xA0000001], r1 ID_UPTIME [fd 31 0 .ro], r1 ID_SCRATCH [fd 31 0 .rw]]

/-! Page 0x01, CLK_ (Tables 3.5 to 3.13) -/
abbrev CLK_STAT := 0x010000
abbrev CLK_PLL := 0x010004
abbrev CLK_DIV := 0x010008
abbrev CLK_FLAGS := 0x01000C
abbrev CLK_CNT := 0x010010
abbrev CLK_CFG := 0x010014
abbrev CLK_GATE := 0x010018
abbrev CLK_GATE_HOLD := 0x01001C
abbrev CLK_LF := 0x010020

def page01 : List Reg := [
  r1 CLK_STAT [fd 23 16 .ro, fd 5 5 .ro, fd 4 4 .ro, fd 3 3 .ro, fd 2 2 .ro, fd 1 1 .ro, fd 0 0 .ro],
  r1 CLK_PLL [fd 23 16 .ro, fd 15 0 .ro],
  r1 CLK_DIV [fd 30 29 .ro 2, fd 28 25 .ro 6, fd 24 20 .ro 8, fd 19 14 .ro 16, fd 13 8 .ro 32, fd 7 0 .ro 160],
  r1 CLK_FLAGS [fd 6 6 .w1c, fd 5 5 .w1c, fd 4 4 .w1c, fd 3 3 .w1c, fd 2 2 .w1c, fd 1 1 .w1c],
  r1 CLK_CNT [fd 31 24 .rc, fd 23 16 .rc, fd 15 8 .rc, fd 7 0 .rc],
  r1 CLK_CFG [fr 15 8 .rw 20 1 100, fr 7 4 .rw 4 1 15],
  r1 CLK_GATE [fd 15 0 .ro], r1 CLK_GATE_HOLD [fd 15 0 .rw],
  r1 CLK_LF [fd 31 16 .ro, fd 3 3 .ro, fd 2 2 .ro, fd 1 0 .ro]]

/-! Page 0x02, PWR_ and START_ (Tables 2.6 to 2.19, 4.6 to 4.16) -/
abbrev PWR_SRC := 0x020000
abbrev PWR_POE := 0x020004
abbrev PWR_AVAIL := 0x020008
abbrev PWR_LIM := 0x02000C
abbrev PWR_BUS := 0x020010
abbrev PWR_GOV := 0x020014
abbrev PWR_GOV_STAT := 0x020018
abbrev PWR_CLR := 0x02001C
abbrev PWR_HTR := 0x020020
abbrev PWR_HTR_STAT := 0x020024
abbrev PWR_HSUP := 0x020028
abbrev PWR_SEQ := 0x02002C
abbrev PWR_RAIL (n : Nat) := 0x020040 + 4 * n
abbrev START_STEP := 0x020080
abbrev START_CAUSE := 0x020084
abbrev START_CTL := 0x020088
abbrev START_HOSTWAIT := 0x02008C
abbrev START_FALLBACK := 0x020090
abbrev START_JSEL := 0x020094
abbrev START_JNOR := 0x020098
abbrev START_JDATA (w : Nat) := 0x02009C + 4 * w
abbrev START_STATE := 0x0200AC
abbrev START_WAKE := 0x0200B0
abbrev START_RIND_T := 0x0200B4
abbrev START_HB := 0x0200B8
abbrev START_KICK := 0x0200BC
abbrev START_HB_STAT := 0x0200C0

def page02 : List Reg := [
  r1 PWR_SRC [fd 5 5 .ro, fd 4 4 .ro, fd 3 3 .ro, fd 2 2 .ro, fd 1 0 .ro],
  r1 PWR_POE [fd 15 12 .ro, fd 11 8 .ro, fd 7 5 .ro, fd 4 2 .ro, fd 1 1 .ro],
  r1 PWR_AVAIL [fd 15 0 .ro],
  r1 PWR_LIM [fr 15 0 .rw 0xFFFF 1600 0xFFFF],
  r1 PWR_BUS [fd 31 16 .ro, fd 15 0 .ro],
  r1 PWR_GOV [fr 23 16 .rw 10 1 100, fr 15 8 .rw 50 1 255, fr 7 0 .rw 20 1 100],
  r1 PWR_GOV_STAT [fd 3 3 .ro, fd 2 2 .ro, fd 1 1 .ro, fd 0 0 .ro],
  r1 PWR_CLR [fd 2 2 .wo, fd 1 1 .wo, fd 0 0 .wo],
  r1 PWR_HTR [fd 8 8 .rw, fr 6 0 .rw 0 0 100],
  r1 PWR_HTR_STAT [fd 31 16 .ro, fd 2 2 .ro, fd 1 1 .ro, fd 0 0 .ro],
  r1 PWR_HSUP [fd 0 0 .rw 1],
  r1 PWR_SEQ [fd 31 16 .ro, fd 15 15 .ro, fd 14 14 .ro, fd 12 12 .ro, fd 11 8 .ro 15, fd 7 0 .ro],
  rn (PWR_RAIL 0) 8 4 [fd 31 31 .ro, fd 30 30 .ro, fd 19 0 .ro],
  r1 START_STEP [fd 31 16 .ro, fd 9 9 .ro, fd 8 8 .ro, fd 3 0 .ro 1],
  r1 START_CAUSE [fd 14 8 .ro 1, fd 7 7 .ro, fd 2 0 .ro],
  r1 START_CTL [fd 31 16 .wo, fd 0 0 .wo],
  r1 START_HOSTWAIT [fr 15 0 .rw 50 0 600],
  r1 START_FALLBACK [fd 13 13 .w1c, fd 12 12 .w1c, fd 11 11 .w1c, fd 10 10 .w1c, fd 9 9 .w1c, fd 7 7 .w1c, fd 6 6 .w1c,
    fd 5 0 .w1c],
  r1 START_JSEL [fd 2 0 .rw], r1 START_JNOR [fd 31 16 .ro, fd 1 1 .ro, fd 0 0 .ro],
  rn (START_JDATA 0) 4 4 [fd 31 0 .ro],
  r1 START_STATE [fd 9 8 .ro, fd 6 6 .ro, fd 5 5 .ro, fd 4 4 .ro, fd 1 1 .rw, fd 0 0 .wo],
  r1 START_WAKE [fd 31 24 .ro, fd 6 3 .rw, fd 2 2 .rw, fd 1 1 .rw, fd 0 0 .rw 1],
  r1 START_RIND_T [fr 19 0 .rw 0 0 604800],
  r1 START_HB [fr 31 24 .rw 30 1 255, fd 16 16 .rw, fr 15 0 .rw 0 0 6000],
  r1 START_KICK [fd 7 0 .rw], r1 START_HB_STAT [fd 31 16 .ro, fd 0 0 .ro]]

/-! Page 0x03, GUT_ (Tables 6.4 to 6.7) -/
abbrev GUT_PIN := 0x030000
abbrev GUT_D6CFG := 0x030004
abbrev GUT_PINSTAT := 0x030008
abbrev GUT_BACKLOG := 0x03000C
abbrev GUT_VEC_A := 0x030010
abbrev GUT_VEC_B := 0x030014
abbrev GUT_DRAIN (d : Nat) := 0x030020 + 4 * d
abbrev GUT_JSEL := 0x030040
abbrev GUT_JDATA (w : Nat) := 0x030044 + 4 * w
abbrev GUT_JSTAT := 0x030064
abbrev GUT_PEND (m : Nat) := 0x030080 + 4 * m
abbrev GUT_STORM (m : Nat) := 0x0300C0 + 4 * m
abbrev GUT_SRC (n : Nat) := 0x031000 + 4 * n
abbrev GUT_EDATA (n : Nat) := 0x032000 + 4 * n
abbrev GUT_CNT (n : Nat) := 0x033000 + 4 * n

def page03 : List Reg := [
  r1 GUT_PIN [fd 1 1 .rw, fd 0 0 .rw], r1 GUT_D6CFG [fd 3 3 .rw, fd 1 0 .rw],
  r1 GUT_PINSTAT [fd 1 1 .ro, fd 0 0 .ro], r1 GUT_BACKLOG [fd 25 16 .rc, fd 9 0 .ro],
  r1 GUT_VEC_A [fd 31 31 .rc, fd 24 16 .rc, fd 15 8 .rc, fd 7 0 .rc],
  r1 GUT_VEC_B [fd 31 31 .rc, fd 24 16 .rc, fd 15 8 .rc, fd 7 0 .rc],
  rn (GUT_DRAIN 0) 8 4 [fd 31 16 .rc, fd 15 8 .rc, fd 7 0 .ro],
  r1 GUT_JSEL [fd 12 0 .rw], rn (GUT_JDATA 0) 8 4 [fd 31 0 .ro],
  r1 GUT_JSTAT [fd 31 31 .ro, fd 30 30 .ro, fd 13 0 .ro],
  rn (GUT_PEND 0) 16 4 [fd 31 0 .w1c], rn (GUT_STORM 0) 16 4 [fd 31 0 .w1c],
  rn (GUT_SRC 0) 512 4 [fd 31 24 .rw 0x80, fd 23 23 .rw 1, fd 22 22 .rw 1, fd 21 19 .rw, fd 15 12 .rw 8, fd 11 8 .rw 4,
    fd 0 0 .ro],
  rn (GUT_EDATA 0) 512 4 [fd 31 0 .ro], rn (GUT_CNT 0) 512 4 [fd 15 0 .rc]]

/-! Page 0x04, VAT_ (chapter 07) -/
abbrev VAT_STAT := 0x040000
abbrev VAT_CMD := 0x040004
abbrev VAT_LADDR := 0x040008
abbrev VAT_LOAD := 0x04000C
abbrev VAT_IMG0 := 0x040010
abbrev VAT_IMG1 := 0x040014
abbrev VAT_NOR := 0x040018
abbrev VAT_PADDR := 0x04001C
abbrev VAT_PREAD := 0x040020
abbrev VAT_OTP := 0x040024
abbrev VAT_TCTL (t : Nat) := 0x040100 + 0x20 * t
abbrev VAT_TSTAT (t : Nat) := 0x040104 + 0x20 * t
abbrev VAT_TCFG (t : Nat) := 0x040108 + 0x20 * t
abbrev VAT_TTRAP (t : Nat) := 0x04010C + 0x20 * t
abbrev VAT_TINFO (t : Nat) := 0x040110 + 0x20 * t
abbrev VAT_TWORD (t : Nat) := 0x040114 + 0x20 * t
abbrev VAT_TTIM (t : Nat) := 0x040118 + 0x20 * t
abbrev VAT_TCNT (t : Nat) := 0x04011C + 0x20 * t
abbrev VAT_TV (t r : Nat) := 0x040400 + 0x40 * t + 4 * r
abbrev VAT_DMEM (w : Nat) := 0x044000 + 4 * w

def page04 : List Reg := [
  r1 VAT_STAT [fd 31 31 .ro, fd 23 16 .ro, fd 15 8 .ro, fd 7 0 .ro],
  r1 VAT_CMD [fr 31 28 .wo 0 1 4, fd 1 1 .wo, fd 0 0 .wo],
  r1 VAT_LADDR [fr 14 0 .rw 0 0 20528], wwin VAT_LOAD,
  r1 VAT_IMG0 [fd 31 30 .ro, fd 29 28 .ro, fd 27 15 .ro, fd 14 0 .ro], r1 VAT_IMG1 [fd 31 0 .ro],
  r1 VAT_NOR [fd 31 31 .ro, fd 30 30 .ro, fd 29 29 .ro, fd 28 28 .ro],
  r1 VAT_PADDR [fd 13 0 .rw], rwin VAT_PREAD, r1 VAT_OTP [fd 3 0 .ro],
  rn (VAT_TCTL 0) 8 0x20 [fd 31 28 .wo, fd 13 0 .wo],
  rn (VAT_TSTAT 0) 8 0x20 [fd 31 29 .ro, fd 28 26 .ro, fd 25 23 .ro, fd 22 15 .ro, fd 14 14 .ro, fd 13 0 .ro],
  rn (VAT_TCFG 0) 8 0x20 [fd 0 0 .rw], rn (VAT_TTRAP 0) 8 0x20 [fd 31 31 .rw, fd 13 0 .rw],
  rn (VAT_TINFO 0) 8 0x20 [fd 31 28 .ro, fd 27 27 .ro, fd 13 0 .ro], rn (VAT_TWORD 0) 8 0x20 [fd 31 0 .ro],
  rn (VAT_TTIM 0) 8 0x20 [fd 31 0 .ro], rn (VAT_TCNT 0) 8 0x20 [fd 31 0 .rc],
  rnm (VAT_TV 0 0) 8 0x40 16 4 [fd 31 0 .rw],
  rn (VAT_DMEM 0) 4096 4 [fd 31 0 .rw]]

/-! Page 0x05, TBL_ (chapter 09) -/
abbrev TBL_STAT := 0x050000
abbrev TBL_CMD := 0x050004
abbrev TBL_LSEL := 0x050008
abbrev TBL_LADDR := 0x05000C
abbrev TBL_LOAD := 0x050010
abbrev TBL_RSEL := 0x050014
abbrev TBL_RADDR := 0x050018
abbrev TBL_RDATA := 0x05001C
abbrev TBL_DRAM := 0x050020
abbrev TBL_BW := 0x050024
abbrev TBL_DIR (n : Nat) := 0x050100 + 4 * n
abbrev TBL_SER (n : Nat) := 0x050200 + 4 * n

def page05 : List Reg := [
  r1 TBL_STAT [fd 31 31 .ro, fd 23 16 .ro, fd 15 8 .w1c, fd 7 0 .w1c],
  r1 TBL_CMD [fr 31 28 .wo 0 1 4, fd 7 0 .wo], r1 TBL_LSEL [fd 7 0 .rw], r1 TBL_LADDR [fd 21 0 .rw], wwin TBL_LOAD,
  r1 TBL_RSEL [fd 31 31 .rw, fd 16 16 .rw, fd 15 8 .rw, fd 5 0 .rw], r1 TBL_RADDR [fd 21 0 .rw], rwin TBL_RDATA,
  r1 TBL_DRAM [fd 31 30 .ro, fd 15 8 .ro, fd 7 0 .ro], r1 TBL_BW [fd 31 16 .rc, fd 15 0 .ro]] ++
  [(0x00, 8), (0x10, 16), (0x20, 16), (0x30, 1)].flatMap fun p =>
    [rn (TBL_DIR p.1) p.2 4 [fd 15 15 .ro, fd 14 14 .ro, fd 12 12 .ro, fd 7 4 .ro, fd 3 0 .ro],
     rn (TBL_SER p.1) p.2 4 [fd 31 0 .ro]]

/-! Page 0x06, REF_ (chapter 10) -/
abbrev REF_STAT := 0x060000
abbrev REF_CFG := 0x060004
abbrev REF_CMD := 0x060008
abbrev REF_TEMP := 0x06000C
abbrev REF_FACT := 0x060010
abbrev REF_CNT := 0x060014
abbrev REF_NOMINAL := 0x060018
abbrev REF_LOAD := 0x06001C
abbrev REF_SAVE := 0x060020
abbrev REF_TRIM (n : Nat) := 0x060040 + 4 * n

def page06 : List Reg := [
  r1 REF_STAT [fd 31 30 .ro, fd 29 29 .ro, fd 28 28 .ro, fd 27 27 .ro, fd 26 26 .ro, fd 25 25 .ro, fd 24 24 .ro,
    fd 15 0 .ro],
  r1 REF_CFG [fd 16 16 .rw 1, fd 15 15 .rw 1, fr 7 0 .rw 8 2 100], r1 REF_CMD [fr 31 28 .wo 0 1 4],
  r1 REF_TEMP [fd 31 16 .ro, fd 15 0 .ro], r1 REF_FACT [fd 23 0 .ro],
  r1 REF_CNT [fd 31 24 .rc, fd 23 16 .rc, fd 15 8 .rc, fd 7 0 .rc], r1 REF_NOMINAL [fd 15 0 .ro], wwin REF_LOAD,
  rwin REF_SAVE, rn (REF_TRIM 0) 16 4 [fd 31 16 .rw 0x4000, fd 15 0 .rw]]

/-! Page 0x07, HK_ (chapter 11) -/
abbrev HK_STAT := 0x070000
abbrev HK_URG := 0x070004
abbrev HK_TRIGCMD := 0x070008
abbrev HK_DIAG := 0x07000C
abbrev HK_STALE := 0x070010
abbrev HK_CNT := 0x070014
abbrev HK_URGR (n : Nat) := 0x070020 + 4 * n
abbrev HK_CFG (j : Nat) := 0x070100 + 0x100 * j
abbrev HK_TRIG (j : Nat) := 0x070104 + 0x100 * j
abbrev HK_PER (j : Nat) := 0x070108 + 0x100 * j
abbrev HK_CSTAT (j : Nat) := 0x07010C + 0x100 * j
abbrev HK_ENT (j e : Nat) := 0x070140 + 0x100 * j + 4 * e
abbrev HK_WIN (j e : Nat) := 0x070180 + 0x100 * j + 4 * e
abbrev HK_RES (j e : Nat) := 0x0701C0 + 0x100 * j + 4 * e

def page07 : List Reg := [
  r1 HK_STAT [fd 10 8 .ro, fd 6 4 .ro, fd 0 0 .ro],
  r1 HK_URG ([0, 1, 2, 3].flatMap fun n => [fd (4*n+2) (4*n+2) .rw 1, fr (4*n+1) (4*n) .rw 2 0 2]),
  r1 HK_TRIGCMD [fd 2 0 .wo], r1 HK_DIAG [fd 31 31 .rw, fd 20 16 .rw, fd 9 0 .rw], r1 HK_STALE [fd 31 0 .ro],
  r1 HK_CNT [fd 31 24 .rc, fd 23 16 .rc, fd 15 8 .rc, fd 7 0 .rc],
  rn (HK_URGR 0) 4 4 [fd 31 24 .ro, fd 23 23 .ro, fd 22 22 .ro, fd 21 21 .ro, fd 20 20 .ro, fd 13 0 .ro],
  rn (HK_CFG 0) 3 0x100 [fd 8 8 .rw, fr 4 0 .rw 0 0 16],
  rn (HK_TRIG 0) 3 0x100 [fr 31 28 .rw 0 0 4, fd 27 24 .rw, fr 23 22 .rw 0 0 2, fd 11 0 .rw],
  rn (HK_PER 0) 3 0x100 [fr 19 0 .rw 1000 1 1000000],
  rn (HK_CSTAT 0) 3 0x100 [fd 31 16 .ro, fd 5 0 .ro],
  rnm (HK_ENT 0 0) 3 0x100 16 4 [fd 31 24 .rw, fd 15 15 .rw, fd 4 0 .rw],
  rnm (HK_WIN 0 0) 3 0x100 16 4 [fd 29 16 .rw 0x3FFF, fd 13 0 .rw],
  rnm (HK_RES 0 0) 3 0x100 16 4 [fd 31 24 .ro, fd 23 23 .ro, fd 22 22 .ro, fd 21 21 .ro, fd 20 20 .ro, fd 19 19 .ro,
    fd 18 17 .ro, fd 13 0 .ro]]

/-! Page 0x08, ACT_ (chapter 12) -/
abbrev ACT_STAT := 0x080000
abbrev ACT_CMD := 0x080004
abbrev ACT_BST := 0x080008
abbrev ACT_CHG := 0x08000C
abbrev ACT_PWM := 0x080010
abbrev ACT_PAIR := 0x080014
abbrev ACT_CHCFG (n : Nat) := 0x080100 + 0x20 * n
abbrev ACT_CHSTAT (n : Nat) := 0x080104 + 0x20 * n
abbrev ACT_CHFLT (n : Nat) := 0x080108 + 0x20 * n
abbrev ACT_CHSTRK (n : Nat) := 0x08010C + 0x20 * n
abbrev ACT_CHCNT (n : Nat) := 0x080110 + 0x20 * n
abbrev ACT_PHDR (p : Nat) := 0x081000 + 0x40 * p
abbrev ACT_PPH (p k : Nat) := 0x081004 + 0x40 * p + 4 * k

def page08 : List Reg := [
  r1 ACT_STAT [fd 31 16 .ro, fd 3 3 .ro, fd 2 2 .ro, fd 1 1 .ro, fd 0 0 .ro],
  r1 ACT_CMD [fr 31 28 .wo 0 1 3, fd 17 16 .wo, fd 15 11 .wo],
  r1 ACT_BST [fr 25 16 .rw 330 200 1023, fr 9 0 .rw 360 240 480], r1 ACT_CHG [fr 7 0 .rw 60 10 60],
  r1 ACT_PWM [fr 27 16 .rw 1250 500 2500, fr 7 0 .rw 25 10 255], r1 ACT_PAIR [fd 1 1 .rw, fd 0 0 .rw],
  rn (ACT_CHCFG 0) 4 0x20 [fd 8 8 .rw 1, fr 7 0 .rw 24 1 255],
  rn (ACT_CHSTAT 0) 4 0x20 [fd 31 30 .ro, fd 29 29 .ro, fd 28 24 .ro, fd 23 21 .ro, fd 15 0 .ro],
  rn (ACT_CHFLT 0) 4 0x20 [fd 31 24 .ro, fd 4 4 .ro, fd 3 3 .ro, fd 2 2 .ro, fd 1 1 .ro, fd 0 0 .ro],
  rn (ACT_CHSTRK 0) 4 0x20 [fd 31 16 .ro, fd 15 0 .ro], rn (ACT_CHCNT 0) 4 0x20 [fd 31 16 .rc, fd 15 0 .rc],
  rn (ACT_PHDR 0) 32 0x40 [fr 31 24 .rw 10 1 255, fd 23 16 .rw 25, fr 11 8 .rw 8 1 15, fd 4 4 .rw, fd 2 0 .rw],
  rnm (ACT_PPH 0 0) 32 0x40 8 4 [fr 31 20 .rw 0 0 3000, fd 19 19 .rw, fd 18 17 .rw, fd 16 16 .rw, fd 14 0 .rw]]

/-! Page 0x09, INT_ (chapters 08 and 13) -/
abbrev INT_SCHED := 0x090000
abbrev INT_SCHSTAT := 0x090004
abbrev INT_COMMIT := 0x090008
abbrev INT_CTL (c : Nat) := 0x090100 + 0x20 * c
abbrev INT_SHARE (c : Nat) := 0x090104 + 0x20 * c
abbrev INT_STAT (c : Nat) := 0x090108 + 0x20 * c
abbrev INT_FNUM (c : Nat) := 0x09010C + 0x20 * c
abbrev INT_SIZE (c : Nat) := 0x090110 + 0x20 * c
abbrev INT_TIME (c : Nat) := 0x090114 + 0x20 * c
abbrev INT_CNT (c : Nat) := 0x090118 + 0x20 * c
abbrev INT_LAT (c : Nat) := 0x09011C + 0x20 * c
abbrev INT_LINK := 0x090200
abbrev INT_LINKSTAT := 0x090204
abbrev INT_LINKERR := 0x090208
abbrev INT_MAP := 0x09020C
abbrev INT_HDIS := 0x090210
abbrev INT_I2CCFG := 0x090220
abbrev INT_I2CCMD := 0x090224
abbrev INT_I2CWDATA := 0x090228
abbrev INT_I2CRES := 0x09022C
abbrev INT_I2CRDATA := 0x090230
abbrev INT_I2CSTAT := 0x090234
/-- `g` = c − 6 for the generators of C6 and C7. -/
abbrev INT_XCFG (g : Nat) := 0x090280 + 0x10 * g
abbrev INT_XGEOM (g : Nat) := 0x090284 + 0x10 * g
abbrev INT_XTIME (g : Nat) := 0x090288 + 0x10 * g
abbrev INT_XCMD (g : Nat) := 0x09028C + 0x10 * g
abbrev INT_XLADDR := 0x0902A0
abbrev INT_XLOAD := 0x0902A4
abbrev INT_HCFG (n : Nat) := 0x090300 + 0x40 * n
abbrev INT_HGEOM (n : Nat) := 0x090304 + 0x40 * n
abbrev INT_HSTAT (n : Nat) := 0x090308 + 0x40 * n
abbrev INT_HERR (n : Nat) := 0x09030C + 0x40 * n
abbrev INT_HSTAMP_HI (n : Nat) := 0x090310 + 0x40 * n
abbrev INT_HSTAMP_LO (n : Nat) := 0x090314 + 0x40 * n
abbrev INT_HTS (n : Nat) := 0x090318 + 0x40 * n
abbrev INT_HTF (n : Nat) := 0x09031C + 0x40 * n
abbrev INT_HTSCAL (n : Nat) := 0x090320 + 0x40 * n
abbrev INT_HTFCAL (n : Nat) := 0x090324 + 0x40 * n
abbrev INT_HBIAS (n : Nat) := 0x090328 + 0x40 * n
abbrev INT_HIREF (n : Nat) := 0x09032C + 0x40 * n
abbrev INT_HBLIM (n : Nat) := 0x090330 + 0x40 * n

def page09 : List Reg := [
  r1 INT_SCHED [fr 15 0 .rw 10000 100 60000], r1 INT_SCHSTAT [fd 31 31 .ro, fd 30 30 .ro, fd 25 16 .ro, fd 15 0 .ro],
  r1 INT_COMMIT [fd 7 0 .wo],
  rn (INT_CTL 0) 8 0x20 [fd 8 8 .rw, fd 2 0 .rw], rn (INT_SHARE 0) 8 0x20 [fr 2 1 .cw 0 0 2, fd 0 0 .cw],
  rn (INT_STAT 0) 8 0x20 [fd 31 30 .ro, fd 29 29 .ro, fd 28 28 .ro, fd 27 27 .ro],
  rn (INT_FNUM 0) 8 0x20 [fd 31 0 .ro], rn (INT_SIZE 0) 8 0x20 [fd 31 16 .ro, fd 15 0 .ro],
  rn (INT_TIME 0) 8 0x20 [fd 31 16 .ro, fd 15 0 .ro], rn (INT_CNT 0) 8 0x20 [fd 31 16 .rc, fd 15 0 .rc],
  rn (INT_LAT 0) 8 0x20 [fd 31 16 .rc],
  r1 INT_LINK [fr 29 28 .rw 2 0 2, fd 27 27 .rw 1, fd 23 16 .rw 0xE4, fd 15 12 .rw, fr 7 0 .rw 150 16 250],
  r1 INT_LINKSTAT [fd 31 31 .ro, fd 30 30 .ro], r1 INT_LINKERR [fd 31 24 .rc, fd 23 16 .rc, fd 15 8 .rc, fd 7 0 .rc],
  r1 INT_MAP [fd 31 0 .rw 0x66543210], r1 INT_HDIS [fr 7 0 .rw 30 1 255],
  r1 INT_I2CCFG [fr 15 8 .rw 10 1 100, fr 1 0 .rw 1 0 2],
  r1 INT_I2CCMD [fd 31 31 .wo, fr 30 29 .wo 0 0 2, fr 28 26 .wo 0 0 4, fd 25 23 .wo, fr 22 16 .wo 0 8 0x77, fd 15 0 .wo],
  r1 INT_I2CWDATA [fd 31 0 .rw], r1 INT_I2CRES [fd 31 31 .rc, fd 30 28 .rc, fd 27 24 .rc], r1 INT_I2CRDATA [fd 31 0 .ro],
  r1 INT_I2CSTAT [fd 31 31 .ro, fd 3 0 .ro],
  rn (INT_XCFG 0) 2 0x10 [fr 29 28 .rw 0 0 2, fr 27 26 .rw 0 0 2, fr 25 24 .rw 0 0 2, fd 13 0 .rw],
  rn (INT_XGEOM 0) 2 0x10 [fd 31 16 .rw 640, fd 15 0 .rw 512],
  rn (INT_XTIME 0) 2 0x10 [fr 31 16 .rw 6200 100 65535, fd 15 0 .rw 3333], rn (INT_XCMD 0) 2 0x10 [fd 0 0 .wo],
  r1 INT_XLADDR [fd 31 31 .rw, fd 22 0 .rw], wwin INT_XLOAD,
  rn (INT_HCFG 0) 6 0x40 [fd 31 31 .rw, fd 27 24 .rw, fr 23 22 .rw 0 0 2, fd 21 21 .rw, fd 15 12 .rw 2, fd 6 0 .rw],
  rn (INT_HGEOM 0) 6 0x40 [fd 31 16 .rw, fd 15 0 .rw],
  rn (INT_HSTAT 0) 6 0x40 [fd 31 29 .ro, fd 28 28 .ro, fd 27 24 .ro, fd 23 23 .ro, fd 22 22 .ro, fd 21 21 .ro,
    fd 20 20 .ro, fd 19 19 .ro, fd 15 0 .ro 65535],
  rn (INT_HERR 0) 6 0x40 [fd 31 24 .rc, fd 23 16 .rc, fd 15 0 .rc],
  rn (INT_HSTAMP_HI 0) 6 0x40 [fd 31 0 .ro], rn (INT_HSTAMP_LO 0) 6 0x40 [fd 31 0 .ro],
  rn (INT_HTS 0) 4 0x40 [fd 31 16 .ro, fd 15 0 .ro], rn (INT_HTF 0) 4 0x40 [fd 31 16 .ro],
  rn (INT_HTSCAL 0) 4 0x40 [fd 31 16 .rw 23315, fr 15 0 .rw 25000 1 65535],
  rn (INT_HTFCAL 0) 4 0x40 [fd 31 16 .rw 23315, fr 15 0 .rw 25000 1 65535],
  rn (INT_HBIAS 0) 4 0x40 [fd 31 31 .rw, fd 30 30 .ro, fd 15 0 .rw],
  rn (INT_HIREF 0) 4 0x40 [fd 31 31 .rw, fd 30 30 .ro, fd 15 0 .rw], rn (INT_HBLIM 0) 4 0x40 [fd 15 0 .rw 0xFFFF]]

/-! Page 0x0A, DNR_ (chapter 14) -/
abbrev DNR_CTL (c : Nat) := 0x0A0000 + 0x20 * c
abbrev DNR_TEMP (c : Nat) := 0x0A0004 + 0x20 * c
abbrev DNR_SPAT (c : Nat) := 0x0A0008 + 0x20 * c
abbrev DNR_EVT (c : Nat) := 0x0A000C + 0x20 * c
abbrev DNR_STAT (c : Nat) := 0x0A0010 + 0x20 * c
abbrev DNR_LAST (c : Nat) := 0x0A0014 + 0x20 * c
abbrev DNR_LAST2 (c : Nat) := 0x0A0018 + 0x20 * c
abbrev DNR_CNT (c : Nat) := 0x0A001C + 0x20 * c

def page0A : List Reg := [
  rn (DNR_CTL 0) 8 0x20 [fd 2 2 .cw 1, fd 1 1 .cw 1, fd 0 0 .cw 1],
  rn (DNR_TEMP 0) 8 0x20 [fd 31 24 .cw 2, fr 20 16 .cw 4 1 16, fr 11 0 .cw 4 1 4095],
  rn (DNR_SPAT 0) 8 0x20 [fr 19 16 .cw 5 3 8, fr 11 0 .cw 6 1 4095],
  rn (DNR_EVT 0) 8 0x20 [fd 31 16 .cw 1000, fr 9 0 .cw 0 0 1000],
  rn (DNR_STAT 0) 8 0x20 [fd 31 31 .ro, fd 30 30 .ro, fd 29 29 .ro, fd 23 0 .ro],
  rn (DNR_LAST 0) 8 0x20 [fd 31 16 .ro, fd 15 0 .ro], rn (DNR_LAST2 0) 8 0x20 [fd 31 16 .ro, fd 15 0 .ro],
  rn (DNR_CNT 0) 8 0x20 [fd 31 16 .rc, fd 15 0 .rc]]

/-! Page 0x0B, NUC_ and PRS_ (chapter 15) -/
abbrev NUC_CFG (c : Nat) := 0x0B0000 + 0x10 * c
abbrev NUC_STAT (c : Nat) := 0x0B0004 + 0x10 * c
abbrev NUC_RAD (c : Nat) := 0x0B0008 + 0x10 * c
abbrev NUC_SAT (c : Nat) := 0x0B000C + 0x10 * c
abbrev PRS_CFG (n : Nat) := 0x0B0100 + 0x40 * n
abbrev PRS_CRIT (n : Nat) := 0x0B0104 + 0x40 * n
abbrev PRS_LEARN (n : Nat) := 0x0B0108 + 0x40 * n
abbrev PRS_BAD (n : Nat) := 0x0B010C + 0x40 * n
abbrev PRS_GOR (n : Nat) := 0x0B0110 + 0x40 * n
abbrev PRS_CMD (n : Nat) := 0x0B0114 + 0x40 * n
abbrev PRS_STAT (n : Nat) := 0x0B0118 + 0x40 * n
abbrev PRS_LAST (n : Nat) := 0x0B011C + 0x40 * n
abbrev PRS_LAST2 (n : Nat) := 0x0B0120 + 0x40 * n
abbrev PRS_AGE (n : Nat) := 0x0B0124 + 0x40 * n
abbrev PRS_K1 (n : Nat) := 0x0B0128 + 0x40 * n
abbrev PRS_BADC (n : Nat) := 0x0B012C + 0x40 * n
abbrev PRS_CNT (n : Nat) := 0x0B0130 + 0x40 * n

def page0B : List Reg := [
  rn (NUC_CFG 0) 8 0x10 [fd 31 31 .cw, fd 30 30 .cw, fd 29 29 .cw, fr 15 8 .cw 4 4 7, fr 7 0 .cw 0 0 3],
  rn (NUC_STAT 0) 8 0x10 [fd 31 31 .ro, fd 30 30 .ro, fd 29 29 .ro, fd 28 28 .ro, fd 27 27 .ro],
  rn (NUC_RAD 0) 8 0x10 [fd 31 16 .ro], rn (NUC_SAT 0) 8 0x10 [fd 31 24 .ro, fd 23 0 .ro],
  rn (PRS_CFG 0) 4 0x40 [fd 31 31 .rw, fd 30 30 .rw 1, fd 29 28 .rw, fd 27 23 .rw, fd 22 18 .rw 1, fr 17 14 .rw 2 1 8,
    fr 13 8 .rw 30 8 63, fr 7 0 .rw 30 1 255],
  rn (PRS_CRIT 0) 4 0x40 [fr 31 24 .rw 15 1 255, fr 23 16 .rw 20 1 255, fr 15 8 .rw 30 1 255, fr 7 0 .rw 16 1 255],
  rn (PRS_LEARN 0) 4 0x40 [fr 31 28 .rw 4 1 15, fr 27 20 .rw 5 1 255, fr 19 12 .rw 16 1 255, fr 11 0 .rw 256 1 4095],
  rn (PRS_BAD 0) 4 0x40 [fr 31 16 .rw 32 1 65535, fr 15 0 .rw 128 1 65535],
  rn (PRS_GOR 0) 4 0x40 [fd 0 0 .wo], rn (PRS_CMD 0) 4 0x40 [fr 31 28 .wo 0 1 4],
  rn (PRS_STAT 0) 4 0x40 [fd 31 28 .ro, fd 27 24 .ro, fd 23 20 .ro, fd 19 19 .ro, fd 18 18 .ro, fd 17 16 .ro, fd 15 8 .ro,
    fd 7 0 .ro],
  rn (PRS_LAST 0) 4 0x40 [fd 31 16 .ro, fd 15 0 .ro], rn (PRS_LAST2 0) 4 0x40 [fd 31 16 .ro, fd 15 0 .ro],
  rn (PRS_AGE 0) 4 0x40 [fd 31 16 .ro, fd 15 0 .ro], rn (PRS_K1 0) 4 0x40 [fd 31 16 .ro, fd 15 0 .ro 256],
  rn (PRS_BADC 0) 4 0x40 [fd 31 16 .ro, fd 15 0 .ro],
  rn (PRS_CNT 0) 4 0x40 [fd 31 24 .rc, fd 23 16 .rc, fd 15 8 .rc, fd 7 0 .rc]]

/-! Page 0x0C, RND_ (chapter 16) -/
abbrev RND_AGC (c : Nat) := 0x0C0000 + 0x80 * c
abbrev RND_PCT (c : Nat) := 0x0C0004 + 0x80 * c
abbrev RND_FIX (c : Nat) := 0x0C0008 + 0x80 * c
abbrev RND_ROI0 (c : Nat) := 0x0C000C + 0x80 * c
abbrev RND_ROI1 (c : Nat) := 0x0C0010 + 0x80 * c
abbrev RND_PAL (c : Nat) := 0x0C0014 + 0x80 * c
abbrev RND_ISO (c : Nat) := 0x0C0018 + 0x80 * c
abbrev RND_ISOC (c : Nat) := 0x0C001C + 0x80 * c
abbrev RND_VIS (c : Nat) := 0x0C0020 + 0x80 * c
abbrev RND_WB0 (c : Nat) := 0x0C0024 + 0x80 * c
abbrev RND_WB1 (c : Nat) := 0x0C0028 + 0x80 * c
abbrev RND_COL (c : Nat) := 0x0C002C + 0x80 * c
abbrev RND_FUS (c : Nat) := 0x0C0030 + 0x80 * c
abbrev RND_KEY (c : Nat) := 0x0C0034 + 0x80 * c
abbrev RND_STAT (c : Nat) := 0x0C0038 + 0x80 * c
abbrev RND_STAT2 (c : Nat) := 0x0C003C + 0x80 * c
abbrev RND_CNT (c : Nat) := 0x0C0040 + 0x80 * c
abbrev RND_WPUBR := 0x0C0800
abbrev RND_WSTAT := 0x0C0804
abbrev RND_WG (k m : Nat) := 0x0C1000 + 0x400 * k + 4 * m

def page0C : List Reg := [
  rn (RND_AGC 0) 8 0x80 [fr 31 30 .cw 2 0 2, fr 28 24 .cw 4 1 16, fr 20 16 .cw 12 0 16, fr 15 8 .cw 48 1 255],
  rn (RND_PCT 0) 8 0x80 [fr 29 16 .cw 32 1 16383, fr 9 0 .cw 10 0 511],
  rn (RND_FIX 0) 8 0x80 [fr 31 22 .cw 10 0 511, fr 21 8 .cw 8448 1 16383],
  rn (RND_ROI0 0) 8 0x80 [fd 27 16 .cw, fd 11 0 .cw], rn (RND_ROI1 0) 8 0x80 [fd 27 16 .cw 4095, fd 11 0 .cw 4095],
  rn (RND_PAL 0) 8 0x80 [fd 31 31 .cw, fr 29 16 .cw 7936 0 16382, fd 15 8 .cw, fd 7 0 .cw],
  rn (RND_ISO 0) 8 0x80 [fd 31 16 .cw, fd 15 0 .cw], rn (RND_ISOC 0) 8 0x80 [fd 23 0 .cw 0xFF0000],
  rn (RND_VIS 0) 8 0x80 [fd 17 16 .cw, fd 9 0 .cw],
  rn (RND_WB0 0) 8 0x80 [fr 29 16 .cw 1024 256 16383, fr 13 0 .cw 1024 256 16383],
  rn (RND_WB1 0) 8 0x80 [fr 13 0 .cw 1024 256 16383],
  rn (RND_COL 0) 8 0x80 [fd 31 31 .cw, fd 27 24 .cw, fd 23 16 .cw, fd 15 8 .cw, fd 7 0 .cw],
  rn (RND_FUS 0) 8 0x80 [fd 31 30 .cw, fd 29 29 .cw, fd 26 24 .cw, fr 23 16 .cw 100 1 255, fr 8 0 .cw 128 0 256],
  rn (RND_KEY 0) 8 0x80 [fd 27 16 .cw 3072, fd 11 0 .cw 2048],
  rn (RND_STAT 0) 8 0x80 [fd 31 31 .ro 1, fd 30 30 .ro, fd 29 16 .ro, fd 13 0 .ro],
  rn (RND_STAT2 0) 8 0x80 [fd 31 31 .ro, fd 23 0 .ro], rn (RND_CNT 0) 8 0x80 [fd 31 16 .rc, fd 15 0 .rc],
  r1 RND_WPUBR [fd 1 0 .wo], r1 RND_WSTAT [fd 7 7 .ro, fd 6 6 .ro, fd 3 3 .ro, fd 2 2 .ro],
  rnm (RND_WG 0 0) 2 0x400 170 4 [fd 31 16 .rw, fd 15 0 .rw]]

/-! Page 0x0D, OUT_ (chapter 17) -/
abbrev OUT_CTL (p : Nat) := 0x0D0000 + 0x40 * p
abbrev OUT_STAT (p : Nat) := 0x0D0004 + 0x40 * p
abbrev OUT_CROP0 (p : Nat) := 0x0D0008 + 0x40 * p
abbrev OUT_CROP1 (p : Nat) := 0x0D000C + 0x40 * p
abbrev OUT_SIZE (p : Nat) := 0x0D0010 + 0x40 * p
abbrev OUT_FMT (p : Nat) := 0x0D0014 + 0x40 * p
abbrev OUT_FILL (p : Nat) := 0x0D0018 + 0x40 * p
abbrev OUT_CNT (p : Nat) := 0x0D001C + 0x40 * p
abbrev OUT_CSTAT (c : Nat) := 0x0D0400 + 0x10 * c
abbrev OUT_KSEL := 0x0D0800
abbrev OUT_KDATA := 0x0D0804

def page0D : List Reg := [
  rn (OUT_CTL 0) 8 0x40 [fd 31 31 .rw, fd 26 24 .rw, fd 21 20 .rw, fd 19 16 .rw],
  rn (OUT_STAT 0) 8 0x40 [fd 31 30 .ro, fd 29 29 .ro, fd 23 0 .ro],
  rn (OUT_CROP0 0) 8 0x40 [fd 27 16 .cw, fd 11 0 .cw], rn (OUT_CROP1 0) 8 0x40 [fd 27 16 .cw 640, fd 11 0 .cw 512],
  rn (OUT_SIZE 0) 8 0x40 [fd 27 16 .cw 640, fd 11 0 .cw 512],
  rn (OUT_FMT 0) 8 0x40 [fd 31 28 .cw 6, fd 26 24 .cw, fd 21 20 .cw, fd 19 16 .cw 15],
  rn (OUT_FILL 0) 8 0x40 [fd 23 0 .cw], rn (OUT_CNT 0) 8 0x40 [fd 31 16 .rc, fd 15 0 .rc],
  rn (OUT_CSTAT 0) 8 0x10 [fd 31 31 .cw, fr 18 16 .cw 4 0 6, fd 15 0 .cw],
  r1 OUT_KSEL [fd 8 8 .rw, fd 7 0 .rw], rwin OUT_KDATA]

/-! Page 0x0E, ENC_ (chapter 17) -/
abbrev ENC_CFG (e : Nat) := 0x0E0000 + 0x40 * e
abbrev ENC_RC (e : Nat) := 0x0E0004 + 0x40 * e
abbrev ENC_QP (e : Nat) := 0x0E0008 + 0x40 * e
abbrev ENC_JPG (e : Nat) := 0x0E000C + 0x40 * e
abbrev ENC_CMD (e : Nat) := 0x0E0010 + 0x40 * e
abbrev ENC_CSTAT (e : Nat) := 0x0E0014 + 0x40 * e
abbrev ENC_SIZE (e : Nat) := 0x0E0018 + 0x40 * e
abbrev ENC_CNT (e : Nat) := 0x0E001C + 0x40 * e
abbrev ENC_LAT (e : Nat) := 0x0E0020 + 0x40 * e
abbrev ENC_BUF (e : Nat) := 0x0E0024 + 0x40 * e
abbrev ENC_LOAD := 0x0E0800
abbrev ENC_STAT := 0x0E0804
abbrev ENC_UUID (w : Nat) := 0x0E0810 + 4 * w

def page0E : List Reg := [
  rn (ENC_CFG 0) 16 0x40 [fd 31 31 .rw, fr 30 28 .rw 0 0 3, fr 27 26 .rw 3 1 3, fd 25 24 .rw, fr 23 20 .rw 1 1 8,
    fd 19 16 .rw 8, fd 15 0 .rw 64],
  rn (ENC_RC 0) 16 0x40 [fd 31 24 .rw 1, fr 21 20 .rw 0 0 2, fr 17 0 .rw 4000 64 200000],
  rn (ENC_QP 0) 16 0x40 [fr 31 26 .rw 10 0 51, fr 25 20 .rw 51 0 51, fr 19 14 .rw 30 0 51, fr 13 8 .rw 32 0 51,
    fd 7 7 .rw, fr 4 0 .rw 6 0 15],
  rn (ENC_JPG 0) 16 0x40 [fr 30 24 .rw 85 1 100, fd 7 0 .rw], rn (ENC_CMD 0) 16 0x40 [fd 1 1 .wo, fd 0 0 .wo],
  rn (ENC_CSTAT 0) 16 0x40 [fd 31 30 .ro, fd 29 28 .ro, fd 27 27 .ro, fd 23 0 .ro], rn (ENC_SIZE 0) 16 0x40 [fd 31 0 .ro],
  rn (ENC_CNT 0) 16 0x40 [fd 31 16 .rc, fd 15 0 .rc], rn (ENC_LAT 0) 16 0x40 [fd 31 16 .rc],
  rn (ENC_BUF 0) 16 0x40 [fr 7 0 .rw 32 4 255],
  r1 ENC_LOAD [fd 31 16 .ro, fd 15 0 .ro 520], r1 ENC_STAT [fd 31 31 .ro],
  r1 (ENC_UUID 0) [fd 31 0 .rw 0x57796E74], r1 (ENC_UUID 1) [fd 31 0 .rw 0x49646C72],
  r1 (ENC_UUID 2) [fd 31 0 .rw 0x4B4E4434], r1 (ENC_UUID 3) [fd 31 0 .rw 0x31363001]]

/-! Page 0x0F, ANA_ and TRK_ (chapter 18) -/
abbrev ANA_CTL (c : Nat) := 0x0F0000 + 0x100 * c
abbrev ANA_BG (c : Nat) := 0x0F0004 + 0x100 * c
abbrev ANA_BLOB (c : Nat) := 0x0F0008 + 0x100 * c
abbrev ANA_ABS (c : Nat) := 0x0F000C + 0x100 * c
abbrev TRK_CFG (c : Nat) := 0x0F0010 + 0x100 * c
abbrev TRK_SPD (c : Nat) := 0x0F0014 + 0x100 * c
abbrev ANA_STAT (c : Nat) := 0x0F0018 + 0x100 * c
abbrev ANA_OCC (c : Nat) := 0x0F001C + 0x100 * c
abbrev ANA_LOIT (c : Nat) := 0x0F0020 + 0x100 * c
abbrev ANA_CNT (c : Nat) := 0x0F0024 + 0x100 * c
abbrev ANA_DROP (c : Nat) := 0x0F0028 + 0x100 * c
abbrev ANA_PUB (c : Nat) := 0x0F002C + 0x100 * c
abbrev ANA_PSTAT (c : Nat) := 0x0F0030 + 0x100 * c
abbrev ANA_H (c k : Nat) := 0x0F0040 + 0x100 * c + 4 * k
abbrev ANA_LINE (c z : Nat) := 0x0F0080 + 0x100 * c + 4 * z
abbrev ANA_TSEL := 0x0F0800
abbrev ANA_TADDR := 0x0F0804
abbrev ANA_TDATA := 0x0F0808
abbrev ANA_ZHDR (c z : Nat) := 0x0F1000 + 0x800 * c + 0x40 * z
abbrev ANA_ZV (c z v : Nat) := 0x0F1004 + 0x800 * c + 0x40 * z + 4 * v

def page0F : List Reg := [
  rn (ANA_CTL 0) 8 0x100 [fd 31 31 .rw],
  rn (ANA_BG 0) 8 0x100 [fr 31 16 .cw 150 1 65535, fr 15 8 .cw 2 1 255, fr 7 0 .cw 16 1 255],
  rn (ANA_BLOB 0) 8 0x100 [fr 31 16 .cw 12 1 65535, fd 15 0 .cw],
  rn (ANA_ABS 0) 8 0x100 [fd 31 16 .cw 600, fd 8 8 .cw, fr 7 0 .cw 8 1 255],
  rn (TRK_CFG 0) 8 0x100 [fr 31 24 .cw 24 1 255, fr 23 20 .cw 3 1 15, fr 19 12 .cw 10 1 255, fr 11 4 .cw 15 3 255],
  rn (TRK_SPD 0) 8 0x100 [fd 31 24 .cw 2, fr 23 16 .cw 5 1 255, fr 15 0 .cw 8 1 65535],
  rn (ANA_STAT 0) 8 0x100 [fd 31 30 .ro, fd 29 29 .ro, fd 27 27 .ro, fd 26 24 .ro, fd 22 16 .ro, fd 7 0 .ro],
  rn (ANA_OCC 0) 8 0x100 [fd 31 0 .ro], rn (ANA_LOIT 0) 8 0x100 [fd 31 0 .ro],
  rn (ANA_CNT 0) 8 0x100 [fd 31 16 .rc, fd 15 0 .rc], rn (ANA_DROP 0) 8 0x100 [fd 31 16 .rc, fd 15 0 .rc],
  rn (ANA_PUB 0) 8 0x100 [fd 1 1 .wo, fd 0 0 .wo], rn (ANA_PSTAT 0) 8 0x100 [fd 1 1 .ro, fd 0 0 .ro],
  rnm (ANA_H 0 0) 8 0x100 9 4 [fd 31 0 .rw], rnm (ANA_LINE 0 0) 8 0x100 32 4 [fd 31 16 .rc, fd 15 0 .rc],
  r1 ANA_TSEL [fd 2 0 .rw], r1 ANA_TADDR [fd 8 0 .rw], rwin ANA_TDATA] ++
  (List.range 8).flatMap fun c =>
    [rn (ANA_ZHDR c 0) 32 0x40 [fr 31 30 .rw 0 0 2, fd 27 24 .rw, fd 15 0 .rw],
     rnm (ANA_ZV c 0 0) 32 0x40 8 4 [fd 27 16 .rw, fd 11 0 .rw]]

/-! Page 0x10, HEAT_ (chapter 19) -/
abbrev HEAT_STAT := 0x100000
abbrev HEAT_AMB := 0x100004
abbrev HEAT_BROKEN := 0x100008
abbrev HEAT_TH := 0x10000C
abbrev HEAT_TH2 := 0x100010
abbrev HEAT_CFG := 0x100014
abbrev HEAT_HOLD := 0x100018
abbrev HEAT_CNT := 0x10001C
abbrev HEAT_NODE (n : Nat) := 0x100020 + 4 * n
abbrev HEAT_C (n : Nat) := 0x100040 + 4 * n
abbrev HEAT_G (e : Nat) := 0x100060 + 4 * e
abbrev HEAT_DIODE := 0x100080
abbrev HEAT_DCAL := 0x100084
abbrev HEAT_LCUT (w : Nat) := 0x100090 + 4 * w

def page10 : List Reg := [
  r1 HEAT_STAT [fd 31 31 .ro, fd 30 30 .ro, fd 29 29 .ro, fd 28 28 .ro, fd 26 24 .ro, fd 15 0 .ro],
  r1 HEAT_AMB [fd 31 16 .ro, fd 15 0 .rw 29815], r1 HEAT_BROKEN [fd 10 0 .ro],
  r1 HEAT_TH [fd 31 16 .rw 39815, fd 15 0 .rw 40815],
  r1 HEAT_TH2 [fd 31 16 .rw 42315, fr 15 8 .rw 30 5 100, fr 7 0 .rw 20 1 100],
  r1 HEAT_CFG [fr 31 16 .rw 35815 23315 38315, fr 15 8 .rw 150 50 255, fr 7 0 .rw 14 0 50],
  r1 HEAT_HOLD [fr 31 16 .rw 60 60 3600, fr 15 8 .rw 50 10 200, fr 7 0 .rw 30 1 255],
  r1 HEAT_CNT [fd 31 16 .rc, fd 15 0 .rc],
  rn (HEAT_NODE 0) 6 4 [fd 31 16 .ro, fd 15 0 .ro],
  rn (HEAT_C 0) 6 4 [fr 15 0 .rw 0 10 65535], rn (HEAT_G 0) 6 4 [fr 15 0 .rw 0 1 65535],
  r1 HEAT_DIODE [fd 31 16 .ro, fd 15 0 .ro], r1 HEAT_DCAL [fd 31 16 .ro, fd 15 0 .ro],
  rn (HEAT_LCUT 0) 4 4 [fd 31 0 .ro]]

/-! Page 0x11, SW_ and VLV_ (chapter 20) -/
abbrev SW_CFG := 0x110000
abbrev SW_STAT := 0x110004
abbrev SW_PTP_CFG := 0x110008
abbrev SW_PTP_HI := 0x110010
abbrev SW_PTP_LO := 0x110014
abbrev SW_PTP_SETHI := 0x110018
abbrev SW_PTP_SETLO := 0x11001C
abbrev SW_PTP_ADJ := 0x110020
abbrev SW_PTP_RATE := 0x110024
abbrev SW_PTP_SYNC := 0x110028
abbrev SW_TSSTAT := 0x11002C
abbrev SW_TSDATA := 0x110030
abbrev SW_PCTL (p : Nat) := 0x110100 + 0x20 * p
abbrev SW_PSTAT (p : Nat) := 0x110104 + 0x20 * p
abbrev SW_PCLR (p : Nat) := 0x110108 + 0x20 * p
abbrev SW_PRXC (p : Nat) := 0x11010C + 0x20 * p
abbrev SW_PTXC (p : Nat) := 0x110110 + 0x20 * p
abbrev SW_PDROP (p : Nat) := 0x110114 + 0x20 * p
abbrev SW_PPTP (p : Nat) := 0x110118 + 0x20 * p
abbrev SW_PMAC (p : Nat) := 0x11011C + 0x20 * p
abbrev SW_VLAN (i : Nat) := 0x110400 + 4 * i
abbrev VLV_CFG := 0x111000
abbrev VLV_ETYPE := 0x111004
abbrev VLV_STAT := 0x111008
abbrev VLV_LATCH := 0x11100C
abbrev VLV_CNT := 0x111010
abbrev VLV_DIS := 0x111014
abbrev VLV_EXP_LO (p : Nat) := 0x111040 + 0x10 * p
abbrev VLV_EXP_HI (p : Nat) := 0x111044 + 0x10 * p
abbrev VLV_NBR_LO (p : Nat) := 0x111048 + 0x10 * p
abbrev VLV_NBR_HI (p : Nat) := 0x11104C + 0x10 * p
abbrev VLV_VIEW (p : Nat) := 0x111060 + 4 * p
abbrev VLV_RC_CMD := 0x111080
abbrev VLV_RC_STAT := 0x111084
abbrev VLV_RC_STAT2 := 0x111088
abbrev VLV_RCSEL := 0x11108C
abbrev VLV_RCDATA := 0x111090
abbrev VLV_GCMD := 0x111094
abbrev VLV_GSEL := 0x111098
abbrev VLV_GDATA := 0x11109C
abbrev VLV_ASEL := 0x1110A0
abbrev VLV_ADATA := 0x1110A4

def page11 : List Reg := [
  r1 SW_CFG [fd 31 31 .rw 1, fd 30 30 .rw, fr 15 0 .rw 300 10 1000], r1 SW_STAT [fd 27 16 .ro, fd 8 0 .ro],
  r1 SW_PTP_CFG [fr 1 0 .rw 1 0 2], r1 SW_PTP_HI [fd 31 0 .ro], r1 SW_PTP_LO [fd 31 0 .ro], r1 SW_PTP_SETHI [fd 31 0 .rw],
  r1 SW_PTP_SETLO [fd 31 0 .wo], r1 SW_PTP_ADJ [fd 31 0 .wo], r1 SW_PTP_RATE [fd 31 0 .rw],
  r1 SW_PTP_SYNC [fd 16 16 .ro, fd 15 8 .ro 255, fd 0 0 .rw], r1 SW_TSSTAT [fd 31 31 .rc, fd 6 0 .ro], rwin SW_TSDATA,
  rn (SW_PCTL 0) 3 0x20 [fd 31 31 .rw 1, fr 29 28 .rw 1 0 2, fd 27 27 .rw, fd 26 26 .rw, fr 11 0 .rw 1 1 4094],
  rn (SW_PSTAT 0) 3 0x20 [fd 31 31 .ro, fd 30 30 .ro, fd 29 28 .ro, fd 27 27 .ro, fd 15 8 .ro, fd 7 0 .ro],
  rn (SW_PCLR 0) 3 0x20 [fd 0 0 .wo], rn (SW_PRXC 0) 3 0x20 [fd 31 0 .rc], rn (SW_PTXC 0) 3 0x20 [fd 31 0 .rc],
  rn (SW_PDROP 0) 3 0x20 [fd 31 16 .rc, fd 15 0 .rc], rn (SW_PPTP 0) 3 0x20 [fd 15 0 .rw],
  rn (SW_PMAC 0) 3 0x20 [fd 31 0 .ro],
  r1 (SW_VLAN 0) [fd 31 31 .rw 1, fd 27 16 .rw 1, fd 6 4 .rw 7, fd 2 0 .rw 7],
  rn (SW_VLAN 1) 63 4 [fd 31 31 .rw, fd 27 16 .rw, fd 6 4 .rw, fd 2 0 .rw],
  r1 VLV_CFG [fd 31 31 .rw, fd 30 30 .rw, fd 29 29 .rw, fd 28 28 .rw 1, fd 27 27 .rw 1, fr 23 16 .rw 10 2 100,
    fr 15 8 .rw 5 2 50, fr 7 0 .rw 30 5 255],
  r1 VLV_ETYPE [fd 27 16 .rw 1, fd 15 0 .rw 0x88B5],
  r1 VLV_STAT [fd 31 24 .ro 0xFF, fd 23 22 .ro, fd 21 21 .ro, fd 20 20 .ro 1, fd 19 19 .ro, fd 18 18 .ro, fd 8 0 .ro],
  r1 VLV_LATCH [fd 15 8 .ro, fd 0 0 .w1c], r1 VLV_CNT [fd 31 24 .rc, fd 23 16 .rc, fd 15 8 .rc, fd 7 0 .rc],
  r1 VLV_DIS [fd 31 24 .ro, fd 23 16 .ro, fd 15 8 .ro, fd 7 0 .ro],
  rn (VLV_EXP_LO 0) 2 0x10 [fd 31 0 .rw], rn (VLV_EXP_HI 0) 2 0x10 [fd 31 0 .rw],
  rn (VLV_NBR_LO 0) 2 0x10 [fd 31 0 .ro], rn (VLV_NBR_HI 0) 2 0x10 [fd 31 0 .ro],
  rn (VLV_VIEW 0) 2 4 [fd 31 31 .ro, fd 30 30 .ro, fd 29 29 .ro, fd 28 28 .ro, fd 27 24 .ro, fd 15 0 .ro],
  r1 VLV_RC_CMD [fr 31 28 .wo 0 1 2], r1 VLV_RC_STAT [fd 31 28 .ro, fd 24 16 .ro, fd 15 8 .ro, fd 7 0 .ro],
  r1 VLV_RC_STAT2 [fd 31 16 .ro, fd 15 0 .ro], r1 VLV_RCSEL [fd 9 0 .rw], rwin VLV_RCDATA,
  r1 VLV_GCMD [fr 31 28 .wo 0 1 2, fd 7 0 .wo], r1 VLV_GSEL [fd 11 0 .rw], rwin VLV_GDATA,
  r1 VLV_ASEL [fd 6 0 .rw], rwin VLV_ADATA]

/-! Page 0x12, EGR_, SES_ and TEN_ (chapter 21) -/
abbrev EGR_CFG := 0x120000
abbrev EGR_HOST := 0x120004
abbrev EGR_HMAC_LO := 0x120008
abbrev EGR_HMAC_HI := 0x12000C
abbrev EGR_CNT := 0x120010
abbrev EGR_CLS (c : Nat) := 0x120020 + 4 * c
abbrev SES_SEL := 0x120040
abbrev SES_STAGE := 0x120044
abbrev SES_CMD := 0x120048
abbrev SES_STAT := 0x12004C
abbrev SES_RADDR := 0x120050
abbrev SES_RDATA := 0x120054
abbrev TEN_CFG (t : Nat) := 0x121000 + 0x10 * t
abbrev TEN_RATE (t : Nat) := 0x121004 + 0x10 * t
abbrev TEN_BKT (t : Nat) := 0x121008 + 0x10 * t
abbrev TEN_STAT (t : Nat) := 0x12100C + 0x10 * t
abbrev TEN_MGHDR (g p : Nat) := 0x124000 + 0x400 * g + 0x40 * p
abbrev TEN_MGV (g p v : Nat) := 0x124004 + 0x400 * g + 0x40 * p + 4 * v
abbrev TEN_MPUBR := 0x126000
abbrev TEN_MSTAT := 0x126004

def page12 : List Reg := [
  r1 EGR_CFG [fr 31 24 .rw 20 1 255, fr 19 0 .rw 800000 1000 1000000], r1 EGR_HOST [fd 15 0 .rw 0x88B6],
  r1 EGR_HMAC_LO [fd 31 0 .rw], r1 EGR_HMAC_HI [fd 15 0 .rw], r1 EGR_CNT [fd 31 16 .rc, fd 15 0 .rc],
  rn (EGR_CLS 0) 3 4 [fd 31 31 .ro, fd 19 0 .ro], r1 SES_SEL [fd 11 0 .rw], wwin SES_STAGE,
  r1 SES_CMD [fr 31 28 .wo 0 1 4], r1 SES_STAT [fd 31 29 .ro, fd 27 24 .ro, fd 23 16 .ro, fd 7 0 .ro],
  r1 SES_RADDR [fr 5 0 .rw 0 0 39], rwin SES_RDATA,
  rn (TEN_CFG 0) 256 0x10 [fd 31 31 .rw, fr 29 28 .rw 1 0 2, fd 27 24 .rw 15, fd 8 0 .rw],
  rn (TEN_RATE 0) 256 0x10 [fr 19 0 .rw 8000 64 1000000],
  rn (TEN_BKT 0) 256 0x10 [fr 31 16 .rw 1000 16 65535, fr 7 0 .rw 1 1 255],
  rn (TEN_STAT 0) 256 0x10 [fd 31 16 .ro, fd 8 0 .ro],
  r1 TEN_MPUBR [fd 7 0 .wo], r1 TEN_MSTAT [fd 15 8 .ro, fd 7 0 .ro]] ++
  (List.range 8).flatMap fun g =>
    [rn (TEN_MGHDR g 0) 16 0x40 [fd 3 0 .rw], rnm (TEN_MGV g 0 0) 16 0x40 8 4 [fd 27 16 .rw, fd 11 0 .rw]]

/-! Page 0x13, CEL_ (Table 22.9) -/
abbrev CEL_CFG := 0x130000
abbrev CEL_CMD := 0x130004
abbrev CEL_STAT := 0x130008
abbrev CEL_WCMD := 0x13000C
abbrev CEL_MSTAT (m : Nat) := 0x130010 + 0x10 * m
abbrev CEL_MNW (m : Nat) := 0x130014 + 0x10 * m
abbrev CEL_MFREE (m : Nat) := 0x130018 + 0x10 * m
abbrev CEL_MCNT (m : Nat) := 0x13001C + 0x10 * m
abbrev CEL_RCFG (e : Nat) := 0x130100 + 0x10 * e
abbrev CEL_RSTATE (e : Nat) := 0x130104 + 0x10 * e
abbrev CEL_RCNT (e : Nat) := 0x130108 + 0x10 * e
abbrev CEL_RSEL := 0x130200
abbrev CEL_RFROM := 0x130204
abbrev CEL_RTO := 0x130208
abbrev CEL_RCMD := 0x13020C
abbrev CEL_RSTAT := 0x130210
abbrev CEL_NCFG (j : Nat) := 0x130300 + 0x20 * j
abbrev CEL_NFROM (j : Nat) := 0x130304 + 0x20 * j
abbrev CEL_NTO (j : Nat) := 0x130308 + 0x20 * j
abbrev CEL_NCMD (j : Nat) := 0x13030C + 0x20 * j
abbrev CEL_NSTAT (j : Nat) := 0x130310 + 0x20 * j
abbrev CEL_BHOST_LO (k : Nat) := 0x130400 + 8 * k
abbrev CEL_BHOST_HI (k : Nat) := 0x130404 + 8 * k
abbrev CEL_BCNT := 0x130418

def page13 : List Reg := [
  r1 CEL_CFG [fd 31 31 .rw, fd 30 30 .rw 1, fd 29 29 .rw 1, fd 27 26 .rw 1, fd 25 24 .rw 3, fr 23 16 .rw 16 1 255,
    fr 15 8 .rw 30 1 255, fr 7 0 .rw 10 1 255],
  r1 CEL_CMD [fr 31 28 .wo 0 1 4, fd 0 0 .wo], r1 CEL_STAT [fd 31 31 .ro, fd 30 30 .ro, fd 29 29 .ro, fd 25 24 .ro, fd 15 0 .ro],
  r1 CEL_WCMD [fr 31 28 .wo 0 1 2, fd 24 24 .wo, fd 16 0 .wo],
  rn (CEL_MSTAT 0) 2 0x10 [fd 31 28 .ro, fd 27 24 .ro, fd 23 20 .ro, fd 19 16 .ro, fd 15 8 .ro],
  rn (CEL_MNW 0) 2 0x10 [fd 17 0 .ro], rn (CEL_MFREE 0) 2 0x10 [fd 17 0 .ro],
  rn (CEL_MCNT 0) 2 0x10 [fd 31 24 .rc, fd 23 16 .rc, fd 15 0 .rc],
  rn (CEL_RCFG 0) 16 0x10 [fd 31 31 .rw, fd 30 30 .rw, fd 29 29 .rw, fd 28 28 .rw, fd 27 27 .rw, fd 26 26 .rw, fd 25 25 .rw,
    fd 23 16 .rw 10, fr 15 8 .rw 5 0 60, fr 4 0 .rw 2 1 30],
  rn (CEL_RSTATE 0) 16 0x10 [fd 31 28 .ro, fd 27 24 .ro, fd 16 0 .ro], rn (CEL_RCNT 0) 16 0x10 [fd 31 16 .rc, fd 15 0 .rc],
  r1 CEL_RSEL [fd 31 31 .rw, fd 30 30 .rw, fd 19 16 .rw], r1 CEL_RFROM [fd 31 0 .rw], r1 CEL_RTO [fd 31 0 .rw],
  r1 CEL_RCMD [fr 31 28 .wo 0 1 2], r1 CEL_RSTAT [fd 31 28 .ro, fd 27 24 .ro, fd 15 0 .ro],
  rn (CEL_NCFG 0) 8 0x20 [fd 30 30 .rw, fd 29 29 .rw, fd 19 16 .rw, fd 11 0 .rw], rn (CEL_NFROM 0) 8 0x20 [fd 31 0 .rw],
  rn (CEL_NTO 0) 8 0x20 [fd 31 0 .rw], rn (CEL_NCMD 0) 8 0x20 [fr 31 28 .wo 0 1 2],
  rn (CEL_NSTAT 0) 8 0x20 [fd 31 28 .ro, fd 27 24 .ro, fd 23 0 .ro],
  rn (CEL_BHOST_LO 0) 3 8 [fd 31 0 .ro], rn (CEL_BHOST_HI 0) 3 8 [fd 31 0 .ro], r1 CEL_BCNT [fd 31 16 .rc, fd 15 0 .rc]]

/-! Page 0x14, UART_ (Table 23.3) -/
abbrev UART_CFG (u : Nat) := 0x140000 + 0x40 * u
abbrev UART_DIV (u : Nat) := 0x140004 + 0x40 * u
abbrev UART_DE (u : Nat) := 0x140008 + 0x40 * u
abbrev UART_ABR (u : Nat) := 0x14000C + 0x40 * u
abbrev UART_STAT (u : Nat) := 0x140010 + 0x40 * u
abbrev UART_EVT (u : Nat) := 0x140014 + 0x40 * u
abbrev UART_IEN (u : Nat) := 0x140018 + 0x40 * u
abbrev UART_RX (u : Nat) := 0x14001C + 0x40 * u
abbrev UART_RXW (u : Nat) := 0x140020 + 0x40 * u
abbrev UART_TX (u : Nat) := 0x140024 + 0x40 * u
abbrev UART_TXW (u : Nat) := 0x140028 + 0x40 * u
abbrev UART_CNT (u : Nat) := 0x14002C + 0x40 * u
abbrev UART_CNT2 (u : Nat) := 0x140030 + 0x40 * u
abbrev UART_CTL (u : Nat) := 0x140034 + 0x40 * u

def page14 : List Reg := [
  rn (UART_CFG 0) 4 0x40 [fd 31 31 .rw, fr 29 28 .rw 0 0 2, fd 27 27 .rw, fd 26 26 .rw 1, fd 25 25 .rw 1, fd 24 24 .rw,
    fr 22 21 .rw 0 0 2, fd 20 20 .rw, fd 15 8 .rw 4],
  rn (UART_DIV 0) 4 0x40 [fr 22 0 .rw 208333 667 6666667],
  rn (UART_DE 0) 4 0x40 [fd 23 16 .rw 16, fd 15 8 .rw 16, fd 7 0 .rw 2],
  rn (UART_ABR 0) 4 0x40 [fd 31 31 .rw, fd 7 0 .rw 0x55],
  rn (UART_STAT 0) 4 0x40 [fd 30 24 .ro, fd 22 16 .ro, fd 3 3 .ro, fd 2 2 .ro, fd 1 1 .ro, fd 0 0 .ro],
  rn (UART_EVT 0) 4 0x40 [fd 7 0 .w1c], rn (UART_IEN 0) 4 0x40 [fr 22 16 .rw 1 1 64, fd 7 0 .rw],
  rn (UART_RX 0) 4 0x40 [fd 31 31 .rc, fd 12 8 .rc, fd 7 0 .rc],
  { rn (UART_RXW 0) 4 0x40 [fd 31 0 .ro] with win := .read },
  rn (UART_TX 0) 4 0x40 [fd 7 0 .wo], { rn (UART_TXW 0) 4 0x40 [fd 7 0 .wo] with win := .write },
  rn (UART_CNT 0) 4 0x40 [fd 31 24 .rc, fd 23 16 .rc, fd 15 8 .rc, fd 7 0 .rc], rn (UART_CNT2 0) 4 0x40 [fd 7 0 .rc],
  rn (UART_CTL 0) 4 0x40 [fd 1 1 .wo, fd 0 0 .wo]]

/-! Page 0x15, CP_ and KEY_ (Tables 5.7 to 5.12) -/
abbrev CP_OPRES := 0x150000
abbrev CP_ERRCNT := 0x150004
abbrev CP_CFG := 0x150008
abbrev CP_PAGE := 0x15000C
abbrev KEY_STAGE := 0x150100
abbrev KEY_KCV := 0x150104
abbrev KEY_CMD := 0x150108
abbrev KEY_STAT := 0x15010C
abbrev KEY_LOCK := 0x150110
abbrev KEY_FILL (n : Nat) := 0x150120 + 4 * n

def page15 : List Reg := [
  r1 CP_OPRES [fd 31 24 .ro, fd 18 16 .ro, fd 15 0 .ro], r1 CP_ERRCNT [fd 31 24 .rc, fd 23 16 .rc, fd 15 8 .rc, fd 7 0 .rc],
  r1 CP_CFG [fr 7 0 .rw 16 1 255], r1 CP_PAGE [fd 31 16 .ro, fd 15 15 .ro, fd 10 0 .ro], wwin KEY_STAGE,
  r1 KEY_KCV [fd 23 0 .wo], r1 KEY_CMD [fr 31 30 .wo 0 1 2, fr 29 28 .wo 0 0 2, fd 8 0 .wo],
  r1 KEY_STAT [fd 31 24 .ro, fd 9 0 .ro], r1 KEY_LOCK [fd 0 0 .rw], rn (KEY_FILL 0) 16 4 [fd 31 0 .ro]]

/-- The registers of one page (R1: pages 0x00 to 0x15 are implemented). -/
def pageRegs : Nat → List Reg
  | 0x00 => page00 | 0x01 => page01 | 0x02 => page02 | 0x03 => page03 | 0x04 => page04 | 0x05 => page05
  | 0x06 => page06 | 0x07 => page07 | 0x08 => page08 | 0x09 => page09 | 0x0A => page0A | 0x0B => page0B
  | 0x0C => page0C | 0x0D => page0D | 0x0E => page0E | 0x0F => page0F | 0x10 => page10 | 0x11 => page11
  | 0x12 => page12 | 0x13 => page13 | 0x14 => page14 | 0x15 => page15
  | _ => []

/-- Whether address `a` is one of the family's registers. -/
def Reg.has (r : Reg) (a : Nat) : Bool :=
  decide (r.base ≤ a) && decide ((a - r.base) / r.s1 < r.n1) && decide ((a - r.base) % r.s1 / r.s2 < r.n2) &&
    decide ((a - r.base) % r.s1 % r.s2 = 0)

/-- The register at a control-port address, if one is implemented there (R2). -/
def regAt (a : Nat) : Option Reg := (pageRegs (a / 0x10000)).find? (·.has a)

/-- The reset word a register's own fields give. -/
def Reg.resetNat (r : Reg) : Nat := r.flds.foldl (fun n f => n + f.rst * 2 ^ f.lo) 0

/-- The sources that are journal-worthy (Table 6.3 and the event tables of the owning chapters). -/
def journalWorthy (n : Nat) : Bool :=
  [0x000, 0x005, 0x00C, 0x00D, 0x00F, 0x012, 0x013, 0x018, 0x01D, 0x024, 0x026, 0x029, 0x02A, 0x0B1, 0x0B9, 0x0BB, 0x0BC,
   0x110, 0x197, 0x1A1, 0x1A3, 0x1A5, 0x1A6, 0x1B5, 0x1B7, 0x1B8, 0x1C4, 0x1CE, 0x1D1, 0x1D2, 0x1E0, 0x1E3, 0x1E5,
   0x1F2, 0x1F4, 0x1F7, 0x1FD, 0x1FE, 0x1FF].contains n ||
  (decide (0x040 ≤ n ∧ n < 0x080) && n % 8 == 0) || (decide (0x080 ≤ n ∧ n < 0x0B0) && n % 8 == 2) ||
  (decide (0x0C4 ≤ n ∧ n < 0x0D4) && n % 4 == 3)

/-- The route bits that a source's owning chapter fixes (R133): the thermal cut has D5, the local alarm latch D0, D4, D5
and D6. -/
def fixedRoute (n : Nat) : Nat := if n = 0x02A then 0x20 else if n = 0x1D1 then 0x71 else 0

/-- The reset value of GUT_SRCn (R141). -/
def gutSrcReset (n : Nat) : Nat :=
  let route := 0x80 ||| (if journalWorthy n then 0x20 else 0) ||| fixedRoute n
  route * 2 ^ 24 + 0xC08400 + (if fixedRoute n = 0 then 0 else 1)

/-- The default sequences of Table 11.4: the HKIN that entry e of converter j converts.
DESIGN CHOICE (notes/assumptions/85.md). -/
def hkEntryReset (j e : Nat) : Nat :=
  match j with
  | 0 => [16, 17, 18, 19, 20, 21, 22, 23, 13, 14, 15, 24, 12, 25, 26].getD e 0
  | 1 => if e < 8 then e else 0
  | _ => 0

/-- Reset words that depend on the register's index (R141, Table 11.4, Table 13.5, Table 15.4, Table 19.1, Table 20.9). -/
def resetByIndex (a : Nat) : Option Nat :=
  let o := a % 0x10000
  match a / 0x10000 with
  | 0x03 => if 0x1000 ≤ o ∧ o < 0x1800 then some (gutSrcReset ((o - 0x1000) / 4)) else none
  | 0x07 =>
    if 0x100 ≤ o ∧ o < 0x400 then
      let j := (o - 0x100) / 0x100
      let r := (o - 0x100) % 0x100
      if r = 0 then some ([15, 8, 0].getD j 0)
      else if r = 4 then some ([0x20000000, 0x20000000, 0].getD j 0)
      else if r = 8 then some ([100, 1000, 1000].getD j 0)
      else if 0x40 ≤ r ∧ r < 0x80 then some (hkEntryReset j ((r - 0x40) / 4)) else none
    else none
  | 0x09 =>
    if 0x300 ≤ o ∧ o < 0x480 ∧ (o - 0x300) % 0x40 = 0 then
      let n := (o - 0x300) / 0x40
      some (n * 2 ^ 24 + (if 4 ≤ n then 2 ^ 22 else 0) + 0x2000 + [0x30, 0x31, 0x32, 0x33, 0x36, 0x37].getD n 0)
    else none
  | 0x0B =>
    if o < 0x80 ∧ o % 0x10 = 0 then
      let c := o / 0x10
      some ((if c < 4 then 0xC0000000 else 0) + (4 + c % 4) * 256 + c % 4)
    else none
  | 0x10 =>
    if 0x40 ≤ o ∧ o < 0x58 then some ([50, 30, 200, 60, 2000, 40000].getD ((o - 0x40) / 4) 0)
    else if 0x60 ≤ o ∧ o < 0x78 then some ([500, 400, 300, 250, 2000, 1000].getD ((o - 0x60) / 4) 0) else none
  | 0x11 => if o = 0x140 then some 0x80000001 else none
  | _ => none

/-- The reset word of a register (R13). A word that no register holds reads as zero. -/
def resetWord (a : Nat) : Word :=
  match resetByIndex a with
  | some n => word n
  | none => match regAt a with
    | some r => word r.resetNat
    | none => 0

end Sys2Proof.Machine
end

