-- ==== Sys2Proof/Machine/State.lean ====
section
/-! DEFINITION. The state of the engine as plain data, its reasons to stop, and the state after a power-on reset. Registers
that software writes or that count events live in one register file (`regs`); state machines, queues and memories have
structures of their own, one for each block. -/

namespace Sys2Proof.Machine

/-- The codes of Table 0.4 (spec/00_scope.md). -/
inductive Code where
  | ok | eAddr | eRo | eRange | eState | eBusy | eCrc | eLen | eLock | eAlign | eSeal | eAuth | eCtx | eFull
  deriving DecidableEq, Repr

/-- Reasons for a fault. The model raises none: every command of the table ends in a next state. -/
inductive Fault where
  /-- No meaning raises it; a machine that stopped here would be safe (nothing could be proved of a later state). -/
  | stopped
  deriving DecidableEq, Repr

/-- Reasons for a refusal. -/
inductive Refusal where
  /-- Raised by the dispatch of a command that has no meaning in the model; safe, since no next state is claimed. -/
  | notModelled (mnemonic : String)
  deriving DecidableEq, Repr

/-! ### The gutter (chapter 06) -/

/-- A source's one-deep capture (R123). `batch` is 0, or the place of an occurrence in the release of held events that it
came from, counted from 1 (R125). -/
structure Capture where
  data : Word
  merged : Nat
  batch : Nat
  deriving DecidableEq, Repr

/-- What the gutter keeps for one source beside its registers: its capture, its token bucket (R130), the counts
recorded at its last dispatch (R126), and the instants of the last suppression and of the last summary (R130: one cycle). -/
structure SrcState where
  cap : Option Capture := none
  tokens : Nat := 4
  supp : Nat := 0
  lastData : Word := 0
  vecSupp : Nat := 0
  vecMerged : Nat := 0
  suppAt : Option Nat := none
  sumAt : Option Nat := none
  deriving DecidableEq, Repr

/-- One queued delivery of D3 to D6 (R126, Table 6.2). -/
structure Delivery where
  src : Nat
  data : Word
  supp : Nat
  merged : Nat
  forced : Bool
  timeHi : Word
  timeLo : Word
  uptime : Nat
  deriving DecidableEq, Repr

/-- The gutter: per-source state, delivery queues, events held during start-up or a clock wait, re-arm pulses. -/
structure Gutter where
  srcs : List (Nat × SrcState) := []
  d3 : List Delivery := []
  d4 : List Delivery := []
  d5 : List Delivery := []
  d6 : List Delivery := []
  held : List (Nat × Word) := []
  /-- The re-arm pulses of IRQA_N and IRQB_N (R134): the time at which one in progress began. -/
  pulseA : Option Nat := none
  pulseB : Option Nat := none
  /-- After a wake from Rind the pins wait for the dispatch of event 0x01C (R135). -/
  wakeHold : Bool := false
  /-- The journal writer met a full queue of forced deliveries or a failed write (R138). -/
  jFail : Bool := false
  deriving DecidableEq, Repr

/-! ### Power entry (chapter 02) -/

/-- A rail power monitor (R43, Table 2.19): power in mW, flags, the run of in-range samples, and the run of samples with
one converter code (its code, its first instant in ticks, its number). -/
structure RailMon where
  pMw : Nat := 0
  oor : Bool := false
  stuck : Bool := false
  inRange : Nat := 0
  code : Option Nat := none
  same : Nat := 0
  since : Nat := 0
  deriving DecidableEq, Repr

/-- Power entry: inputs, source, governor, heater, head supply, rails. -/
structure Power where
  acValid : Bool := false
  poeValid : Bool := false
  powerFail : Bool := false
  busGood : Bool := false
  /-- The bus is at or above 10.2 V (R33). -/
  busUp : Bool := false
  /-- Class requested by the PD_CLS straps, as read at the last classification (R34). -/
  reqClass : Nat := 0
  grantClass : Nat := 0
  pseType : Nat := 0
  classEvents : Nat := 0
  /-- The effective limit in force before POWER_FAIL asserted (R35). -/
  limBefore : Nat := 0
  exceeded : Bool := false
  /-- The instant OVER set, or the instant T_EAVES counts afresh from (R36, R38), in ticks. -/
  overSince : Nat := 0
  eavesSince : Nat := 0
  heatShed : Bool := false
  boostLim : Bool := false
  eavesForced : Bool := false
  /-- HKIN13 or HKIN14 is stale (Table 11.3). -/
  busStale : Bool := false
  busMv : Nat := 0
  /-- The products of bus voltage and current codes of the last 100 ms, newest first, each with its instant (Table 2.11). -/
  busSamples : List (Nat × Nat) := []
  busP : Nat := 0
  htrOn : Bool := false
  htrOpen : Bool := false
  htrOc : Bool := false
  htrMa : Nat := 0
  /-- The duty of the heater period in progress; the instant its on-time began, whether the current has been measured in it and
  has reached 0.10 A in it (R44). -/
  htrDuty : Nat := 0
  htrAt : Nat := 0
  htrSeen : Bool := false
  htrReached : Bool := false
  hsupOn : Bool := false
  hsupOc : Bool := false
  hsupMa : Nat := 0
  /-- Power-good of rails 0–7 in monitor order. -/
  pg : Nat := 0
  railFault : Bool := false
  faultRail : Nat := 15
  /-- HBUS limiter folded back (R525). -/
  hbusFold : Bool := false
  mons : List RailMon := List.replicate 8 {}
  deriving DecidableEq, Repr

/-! ### Clock tree (chapter 03) -/

/-- The clock tree: oscillators, PLL, the wait for a failed clock, the LFO measurement. -/
structure Clock where
  xoOk : Bool := false
  xoAmp : Nat := 0
  xoFailed : Bool := false
  pllLock : Bool := false
  phErr : Int := 0
  slipWarn : Bool := false
  lockTime : Nat := 0
  /-- Eaves divisors applied (R53). -/
  eaves : Bool := false
  dramDiv3 : Bool := false
  /-- The working domains are stopped and the engine waits for its clock (R59, R60). -/
  waiting : Bool := false
  /-- DRAM in self-refresh. -/
  selfRefresh : Bool := false
  /-- The wait began with an abrupt loss; the DRAM needs retraining (R60). -/
  abrupt : Bool := false
  /-- The PLL has relocked after an abrupt loss: the dividers run, and the DRAM is retrained before the engine resumes (Table 3.3,
  step 4). -/
  retraining : Bool := false
  /-- The background training after a failed RETRAIN is still to complete (R198). -/
  bgTrain : Bool := false
  /-- A loss has been declared in the present wait; a slip warning alone has not (R64). -/
  lost : Bool := false
  /-- Instants (ticks) of the PLL losses declared in the last 10 s, newest first (R65). -/
  losses : List Nat := []
  /-- The start sequencer runs on the RC oscillator (R54). -/
  seqOnRc : Bool := true
  lfValid : Bool := false
  lfFail : Bool := false
  lfErr : Int := 0
  lfCounting : Bool := false
  /-- The LFDLY straps as read at power-on (R70). -/
  lfdly : Nat := 3
  deriving DecidableEq, Repr

/-! ### Start-up, resets and power states (chapter 04) -/

/-- The life of the engine: Cold; start-up; handed over (Run or Eaves); entering Rind; Rind; waking from Rind (steps 2 and 3 of
R93); removed by a thermal cut. -/
inductive Phase where
  | cold | start | up | entering | rind | waking | cut
  deriving DecidableEq, Repr

/-- A start-journal entry (Table 4.13). -/
structure JEntry where
  retry : Bool := false
  cause : Nat := 0
  entry : Nat := 0
  failed : Nat := 0
  attempts : Nat := 0
  seq : Nat := 0
  result : Nat := 0
  fallback : Nat := 0
  durMs : Nat := 0
  handover : Nat := 0
  deriving DecidableEq, Repr

/-- A record of the start-journal region of the NOR (R98). -/
structure NorJournal where
  entries : List JEntry
  fallback : Nat
  seq : Nat
  deriving DecidableEq, Repr

/-- A slot of the start-journal region: erased, programmed without a valid CRC, or holding a record (R98). -/
inductive NorSlot where
  | erased | bad
  | held (r : NorJournal)
  deriving DecidableEq, Repr

/-- Start-up and power states. -/
structure Start where
  phase : Phase := .start
  step : Nat := 1
  hostPresent : Bool := false
  goPending : Bool := false
  cause : Nat := 0
  seen : Nat := 1
  retry : Bool := false
  /-- Which hand-over took place: 0 none, 1 host, 2 standalone. -/
  handover : Nat := 0
  /-- HOST_WAIT expired without a standalone recipe: the engine waits for HOST_GO without limit (R85). -/
  noStandalone : Bool := false
  /-- ms from reset release to hand-over, once frozen (START_STEP.T_MS). -/
  tFrozen : Option Nat := none
  /-- Instants (ticks) of the reset release and of the start of the current journal entry. -/
  releasedAt : Nat := 0
  entryAt : Nat := 0
  journal : List JEntry := [{ entry := 1 }]
  /-- The fallback bits as retained, and those in effect at this start (R89). -/
  fallback : Nat := 0
  inEffect : Nat := 0
  /-- Consecutive failed attempts of each step across starts (R86). -/
  attempts : List Nat := List.replicate 16 0
  /-- The path that step 5 is trying: 0 as chosen, 1 stored values, 2 the ÷3 divisor; and stored training values held. -/
  dramPath : Nat := 0
  dramStored : Bool := false
  dramExit : Bool := false
  /-- The DRAM has been trained at this start. -/
  dramUp : Bool := false
  sramRetried : Bool := false
  step1Fails : Nat := 0
  step1Hold : Bool := false
  /-- The retained journal was lost, so the NOR copy continues it (R98). -/
  jLost : Bool := true
  /-- Chain PHYs left out at this start: bit 0 CHA, bit 1 CHB (Table 4.3, step 9). -/
  phyOff : Nat := 0
  /-- NOR usable at this start. -/
  norOpen : Bool := false
  norSeq : Nat := 0
  norValid : Bool := false
  norFail : Bool := false
  /-- NOR copies still to be programmed, the one in hand first (R98). -/
  norWrites : List NorJournal := []
  /-- The step in progress has failed and waits for its retry (Table 4.3, steps 1 to 3). -/
  waitRetry : Bool := false
  /-- Reset triggers recorded while the engine waits for its clock (R65), one bit per code. -/
  trig : Nat := 0
  /-- A fallback bit has been used at this start (event 0x014); the trims kept by this reset passed their check (R205). -/
  fbUsed : Bool := false
  trimsOk : Bool := false
  /-- The initial calibration of step 12 is being repeated (R206). -/
  calRepeat : Bool := false
  /-- RESET_N is low (R80). -/
  resetLow : Bool := false
  /-- The watchdog's reset stage was due when this start began, so that it can still fire beside the other trigger (R79). -/
  wdDue : Bool := false
  /-- Instant of the last accepted kick or of hand-over, in ticks. -/
  kickAt : Option Nat := none
  hostLost : Bool := false
  lastWake : Nat := 0
  /-- While the engine wakes: the step that runs (2 or 3) and the source that woke it (R93). -/
  wakeStep : Nat := 2
  wakeSrc : Nat := 0
  deriving DecidableEq, Repr

/-! ### Control port and key slots (chapter 05) -/

/-- A key slot's content: the algorithm (1 AES-128-GCM, 2 AES-256-GCM), key words and salt words. -/
structure Key where
  alg : Nat
  words : List Word
  deriving DecidableEq, Repr

/-- A retrieval page buffer: the page's words and its sequence number. -/
structure PageBuf where
  words : List Word
  pseq : Nat
  deriving DecidableEq, Repr

/-- A running long operation (Table 5.6) and the operands it was given. -/
structure LongOp where
  id : Nat
  arg : Nat
  since : Nat
  deriving DecidableEq, Repr

/-- The control port and the key store. -/
structure CtlPort where
  lastCode : Nat := 0
  lastTag : Nat := 0
  newStart : Bool := true
  op : Option LongOp := none
  /-- The last long operation to end; 0 if none has run since reset. -/
  lastOp : Nat := 0
  opCode : Nat := 0
  opResId : Nat := 0
  opMs : Nat := 0
  /-- The words the engine returned on CP_MISO in the last transaction. -/
  miso : List Word := []
  /-- Filled retrieval page buffers, the held page first (R111), and the offset after the last word delivered. -/
  pages : List PageBuf := []
  pageNext : Nat := 0
  stage : List Word := []
  kcv : Nat := 0
  keys : List (Nat × Key) := []
  keyLast : Nat := 0
  /-- Port errors counted since CP_ERRCNT was last read, and whether 0x1FD was raised for them (R122). -/
  errs : Nat := 0
  errRaised : Bool := false
  deriving DecidableEq, Repr

/-! ### Non-volatile memory -/

/-- The NOR flash: the start-journal region (two sectors of 16 slots, R98) with its next slot, and the fault-journal ring (8192
slots of 8 words, R138). DESIGN CHOICE (notes/assumptions/4.md). -/
structure Nor where
  startRing : List NorSlot := List.replicate 32 .erased
  startSlots : Nat := 0
  startErase : Bool := false
  ring : Store := []
  ringNext : Nat := 0
  ringSeq : Nat := 0
  /-- The slot of the latest record (GUT_JSEL counts back from it). -/
  ringLast : Nat := 0
  ringCount : Nat := 0
  /-- Sector of the fault ring whose background erase is pending (R138, R539). -/
  ringErase : Option Nat := none
  /-- Slots of the ring that were programmed without leaving a valid record (R138, R539). -/
  ringBad : List Nat := []
  deriving DecidableEq, Repr

/-! ### Output pins (Table 24.4) -/

/-- The switches of a bridge (Table 12.1): all off, driving the load one way or the other, or both low-side switches on. -/
inductive Drive where
  | off | forward | reverse | slow
  deriving DecidableEq, Repr

/-- The levels of the output pins that the state fixes: 1 for high, on or driven active as the name says. -/
structure Pins where
  irqAN : Bool := false
  irqBN : Bool := false
  powerFailN : Bool := true
  heater : Bool := false
  headSupply : Bool := false
  hbus : Bool := false
  v33Out : Bool := false
  /-- HP drives its RGMII transmit pins as the switch says; otherwise they are low. -/
  hpTx : Bool := false
  /-- UuDE, and the switches of A0 to A3. -/
  de : List Bool := [false, false, false, false]
  bridges : List Drive := [.off, .off, .off, .off]
  /-- The boost charger: the most it may draw from the bus in mW, what of it reaches VBST in µW, and the bleed's draw from VBST in
  µW (R242). -/
  chargeMw : Nat := 0
  chargeUw : Nat := 0
  bleedUw : Nat := 0
  /-- The codes that BIASn and IREFn put out, 0 for off, and the trim words they go through (R282). -/
  bias : List (Nat × Word) := [(0, 0x40000000), (0, 0x40000000), (0, 0x40000000), (0, 0x40000000)]
  iref : List (Nat × Word) := [(0, 0x40000000), (0, 0x40000000), (0, 0x40000000), (0, 0x40000000)]
  deriving DecidableEq, Repr

/-! ### The Vat (chapter 07) -/

/-- The five states of a thread. -/
inductive ThState where
  | stopped | running | waiting | trapped | halted
  deriving DecidableEq, Repr

/-- What a waiting thread waits for: a frame point, a shingle, a gutter event (with the instant of its time-out in
running ticks), its timer, or its access to the register bus, which is over within its instruction. Register numbers say where
the answer goes. DEDUCED (notes/assumptions/22.md). -/
inductive VWait where
  | frame (rd ctx pt : Nat)
  | shingle (rd ctx : Nat)
  | event (rd ra : Nat) (limit : Option Nat)
  | timer (rd : Nat)
  | bus
  deriving DecidableEq, Repr

/-- A Vat thread. Instants are in running ticks (`upTicks`). -/
structure Thread where
  state : ThState := .stopped
  pc : Nat := 0
  /-- V0 to V15; V0 stays zero. -/
  regs : List Word := List.replicate 16 0
  lastCode : Nat := 0
  ctx : Nat := 0
  wait : Option VWait := none
  /-- The timer: its period (0 disarmed), mode, next expiry, expiries not yet taken. -/
  period : Nat := 0
  periodic : Bool := false
  expiry : Nat := 0
  missed : Nat := 0
  inTrap : Bool := false
  cause : Nat := 0
  nested : Bool := false
  epc : Nat := 0
  tword : Word := 0
  /-- R152: the thread has been started; occurrence count and latest frame number by 4 · context + point. -/
  started : Bool := false
  counts : List (Nat × (Nat × Nat)) := []
  /-- YIELD: the threads that were eligible and have yet to issue (R144). -/
  yieldFor : List Nat := []
  /-- Issued by STEP: Stopped after this instruction. -/
  stepping : Bool := false
  /-- PTP time [63:32] latched by RDT (Table 7.4). -/
  ptpHi : Word := 0
  deriving DecidableEq, Repr

/-- An installed image (VAT_IMG0, VAT_IMG1). -/
structure VImage where
  origin : Nat
  keySlot : Nat
  dataWords : Nat
  codeWords : Nat
  serial : Word
  deriving DecidableEq, Repr

/-- The Vat machine: memories, threads, staging, NOR image slots A and B (a slot with `none` holds no complete image). -/
structure Vat where
  pm : Store := []
  dm : Store := []
  threads : List Thread := List.replicate 8 {}
  lastIssued : Nat := 7
  img : Option VImage := none
  staging : Store := []
  /-- A CHECK has run since the last bulk write, so the next one clears the staging first (R163). -/
  checked : Bool := false
  /-- The staging still holds the image that the last successful CHECK installed (R166). -/
  stagedIsInstalled : Bool := false
  slotA : Option (List Word) := none
  slotB : Option (List Word) := none
  storeBusy : Bool := false
  storeFail : Bool := false
  /-- The slot being written: 2 for A, 3 for B. -/
  storeSlot : Nat := 0
  storeWords : List Word := []
  /-- The slot that step 8 passed at this start, if any (2 A, 3 B), and its verified image. -/
  step8 : Option Nat := none
  deriving DecidableEq, Repr

/-! ### Tables (chapter 09) -/

/-- Bank states (Table 9.4). -/
inductive BankSt where
  | empty | staging | valid | active | retiring | press
  deriving DecidableEq, Repr

/-- A bank: its state, payload words, and the header fields kept in the directory. -/
structure Bank where
  st : BankSt := .empty
  words : Store := []
  n : Nat := 0
  w : Nat := 0
  h : Nat := 0
  serial : Word := 0
  deriving DecidableEq, Repr

/-- A table: its two banks, HELD, the bank that is or was ACTIVE, and what a pending swap still waits for (R193): the
contexts that have not moved, and the older frames in flight as (context, frame number). -/
structure Table where
  b0 : Bank := {}
  b1 : Bank := {}
  held : Bool := false
  act : Nat := 0
  swapPend : Bool := false
  wait : List Nat := []
  old : List (Nat × Nat) := []
  deriving DecidableEq, Repr

/-- The table store and the statistics rings. -/
structure Tables where
  tabs : List (Nat × Table) := []
  isOpen : Bool := false
  /-- The table being staged, or last staged (LTBL). -/
  ltbl : Nat := 0
  image : Store := []
  /-- Statistics slots by 64 · context + slot (R197). -/
  rings : List (Nat × List Word) := []
  /-- T of the DRAM-stack node at the last training, in cK (TBL_DRAM.DRIFT_K). -/
  trainCk : Nat := 0
  retrains : Nat := 0
  /-- RETRAIN is draining: intake accepts no frame start (R198). -/
  draining : Bool := false
  /-- Its third step: encoder, egress, analysis and Cellar do without the DRAM (R198). -/
  suspended : Bool := false
  deriving DecidableEq, Repr

/-! ### Rendering (chapter 16) -/

/-- A thermal mapping: the frame it was built from, the filtered window in 1/256 count, the mapping M (plateau mode), and
the number of pixels counted (R333 to R336). -/
structure AgcMap where
  src : Nat
  llo : Int
  lhi : Int
  m : List Nat
  n : Nat
  deriving DecidableEq, Repr

/-- A pixel of an overlay store: the top bytes of R, G and B, a, and the isotherm flag (R348). -/
structure OvlPx where
  r : Nat
  g : Nat
  b : Nat
  a : Nat
  iso : Bool
  deriving DecidableEq, Repr

/-- A complete overlay buffer. -/
structure OvlBuf where
  fn : Nat
  w : Nat
  h : Nat
  raw14 : Bool
  synth : Bool
  stampS : Nat
  stampNs : Nat
  px : List OvlPx
  deriving DecidableEq, Repr

/-- Rendering of one context: the complete mapping, builds in progress (oldest first), the status of the last frame, and the overlay
store with its newest complete buffer. `fuse` is 0 before the first frame, 1 after a frame with an overlay, 2 after one without;
`applied` the frame number at whose start the settings were last applied, until a fused frame has been judged since (R349). -/
structure Rnd where
  map : Option AgcMap := none
  builds : List AgcMap := []
  /-- The next build is an initial build (R335). -/
  initNext : Bool := true
  hold : Bool := false
  lo : Nat := 0
  hi : Nat := 0
  src : Nat := 0
  ovlOk : Bool := false
  fuse : Nat := 0
  applied : Option Nat := none
  bufs : List (Option OvlBuf) := List.replicate 4 none
  newest : Option Nat := none
  deriving DecidableEq, Repr

/-- Rendering: contexts, the published warp grids, and the publishes that wait (R350). -/
structure Render where
  ctxs : List Rnd := List.replicate 8 {}
  grids : List (Option (List Word)) := [none, none]
  pubPend : List Bool := [false, false]
  deriving DecidableEq, Repr

/-! ### Contexts, frames and the pipeline (chapter 08) -/

/-- Context states (R173). -/
inductive CtxSt where
  | off | on | stopping
  deriving DecidableEq, Repr

/-- An accepted frame in the pipeline: its number, geometry, data kind (0 RAW14, 1 RAW10, 2 RAW12), the lines that have
arrived (repairs included), the run count, the values it started with (CW words and tables), its stamp and telemetry. -/
structure Frame where
  fn : Nat
  w : Nat
  h : Nat
  kind : Nat
  shingle : Bool
  hs : Nat
  rows : List (List Nat) := []
  /-- The instants (ticks) at which the lines arrived, and that of the END point (R184). -/
  lineAt : List Nat := []
  endAt : Nat := 0
  repairs : Nat := 0
  ended : Bool := false
  runsDone : Nat := 0
  bank : Store
  tabs : List (Nat × Table)
  head : Option Nat
  stampS : Nat
  stampNs : Nat
  ts : Nat := 0
  tsOk : Bool := false
  rate : Int := 0
  rateOk : Bool := false
  tf : Nat := 0
  tfOk : Bool := false
  /-- Its START fell while a press of its head was in progress (R302). -/
  press : Bool := false
  /-- It is blind within a sun press (R324); the press state and RES at its START (R330); B of its context then (R310). -/
  sun : Bool := false
  pst : Nat := 0
  pres : Nat := 0
  nucB : Int := 0
  /-- It is written to the overlay store (R348), and the warp grid in force at its START (R350). -/
  ovl : Bool := false
  grid : Option (List Word) := none
  /-- Its first run has started; then: the mapping it uses (R338), and the overlay buffer it pins as (context, buffer) (R348). -/
  begun : Bool := false
  agc : Option AgcMap := none
  pin : Option (Nat × Nat) := none
  /-- The output ports that were ON at its START, and the mask groups in force then: polygons and versions (R359, R360). -/
  ports : List Nat := []
  masks : List (List (List (Nat × Nat)) × Nat) := []
  /-- At its first line the context's previous analysis had not completed (R379). -/
  anaSkip : Bool := false
  deriving DecidableEq, Repr

/-- A context. -/
structure Ctx where
  st : CtxSt := .off
  enPend : Bool := false
  armed : Bool := false
  fnum : Nat := 0
  w : Nat := 0
  h : Nat := 0
  line : Nat := 0
  fper : Nat := 0
  frames : List Frame := []
  deriving DecidableEq, Repr

/-- The run in the pipeline: context, frame number, shingle index, and the thirds of pipeline clocks it had executed at the instant
`since` (ticks): its start, or the last change between Run and Eaves (R176). -/
structure Run where
  ctx : Nat
  fn : Nat
  idx : Nat
  since : Nat
  did : Nat := 0
  deriving DecidableEq, Repr

/-- The contexts and the pipeline scheduler. -/
structure Sched where
  ctxs : List Ctx := List.replicate 8 {}
  run : Option Run := none
  lastServed : Nat := 7
  u1000 : Nat := 0
  utilOver : Bool := false
  roundOver : Bool := false
  lastLat : List Nat := List.replicate 8 0
  deriving DecidableEq, Repr

/-! ### Sensor intake (chapter 13) -/

/-- Observed head states (Table 13.4). -/
inductive HeadObs where
  | absent | idle | resync | streaming
  deriving DecidableEq, Repr

/-- A substrate sample of R281: the converted value and whether its result was usable and no older than 20 ms. -/
structure SubSample where
  ck : Nat
  ok : Bool
  deriving DecidableEq, Repr

/-- A frame being received on a head's VC: whether it has a START point and was accepted, its expected geometry, the next
line slot, the width of the lines (of line 0, for a resync frame), whether it has broken. -/
structure RxFrame where
  fn : Nat
  started : Bool
  accepted : Bool
  resync : Bool
  w : Nat
  h : Nat
  next : Nat := 0
  broken : Bool := false
  /-- Lines lost to receiver overflow were reported (R291). -/
  ovf : Bool := false
  /-- Lines repaired (R268). -/
  repairs : Nat := 0
  deriving DecidableEq, Repr

/-- A sensor head. `geomW`/`geomH` is the geometry adopted from the resync frame; `last` the last mismatching geometry. -/
structure Head where
  obs : HeadObs := .absent
  dis : Bool := false
  disKind : Nat := 0
  linked : Bool := false
  tsOk : Bool := false
  rateOk : Bool := false
  tfOk : Bool := false
  fnMax : Nat := 65535
  fHigh : Nat := 0
  fLast : Option Nat := none
  geomW : Nat := 0
  geomH : Nat := 0
  mismatch : Option (Nat × Nat) := none
  stampS : Nat := 0
  stampNs : Nat := 0
  ts : Nat := 0
  rate : Int := 0
  tf : Nat := 0
  samples : List SubSample := []
  rx : Option RxFrame := none
  /-- The instant of the last packet on the VC while EN = 0 (R277). -/
  stray : Option Nat := none
  /-- BIAS and IREF words in force, and whether a newer one is pending (R283). -/
  bias : Word := 0
  biasPend : Bool := false
  iref : Word := 0
  irefPend : Bool := false
  deriving DecidableEq, Repr

/-- Who pushed an I2C command, for the return of its result (R285): 8 the control port, else the Vat thread. -/
structure I2cEntry where
  master : Nat
  cmd : Word
  wdata : Word
  done : Bool := false
  status : Nat := 0
  rdata : Word := 0
  deriving DecidableEq, Repr

/-- The generator of C6 or C7: replay buffer, the frame it is playing and its next line. -/
structure XGen where
  buf : Store := []
  rx : Option RxFrame := none
  deriving DecidableEq, Repr

/-- Sensor intake. -/
structure Intake where
  heads : List Head := List.replicate 6 {}
  linkUp : Bool := false
  deskewOk : Bool := false
  deskewMissing : Bool := false
  /-- VC values reported as unmapped, and the packets discarded as unmapped (R266). -/
  vcSeen : List Nat := []
  unmapped : Nat := 0
  i2c : List I2cEntry := []
  /-- INT_I2CRDATA of each reader: the read data of the result last taken. -/
  i2cRdata : List Word := List.replicate 9 0
  gens : List XGen := [{}, {}]
  deriving DecidableEq, Repr

/-! ### Trims (chapter 10) -/

/-- The trims: words in force, values deferred under R212, nominal and stale bits, the loaded record and the one held for
step 12. -/
structure Trims where
  vals : List Word := List.replicate 16 0x40000000
  deferred : List (Nat × Word) := []
  nominal : Nat := 0
  stale : Nat := 0
  tFull : Nat := 0
  fullBusy : Bool := false
  fullAborted : Bool := false
  refFault : Bool := false
  src : Nat := 0
  pendRestore : Bool := false
  load : Option (List Word) := none
  held : Option (List Word) := none
  fullSeq : Nat := 0
  /-- Since when HKIN25 has shown the sense voltage outside its band (R204). -/
  refBad : Option Nat := none
  /-- The CRC over REF_TRIM0–15, REF_NOMINAL and T_FULL (R214); its value for the reset words. -/
  crc : Nat := 1716314295
  /-- Consecutive rejections of each item (R209). -/
  rejects : List Nat := List.replicate 16 0
  deriving DecidableEq, Repr

/-! ### Housekeeping converters (chapter 11) -/

/-- A run in progress: the entries, windows and trim it started with, the next entry, its number, and whether the entries
that remain carry SHIFT. -/
structure HkRun where
  ents : List Word
  wins : List Word
  len : Nat
  trim : Word
  next : Nat := 0
  num : Nat
  shift : Bool := false
  deriving DecidableEq, Repr

/-- One converter. `slot` counts conversion periods since the last ripening slot (R228); `suspect` how many of the next
conversions are SUSPECT (R231); `ovrAt` the end of the last conversion that set OVR (R231); `idleAt` the instant since which the
converter has been idle (R228). -/
structure HkConv where
  trig : Word
  per : Word
  trigNew : Bool := false
  delaying : Bool := false
  run : Option HkRun := none
  runs : Nat := 0
  slot : Nat := 0
  suspect : Nat := 0
  ovrAt : Option Nat := none
  idleAt : Nat := 0
  ripening : Bool := false
  urgent : Option (Nat × Bool) := none
  urgQueue : List Nat := []
  /-- Window states: 0 INSIDE, 1 ABOVE, 2 BELOW; and entries whose state returns to INSIDE at the next run start. -/
  wstate : List Nat := List.replicate 16 0
  touched : List Nat := []
  /-- Low-power mode in force. -/
  lp : Bool := false
  deriving DecidableEq, Repr

/-- The last result of an input that carries none of SUSPECT, DIAG and OVR: code and instant. -/
structure HkLast where
  code : Nat
  at_ : Nat
  deriving DecidableEq, Repr

/-- The housekeeping converters. -/
structure Hk where
  convs : List HkConv := [{ trig := 0x20000000, per := 100 }, { trig := 0x20000000, per := 1000 }, { trig := 0, per := 1000 }]
  last : List (Nat × HkLast) := []
  stale : Nat := 0
  /-- Inputs whose injection has started, changed its code or ended of late, and when (R235). -/
  settle : List (Nat × Nat) := []
  deriving DecidableEq, Repr

/-! ### Actuators (chapter 12) -/

/-- Channel states (Table 12.2). -/
inductive ActSt where
  | idle | run | decay
  deriving DecidableEq, Repr

/-- A copy of a profile: its number, header, phase words, and the KI captured with it (R251). -/
structure Profile where
  num : Nat := 0
  hdr : Word := 0
  phs : List Word := []
  ki : Nat := 0
  deriving DecidableEq, Repr

/-- An actuator channel. -/
structure Chan where
  st : ActSt := .idle
  prof : Profile := {}
  pend : Option Profile := none
  /-- The profile has begun at a period start. -/
  started : Bool := false
  phase : Nat := 0
  /-- PWM periods since the phase began. -/
  periods : Nat := 0
  d : Int := 0
  /-- The duty of the PWM period in progress, the instants it began and its off-time began, and whether its on-time is still in
  progress (R245). -/
  dNow : Int := 0
  perAt : Nat := 0
  offAt : Nat := 0
  driving : Bool := false
  /-- A profile has ended in the PWM period in progress (R255). -/
  endedNow : Bool := false
  /-- End of stroke (R249): T reached, detection armed, peak, dip seen, minimum, end detected. -/
  reached : Bool := false
  armed : Bool := false
  peakP : Int := 0
  dip : Bool := false
  minQ : Int := 0
  ended : Bool := false
  /-- LASTT in mA, consecutive samples below the threshold, periods of the open-load test. -/
  lastT : Nat := 0
  below : Nat := 0
  openRun : Nat := 0
  /-- The decay mode of DECAY (Table 12.1). -/
  decayMode : Nat := 1
  /-- The bridge's own sample of this period, until its pair's has come too. -/
  raw : Option Int := none
  /-- An urgent request is due in this period (R246). -/
  reqDue : Bool := false
  iMa : Int := 0
  lastRes : Nat := 0
  bnr : Bool := false
  decayTo : Bool := false
  stall : Bool := false
  isOpen : Bool := false
  oc : Bool := false
  stroke : Nat := 0
  peakMa : Nat := 0
  deriving DecidableEq, Repr

/-- The actuators: channels, clamp, and VBST in mV as a result of HKIN12, ACT_CLAMP or CHARGER_AT_VSET last told it (R242, R243). -/
structure Act where
  chans : List Chan := List.replicate 4 {}
  clamp : Bool := false
  vbst : Nat := 0
  deriving DecidableEq, Repr

/-! ### Raw denoise (chapter 14) -/

/-- The temporal state of a context: the frame that wrote it, its geometry and its values in raster order (R300). -/
structure DnrState where
  fn : Nat
  w : Nat
  h : Nat
  vals : List Nat
  /-- The telemetry latched with that frame (R324). -/
  ts : Nat := 0
  tsOk : Bool := false
  rate : Int := 0
  rateOk : Bool := false
  deriving DecidableEq, Repr

/-- Denoise of one context: its state, the STAT flags, and the frame starts that fell within a press since the state. -/
structure Dnr where
  st : Option DnrState := none
  bypass : Bool := false
  frozen : Bool := false
  pressFns : List Nat := []
  deriving DecidableEq, Repr

/-! ### Non-uniformity correction and the press (chapter 15) -/

/-- Correction of one context: the flags of its last frame, the flag reference B and the one that waits for the press's
bank, the saturation bitmaps by epoch (pixel numbers, rising), the counts of the last frame. -/
structure Nuc where
  bypass : Bool := false
  synth : Bool := false
  radClamp : Bool := false
  tsOld : Bool := false
  b : Int := 0
  bNext : Option Int := none
  epochs : List (Nat × List Nat) := []
  sat : Nat := 0
  hotBlk : Nat := 0
  deriving DecidableEq, Repr

/-- Press states (Table 15.1). -/
inductive PressSt where
  | idle | due | closing | capture | opening | sun | probe
  deriving DecidableEq, Repr

/-- What a press has gathered of one pixel: sum, least and greatest x4, and whether it was 0x0000 or 0xFFFC in any and in
every capture frame. -/
structure PixAcc where
  sum : Nat
  mn : Nat
  mx : Nat
  anyS : Bool
  allS : Bool
  deriving DecidableEq, Repr

/-- Telemetry latched with a capture frame. -/
structure CapFrame where
  fn : Nat
  ts : Nat
  rate : Int
  rateOk : Bool
  tf : Nat
  tfOk : Bool
  deriving DecidableEq, Repr

/-- The press of one thermal head. -/
structure Press where
  st : PressSt := .idle
  reason : Nat := 0
  lastRes : Nat := 0
  goLate : Bool := false
  blocked : Bool := false
  sunM : Nat := 0
  blind : Nat := 0
  capt : Nat := 0
  /-- Blind frame 0 has been chosen and blind time has not ended (R318); or the next accepted frame is to be it (R317). -/
  active : Bool := false
  waitBlind : Bool := false
  /-- The result that the press in progress has so far. -/
  result : Nat := 0
  /-- A FIRE of PCLOSE accepted since DUE has not ended (R317); GO was accepted while it was still pending in DECAY (R19). -/
  fired : Bool := false
  waitFire : Bool := false
  /-- The NUC table whose bank the press is writing (R322, R325). -/
  table : Option Nat := none
  /-- Frame starts in CAPTURE, the frames marked as capture frames that are not yet done, and what was gathered. -/
  capStarts : Nat := 0
  capMarks : List Nat := []
  caps : List CapFrame := []
  acc : List PixAcc := []
  /-- The epochs as they stood at the DONE point of the first capture frame (R311). -/
  epochs : List (Nat × List Nat) := []
  /-- The press learned, and its u1 and RES (R320, R326). -/
  learnt : Bool := false
  u1 : Int := 0
  resP : Nat := 0
  /-- POPEN has ended with result 0 since OPENING (R323). -/
  opened : Bool := false
  newbad : Nat := 0
  learned : Nat := 0
  tsP : Nat := 0
  rateP : Int := 0
  tfP : Nat := 0
  res : Nat := 0
  tsRef : Nat := 0
  learnRef : Option (Nat × Int) := none
  k1 : Nat := 256
  rho : Nat := 0
  /-- The reference point of R314 is still to come. -/
  refPend : Bool := true
  /-- Instants (uptime ticks) of the last press end or reference point, of the last result 0 or reference point, and of
  the last press with result 0. -/
  minAt : Nat := 0
  maxAt : Nat := 0
  okAt : Option Nat := none
  /-- A capture on command is pending (R328). -/
  cmd : Bool := false
  /-- The latest accepted frame that had a hot block; the sun guard's FIRE was refused and is tried again (R312). -/
  hotFn : Option Nat := none
  sunRetry : Bool := false
  /-- In SUN: the opening is due, and POPEN was accepted. In PROBE: frames whose first run had begun before it, the probe
  frames done so far, and whether one had a hot block (R313). -/
  openDue : Bool := false
  openFired : Bool := false
  probeSkip : List Nat := []
  probes : Nat := 0
  probeHot : Bool := false
  deriving DecidableEq, Repr

/-- The corrections by context and the presses by head. -/
structure NucState where
  ctxs : List Nuc := List.replicate 8 {}
  press : List Press := List.replicate 4 {}
  deriving DecidableEq, Repr

/-! ### Output ports and encoder (chapter 17), mask groups (chapter 21) -/

/-- Port states (Table 17.5). -/
inductive PortSt where
  | off | on | draining
  deriving DecidableEq, Repr

/-- An output port. `fresh`: its own pending values wait for the frame start at which it begins (R353); `missed`: the last
frame was not delivered and was reported (R360). -/
structure Port where
  st : PortSt := .off
  enPend : Bool := false
  held : Bool := false
  fnum : Nat := 0
  fresh : Bool := false
  missed : Bool := false
  deriving DecidableEq, Repr

/-- A run of bytes of a packet or a page: given bytes, or bytes `off` to `off + len − 1` of the coded data that a channel made under
the model's number `id`. -/
inductive Seg where
  | lit (b : List Nat)
  | coded (chan id off len : Nat)
  deriving DecidableEq, Repr

/-- A frame on its way through the encoder: its port and identity, the stripes it has, how many are ready, the order and
instant at which each ready one that waits became so, how many are coded, and what was fixed when coding began. -/
structure EncJob where
  port : Nat
  ctx : Nat
  fn : Nat
  w : Nat
  h : Nat
  mgrp : Nat
  synth : Bool
  sun : Bool
  stampS : Nat
  stampNs : Nat
  stripes : Nat
  ready : Nat := 0
  waiting : List (Nat × Nat) := []
  coded : Nat := 0
  begun : Bool := false
  pos : Nat := 0
  layer : Nat := 0
  idr : Bool := false
  refer : Bool := false
  roi : Bool := false
  jpg : Word := 0
  /-- The crop window of the port for this frame: X, Y, W_c, H_c. -/
  crop : Nat × Nat × Nat × Nat := (0, 0, 0, 0)
  deriving DecidableEq, Repr

/-- A coded frame in a ring: its descriptor (Table 17.3), the mask group its port applied (R461), whether it is skippable
(R474), the sizes of its NAL units (of its entropy-coded data for JPEG), the ENC_EnJPG word it was coded
with, and the model's number of its bytes. DESIGN CHOICE (notes/assumptions/8.md). -/
structure Coded where
  desc : List Word
  mgrp : Nat
  skippable : Bool
  nals : List Nat
  jpg : Word
  id : Nat
  deriving DecidableEq, Repr

/-- An encoder channel. `count` counts delivered frames for DECIM; `pos` is the position of the next frame; `last` the number
and size of the last coded frame while ACTIVE; `codedAt` the instants of JPEG frames coded in the last second. -/
structure EncChan where
  count : Nat := 0
  pos : Nat := 0
  idrReq : Bool := false
  idrForce : Bool := true
  snap : Bool := false
  last : Option (Nat × Nat × Nat) := none
  seq : Nat := 0
  jobs : List EncJob := []
  ring : List Coded := []
  /-- The number of the frame last judged at its first stripe. -/
  seen : Option Nat := none
  codedAt : List Nat := []
  /-- The latency of the last coded stripe in µs (ENC_LAT). -/
  lat : Nat := 0
  layer : Nat := 0
  idr : Bool := false
  fnum : Nat := 0
  bytes : Nat := 0
  deriving DecidableEq, Repr

/-- A mask group's active version: its polygons, a version number, and whether it was ever published (R459). -/
structure MaskGroup where
  polys : List (List (Nat × Nat)) := []
  ver : Nat := 0
  act : Bool := false
  deriving DecidableEq, Repr

/-- Output ports, encoder, mask groups. `cur`: the channel whose stripe is in service; `order` numbers ready stripes. -/
structure Outputs where
  ports : List Port := List.replicate 8 {}
  chans : List EncChan := List.replicate 16 {}
  cur : Option Nat := none
  order : Nat := 0
  exceeded : Bool := false
  masks : List MaskGroup := List.replicate 8 {}
  deriving DecidableEq, Repr

/-! ### Analysis (chapter 18) -/

/-- Motion states (Table 18.1). -/
inductive Motion where
  | still | starting | moving | reversing
  deriving DecidableEq, Repr

/-- A step of a matched track (R386): frames it spans, its components per frame in 1/16 pixel, the foot points at its ends
and the PTP instants (ns) of their frames. -/
structure TrkStep where
  df : Nat
  sx : Int
  sy : Int
  x0 : Int
  y0 : Int
  x1 : Int
  y1 : Int
  t0 : Int
  t1 : Int
  deriving DecidableEq, Repr

/-- Membership of an AREA zone: since when (PTP ns), consecutive frames outside, whether its loiter event was raised. -/
structure Member where
  zone : Nat
  since : Int
  out : Nat := 0
  loitered : Bool := false
  deriving DecidableEq, Repr

/-- A track (R384 to R388): `id` 0 while tentative. The foot point with its frame and instant; the last foot point of a
matched frame; sides of LINE zones as (zone, side, foot point at which it was set). -/
structure Track where
  id : Nat := 0
  run : Nat := 0
  coast : Nat := 0
  coasting : Bool := false
  extrap : Bool := false
  x0 : Int
  y0 : Int
  x1 : Int
  y1 : Int
  area : Nat
  fx : Int
  fy : Int
  ffn : Nat
  mx : Int
  my : Int
  mfn : Nat
  mt : Int
  st : Motion := .still
  window : List TrkStep := []
  /-- Consecutive moving frames in STARTING, non-moving frames in MOVING; the reversed steps of REVERSING. -/
  streak : Nat := 0
  back : List TrkStep := []
  stillAt : Int := 0
  dir : Bool := false
  rev : Nat := 0
  heading : Nat := 0
  zones : List Member := []
  sides : List (Nat × Int × Int × Int) := []
  deriving DecidableEq, Repr

/-- Model states (Table 18.3). -/
inductive ModelSt where
  | off | learning | run
  deriving DecidableEq, Repr

/-- A frame in analysis: the port's picture as values v, the excluded pixels, the frame's identity, its CW values,
and its crop window and output size. -/
structure AnaJob where
  port : Nat
  w : Nat
  h : Nat
  fmt : Nat
  v : List Nat
  excluded : List Bool
  fn : Nat
  t : Int
  synth : Bool
  bank : Store
  win : Nat × Nat × Nat × Nat × Nat × Nat
  deriving DecidableEq, Repr

/-- A published zone: its header and vertices. -/
structure Zone where
  kind : Nat := 0
  loiter : Nat := 0
  vs : List (Nat × Nat) := []
  deriving DecidableEq, Repr

/-- The analysis of one context. `fed` is the port, size and format the model was started for; `lastFn` the last analysed
frame; `homog` and `zones` are in force, `zclear` says that the zones were published since the last result; `resHomog`, `hvalid` and
`win` (the crop window and output size, for R372) are the last result's. -/
structure Ana where
  st : ModelSt := .off
  left : Nat := 0
  model : List Nat := []
  started : Bool := false
  fed : Option (Nat × Nat × Nat × Nat) := none
  job : Option AnaJob := none
  lastFn : Option Nat := none
  resFn : Nat := 0
  nextId : Nat := 1
  slots : List (Option Track) := List.replicate 64 none
  occ : Nat := 0
  loit : Nat := 0
  homog : List Int := List.replicate 9 0
  resHomog : List Int := List.replicate 9 0
  hvalid : Bool := false
  zones : List Zone := List.replicate 32 {}
  zclear : Bool := false
  hpend : Bool := false
  zpend : Bool := false
  win : Nat × Nat × Nat × Nat × Nat × Nat := (0, 0, 1, 1, 1, 1)
  deriving DecidableEq, Repr

/-! ### Heat model (chapter 19) -/

/-- The heat model. `nodes` holds the six temperatures in 1/256 cK, `pow` their power inputs in 0.01 mW; `fresh` says that a
fresh diode conversion is still to set the nodes (R403); `td` is T_D; `ambAt` the uptime tick of the last report, `ambMore` what its age has in ticks beyond the time
since; `cool` the
cool-down in seconds of a cut; the island's record words, CUTS, and whether the record is still to be reported; the cut slots
A and B (`none`: erased); the sector left dirty; `eraseSlots` the slots to be erased after hand-over, false for A (R414, R539). -/
structure Heat where
  nodes : List Int := List.replicate 6 0
  pow : List Nat := List.replicate 6 0
  fresh : Bool := true
  fast : Bool := false
  warn : Bool := false
  ask : Bool := false
  enforced : Bool := false
  broken : Nat := 0
  ambAt : Nat := 0
  ambMore : Nat := 0
  td : Option Int := none
  dis : Bool := false
  disRun : Nat := 0
  hoAt : Option Nat := none
  cool : Nat := 0
  cuts : Nat := 0
  lcut : List Word := List.replicate 4 0
  lcutNew : Bool := false
  slotA : Option (List Word) := none
  slotB : Option (List Word) := none
  dirty : Option Nat := none
  eraseSlots : List Bool := []
  deriving DecidableEq, Repr

/-! ### Switch and Velva (chapter 20) -/

/-- A frame in a queue: its bytes without FCS (empty where the model does not follow the content), its length with FCS, the
ingress port (0 CHA, 1 CHB, 2 HP, 3 EGR, 4 VLV) and the PTP instant of its arrival in ns. -/
structure QFrame where
  bytes : List Nat
  len : Nat
  inp : Nat
  tin : Int
  deriving DecidableEq, Repr

/-- A switch port. `linkAt` is the uptime tick of the link's coming up; `tx` the frame being sent and its bits left; `last` the
last frame sent; `obs` the neighbour observed; `delay` the link delay of P2P mode with its exchange in progress (sequence
number, t1, t4 and t2). -/
structure SwPort where
  link : Bool := false
  g1000 : Bool := false
  linkAt : Nat := 0
  rxErr : Nat := 0
  txErr : Nat := 0
  warn : Bool := false
  quar : Bool := false
  blocked : Bool := false
  velvaOnly : Bool := false
  queues : List (List QFrame) := List.replicate 6 []
  tx : Option (QFrame × Nat) := none
  last : List Nat := []
  router : Option Nat := none
  obs : Nat := 0
  obsOk : Bool := false
  obsAt : Nat := 0
  delay : Int := 0
  pdSeq : Nat := 0
  pdT1 : Option Int := none
  pdResp : Option (Int × Int × Int) := none
  deriving DecidableEq, Repr

/-- A correction that waits for a follow-up message: egress and ingress port, type of the event message, its sequenceId,
domain and sourcePortIdentity, the correction in ns. -/
structure TcEntry where
  out : Nat
  inp : Nat
  ty : Nat
  seq : Nat
  dom : Nat
  pid : Nat
  corr : Int
  deriving DecidableEq, Repr

/-- The switch: ports, learnt addresses (MAC, port, uptime tick), multicast groups (MAC, port mask), pending corrections, the
words of the timestamp FIFO. `frac` is the part of a ns the counter's rate has gathered, in 1e-9 ns. -/
structure Switch where
  ports : List SwPort := List.replicate 3 {}
  macs : List (Nat × (Nat × Nat)) := []
  macFull : Bool := false
  groups : List (Nat × Nat) := []
  tcs : List TcEntry := []
  fifo : List Word := []
  frac : Int := 0
  followed : Option Nat := none
  stoppedAt : Nat := 0
  deriving DecidableEq, Repr

/-- A gossip entry (R449): the frame last stored, the uptime ticks of it and of the last frame seen from its origin, and whether
that origin has fallen silent. -/
structure GEntry where
  origin : Nat
  at_ : Nat
  seen : Nat
  silent : Bool
  known : Bool
  ohop : Nat
  hops : Nat
  seq : Nat
  words : List Word
  deriving DecidableEq, Repr

/-- An alarm log entry (VLV_ADATA). -/
structure AEntry where
  origin : Nat
  known : Bool
  ohop : Nat
  hops : Nat
  seq : Nat
  src : Nat
  data : Word
  hi : Word
  lo : Word
  port : Nat
  deriving DecidableEq, Repr

/-- A frame that awaits its HOP_ACK: port, frame, attempts made and allowed (R433). -/
structure Attempt where
  port : Nat
  frame : VFrame
  made : Nat
  max : Nat
  deriving DecidableEq, Repr

/-- An alarm of this unit whose attempts are not over: its SEQ and source, whether an UPLINK port sent it, whether a CHAIN port
was acknowledged (R439). -/
structure AlarmJob where
  seq : Nat
  src : Nat
  up : Bool
  acked : Bool
  deriving DecidableEq, Repr

/-- An entry of the roll-call result (Table 20.7). -/
structure RcEntry where
  origin : Nat
  w2 : Word
  w3 : Word
  deriving DecidableEq, Repr

/-- The Velva engine. `seqs` by type; `beacons` the last BEACON SEQ by origin; `dups` the last 64 by type; `resends` frames to be
repeated on an UPLINK port with the times sent; `beacon`: a BEACON was accepted within UPLINK_T; `word0` the last GOSSIP word 0
sent; `reported` the disagreements already reported (kind, index); `ctlSeq` the search of the last RING_CTL with CLOSED. -/
structure Velva where
  hopValid : Bool := false
  hop : Nat := 0xFF
  topo : Nat := 0
  seqs : List Nat := List.replicate 16 0
  table : List (Nat × GEntry) := []
  alarms : List AEntry := []
  dups : List (Nat × Nat × Nat) := []
  beacons : List (Nat × Nat) := []
  attempts : List Attempt := []
  jobs : List AlarmJob := []
  resends : List (Nat × VFrame × Nat) := []
  beacon : Bool := false
  latchCnt : Nat := 0
  word0 : Option Word := none
  reported : List (Nat × Nat) := []
  ctlSeq : Option Nat := none
  autoRc : Bool := false
  rcBusy : Bool := false
  rcResult : Nat := 0
  rcSeq : Nat := 0
  rcDur : Nat := 0
  rcStart : Nat := 0
  rcLast : Nat := 0
  rc : List (Nat × RcEntry) := []
  rcPrev : List (Nat × RcEntry) := []
  lastSeq : Nat := 0
  deriving DecidableEq, Repr

/-! ### Tenants, sessions, egress (chapter 21) -/

/-- Session states (Table 21.3). -/
inductive SesSt where
  | empty | off | waitIdr | sending | stalled
  deriving DecidableEq, Repr

/-- A frame queued by a session: its channel (16 for a Cellar job) and the number of its coded bytes, the RTP payloads
of the packets still to be sent, its whole wire bits, whether its first packet has left, the key slot it started with, the
instant of its offer, the PTP time of its head frame in ns. -/
structure SFrame where
  chan : Nat
  seq : Nat
  pkts : List (List Seg)
  bits : Nat
  begun : Bool := false
  key : Nat := 0
  at_ : Nat
  ptp : Nat
  deriving DecidableEq, Repr

/-- A session: state, last reason, words 0 to 23 as staged, counters of words 24 to 34, accumulator, queue (oldest first),
whether a withholding has been reported since a frame was queued, the IPv4 identification of the next packet, and whether it goes
OFF with the frame in progress (R462). `roc` may stand at 2^32, which the next packet must not use (R467). -/
structure Session where
  st : SesSt := .empty
  why : Nat := 0
  words : List Word := []
  pkts : Nat := 0
  octets : Nat := 0
  ts : Nat := 0
  ptp : Nat := 0
  seq : Nat := 0
  roc : Nat := 0
  sent : Nat := 0
  skipped : Nat := 0
  withheld : Nat := 0
  stalls : Nat := 0
  acc : Nat := 0
  queue : List SFrame := []
  reported : Bool := false
  ipId : Nat := 0
  offPend : Bool := false
  deriving DecidableEq, Repr

/-- A tenant: its bucket in 1/25000 bit at uptime tick `tokAt`, RATE and BKT in effect, wire bits offered and their skippable
part since the last tick, skip ratio, deficit. -/
structure Tenant where
  tok : Int := 0
  tokAt : Nat := 0
  rate : Nat := 8000
  depth : Nat := 1000
  weight : Nat := 1
  o : Nat := 0
  k : Nat := 0
  r : Nat := 0
  deficit : Nat := 0
  deriving DecidableEq, Repr

/-- A picture on its way to the host (R471): port, frame and what is left to send. -/
structure HostJob where
  port : Nat
  ctx : Nat
  fmt : Nat
  synth : Bool
  sun : Bool
  fn : Nat
  w : Nat
  h : Nat
  bytes : List Nat
  off : Nat := 0
  deriving DecidableEq, Repr

/-- The egress engine. The bucket is in 1/25000 bit; `cls` holds, by class, the bits sent since the last tick, those of the tick
before, OVER, the tenant in service and whether it has had its quantum; `index` the index records by key slot (R469); `stage` the
staged entry; `last` the bytes of the last packet sent; `lastHost` the last host-stream frame; `hostMissed` by port. -/
structure Egress where
  tok : Int := 1600000000
  tokAt : Nat := 0
  sessions : List (Nat × Session) := []
  tenants : List (Nat × Tenant) := []
  sentNow : List Nat := [0, 0, 0]
  sentLast : List Nat := [0, 0, 0]
  exceeded : List Bool := [false, false, false]
  turn : List (Nat × Bool) := [(0, false), (0, false), (0, false)]
  index : List (Nat × List (Nat × Nat)) := []
  stage : Option (List Word) := none
  host : List HostJob := []
  hostMissed : List Bool := List.replicate 8 false
  hostSkip : List (Nat × Nat) := []
  last : List Nat := []
  lastHost : List Nat := []
  deriving DecidableEq, Repr

/-! ### Cellar (chapter 22) -/

/-- States of a medium (R478). -/
inductive MedSt where
  | absent | opening | ready | full | unformatted | failed | off
  deriving DecidableEq, Repr


/-- A record before it is cut into fragments (Table 22.7). -/
structure CRec where
  ty : Nat
  w1 : Word
  hi : Word
  lo : Word
  body : List Seg
  deriving DecidableEq, Repr

/-- A data page (Table 22.6): its number, payload runs, FIRST_OFF and the frame number there, LAST and PF, and how many frame
records begin in it. -/
structure CPage where
  num : Nat
  segs : List Seg := []
  firstOff : Nat := 0xFFF
  fn : Word := 0
  last : Bool := false
  pf : Bool := false
  frames : Nat := 0
  deriving DecidableEq, Repr

/-- A wheel: the fields of its index entry (Table 22.4) and header page (Table 22.5; `hdrFn` its first frame number), the pages written,
and the frames recorded, each with the number of the page it ends in
in it. `npages` is PAGES of the index entry; `foreign` says that its pages came with the card. -/
structure Wheel where
  st : Nat := 0
  prot : Bool := false
  hosted : Bool := false
  alarm : Bool := false
  gap : Bool := false
  causes : Nat := 0
  chan : Nat := 0
  ctx : Nat := 0
  npages : Nat := 0
  wseq : Nat := 0
  fn0 : Nat := 0
  fn1 : Nat := 0
  t0 : Nat := 0
  t1 : Nat := 0
  writes : Nat := 0
  origin : Nat := 0
  codec : Nat := 0
  mgrp : Nat := 0
  openHi : Word := 0
  openLo : Word := 0
  openCauses : Nat := 0
  hdrFn : Nat := 0
  pages : List CPage := []
  frames : List (Nat × Coded) := []
  foreign : Bool := false
  deriving DecidableEq, Repr

/-- A medium: state, layout, health, its wheels that are not free, the wheel last opened, WSEQ, failures in a row. -/
structure Medium where
  st : MedSt := .absent
  nw : Nat := 0
  capMiB : Nat := 0
  wrate : Nat := 0
  preEol : Nat := 0
  lifeA : Nat := 0
  lifeB : Nat := 0
  eolTold : Bool := false
  format : Nat := 0
  fmtUnit : Nat := 0
  fmtHi : Word := 0
  fmtLo : Word := 0
  wheels : List (Nat × Wheel) := []
  lastOpen : Option Nat := none
  wseq : Nat := 0
  fails : Nat := 0
  deriving DecidableEq, Repr

/-- What waits to be written: a page, or the close of the wheel with its state. -/
inductive COut where
  | page (p : CPage)
  | close (st : Nat) (gap : Bool)
  deriving DecidableEq, Repr

/-- What a share holds: a coded frame, or a marker (SRC, DATA, time of the dispatch). -/
inductive CItem where
  | frame (c : Coded)
  | marker (src : Nat) (data hi lo : Word)
  deriving DecidableEq, Repr

/-- The origin's side of a buddy stream: port, whether ACCEPT has come, whether it ends once its bytes are acknowledged, ports ruled out at this IDR frame, bytes not yet sent,
frames waiting for their turn and frames not acknowledged with the attempts made. -/
structure BuddyOut where
  port : Nat
  accepted : Bool := false
  closing : Bool := false
  ruled : List Nat := []
  bytes : List Nat := []
  unacked : List (VFrame × Nat) := []
  deriving DecidableEq, Repr

/-- A recorded stream. `dest` is WHERE of CEL_ReSTAT; `wheel` the open wheel (medium, number); `buf` the page being filled; `out`
what waits to be written and in which wheel; `await` the reason for which frames are left out up to the next IDR frame, `left` their number;
`waitIdr` that nothing is recorded before the next IDR frame; `owed` the records that go in front of the next frame; `held` the frames that wait for a buddy's answer. -/
structure CelStream where
  share : List CItem := []
  recording : Bool := false
  causes : Nat := 0
  alarm : Bool := false
  dest : Nat := 0
  wheel : Option (Nat × Nat) := none
  kind : Nat × Nat × Nat := (0, 0, 0)
  buf : CPage := { num := 1 }
  out : List (Nat × Nat × COut) := []
  await : Option Nat := none
  left : Nat := 0
  waitIdr : Bool := false
  owed : List CRec := []
  lost : Bool := false
  buddy : Option BuddyOut := none
  held : List Coded := []
  deriving DecidableEq, Repr

/-- A hosted buddy stream: port, origin, BID and channel, its wheel, the bytes not yet in a page, whether its wheel
has no frame yet, what waits to be written. -/
structure Hosted where
  port : Nat
  origin : Nat
  bid : Nat
  chan : Nat
  wheel : Nat × Nat
  bytes : List Nat := []
  num : Nat := 1
  fresh : Bool := true
  out : List (Nat × Nat × COut) := []
  deriving DecidableEq, Repr

/-- The control-port retrieval job: state and end, medium, wheels still to go, the next page of the first of them. -/
structure RetJob where
  st : Nat := 0
  fin : Nat := 0
  med : Nat := 0
  wheels : List Nat := []
  page : Nat := 0
  pseq : Nat := 0
  jumps : Nat := 0
  stallTold : Bool := false
  deriving DecidableEq, Repr

/-- A network job: state and end, the wheel it is in and how many of its frames it has passed, the last frame number sent. -/
structure NetJob where
  st : Nat := 0
  fin : Nat := 0
  wheel : Option Nat := none
  pos : Nat := 0
  fnum : Nat := 0
  begun : Bool := false
  deriving DecidableEq, Repr

/-- The Cellar. `rx` holds, by chain port, the next BUDDY_DATA SEQ expected and the frames kept out of order; `tx` the next SEQ sent
on a port; `fmt` the medium being formatted; `card` that a microSD card is inserted.
DESIGN CHOICE (notes/assumptions/4.md). -/
structure Cellar where
  media : List Medium := [{}, {}]
  streams : List CelStream := List.replicate 16 {}
  hosted : List Hosted := []
  ret : RetJob := {}
  jobs : List NetJob := List.replicate 8 {}
  rx : List (Option Nat × List (Nat × VFrame)) := [(none, []), (none, [])]
  tx : List Nat := [0, 0]
  pf : Bool := false
  card : Bool := false
  fmt : Option Nat := none
  deriving DecidableEq, Repr

/-! ### Serial ports (chapter 23) -/

/-- A UART. FIFO entries have the layout of UART_nRX; `tx` is the character being sent with the UART_nCFG word it started with;
`wait`: the next character waits for TURN_END; `quiet`: TURN bit times have passed since the receiver's last stop bit; `de` the
driver enable of automatic mode; `drops`: a character was dropped since the last one stored; `idleTold`: no idle event is due;
`line`: how many characters of a report line have not been sent yet (R139). -/
structure Uart where
  rx : List Word := []
  txq : List Nat := []
  tx : Option (Nat × Word) := none
  wait : Bool := false
  quiet : Bool := true
  de : Bool := false
  drops : Bool := false
  idleTold : Bool := true
  line : Nat := 0
  deriving DecidableEq, Repr


/-- The whole state of the engine. -/
structure State where
  /-- Commands waiting, first in, first out. -/
  pending : List Instr := []
  /-- The register file: values of RW, W1C, RC and result fields, and the pending bank of CW fields. -/
  regs : Store := []
  /-- The CW values in force (R7, R171), by register address. -/
  inForce : Store := []
  /-- Peripheral-clock ticks of 40 ns since the always-on supply came up. -/
  time : Nat := 0
  /-- Ticks since reset release on the peripheral clock (ID_UPTIME). -/
  upTicks : Nat := 0
  /-- The model's own: how many free values have been drawn (DESIGN CHOICE, see the assumption log). -/
  draws : Nat := 0
  /-- PTP time of day: seconds and nanoseconds (R425). -/
  ptpS : Nat := 0
  ptpNs : Nat := 0
  /-- The register bus's answer to the last access: its data words and its code. -/
  busData : List Word := []
  busCode : Code := .ok
  gut : Gutter := {}
  pwr : Power := {}
  clk : Clock := {}
  start : Start := {}
  cp : CtlPort := {}
  nor : Nor := {}
  vat : Vat := {}
  tbl : Tables := {}
  sch : Sched := {}
  int : Intake := {}
  trm : Trims := {}
  hk : Hk := {}
  act : Act := {}
  dnr : List Dnr := List.replicate 8 {}
  nuc : NucState := {}
  rnd : Render := {}
  out : Outputs := {}
  ana : List Ana := List.replicate 8 {}
  heat : Heat := {}
  sw : Switch := {}
  vlv : Velva := {}
  egr : Egress := {}
  cel : Cellar := {}
  uart : List Uart := List.replicate 4 {}
  pins : Pins := {}
  deriving DecidableEq, Repr

/-- The machine right after a power-on reset (R13, R76): start-up step 1, no input valid, every register at its reset
value, memories cleared, nothing pending.
DESIGN CHOICE (notes/assumptions/3.md), DESIGN CHOICE (notes/assumptions/4.md). -/
def State.reset : State := { clk := { lfdly := Config.lfdlyStrap % 4 } }

end Sys2Proof.Machine
end

