-- ==== Sys2Proof/Machine/Ops.lean ====
section
/-! DEFINITION. The named operations over the register file, the gutter (chapter 06) and the levels that
the output pins follow. -/

namespace Sys2Proof.Machine

/-! ### The register file -/

/-- The word a register holds (for a CW register, its pending value). -/
def State.reg (s : State) (a : Nat) : Word := memGet resetWord s.regs a

/-- The state after register `a` takes word `v`. -/
def State.setReg (s : State) (a : Nat) (v : Word) : State := { s with regs := memPut resetWord s.regs a v }

/-- A field of a register. -/
def State.fld (s : State) (a hi lo : Nat) : Nat := bits (s.reg a) hi lo

/-- A one-bit field of a register. -/
def State.flag (s : State) (a n : Nat) : Bool := bit (s.reg a) n

/-- The state after a field takes a value. -/
def State.setFld (s : State) (a hi lo v : Nat) : State := s.setReg a (putBits (s.reg a) hi lo v)

/-- The CW word in force (R7, R171). -/
def State.cw (s : State) (a : Nat) : Word := memGet resetWord s.inForce a

/-- A field of a CW word in force. -/
def State.cwf (s : State) (a hi lo : Nat) : Nat := bits (s.cw a) hi lo

/-- The CW word in force after an application. -/
def State.setCw (s : State) (a : Nat) (v : Word) : State := { s with inForce := memPut resetWord s.inForce a v }

/-- A counting field incremented by `n`, saturating at its width. -/
def State.count (s : State) (a hi lo : Nat) (n : Nat := 1) : State :=
  s.setFld a hi lo (sat (2 ^ (hi - lo + 1) - 1) (s.fld a hi lo + n))

/-- The state with the clock tree changed. -/
def State.mapClk (s : State) (f : Clock → Clock) : State := { s with clk := f s.clk }

/-- A free value and the state that has drawn it. DESIGN CHOICE (notes/assumptions/7.md). -/
def State.draw (s : State) : Word × State := (Config.free s.draws, { s with draws := s.draws + 1 })

/-! ### Codes -/

/-- The number of a code (Table 0.4). -/
def Code.num : Code → Nat
  | .ok => 0 | .eAddr => 1 | .eRo => 2 | .eRange => 3 | .eState => 4 | .eBusy => 5 | .eCrc => 6 | .eLen => 7
  | .eLock => 8 | .eAlign => 9 | .eSeal => 10 | .eAuth => 11 | .eCtx => 12 | .eFull => 13

/-- The first code that is not OK (R8: the list is in the order of judging). DEDUCED (notes/assumptions/15.md). -/
def firstCode : List Code → Code
  | [] => .ok
  | c :: t => if c = .ok then firstCode t else c

/-- A check: the code when the condition holds, else OK. -/
def chk (b : Bool) (c : Code) : Code := if b then c else .ok

/-! ### Modes -/

/-- The working domains are stopped by a clock failure: until Table 3.3 step 3, while DRAM retraining (step 4) is already clocked
(R59, R60, R64). -/
def State.stopped (s : State) : Bool := s.clk.waiting && !s.clk.retraining

/-- In Rind, or waking from it before its clocks are back (R92, R93). -/
def State.inRind (s : State) : Bool := s.start.phase == .rind || s.start.phase == .waking

/-- A fallback bit in effect at this start. -/
def State.inEffect (s : State) (n : Nat) : Bool := decide (s.start.inEffect / 2 ^ n % 2 = 1)

/-- The NOR is not in use at this start: NOR_NONE is in effect, or step 7 could not open it (Table 4.3). -/
def State.norNone (s : State) : Bool := s.inEffect 12 || (decide (7 < s.start.step) && !s.start.norOpen)

/-- An input's HK_STALE bit. -/
def State.isStale (s : State) (n : Nat) : Bool := decide (s.hk.stale / 2 ^ n % 2 = 1)

/-- In Run or Eaves after hand-over with the clocks running. DESIGN CHOICE (notes/assumptions/18.md). -/
def State.live (s : State) : Bool := (s.start.phase == .up || s.start.phase == .entering) && !s.clk.waiting

/-- The DRAM serves the encoder, egress, analysis and the Cellar: not while a RETRAIN trains it (R198). -/
def State.serves (s : State) : Bool := s.live && !s.tbl.suspended

/-- Context `c`. -/
def State.ctx (s : State) (c : Nat) : Ctx := nth {} s.sch.ctxs c

/-- Uptime in seconds (ID_UPTIME). -/
def State.uptimeS (s : State) : Nat := s.upTicks / 25000000

/-- Ticks of 40 ns in a millisecond. -/
def msTicks : Nat := 25000

/-! ### The gutter (chapter 06) -/

/-- A source's dynamic state. -/
def State.src (s : State) (n : Nat) : SrcState := aget {} s.gut.srcs n

/-- The state with a source's dynamic state changed. -/
def State.setSrc (s : State) (n : Nat) (x : SrcState) : State :=
  { s with gut := { s.gut with srcs := aput s.gut.srcs n x } }

/-- Whether a source's route includes drain `d`. -/
def State.routed (s : State) (n d : Nat) : Bool := s.flag (GUT_SRC n) (24 + d)

/-- A source's EN, LATCH, TGT, PRIO and STORM fields (Table 6.5). -/
def State.srcEn (s : State) (n : Nat) : Bool := s.flag (GUT_SRC n) 23
def State.srcLatch (s : State) (n : Nat) : Bool := s.flag (GUT_SRC n) 22
def State.srcTgt (s : State) (n : Nat) : Nat := s.fld (GUT_SRC n) 21 19
def State.srcPrio (s : State) (n : Nat) : Nat := s.fld (GUT_SRC n) 15 12
def State.srcStorm (s : State) (n : Nat) : Nat := s.fld (GUT_SRC n) 11 8

/-- A source's pending bit. -/
def State.pend (s : State) (n : Nat) : Bool := s.flag (GUT_PEND (n / 32)) (n % 32)

/-- The state with a source's pending bit set or cleared. -/
def State.setPend (s : State) (n : Nat) (b : Bool) : State := s.setFld (GUT_PEND (n / 32)) (n % 32) (n % 32) (b2n b)

/-- A source is presented to a level drain while PEND, EN and that drain's route bit are all 1 (R127). -/
def State.presented (s : State) (n d : Nat) : Bool := s.pend n && s.srcEn n && s.routed n d

/-- The occupied captures, by source. -/
def State.captures (s : State) : List (Nat × Capture) :=
  s.gut.srcs.filterMap fun p => p.2.cap.map fun c => (p.1, c)

/-- The peak of occupied captures follows the present number (GUT_BACKLOG). -/
def peakBacklog (s : State) : State :=
  s.setFld GUT_BACKLOG 25 16 (max (s.fld GUT_BACKLOG 25 16) (sat 1023 s.captures.length))

/-- The place in the dispatch order of a capture that a released event of place `new` joins: the earlier one (R125). -/
def batchMerged (old new : Nat) : Nat := if old = 0 then new else if new = 0 then old else min old new

/-- An occurrence enters its source's capture, merging with an occupied one (R123); `batch` is its place in a release of held
events, or 0 (R125). -/
def capture (n : Nat) (data : Word) (batch : Nat) (s : State) : State :=
  let x := s.src n
  let c : Capture := match x.cap with
    | none => ⟨data, 0, batch⟩
    | some c => ⟨data, sat 255 (c.merged + 1), batchMerged c.batch batch⟩
  peakBacklog (s.setSrc n { x with cap := some c })

/-- An occurrence in the cycle of the token that a summary took: it takes the token in the summary's place, and carries the SUPP
count (R130). DEDUCED (notes/assumptions/70.md). -/
def summaryTaken (n : Nat) (data : Word) (s : State) : State :=
  s.setSrc n { s.src n with cap := (s.src n).cap.map fun c => { c with data }, sumAt := none }

/-- An occurrence that finds no token is suppressed (R130). DESIGN CHOICE (notes/assumptions/87.md). -/
def suppress (n : Nat) (data : Word) (s : State) : State :=
  (s.setSrc n { s.src n with supp := sat 255 ((s.src n).supp + 1), lastData := data, suppAt := some s.time }).setFld
    (GUT_STORM (n / 32)) (n % 32) (n % 32) 1

/-- The storm limiter of R130 on an occurrence that has passed the mask.
DESIGN CHOICE (notes/assumptions/87.md). -/
def stormLimit (n : Nat) (data : Word) (batch : Nat) (s : State) : State :=
  let x := s.src n
  if s.srcStorm n = 0 then capture n data batch s
  else if x.tokens = 0 then
    if x.cap.isSome ∧ x.sumAt = some s.time then summaryTaken n data s else suppress n data s
  else capture n data batch (s.setSrc n { x with tokens := x.tokens - 1 })

/-- An occurrence passes the stages count, mask, storm limiter and capture (R123). -/
def occur (n : Nat) (data : Word) (batch : Nat) (s : State) : State :=
  let s := if s.routed n 7 then (s.count (GUT_CNT n) 15 0).count (GUT_DRAIN 7) 31 16 else s
  if s.srcEn n then stormLimit n data batch s else s

/-- Events are held during start-up, while the engine waits for its clock, and while it wakes (R62, R93, R99).
DEDUCED (notes/assumptions/25.md). -/
def State.holding (s : State) : Bool := s.start.phase == .start || s.start.phase == .waking || s.clk.waiting

/-- A block raises an occurrence of source `n`. DEDUCED (notes/assumptions/25.md). -/
def raise (n : Nat) (data : Word) (s : State) : State :=
  if s.holding then { s with gut := { s.gut with held := s.gut.held ++ [(n, data)] } } else occur n data 0 s

/-- Raise with a numeric DATA word. DESIGN CHOICE (notes/assumptions/86.md). -/
def raiseN (n data : Nat) (s : State) : State := raise n (word data) s

/-- Raise when a condition holds. -/
def raiseIf (b : Bool) (n data : Nat) (s : State) : State := if b then raiseN n data s else s

/-- Insertion by source number, keeping the order of equal sources. DEDUCED (notes/assumptions/65.md). -/
def insertHeld (p : Nat × Word) : List (Nat × Word) → List (Nat × Word)
  | [] => [p]
  | q :: t => if p.1 < q.1 then p :: q :: t else q :: insertHeld p t

/-- Held events enter the gutter in ascending source order in one fabric cycle (R125), `last` after all of them.
DEDUCED (notes/assumptions/25.md), DEDUCED (notes/assumptions/65.md). -/
def releaseHeld (last : List (Nat × Word)) (s : State) : State :=
  let evs := s.gut.held.foldl (fun l p => insertHeld p l) [] ++ last
  let k := s.captures.foldl (fun m p => max m p.2.batch) 0
  evs.zipIdx.foldl (fun t p => occur p.1.1 p.1.2 (k + p.2 + 1) t) { s with gut := { s.gut with held := [] } }

/-- The count of presentations that began at D0 to D2 between two states, for one source (GUT_DRAINd.DELIV). -/
def countPresented (n : Nat) (before : State) (s : State) : State :=
  [0, 1, 2].foldl (fun t d => if t.presented n d && !before.presented n d then t.count (GUT_DRAIN d) 31 16 else t) s

/-- The forced deliveries of a queue that is full of them keep a forced capture waiting (R132). -/
def queueBlocked (depth : Nat) (q : List Delivery) : Bool := decide (depth ≤ q.length) && q.all (·.forced)

/-- The newest delivery of a source that is not forced leaves the queue. -/
def dropNewestUnforced (q : List Delivery) : List Delivery :=
  match q.reverse.findIdx? (fun d => !d.forced) with
  | none => q
  | some i => q.eraseIdx (q.length - 1 - i)

/-- A delivery joins a queue of the given depth, or is dropped (R132): the queue, and how many deliveries were lost. -/
def enqueue (depth : Nat) (d : Delivery) (q : List Delivery) : List Delivery × Nat :=
  if q.length < depth then (q ++ [d], 0)
  else if d.forced && q.any (fun e => !e.forced) then (dropNewestUnforced q ++ [d], 1)
  else (q, 1)

/-- The delivery of a dispatch queued to the drains of its route (R126). A D5 delivery while the NOR is not in use and a D6
delivery while the report line is off are lost (R138, R139). -/
def queueDeliveries (n : Nat) (d : Delivery) (s : State) : State :=
  let put (k depth : Nat) (q : List Delivery) (set : Gutter → List Delivery → Gutter) (s : State) : State :=
    if s.routed n k then
      let r := enqueue depth d q
      ({ s with gut := set s.gut r.1 } : State).count (GUT_DRAIN k) 15 8 r.2
    else s
  let s := put 3 16 s.gut.d3 (fun g q => { g with d3 := q }) s
  let s := put 4 64 s.gut.d4 (fun g q => { g with d4 := q }) s
  let s := if s.routed n 5 && s.norNone then s.count (GUT_DRAIN 5) 15 8
    else put 5 32 s.gut.d5 (fun g q => { g with d5 := q }) s
  if s.routed n 6 && !s.flag GUT_D6CFG 3 then s.count (GUT_DRAIN 6) 15 8
  else put 6 64 s.gut.d6 (fun g q => { g with d6 := q }) s

/-- Whether a capture may be dispatched now: a forced source waits while a queue of its route holds only forced
deliveries (R132). -/
def State.dispatchable (s : State) (n : Nat) : Bool :=
  !(s.flag (GUT_SRC n) 0 &&
    ((s.routed n 3 && queueBlocked 16 s.gut.d3) || (s.routed n 4 && queueBlocked 64 s.gut.d4) ||
     (s.routed n 5 && !s.norNone && queueBlocked 32 s.gut.d5) ||
     (s.routed n 6 && s.flag GUT_D6CFG 3 && queueBlocked 64 s.gut.d6)))

/-- The order of R124 and R125: released events first in the order of their release, then the highest PRIO, then the lowest
source. -/
def dispatchBefore (s : State) (p q : Nat × Capture) : Bool :=
  if p.2.batch ≠ 0 ∧ q.2.batch ≠ 0 then decide (p.2.batch < q.2.batch)
  else if p.2.batch ≠ 0 ∨ q.2.batch ≠ 0 then p.2.batch != 0
  else decide (s.srcPrio p.1 > s.srcPrio q.1) || (s.srcPrio p.1 == s.srcPrio q.1 && decide (p.1 < q.1))

/-- The first of some captures in the order of R124. -/
def firstCapture (s : State) (l : List (Nat × Capture)) : Option (Nat × Capture) :=
  l.foldl (fun b p => match b with
    | none => some p
    | some q => if dispatchBefore s p q then some p else some q) none

/-- Capture `q` is the fault event, 0x1B5 to 0x1B7, of the channel whose end event is `p`, at its PRIO and place: the fault comes
first (R258). DEDUCED (notes/assumptions/78.md). -/
def faultOf (s : State) (p q : Nat × Capture) : Bool :=
  decide (0x1B0 ≤ p.1 ∧ p.1 ≤ 0x1B3 ∧ 0x1B5 ≤ q.1 ∧ q.1 ≤ 0x1B7) && bits q.2.data 29 28 == p.1 - 0x1B0 &&
    s.srcPrio p.1 == s.srcPrio q.1 && (p.2.batch == 0) == (q.2.batch == 0)

/-- The capture the dispatcher takes next (R124, R258). DEDUCED (notes/assumptions/78.md). -/
def State.nextCapture (s : State) : Option (Nat × Capture) :=
  let l := s.captures.filter fun p => s.dispatchable p.1
  match firstCapture s l with
  | none => none
  | some p => some ((firstCapture s (l.filter (faultOf s p))).getD p)

/-- The dispatch of one capture (R126): the source's SUPP and MERGED are recorded and cleared. -/
def dispatchCapture (n : Nat) (c : Capture) (s0 : State) : State :=
  let supp := (s0.src n).supp
  let s := s0.setSrc n { s0.src n with cap := none, supp := 0, vecSupp := supp, vecMerged := c.merged }
  let s := (s.setPend n true).setReg (GUT_EDATA n) c.data
  let s := queueDeliveries n ⟨n, c.data, supp, c.merged, s.flag (GUT_SRC n) 0, word s.ptpS, word s.ptpNs, s.uptimeS⟩ s
  let s := if n = 0x01C then { s with gut := { s.gut with wakeHold := false } } else s
  countPresented n s0 s

/-- The presented source of a level drain that comes first in the order of R124. -/
def State.topPresented (s : State) (d : Nat) (ok : Nat → Bool := fun _ => true) : Option Nat :=
  ((List.range 512).filter fun n => s.presented n d && ok n).foldl
    (fun b n => match b with
      | none => some n
      | some m => if s.srcPrio n > s.srcPrio m then some n else some m) none

/-- Whether any source is presented to a drain. -/
def State.anyPresented (s : State) (d : Nat) : Bool :=
  (List.range 16).any fun m => (s.reg (GUT_PEND m) != 0) && (List.range 32).any fun b => s.presented (32 * m + b) d

/-- An acknowledgement of the sources `ns` that leaves another source presented starts the re-arm pulse when it is enabled
(R134); one in progress goes on. DEDUCED (notes/assumptions/65.md). -/
def rearm (ns : List Nat) (before : State) (s : State) : State :=
  let p (d k : Nat) : Bool := ns.any (fun n => before.presented n d) && s.anyPresented d && s.flag GUT_PIN k
  let begun (b : Bool) (x : Option Nat) : Option Nat := if b then some (x.getD s.time) else x
  { s with gut := { s.gut with pulseA := begun (p 0 0) s.gut.pulseA, pulseB := begun (p 1 1) s.gut.pulseB } }

/-- The pulse that began first has lasted its 64 cycles; two that began within one tick of the model's time end together.
DEDUCED (notes/assumptions/65.md). -/
def Gutter.pulseEnded (g : Gutter) : Gutter :=
  match g.pulseA, g.pulseB with
  | some a, some b => { g with pulseA := if b < a then some a else none, pulseB := if a < b then some b else none }
  | _, _ => { g with pulseA := none, pulseB := none }

/-- Sources acknowledged: their pending bits clear (R128). -/
def acknowledge (ns : List Nat) (s : State) : State := rearm ns s (ns.foldl (fun t n => t.setPend n false) s)

/-! ### Pins -/

/-- The heater output is allowed (R44, R46): enabled, not shed, no POWER_FAIL, no over-current, in Run or Eaves. -/
def State.htrAllowed (s : State) : Bool :=
  s.flag PWR_HTR 8 && !s.pwr.heatShed && !s.pwr.powerFail && !s.pwr.htrOc && s.live

/-- The level of an IRQ pin (R134, R135): true is high. -/
def State.irqHigh (s : State) (d : Nat) (pulse : Bool) : Bool :=
  match s.start.phase with
  | .rind | .waking => true
  | .up | .entering => if s.clk.waiting then false else if s.gut.wakeHold then true else !s.anyPresented d || pulse
  | _ => false

end Sys2Proof.Machine
end

