-- ==== Sys2Proof/Machine/Access.lean ====
section
/-! DEFINITION. How a register write is judged and stored (R4 to R10): the general checks over the register map, and the
form in which each block gives its own checks and effects. -/

namespace Sys2Proof.Machine

/-- A block's own part of one register write. `pre` is the code of its checks that rank before E_RANGE (R8), `bad` its
own E_RANGE checks, `post` the code of its checks that rank after it, `store` whether the word is stored, and `app` the
effect on the state in which the fields are already stored. -/
structure WriteRule where
  pre : Code := .ok
  bad : Bool := false
  post : Code := .ok
  store : Bool := true
  app : State → State := id
  /-- What a write that `pre` rejects still does (R215: the loaded record is cleared whatever the result). -/
  rej : State → State := id

/-- The mask of a field. -/
def Fld.mask (f : Fld) : Nat := 2 ^ (f.hi + 1) - 2 ^ f.lo

/-- A write never changes a read-only or read-clear field (R5). -/
def Fld.writable (f : Fld) : Bool := f.acc != .ro && f.acc != .rc

/-- The word sets a reserved bit (R4). -/
def Reg.reservedSet (r : Reg) (v : Word) : Bool := v.toNat &&& r.flds.foldl (fun n f => n ||| f.mask) 0 != v.toNat

/-- A written field lies outside its legal range. -/
def Reg.outOfRange (r : Reg) (v : Word) : Bool :=
  r.flds.any fun f => f.writable && !(decide (f.mn ≤ bits v f.hi f.lo) && decide (bits v f.hi f.lo ≤ f.mx))

/-- Every field of the register is RO or RC (R5). -/
def Reg.readOnly (r : Reg) : Bool := r.flds.all fun f => !f.writable

/-- The register's word after a write of `v` over `old`: RW and CW take the value, W1C bits clear, WO reads as zero.
DESIGN CHOICE (notes/assumptions/61.md). -/
def Reg.merged (r : Reg) (old v : Word) : Word :=
  r.flds.foldl (fun w f =>
    match f.acc with
    | .rw | .cw => putBits w f.hi f.lo (bits v f.hi f.lo)
    | .w1c => putBits w f.hi f.lo (bits (old &&& ~~~v) f.hi f.lo)
    | _ => putBits w f.hi f.lo (bits old f.hi f.lo)) 0

/-- The effect of an accepted write. -/
def applyWrite (r : Reg) (a : Nat) (v : Word) (w : WriteRule) (s : State) : State :=
  w.app (if w.store then s.setReg a (r.merged (s.reg a) v) else s)

/-- A long operation owns the page while it runs (R115). -/
def opPage : Nat → Nat
  | 1 => 0x05 | 2 => 0x0B | 3 => 0x05 | 4 => 0x13 | 5 => 0x15 | 6 => 0x04
  | _ => 0x100

/-- A long operation that owns page `p` is running. -/
def State.opOnPage (s : State) (p : Nat) : Bool :=
  match s.cp.op with
  | some o => opPage o.id == p
  | none => false

/-- A long operation starts at the seal (R113). -/
def startOp (id arg : Nat) (s : State) : State := { s with cp := { s.cp with op := some ⟨id, arg, s.time⟩ } }

/-- The running long operation ends with a code; its duration is rounded down (R114). DEDUCED (notes/assumptions/58.md). -/
def endOp (c : Code) (s : State) : State :=
  match s.cp.op with
  | none => s
  | some o =>
    let ms := sat 0xFFFF ((s.time - o.since) / msTicks)
    raiseN 0x1FC 0 { s with cp := { s.cp with op := none, lastOp := o.id, opCode := c.num, opResId := o.id, opMs := ms } }

/-- A Vat thread made the access. -/
def isVat : Origin → Bool
  | .host => false
  | .vat _ => true

end Sys2Proof.Machine
end

