-- ==== Sys2Proof/Machine/BlkPower.lean ====
section
/-! DEFINITION. Power entry (chapter 02): inputs, source and limit, governor, heater, head supply, rails and monitors. -/

namespace Sys2Proof.Machine

/-! ### Source and limit -/

/-- PWR_AVAIL for the assigned PoE class, in units of 10 mW (Table 2.1). -/
def poeAvail (cls : Nat) : Nat := [0, 345, 584, 1170, 2295, 3600, 4590, 5580, 6000].getD cls 0

/-- PWR_SRC.ACTIVE: AC before PoE, none while POWER_FAIL is asserted (R27, R35). -/
def Power.active (p : Power) : Nat := if p.powerFail then 0 else if p.acValid then 1 else if p.poeValid then 2 else 0

/-- PWR_AVAIL.AVAIL from the active source (R35). -/
def Power.avail (p : Power) : Nat :=
  match p.active with
  | 1 => 6000
  | 2 => poeAvail p.grantClass
  | _ => 0

/-- The effective limit: the smaller of PWR_AVAIL and HOST_LIM (R35). -/
def State.effLimit (s : State) : Nat := min s.pwr.avail (s.fld PWR_LIM 15 0)

/-- The governor takes shed steps only after hand-over (R49). -/
def State.handedOver (s : State) : Bool := s.start.step == 14

/-! ### Heater (R44) -/

/-- An on-time of `ms` ends, if one is in progress: OPEN is judged on on-times of at least 10 ms in which the current was measured,
while HKIN15 is not stale (R44, Table 11.3). DESIGN CHOICE (notes/assumptions/71.md). -/
def endOnTime (ms : Nat) (s : State) : State :=
  let p := { s.pwr with htrOn := false }
  if !s.pwr.htrOn then s
  else if 10 ≤ ms ∧ p.htrSeen ∧ !s.isStale 15 then
    raiseIf (!p.htrReached && !p.htrOpen) 0x009 0 { s with pwr := { p with htrOpen := !p.htrReached } }
  else { s with pwr := p }

/-- The output is switched off before its on-time is over. -/
def cutOnTime (s : State) : State := endOnTime ((s.time - s.pwr.htrAt) / msTicks) s

/-- A heater period starts: the on-time, of DUTY ms, lies at its start; one that fills the period before ends here. -/
def startHeaterPeriod (s : State) : State :=
  let s := endOnTime s.pwr.htrDuty s
  let d := s.fld PWR_HTR 6 0
  { s with pwr := { s.pwr with htrDuty := d, htrOn := decide (0 < d), htrAt := s.time, htrSeen := false, htrReached := false } }

/-- When the output becomes allowed a period begins; when it stops being allowed the on-time ends.
DESIGN CHOICE (notes/assumptions/71.md). -/
def heaterFollow (before : State) (s : State) : State :=
  if s.htrAllowed && !before.htrAllowed then startHeaterPeriod s
  else if !s.htrAllowed then cutOnTime s else s

/-- The heater current as HKIN15 gives it: the value of an on-time, or of the start-up sequence (R44, R49, R238). -/
def heaterSample (ma : Nat) (s : State) : State :=
  if s.pwr.htrOn && s.htrAllowed then
    { s with pwr := { s.pwr with htrMa := sat 65535 ma, htrSeen := true, htrReached := s.pwr.htrReached || decide (100 ≤ ma) } }
  else if s.start.phase = .start then { s with pwr := { s.pwr with htrMa := sat 65535 ma } } else s

/-! ### Governor (R36 to R38) -/

/-- Forced Eaves ends as the limit has risen; T_EAVES of an excess that goes on keeps its count (R38 counts it afresh at a release
only). DESIGN CHOICE (notes/assumptions/72.md). -/
def endForcedEaves (s : State) : State := { s with pwr := { s.pwr with eavesForced := false } }

/-- The heater is shed (R36). -/
def shedHeat (s : State) : State :=
  if s.pwr.heatShed then s
  else
    let s := cutOnTime s
    raiseN 0x003 0 { s with pwr := { s.pwr with heatShed := true } }

/-- The boost charger is limited to 1 W (R36). -/
def shedBoost (s : State) : State :=
  if s.pwr.boostLim then s else raiseN 0x004 0 { s with pwr := { s.pwr with boostLim := true } }

/-- Eaves is forced (R36). -/
def forceEaves (s : State) : State :=
  if s.pwr.eavesForced then s else raiseN 0x005 0 { s with pwr := { s.pwr with eavesForced := true } }

/-- The governor compares BUS_P with the effective limit; it stands still during POWER_FAIL (R35, R36). -/
def judgeOver (s : State) : State :=
  let o := !s.pwr.powerFail && (s.pwr.busStale || decide (s.effLimit < s.pwr.busP))
  if o && !s.pwr.exceeded then { s with pwr := { s.pwr with exceeded := true, overSince := s.time, eavesSince := s.time } }
  else { s with pwr := { s.pwr with exceeded := o } }

/-- The governor's shed steps run while OVER is set, after hand-over and without POWER_FAIL (R35, R36, R49). -/
def State.govRuns (s : State) : Bool := s.pwr.exceeded && s.handedOver && !s.pwr.powerFail

/-- A write of PWR_GOV applies to the excess in progress: a step whose new delay has passed is taken (R36). -/
def govDelaysApply (s : State) : State :=
  let el := s.time - s.pwr.overSince
  let s1 := if s.govRuns && decide (s.fld PWR_GOV 23 16 * 10 * msTicks ≤ el) then shedHeat s else s
  let s2 := if s1.govRuns && decide (s1.fld PWR_GOV 15 8 * 10 * msTicks ≤ el) then shedBoost s1 else s1
  if s2.govRuns && decide (s2.fld PWR_GOV 7 0 * 100 * msTicks ≤ s2.time - s2.pwr.eavesSince) then forceEaves s2 else s2

/-- The charger's headroom test of R37: BUS_P plus CHG_P within 95 % of the effective limit. -/
def State.boostFits (s : State) : Bool :=
  decide (100 * (s.pwr.busP + 10 * s.fld ACT_CHG 7 0) ≤ 95 * s.effLimit)

/-- The heater's headroom test of R37, with the last measured heater current and DUTY. -/
def State.heaterFits (s : State) : Bool :=
  decide (100 * (s.pwr.busP * 1000000 + s.pwr.busMv * s.pwr.htrMa * s.fld PWR_HTR 6 0) ≤ 95 * s.effLimit * 1000000)

/-- A release of forced Eaves; T_EAVES is counted afresh when OVER is still set (R38). -/
def releaseEaves (s : State) : State :=
  if s.pwr.eavesForced then { s with pwr := { s.pwr with eavesForced := false, eavesSince := s.time } } else s

/-! ### Head supply (R45) -/

/-- All eight rails are good (R39). -/
def Power.railsGood (p : Power) : Bool := p.pg == 255

/-- The head supply follows PWR_HSUP.EN unless it is latched off; a setting made during POWER_FAIL waits (R31, R39, R45). -/
def hsupFollow (s : State) : State :=
  if s.pwr.powerFail then s
  else { s with pwr := { s.pwr with hsupOn := s.flag PWR_HSUP 0 && !s.pwr.hsupOc && s.pwr.railsGood } }

/-! ### Inputs (R26 to R35) -/

/-- What follows a change of the inputs: POWER_FAIL asserts when the last valid input goes (R30, R31) and deasserts when
one returns (R32); the source change is reported (R28); a risen limit ends forced Eaves (R38). OVER follows the new limit at the
next value of BUS_P (R36). -/
def inputsChanged (before : State) (s : State) : State :=
  let any := s.pwr.acValid || s.pwr.poeValid
  if !any && (before.pwr.acValid || before.pwr.poeValid) then
    let s := cutOnTime s
    raiseN 0x002 0 (raiseN 0x000 0
      { s with pwr := { s.pwr with powerFail := true, limBefore := before.effLimit, exceeded := false } })
  else if any && s.pwr.powerFail then
    let s1 := { s with pwr := { s.pwr with powerFail := false } }
    let s2 := raiseN 0x002 0 (raiseN 0x001 0 s1)
    let s3 := if s2.pwr.limBefore < s2.effLimit then endForcedEaves s2 else s2
    heaterFollow before (hsupFollow s3)
  else
    let s1 := raiseIf (s.pwr.active != before.pwr.active) 0x002 0 s
    if before.effLimit < s1.effLimit then endForcedEaves s1 else s1

/-! ### Bus power (Table 2.11) -/

/-- A bus current code joins the samples of the last 100 ms, with the latest voltage code. -/
def busSample (v i : Nat) (s : State) : State :=
  { s with pwr := { s.pwr with
    busSamples := (s.time, v * i) :: s.pwr.busSamples.filter fun p => decide (s.time < p.1 + 100 * msTicks) } }

/-- BUS_P: the average of the products of the last 100 ms, in units of 10 mW, rounded half up; as it stands without a sample. A
product of codes stands for 16.00 V · 6.000 A / 16 384² (Table 11.1). -/
def State.busAverage (s : State) : Nat :=
  let w := s.pwr.busSamples.filter fun p => decide (s.time < p.1 + 100 * msTicks)
  if w.isEmpty then s.pwr.busP
  else
    let sum := w.foldl (fun n p => n + p.2) 0
    sat 65535 ((2 * 9600 * sum + w.length * 2 ^ 28) / (2 * w.length * 2 ^ 28))

/-! ### Rail monitors (R43) -/

/-- The full scale of a rail monitor in mW (Table 2.2). -/
def railFullScale (n : Nat) : Nat := [12000, 6000, 4800, 3300, 1200, 2700, 3600, 6600].getD n 0

/-- A sample of rail monitor `n`: its converter code, whether it is flagged OVR, and the power it gives. P_MW shows the power of
the last sample: R43 speaks of its averaging, and nothing gives the window. DESIGN CHOICE (notes/assumptions/73.md). -/
def monSample (n code : Nat) (ovr : Bool) (pMw : Nat) (s : State) : State :=
  let m := nth {} s.pwr.mons n
  let bad := ovr || decide (railFullScale n < pMw)
  let same := m.code == some code
  let cnt := if same then m.same + 1 else 1
  let since := if same then m.since else s.time
  let stuck := same && (m.stuck || (decide (100 ≤ cnt) && decide (1000 * msTicks ≤ s.time - since)))
  let inRange := if bad then 0 else sat 16 (m.inRange + 1)
  let oor := bad || (m.oor && decide (inRange < 16))
  let m' : RailMon := ⟨pMw, oor, stuck, inRange, some code, cnt, since⟩
  raiseIf (stuck && !m.stuck) 0x007 n (raiseIf (oor && !m.oor) 0x006 n
    { s with pwr := { s.pwr with mons := s.pwr.mons.set n m' } })

/-! ### Views and writes of the PWR_ registers -/

/-- Comparator and PEB fields are live from the end of step 1 (R49). -/
def State.pwrLive (s : State) : Bool := decide (1 < s.start.step) && s.start.phase != .cold

/-- The live read-only words of page 0x02, offsets 0x00 to 0x5C (Tables 2.7 to 2.19). PSE_TYPE keeps the type of the last
power-up after the PSE has removed power. DESIGN CHOICE (notes/assumptions/74.md). -/
def pwrView (a : Nat) (s : State) : Option Word :=
  let p := s.pwr
  let l (n : Nat) : Word := word (if s.pwrLive then n else 0)
  if PWR_RAIL 0 ≤ a ∧ a < PWR_RAIL 8 then
    let m := nth {} p.mons ((a - PWR_RAIL 0) / 4)
    some (word (b2n m.stuck * 2 ^ 31 + b2n m.oor * 2 ^ 30 + sat (2 ^ 20 - 1) m.pMw))
  else [
    (PWR_SRC, l (b2n p.powerFail * 32 + b2n p.busGood * 16 + b2n p.poeValid * 8 + b2n p.acValid * 4 + p.active)),
    (PWR_POE, l (at_ p.reqClass 12 + at_ (if p.poeValid then p.grantClass else 0) 8 + at_ p.pseType 5 +
      at_ p.classEvents 2 + b2n (p.poeValid && p.active == 1) * 2)),
    (PWR_AVAIL, l p.avail), (PWR_BUS, word (at_ p.busMv 16 + p.busP)),
    (PWR_GOV_STAT, word (b2n p.eavesForced * 8 + b2n p.boostLim * 4 + b2n p.heatShed * 2 + b2n p.exceeded)),
    (PWR_HTR_STAT, word (at_ p.htrMa 16 + b2n (p.htrOn && s.htrAllowed) * 4 + b2n p.htrOpen * 2 + b2n p.htrOc)),
    (PWR_SEQ, word (at_ p.hsupMa 16 + b2n p.hsupOc * 2 ^ 15 + b2n p.hsupOn * 2 ^ 14 + b2n p.railFault * 2 ^ 12 +
      at_ p.faultRail 8 + p.pg))].lookup a

/-- The writes of the PWR_ registers (R35 to R38, R44, R45, Tables 2.10 to 2.17). -/
def pwrWrite (a : Nat) (v : Word) (s : State) : Option WriteRule := [
    (PWR_LIM, { app := fun t => if s.effLimit < t.effLimit then endForcedEaves t else t }),
    (PWR_GOV, { bad := !(decide (bits v 23 16 < bits v 15 8) && decide (bits v 15 8 < bits v 7 0 * 10)),
                app := govDelaysApply }),
    (PWR_CLR, { pre := chk (bit v 0 && (s.pwr.powerFail || decide (s.effLimit < 1600))) .eState,
                app := fun t =>
                  let t := if bit v 0 then releaseEaves t else t
                  let t := if bit v 1 then heaterFollow s { t with pwr := { t.pwr with htrOc := false } } else t
                  if bit v 2 then hsupFollow { t with pwr := { t.pwr with hsupOc := false } } else t }),
    (PWR_HTR, { app := heaterFollow s }),
    (PWR_HSUP, ({ app := hsupFollow } : WriteRule))].lookup a

end Sys2Proof.Machine
end

