-- ==== Sys2Proof/Machine/BlkClock.lean ====
section
/-! DEFINITION. The clock tree (chapter 03): oscillators, PLL, dividers, the LFO measurement and the CLK_ registers. -/

namespace Sys2Proof.Machine

/-- DRAM_LOST is set (R60): CLK_FLAGS[5]. -/
def State.dramLost (s : State) : Bool := s.flag CLK_FLAGS 5

/-- The Eaves condition of R91: the heat model enforces it, the governor forces it, or EAVES_HOST is 1. `heat` is the
heat model's part. DEDUCED (notes/assumptions/32.md). -/
def State.eavesWanted (s : State) (heat : Bool) : Bool := heat || s.pwr.eavesForced || s.flag START_STATE 1

/-- The divisors of Table 3.1 in force, in the layout of CLK_DIV (Table 3.8). -/
def clkDiv (eaves div3 : Bool) : Nat :=
  at_ (if div3 then 3 else 2) 29 + at_ (if eaves then 12 else 6) 25 + at_ (if eaves then 16 else 8) 20 +
    at_ (if eaves then 32 else 16) 14 + at_ 32 8 + 160

/-- The pipeline clock period in units of 0.1 ns: 1.5 ns in Run, 3 ns in Eaves (Table 3.1). -/
def State.pipeClock10 (s : State) : Nat := if s.clk.eaves then 30 else 15

/-- PLL losses declared within the last 10 s, with one more now (R65). DEDUCED (notes/assumptions/27.md). -/
def State.lossesWith (s : State) : List Nat :=
  s.time :: s.clk.losses.filter fun t => decide (s.time < t + 10000 * msTicks)

/-- DRAM_LOST sets (R60): its event is raised when it was clear. -/
def setDramLost (s : State) : State := raiseIf (!s.dramLost) 0x00F 0 (s.setFld CLK_FLAGS 5 5 1)

/-- A mux switch that found no outgoing edge completes (R68). -/
def swForced (s : State) : State := raiseN 0x010 0 ((s.setFld CLK_FLAGS 4 4 1).count CLK_CNT 7 0)

/-- The LFO measurement ends (R70): `err` is the measured deviation in units of 100 ppm. -/
def lfoMeasured (err : Int) (s : State) : State :=
  let ok := decide (-800 ≤ err ∧ err ≤ 800)
  let s := { s with clk := { s.clk with lfErr := err, lfCounting := false, lfValid := ok, lfFail := !ok } }
  raiseIf (!ok) 0x011 0 s

/-- The live read-only words of page 0x01. DEDUCED (notes/assumptions/32.md). -/
def clkView (a : Nat) (gates : Nat) (s : State) : Option Word :=
  let c := s.clk
  [ (CLK_STAT, word (at_ (sat 255 c.xoAmp) 16 + b2n c.slipWarn * 32 + b2n c.dramDiv3 * 16 + b2n c.eaves * 8 +
      b2n c.lfValid * 4 + b2n c.pllLock * 2 + b2n c.xoOk)),
    (CLK_PLL, word (at_ (toBits 8 (clampI (-128) 127 c.phErr)) 16 + sat 0xFFFF c.lockTime)),
    (CLK_DIV, word (clkDiv c.eaves c.dramDiv3)),
    (CLK_GATE, word (if s.stopped then 0 else gates ||| s.fld CLK_GATE_HOLD 15 0)),
    (CLK_LF, word (at_ (toBits 16 c.lfErr) 16 + b2n c.lfValid * 8 + b2n c.lfFail * 4 + c.lfdly % 4))].lookup a

/-- The writes of the CLK_ registers: DRAM_LOST cannot be cleared before DRAM retraining has completed (R67). -/
def clkWrite (a : Nat) (v : Word) (s : State) : Option WriteRule :=
  if a = CLK_FLAGS then some { pre := chk (bit v 5 && s.dramLost && (s.clk.retraining || s.clk.bgTrain)) .eState } else none

end Sys2Proof.Machine
end

