-- ==== Sys2Proof/Machine/BlkNor.lean ====
section
/-! DEFINITION. The NOR flash (R98, R138, R539): the slots of the start-journal region and of the fault-journal ring, the erases
that wait, and the program in flight. -/

namespace Sys2Proof.Machine

/-! ### Start-journal region (R98) -/

/-- The sector that the first record of the other one has given up for erasing: not that of the slot written last. -/
def Nor.eraseSector (n : Nor) : Nat := 1 - (n.startSlots + 31) % 32 / 16

/-- A sector of the region is blank. -/
def Nor.startBlank (n : Nor) (k : Nat) : Bool := (List.range 16).all fun i => nth .bad n.startRing (16 * k + i) == .erased

/-- The next slot of the region is erased. -/
def Nor.startFree (n : Nor) : Bool :=
  nth .bad n.startRing (n.startSlots % 32) == .erased && !(n.startErase && n.startSlots % 32 / 16 == n.eraseSector)

/-- The next slot takes `x`; the first slot of a sector starts the erase of the other (R98).
DEDUCED (notes/assumptions/30.md). -/
def Nor.startPut (x : NorSlot) (n : Nor) : Nor :=
  let k := n.startSlots % 32
  { n with startRing := n.startRing.set k x, startSlots := (k + 1) % 32, startErase := n.startErase || k % 16 == 0 }

/-- The sector that waits is erased. -/
def Nor.startErased (n : Nor) : Nor :=
  if n.startErase then
    { n with startErase := false, startRing := n.startRing.zipIdx.map fun p => if p.2 / 16 = n.eraseSector then .erased else p.1 }
  else n

/-- The valid record with the latest NOR_SEQ (R98); of two with one number, the one written later.
DEDUCED (notes/assumptions/30.md). -/
def Nor.latest (n : Nor) : Option NorJournal :=
  (List.range 32).foldl (fun b i => match nth .bad n.startRing ((n.startSlots + i) % 32), b with
    | .held r, some c => if (r.seq + 65536 - c.seq) % 65536 < 32768 then some r else b
    | .held r, none => some r
    | _, _ => b) none

/-! ### Fault-journal ring (R138) -/

/-- A sector of the ring is blank: it holds no record, and no slot was spent in it. -/
def Nor.ringBlank (n : Nor) (k : Nat) : Bool :=
  n.ring.all (fun p => p.1 / 1024 != k) && n.ringBad.all fun slot => slot / 128 != k

/-- The writer goes on to the next slot; the first record of a sector starts the erase of the following one (R138).
DEDUCED (notes/assumptions/30.md). -/
def Nor.ringAdvance (n : Nor) : Nor :=
  { n with ringNext := (n.ringNext + 1) % 8192
           ringErase := if n.ringNext % 128 = 0 then some ((n.ringNext / 128 + 1) % 64) else n.ringErase }

/-- The next slot is spent without a valid record (R138, R539). -/
def Nor.ringSpent (n : Nor) : Nor := { n.ringAdvance with ringBad := n.ringNext :: n.ringBad }

/-- The next slot's sector does not wait for its erase. -/
def Nor.ringFree (n : Nor) : Bool := n.ringErase != some (n.ringNext / 128)

/-- At step 7 the erase state of each region is found from its contents (R539): a start sector other than that of the last slot,
and a ring sector that the writer comes to next, must be erased unless it is blank. -/
def Nor.scan (n : Nor) : Nor :=
  let k := if n.ringNext % 128 = 0 then n.ringNext / 128 else (n.ringNext / 128 + 1) % 64
  { n with startErase := !n.startBlank n.eraseSector, ringErase := if n.ringBlank k then none else some k }

/-! ### The program in flight (R539) -/

/-- What the NOR programs for the start journal and the gutter. -/
inductive NorProgram where
  | copy | record
  deriving DecidableEq, Repr

/-- The one program in flight: a NOR copy before a fault-journal record. DEDUCED (notes/assumptions/30.md). -/
def State.norProgram (s : State) : Option NorProgram :=
  if !s.start.norOpen then none
  else if !s.start.norWrites.isEmpty && s.nor.startFree then some .copy
  else if !s.gut.d5.isEmpty && s.nor.ringFree && (s.start.phase == .up || s.start.phase == .entering) then some .record
  else none

/-- A reset or a thermal cut abandons the program in flight: its slot is spent and holds nothing valid (R138, R539).
DEDUCED (notes/assumptions/30.md). -/
def State.norAbandoned (s : State) : Nor :=
  match s.norProgram with
  | some .copy => s.nor.startPut .bad
  | some .record => s.nor.ringSpent
  | none => s.nor

/-- A NOR copy of the start journal is programmed, or fails (R98). A copy that finds no erased slot waits.
DEDUCED (notes/assumptions/30.md). -/
def copyWritten (ok : Bool) (s : State) : State :=
  match s.norProgram, s.start.norWrites with
  | some .copy, c :: t =>
    if ok then
      { s with nor := s.nor.startPut (.held c)
               start := { s.start with norWrites := t, norFail := false, norSeq := c.seq, norValid := true } }
    else raiseN 0x01E 0 { s with nor := s.nor.startPut .bad, start := { s.start with norWrites := t, norFail := true } }
  | _, _ => s

/-- A record of the fault journal (Table 6.2). DEDUCED (notes/assumptions/65.md). -/
def ringRecord (seq cause : Nat) (d : Delivery) : List Word :=
  let ws : List Word := [word seq, word (at_ (d.src % 512) 16 + at_ (d.supp % 256) 8 + d.merged % 256), d.data, d.timeHi,
    d.timeLo, word d.uptime, word (cause % 8)]
  ws ++ [word (crc16 ws)]

/-- The writer finishes the oldest queued D5 delivery (R138): `ok` says that the NOR programmed it. It does nothing while the
NOR programs something else, or an erase must end first.
DEDUCED (notes/assumptions/30.md). -/
def journalWritten (ok : Bool) (s : State) : State :=
  match s.norProgram, s.gut.d5 with
  | some .record, d :: rest =>
    let t := { s with gut := { s.gut with d5 := rest } }
    if ok then
      let n := s.nor.ringAdvance
      ({ t with
        nor := { n with ring := memPutList zeroes n.ring (8 * s.nor.ringNext) 1 (ringRecord n.ringSeq s.start.cause d)
                        ringSeq := (n.ringSeq + 1) % 2 ^ 32, ringLast := s.nor.ringNext, ringCount := n.ringCount + 1 }
        gut := { t.gut with jFail := false } } : State).count (GUT_DRAIN 5) 31 16
    else
      ({ t with nor := t.nor.ringSpent, gut := { t.gut with jFail := true } } : State).count (GUT_DRAIN 5) 15 8
  | _, _ => s

/-- A thermal cut lets the program in flight complete; nothing that still waits is written (Table 19.3, R138). -/
def norCut (prog : Bool) (s : State) : State :=
  let s := if prog then
      match s.norProgram with
      | some .copy => copyWritten true s
      | some .record => journalWritten true s
      | none => s
    else s
  { s with gut := { s.gut with d5 := [] }, start := { s.start with norWrites := [] } }

end Sys2Proof.Machine
end

