-- ==== Sys2Proof/Machine/BlkStart.lean ====
section
/-! DEFINITION. Start-up steps, the start-step journal and the START_ views (chapter 04). What resets and hand-over do to
the other blocks is in System.lean. -/

namespace Sys2Proof.Machine

/-- ms from the reset release to now, frozen at hand-over (START_STEP.T_MS). DEDUCED (notes/assumptions/58.md). -/
def State.startMs (s : State) : Nat := s.start.tFrozen.getD ((s.time - s.start.releasedAt) / msTicks)

/-- The current journal entry changed. -/
def onEntry (f : JEntry → JEntry) (s : State) : State :=
  { s with start := { s.start with journal := upd s.start.journal 0 f } }

/-- A new journal entry at a reset release or an internal retry; eight are kept.
DEDUCED (notes/assumptions/29.md). -/
def newEntry (retry : Bool) (cause entry : Nat) (s : State) : State :=
  let seq := (nth {} s.start.journal 0).seq + 1
  let e : JEntry := { retry, cause, entry, seq := seq % 65536, fallback := s.start.fallback }
  { s with start := { s.start with journal := (e :: s.start.journal).take 8, entryAt := s.time } }

/-- The result of a step in the current entry, two bits per step (Table 4.13).
DEDUCED (notes/assumptions/10.md). -/
def markStep (n r : Nat) (s : State) : State :=
  onEntry (fun e => { e with result := e.result - e.result / 2 ^ (2 * n - 2) % 4 * 2 ^ (2 * n - 2) + r * 2 ^ (2 * n - 2) }) s

/-- A step passes: its attempt count returns to 0 (R86). `r` is 0b01, or 0b11 with a fallback or a device left out.
DEDUCED (notes/assumptions/10.md). -/
def passStep (n r : Nat) (s : State) : State :=
  markStep n r { s with start := { s.start with attempts := s.start.attempts.set n 0 } }

/-- A step fails: recorded with its attempt count, and event 0x013 (R86), DATA 0.
DEDUCED (notes/assumptions/10.md), DESIGN CHOICE (notes/assumptions/86.md). -/
def failStep (n : Nat) (s : State) : State :=
  let k := sat 15 (nth 0 s.start.attempts n + 1)
  let s := { s with start := { s.start with attempts := s.start.attempts.set n k } }
  raiseN 0x013 0 (markStep n 2 (onEntry (fun e => { e with failed := n, attempts := k }) s))

/-- The fallback bits left for the next start (Table 4.11), shown in the current entry too. -/
def setFallback (v : Nat) (s : State) : State :=
  onEntry (fun e => { e with fallback := v }) { s with start := { s.start with fallback := v } }

/-- Bits added to the fallback state. -/
def addFallback (m : Nat) (s : State) : State := setFallback (s.start.fallback ||| m) s

/-- The step in progress. -/
def setStep (n : Nat) (s : State) : State := { s with start := { s.start with step := n } }

/-- The step in progress of a wake from Rind (R93). -/
def setWake (n : Nat) (s : State) : State := { s with start := { s.start with wakeStep := n } }

/-- The words of a journal entry (Table 4.13). DEDUCED (notes/assumptions/58.md). -/
def JEntry.word (e : JEntry) : Nat → Word
  | 0 => Sys2Proof.word (b2n e.retry * 2 ^ 31 + at_ e.cause 28 + at_ e.entry 24 + at_ e.failed 20 + at_ e.attempts 16 + e.seq)
  | 1 => Sys2Proof.word e.result
  | 2 => Sys2Proof.word e.fallback
  | _ => Sys2Proof.word (at_ (sat (2 ^ 20 - 1) e.durMs) 12 + e.handover)

/-- An entry that has never been written reads as zero. -/
def State.jWord (s : State) (w : Nat) : Word :=
  match s.start.journal[s.fld START_JSEL 2 0]? with
  | some e => e.word w
  | none => 0

/-- The ages of START_HB_STAT: time since the last accepted kick in units of 100 ms.
DESIGN CHOICE (notes/assumptions/75.md). -/
def State.kickAge (s : State) : Nat :=
  match s.start.kickAt with
  | some t => sat 0xFFFF ((s.time - t) / (100 * msTicks))
  | none => 0

/-- The heartbeat watchdog is armed (R90). -/
def State.hbArmed (s : State) : Bool :=
  decide (0 < s.fld START_HB 15 0) && s.handedOver && (s.start.phase == .up || s.start.phase == .entering)

/-- The live words of the START_ registers (Tables 4.7 to 4.16). `heat` says that the heat model enforces Eaves. -/
def startView (a : Nat) (heat : Bool) (s : State) : Option Word :=
  let t := s.start
  let cur := match t.phase with
    | .entering => 2
    | _ => b2n s.clk.eaves
  [ (START_STEP, word (at_ (sat 0xFFFF s.startMs) 16 + b2n t.hostPresent * 512 + b2n t.goPending * 256 + t.step)),
    (START_CAUSE, word (at_ t.seen 8 + b2n t.retry * 128 + t.cause)),
    (START_FALLBACK, word t.fallback),
    (START_JNOR, word (at_ t.norSeq 16 + b2n t.norFail * 2 + b2n t.norValid)),
    (START_JDATA 0, s.jWord 0), (START_JDATA 1, s.jWord 1), (START_JDATA 2, s.jWord 2), (START_JDATA 3, s.jWord 3),
    (START_STATE, word (at_ cur 8 + b2n (s.flag START_STATE 1) * 64 + b2n s.pwr.eavesForced * 32 + b2n heat * 16 +
      b2n (s.flag START_STATE 1) * 2)),
    (START_WAKE, putBits (s.reg START_WAKE) 31 24 t.lastWake),
    (START_HB_STAT, word (at_ s.kickAge 16 + b2n t.hostLost))].lookup a

/-- A journal record in the NOR copy (R98): the eight entries, the fallback state and NOR_SEQ.
DEDUCED (notes/assumptions/30.md), DEDUCED (notes/assumptions/58.md). -/
def norCopy (s : State) : NorJournal :=
  ⟨s.start.journal, s.start.fallback, (nth {} s.start.journal 0).seq⟩

end Sys2Proof.Machine
end

