-- ==== Sys2Proof/Machine/Crypto.lean ====
section
/-! DEFINITION. The standard algorithms the spec names and does not spell out: AES (FIPS 197) for the key check value of
R118, SHA-256 (FIPS 180-4) and ECDSA over P-256 (FIPS 186-4) for recipe images.
PRESUMED: taken from those standards (notes/assumptions/5.md). -/

namespace Sys2Proof.Machine

/-! ### AES -/

/-- Multiplication by x in GF(2^8). -/
def xtime (a : Nat) : Nat := if 128 ≤ a then (2 * a % 256) ^^^ 0x1B else 2 * a

/-- Multiplication in GF(2^8). -/
def gmul (a b : Nat) : Nat :=
  ((List.range 8).foldl (fun (p : Nat × Nat) i => (if b / 2 ^ i % 2 = 1 then p.1 ^^^ p.2 else p.1, xtime p.2)) (0, a)).1

/-- The inverse in GF(2^8): a to the power 254. -/
def ginv (a : Nat) : Nat :=
  let a2 := gmul a a; let a4 := gmul a2 a2; let a8 := gmul a4 a4; let a16 := gmul a8 a8
  let a32 := gmul a16 a16; let a64 := gmul a32 a32; let a128 := gmul a64 a64
  gmul (gmul (gmul a2 a4) (gmul a8 a16)) (gmul (gmul a32 a64) a128)

/-- A byte rotated left. -/
def rotl8 (a n : Nat) : Nat := a * 2 ^ n % 256 + a / 2 ^ (8 - n)

/-- The AES substitution of one byte. -/
def sbox (a : Nat) : Nat :=
  let b := ginv a
  b ^^^ rotl8 b 1 ^^^ rotl8 b 2 ^^^ rotl8 b 3 ^^^ rotl8 b 4 ^^^ 0x63

/-- The bytes of two lists added in GF(2). -/
def xorBytes (a b : List Nat) : List Nat := List.zipWith (· ^^^ ·) a b

/-- The AES key schedule: four-byte words grown one at a time; `nk` key words. -/
def keyExpand (nk : Nat) (n : Nat) (ws : List (List Nat)) : List (List Nat) :=
  ((List.range n).foldl (fun (p : List (List Nat) × Nat) k =>
    let i := nk + k
    let t := nth [] p.1 (i - 1)
    let r := if i % nk = 0 then
        xorBytes ((t.drop 1 ++ t.take 1).map sbox) [p.2, 0, 0, 0]
      else if nk = 8 ∧ i % nk = 4 then t.map sbox else t
    (p.1 ++ [xorBytes (nth [] p.1 (i - nk)) r], if i % nk = 0 then xtime p.2 else p.2)) (ws, 1)).1

/-- The shift of rows on a block of 16 bytes, column by column. -/
def shiftRows (b : List Nat) : List Nat := (List.range 16).map fun i => nth 0 b ((i + 4 * (i % 4)) % 16)

/-- The mixing of one column. -/
def mixColumn (c : List Nat) : List Nat :=
  (List.range 4).map fun i =>
    gmul (nth 0 c i) 2 ^^^ gmul (nth 0 c ((i + 1) % 4)) 3 ^^^ nth 0 c ((i + 2) % 4) ^^^ nth 0 c ((i + 3) % 4)

/-- A list cut into pieces of `n`. -/
def pieces {α : Type} (n k : Nat) (l : List α) : List (List α) := (List.range k).map fun i => (l.drop (n * i)).take n

/-- AES encryption of one 16-byte block under a key of 16 or 32 bytes. PRESUMED (notes/assumptions/5.md). -/
def aesEncrypt (key block : List Nat) : List Nat :=
  let nk := key.length / 4
  let nr := nk + 6
  let ws := keyExpand nk (4 * (nr + 1) - nk) (pieces 4 nk key)
  let rk (r : Nat) : List Nat := ((ws.drop (4 * r)).take 4).flatten
  let s0 := xorBytes block (rk 0)
  let s := (List.range (nr - 1)).foldl (fun b r =>
    xorBytes ((pieces 4 4 (shiftRows (b.map sbox))).flatMap mixColumn) (rk (r + 1))) s0
  xorBytes (shiftRows (s.map sbox)) (rk nr)

/-- The key check value of R118: the first 24 bits of the encryption of the all-zero block.
PRESUMED (notes/assumptions/5.md). -/
def keyCheckValue (key : List Word) : Nat :=
  let b := aesEncrypt (key.flatMap wordBytes) (List.replicate 16 0)
  nth 0 b 0 * 65536 + nth 0 b 1 * 256 + nth 0 b 2

/-- A byte string as a number, most significant byte first, and back. -/
def bytesNat (b : List Nat) : Nat := b.foldl (fun n x => n * 256 + x) 0
def natBytes (k n : Nat) : List Nat := (List.range k).map fun i => n / 2 ^ (8 * (k - 1 - i)) % 256

/-! ### SHA-256 -/

/-- The first `n` primes. -/
def primes (n : Nat) : List Nat :=
  ((List.range 312).filter fun p => 2 ≤ p ∧ (List.range p).all fun d => d < 2 ∨ p % d ≠ 0).take n

/-- The greatest `r` with `r ^ e ≤ n`, by bits from 2^k down. -/
def irootFrom (e n : Nat) : Nat → Nat → Nat
  | 0, r => if (r + 1) ^ e ≤ n then r + 1 else r
  | k + 1, r => irootFrom e n k (if (r + 2 ^ (k + 1)) ^ e ≤ n then r + 2 ^ (k + 1) else r)

/-- The first 32 fraction bits of the `e`-th root of a small prime. -/
def rootFrac (e p : Nat) : Nat := irootFrom e (p * 2 ^ (32 * e)) 40 0 % 2 ^ 32

def rotr32 (x n : Nat) : Nat := x / 2 ^ n + x * 2 ^ (32 - n) % 2 ^ 32
def add32 (l : List Nat) : Nat := l.foldl (· + ·) 0 % 2 ^ 32

/-- One block of SHA-256 into the chaining value. -/
def sha256Block (hs : List Nat) (blk : List Nat) : List Nat :=
  let w0 := (pieces 4 16 blk).map bytesNat
  let w := (List.range 48).foldl (fun w k =>
    let i := k + 16
    let a := nth 0 w (i - 15)
    let b := nth 0 w (i - 2)
    let s0 := rotr32 a 7 ^^^ rotr32 a 18 ^^^ (a / 8)
    let s1 := rotr32 b 17 ^^^ rotr32 b 19 ^^^ (b / 1024)
    w ++ [add32 [nth 0 w (i - 16), s0, nth 0 w (i - 7), s1]]) w0
  let ks := (primes 64).map (rootFrac 3)
  let out := (List.range 64).foldl (fun (v : List Nat) i =>
    let x (k : Nat) := nth 0 v k
    let e := x 4
    let a := x 0
    let t1 := add32 [x 7, rotr32 e 6 ^^^ rotr32 e 11 ^^^ rotr32 e 25, (e &&& x 5) ^^^ ((2 ^ 32 - 1 - e) &&& x 6),
      nth 0 ks i, nth 0 w i]
    let t2 := add32 [rotr32 a 2 ^^^ rotr32 a 13 ^^^ rotr32 a 22, (a &&& x 1) ^^^ (a &&& x 2) ^^^ (x 1 &&& x 2)]
    [add32 [t1, t2], a, x 1, x 2, add32 [x 3, t1], e, x 5, x 6]) hs
  List.zipWith (fun a b => (a + b) % 2 ^ 32) hs out

/-- SHA-256 of a byte string, as a number. PRESUMED (notes/assumptions/5.md). -/
def sha256 (msg : List Nat) : Nat :=
  let pad := (119 - msg.length % 64) % 64
  let m := msg ++ [0x80] ++ List.replicate pad 0 ++ natBytes 8 (8 * msg.length)
  let hs := (pieces 64 (m.length / 64) m).foldl sha256Block ((primes 8).map (rootFrac 2))
  hs.foldl (fun n h => n * 2 ^ 32 + h) 0

/-! ### ECDSA over P-256 -/

def p256 : Nat := 2 ^ 256 - 2 ^ 224 + 2 ^ 192 + 2 ^ 96 - 1
def p256n : Nat := 0xFFFFFFFF00000000FFFFFFFFFFFFFFFFBCE6FAADA7179E84F3B9CAC2FC632551
def p256b : Nat := 0x5AC635D8AA3A93E7B3EBBD55769886BC651D06B0CC53B0F63BCE3C3E27D2604B
def p256g : Nat × Nat :=
  (0x6B17D1F2E12C4247F8BCE6E563A440F277037D812DEB33A0F4A13945D898C296,
   0x4FE342E2FE1A7F9B8EE7EB4A7C0F9E162BCE33576B315ECECBB6406837BF51F5)

/-- A power modulo `m`, by the low `k` bits of the exponent. -/
def powMod (m : Nat) : Nat → Nat → Nat → Nat
  | 0, _, _ => 1 % m
  | k + 1, b, e => let r := powMod m k (b * b % m) (e / 2); if e % 2 = 1 then r * b % m else r

/-- The inverse modulo a prime. -/
def invMod (m a : Nat) : Nat := powMod m 256 (a % m) (m - 2)

/-- Addition of points of P-256; `none` is the point at infinity. -/
def ecAdd : Option (Nat × Nat) → Option (Nat × Nat) → Option (Nat × Nat)
  | none, q => q
  | p, none => p
  | some (x1, y1), some (x2, y2) =>
    if x1 = x2 ∧ (y1 + y2) % p256 = 0 then none
    else
      let l := if x1 = x2 then (3 * x1 * x1 + (p256 - 3)) * invMod p256 (2 * y1) % p256
        else (y2 + p256 - y1) * invMod p256 (x2 + p256 - x1) % p256
      let x3 := (l * l + 2 * p256 - x1 - x2) % p256
      some (x3, (l * (x1 + p256 - x3) + p256 - y1) % p256)

/-- A multiple of a point, by the low `k` bits of the factor. -/
def ecMul : Nat → Nat → Option (Nat × Nat) → Option (Nat × Nat)
  | 0, _, _ => none
  | k + 1, e, p => let r := ecMul k (e / 2) (ecAdd p p); if e % 2 = 1 then ecAdd r p else r

/-- The ECDSA check of signature (r, s) on a hash under the public key (x, y).
PRESUMED (notes/assumptions/5.md). -/
def ecdsaOk (hash r s x y : Nat) : Bool :=
  if r = 0 ∨ p256n ≤ r ∨ s = 0 ∨ p256n ≤ s ∨ p256 ≤ x ∨ p256 ≤ y ∨
      y * y % p256 ≠ (x * x * x + (p256 - 3) * x + p256b) % p256 then false
  else
    let w := invMod p256n s
    match ecAdd (ecMul 256 (hash * w % p256n) (some p256g)) (ecMul 256 (r * w % p256n) (some (x, y))) with
    | none => false
    | some (v, _) => v % p256n == r

end Sys2Proof.Machine
end

