-- ==== Sys2Proof/Machine/BlkVat.lean ====
section
/-! DEFINITION. The Vat (chapter 07) but for its register-bus instructions: threads, issue, traps, waits, images, and the
VAT_ registers. -/

namespace Sys2Proof.Machine

/-! ### Threads -/

/-- Thread `t`. -/
def State.thread (s : State) (t : Nat) : Thread := nth {} s.vat.threads t

/-- The state with thread `t` changed. -/
def onThread (t : Nat) (f : Thread → Thread) (s : State) : State :=
  { s with vat := { s.vat with threads := updFrom {} s.vat.threads t f } }

/-- CODE_WORDS of the installed image; 0 when none is installed. -/
def State.codeWords (s : State) : Nat :=
  match s.vat.img with
  | some i => i.codeWords
  | none => 0

/-- A register of a thread; V0 reads as zero (R143). -/
def State.vreg (s : State) (t r : Nat) : Word := if r = 0 then 0 else nth 0 (s.thread t).regs r

/-- The state after a thread register takes a value; a write to V0 is discarded (R143). -/
def setV (t r : Nat) (v : Word) (s : State) : State :=
  if r = 0 then s else onThread t (fun th => { th with regs := updFrom 0 th.regs r fun _ => v }) s

/-- A thread is Stopped, Halted or Trapped. -/
def Thread.idle (th : Thread) : Bool := th.state == .stopped || th.state == .halted || th.state == .trapped

/-- Every thread is Stopped, Halted or Trapped (R164, R168). -/
def State.allIdle (s : State) : Bool := s.vat.threads.all Thread.idle

/-- The thread can issue: it is Running and the engine's domains run (R144).
DESIGN CHOICE (notes/assumptions/19.md). -/
def State.runs (s : State) (t : Nat) : Bool := s.live && (s.thread t).state == .running

/-- The thread after R142: Stopped, PC 0, registers zero, last code OK, timer disarmed, context 0. -/
def Thread.cleared : Thread := {}

/-- R142 applied to every thread. -/
def clearThreads (s : State) : State := { s with vat := { s.vat with threads := List.replicate 8 {}, lastIssued := 7 } }

/-- A thread started at `pc` (R152, R159): its occurrence counts begin. -/
def Thread.begin (th : Thread) (pc : Nat) : Thread :=
  { th with state := .running, pc, wait := none, started := true, counts := [], yieldFor := [], stepping := false }

/-- A trap (R158, Table 7.5), with the instruction word `w`. DEDUCED (notes/assumptions/21.md). -/
def vTrapWith (w : Word) (t cause : Nat) (s : State) : State :=
  let th := s.thread t
  let handled := s.flag (VAT_TTRAP t) 31 && !th.inTrap
  let th' := { th with cause, nested := th.inTrap, epc := th.pc, tword := w, wait := none, inTrap := th.inTrap || handled }
  let s := onThread t (fun _ =>
    if handled then { th' with pc := s.fld (VAT_TTRAP t) 13 0, state := if th.stepping then .stopped else .running,
                               stepping := false }
    else { th' with state := .trapped, stepping := false }) s
  raiseN (0x040 + 8 * t) (at_ cause 28 + at_ (b2n th'.nested) 27 + th.pc) s

/-- A trap of the instruction that program memory holds at the thread's PC. -/
def vTrap (t cause : Nat) (s : State) : State := vTrapWith (memGet zeroes s.vat.pm (s.thread t).pc) t cause s

/-- The thread goes on at `pc`; a STEP ends here (Table 7.8). DEDUCED (notes/assumptions/21.md). -/
def vGo (t pc : Nat) (s : State) : State :=
  onThread t (fun th => { th with pc, wait := none, state := if th.stepping then .stopped else .running, stepping := false }) s

/-- The instruction completes without a code. -/
def vNext (t : Nat) (s : State) : State := vGo t ((s.thread t).pc + 1) s

/-- The instruction completes with a code, which becomes the last code and may trap BUS_CODE (Table 7.5). -/
def vCode (t : Nat) (c : Code) (s : State) : State :=
  let s := onThread t (fun th => { th with lastCode := c.num }) s
  if c != .ok && s.flag (VAT_TCFG t) 0 then vTrap t 5 s else vNext t s

/-- A thread issues an instruction (R144): it is counted, and threads that yielded to it have one less to wait for.
DESIGN CHOICE (notes/assumptions/20.md). -/
def vIssued (t : Nat) (s : State) : State :=
  let s := s.count (VAT_TCNT t) 31 0
  { s with vat := { s.vat with
      lastIssued := t
      threads := s.vat.threads.map fun th => { th with yieldFor := th.yieldFor.filter (· != t) } } }

/-- The eligible threads: Running and not yielding to a thread that is itself able to issue (R144). -/
def State.eligible (s : State) (t : Nat) : Bool :=
  s.runs t && !(s.thread t).yieldFor.any (fun u => s.runs u && (s.thread u).yieldFor.isEmpty)

/-- An instruction of thread `t`: nothing happens unless the thread is eligible. An illegal field traps ILLEGAL (R146); an
instruction that goes on at PC + 1 traps PC_RANGE when that lies beyond the code (Table 7.5).
DESIGN CHOICE (notes/assumptions/20.md). -/
def vInstr (t : Nat) (legal seq : Bool) (f : State → State) (s : State) : State :=
  if !s.eligible t then s
  else
    let s := vIssued t s
    if !legal then vTrap t 1 s
    else if seq && decide (s.codeWords ≤ (s.thread t).pc + 1) then vTrap t 2 s
    else f s

/-- An instruction that writes `rd` from the state and goes on. -/
def vSet (t rd : Nat) (f : State → Word) (s : State) : State :=
  vInstr t true true (fun s => vNext t (setV t rd (f s) s)) s

/-- A three-register instruction. -/
def vAlu (t rd ra rb : Nat) (f : Word → Word → Word) (s : State) : State :=
  vSet t rd (fun s => f (s.vreg t ra) (s.vreg t rb)) s

/-- An instruction with an immediate already extended. -/
def vImm (t rd ra : Nat) (imm : Word) (f : Word → Word → Word) (s : State) : State :=
  vSet t rd (fun s => f (s.vreg t ra) imm) s

/-- A shift by an immediate: imm18[17:5] must be zero (Table 7.2). -/
def vShift (t rd ra : Nat) (imm : BitVec 18) (f : Word → Nat → Word) (s : State) : State :=
  vInstr t (decide (imm.toNat < 32)) true (fun s => vNext t (setV t rd (f (s.vreg t ra) imm.toNat) s)) s

/-- A jump or taken branch to `target`; beyond the code it traps PC_RANGE (Table 7.5). -/
def vJump (t : Nat) (target : Int) (s : State) : State :=
  if decide (0 ≤ target) && decide (target < s.codeWords) then vGo t target.toNat s else vTrap t 2 s

/-- A branch taken when the condition holds; not taken, it goes on at PC + 1. -/
def vBranchIf (t : Nat) (off : BitVec 18) (c : State → Bool) (s : State) : State :=
  vInstr t true false (fun s =>
    if c s then vJump t ((s.thread t).pc + off.toInt) s
    else if s.codeWords ≤ (s.thread t).pc + 1 then vTrap t 2 s else vNext t s) s

/-- A branch on two registers. -/
def vBranch (t ra rb : Nat) (off : BitVec 18) (c : Word → Word → Bool) (s : State) : State :=
  vBranchIf t off (fun s => c (s.vreg t ra) (s.vreg t rb)) s

/-- A data-memory instruction at byte address `a`, checked for alignment and range (Table 7.5). -/
def vMem (t : Nat) (addr : State → Word) (f : Nat → State → State) (s : State) : State :=
  vInstr t true false (fun s =>
    let a := (addr s).toNat
    if a % 4 != 0 then vTrap t 3 s
    else if 16384 ≤ a then vTrap t 4 s
    else if s.codeWords ≤ (s.thread t).pc + 1 then vTrap t 2 s
    else vNext t (f (a / 4) s)) s

/-- A word of data memory. -/
def State.dmem (s : State) (w : Nat) : Word := memGet zeroes s.vat.dm w

/-- The state after a data-memory word takes a value. -/
def setDm (w : Nat) (v : Word) (s : State) : State := { s with vat := { s.vat with dm := memPut zeroes s.vat.dm w v } }

/-- The context a context field names: 0–7, or 8 for the thread's current context; none when illegal. -/
def State.ctxOf (s : State) (t f : Nat) : Option Nat :=
  if f < 8 then some f else if f = 8 then some (s.thread t).ctx else none

/-! ### Scheduling (R144) -/

/-- The thread that issues next: the next eligible one in ascending number after the last, wrapping. -/
def State.nextThread (s : State) : Option Nat :=
  ((List.range 8).map fun i => (s.vat.lastIssued + 1 + i) % 8).find? s.eligible

/-! ### Waits -/

/-- A wait ends with a value in `rd` and a code. -/
def wakeWith (t rd : Nat) (v : Word) (c : Code) (s : State) : State := vCode t c (setV t rd v s)

/-- A wait ends with a code and no value. -/
def wakeCode (t : Nat) (c : Code) (s : State) : State := vCode t c s

/-- The occurrence count of a thread for one context and point (R152). -/
def Thread.count (th : Thread) (k : Nat) : Nat × Nat := aget (0, 0) th.counts k

/-- A WFRM returns: its count is set to 0. -/
def clearCount (t k : Nat) (s : State) : State := onThread t (fun th => { th with counts := adel th.counts k }) s

/-- A frame point of context `c` occurs for frame `fn` (R152): counts rise and waiting threads wake.
DEDUCED (notes/assumptions/56.md). -/
def framePoint (c pt fn : Nat) (s : State) : State :=
  (List.range 8).foldl (fun s t =>
    let th := s.thread t
    let k := 4 * c + pt
    let s := if th.started then
        onThread t (fun th => { th with counts := aput th.counts k (sat 255 ((th.count k).1 + 1), fn) }) s else s
    match th.wait with
    | some (.frame rd c' p') => if c' = c ∧ p' = pt then wakeWith t rd (word fn) .ok (clearCount t k s) else s
    | _ => s) s

/-- A shingle of context `c` ends in the pipeline. -/
def shingleEnd (c fn idx : Nat) (s : State) : State :=
  (List.range 8).foldl (fun s t =>
    match (s.thread t).wait with
    | some (.shingle rd c') =>
      if c' = c then wakeWith t rd (word (fn % 2 ^ 24 * 256 + idx % 256)) .ok s else s
    | _ => s) s

/-- A context is disabled: the waits on it end with E_CTX and rd unchanged (R151). -/
def ctxWaitsEnd (c : Nat) (s : State) : State :=
  (List.range 8).foldl (fun s t =>
    match (s.thread t).wait with
    | some (.frame _ c' p) => if c' = c then wakeCode t .eCtx (clearCount t (4 * c + p) s) else s
    | some (.shingle _ c') => if c' = c then wakeCode t .eCtx s else s
    | _ => s) s

/-- The source that thread `t`'s event wait takes: the first presented to its D2 in the order of R124. -/
def State.d2Source (s : State) (t : Nat) : Option Nat := s.topPresented 2 (fun n => s.srcTgt n == t)

/-- The event wait takes source `n` (R128, R137): rd the descriptor, ra the DATA. When rd and ra name one register the
spec does not say which of the two it holds: a free value. DESIGN CHOICE (notes/assumptions/7.md). -/
def takeEvent (t rd ra n : Nat) (s : State) : State :=
  let x := s.src n
  let d := word (at_ x.vecMerged 24 + at_ x.vecSupp 16 + at_ 1 15 + n)
  let data := s.reg (GUT_EDATA n)
  let s := if s.srcLatch n then s else acknowledge [n] s
  let s := if rd = ra ∧ rd ≠ 0 then (let p := s.draw; setV t rd p.1 p.2) else setV t ra data (setV t rd d s)
  vNext t s

/-- Threads in an event wait take what is presented to them (R137). -/
def wakeEvents (s : State) : State :=
  if !s.live then s
  else (List.range 8).foldl (fun s t =>
    match (s.thread t).wait with
    | some (.event rd ra _) =>
      match s.d2Source t with
      | some n => takeEvent t rd ra n s
      | none => s
    | _ => s) s

/-- A thread begins a wait; its PC stays at the wait instruction. -/
def vWait (t : Nat) (w : VWait) (s : State) : State := onThread t (fun th => { th with state := .waiting, wait := some w }) s

/-! ### Timers (R154) -/

/-- A WTIM returns with `n` missed expiries. -/
def timerReturn (t rd n : Nat) (s : State) : State :=
  let s := raiseIf (decide (1 ≤ n)) (0x042 + 8 * t) (at_ 1 28 + sat 0xFFFF n) s
  wakeWith t rd (word n) .ok s

/-- The thread timer expires: a waiting WTIM returns with rd = 0; otherwise the expiry stays to be taken. -/
def timerExpire (t : Nat) (s : State) : State :=
  let th := s.thread t
  if th.period = 0 ∨ th.missed ≠ 0 ∧ !th.periodic then s
  else
    let s := onThread t (fun th => { th with expiry := if th.periodic then th.expiry + th.period else s.upTicks }) s
    match th.wait with
    | some (.timer rd) =>
      timerReturn t rd 0 (if th.periodic then s else onThread t (fun th => { th with period := 0 }) s)
    | _ => onThread t (fun th => { th with missed := th.missed + 1 }) s

/-! ### Images (R163 to R168, Table 7.6) -/

/-- The words of an image after its header: its length from the header fields. -/
def imageLength (g : Nat → Word) : Nat := 16 + (g 2).toNat + (g 3).toNat / 4 + 32

/-- An image's header is legal (Table 7.6). -/
def headerOk (g : Nat → Word) : Bool :=
  let i2c (k hi lo : Nat) : Bool := let a := bits (g k) hi lo; a == 0 || (decide (0x08 ≤ a) && decide (a ≤ 0x77))
  g 0 == 0x56415452 && bits (g 1) 31 16 == 1 && bits (g 1) 15 0 == 16 &&
  decide (1 ≤ (g 2).toNat) && decide ((g 2).toNat ≤ 16384) &&
  decide ((g 3).toNat ≤ 16384) && (g 3).toNat % 4 == 0 && decide ((g 4).toNat < (g 2).toNat) &&
  bits (g 5) 31 6 == 0 && i2c 6 31 24 && i2c 6 23 16 && i2c 6 15 8 && i2c 6 7 0 && i2c 7 31 24 && i2c 7 23 16 &&
  bits (g 7) 15 0 == 0 && bits (g 8) 31 16 == 0 &&
  decide (bits (g 8) 15 8 ≤ bits (resetWord ID_VER) 31 24) && decide (bits (g 8) 7 0 ≤ bits (resetWord ID_VER) 23 16) &&
  bits (g 10) 31 2 == 0 && (List.range 5).all (fun i => g (11 + i) == 0) &&
  Config.otpProg / 2 ^ bits (g 10) 1 0 % 2 == 1

/-- A 256-bit number in eight words, most significant first. PRESUMED (notes/assumptions/5.md). -/
def num256 (g : Nat → Word) (k : Nat) : Nat := (List.range 8).foldl (fun n i => n * 2 ^ 32 + (g (k + i)).toNat) 0

/-- The public key's hash is the slot's, and the signature over everything before it is valid (chapter 07).
PRESUMED (notes/assumptions/5.md). -/
def imageAuth (g : Nat → Word) : Bool :=
  let n := imageLength g
  let body := (List.range (n - 16)).map g
  let key := (List.range 16).map fun i => g (n - 32 + i)
  sha256 (key.flatMap wordBytes) == Config.otpHash (bits (g 10) 1 0) &&
  ecdsaOk (sha256 (body.flatMap wordBytes)) (num256 g (n - 16)) (num256 g (n - 8)) (num256 g (n - 32)) (num256 g (n - 24))

/-- The checks of R164 in their order, on an image of `len` words. -/
def imageCode (g : Nat → Word) (len : Nat) : Code :=
  if len ≠ imageLength g then .eLen else if !headerOk g then .eRange else if !imageAuth g then .eAuth else .ok

/-- An image slot's word. -/
def slotWord (l : List Word) (i : Nat) : Word := nth 0 l i

/-- The slot that step 8 chooses first: the valid-marked one with the higher SERIAL (R167): 2 A, 3 B. -/
def State.chosenSlot (s : State) : Option (Nat × List Word) :=
  match s.vat.slotA, s.vat.slotB with
  | some a, some b => if (slotWord b 9).toNat > (slotWord a 9).toNat then some (3, b) else some (2, a)
  | some a, none => some (2, a)
  | none, some b => some (3, b)
  | none, none => none

/-- Step 8 on the slots (R167): the valid-marked slot with the higher SERIAL, on failure the other. -/
def State.step8Slot (s : State) : Option Nat :=
  let ok (l : Option (List Word)) : Bool := match l with | some w => imageCode (slotWord w) w.length == .ok | none => false
  match s.chosenSlot with
  | some (2, _) => if ok s.vat.slotA then some 2 else if ok s.vat.slotB then some 3 else none
  | some _ => if ok s.vat.slotB then some 3 else if ok s.vat.slotA then some 2 else none
  | none => none

/-- The slot that step 8 would choose, and its words (R164, R166): the one that passes; where none does, the one it checks first.
DEDUCED (notes/assumptions/77.md). -/
def State.norSlot (s : State) : Option (Nat × List Word) :=
  match s.step8Slot with
  | some 2 => s.vat.slotA.map fun w => (2, w)
  | some _ => s.vat.slotB.map fun w => (3, w)
  | none => s.chosenSlot

/-- The installation of an image (R165): memories loaded, threads cleared, VAT_TTRAP and VAT_TCFG cleared.
DESIGN CHOICE (notes/assumptions/59.md). -/
def installImage (g : Nat → Word) (origin : Nat) (s : State) : State :=
  let cw := (g 2).toNat
  let dw := (g 3).toNat / 4
  let pm := memPutList zeroes [] 0 1 ((List.range cw).map fun i => g (16 + i))
  let dm := memPutList zeroes [] 0 1 ((List.range dw).map fun i => g (16 + cw + i))
  let s := { s with vat := { s.vat with pm, dm, img := some ⟨origin, bits (g 10) 1 0, dw, cw, g 9⟩ } }
  let s := clearThreads s
  (List.range 8).foldl (fun s t => (s.setReg (VAT_TTRAP t) 0).setReg (VAT_TCFG t) 0) s

/-- The staging window cleared. -/
def clearStaging (s : State) : State := { s with vat := { s.vat with staging := [] } }

/-- CHECK ends (R164, R165): its code and the state. `src` 1 names the NOR slot that step 8 would choose. -/
def checkImage (src : Nat) (start : Bool) (s : State) : Code × State :=
  let r : Code × Nat × (Nat → Word) :=
    if src = 0 then
      let g := memGet zeroes s.vat.staging
      (imageCode g (s.fld VAT_LADDR 14 0), 1, g)
    else
      match s.norSlot with
      | some (o, l) => (imageCode (slotWord l) l.length, o, slotWord l)
      | none => (.eLen, 0, slotWord [])
  let mark (ok : Bool) (s : State) : State :=
    let s := { s with vat := { s.vat with checked := true, stagedIsInstalled := if ok then src == 0 else s.vat.stagedIsInstalled } }
    if src = 0 then s.setReg VAT_LADDR 0 else s
  if r.1 = .ok then
    let s := mark true (installImage r.2.2 r.2.1 s)
    (.ok, if start then onThread 0 (fun th => th.begin (r.2.2 4).toNat) s else s)
  else (r.1, clearStaging (mark false s))

/-- A bulk write of image words at VAT_LADDR (R163). -/
def loadImageWords (ws : List Word) (s : State) : State :=
  let a := s.fld VAT_LADDR 14 0
  let s := if s.vat.checked then clearStaging s else s
  let s := { s with vat := { s.vat with staging := memPutList zeroes s.vat.staging a 1 ws, checked := false,
                                        stagedIsInstalled := false } }
  s.setReg VAT_LADDR (word (a + ws.length))

/-- STOPALL and STOP (R161): a running thread stops at its next instruction, a waiting one keeps PC at its wait. -/
def stopThread (t : Nat) (s : State) : State :=
  onThread t (fun th => { th with state := .stopped, wait := none, stepping := false, yieldFor := [] }) s

/-- The thread commands of Table 7.8 that the present state allows. -/
def State.tctlAllowed (s : State) (t cmd : Nat) : Bool :=
  match cmd with
  | 1 | 3 => (s.thread t).idle
  | 4 => (s.thread t).state == .stopped
  | _ => true

/-- A thread command takes effect (Table 7.8). -/
def tctl (t cmd pc : Nat) (s : State) : State :=
  match cmd with
  | 1 => onThread t (fun th => { th.begin pc with inTrap := false }) s
  | 2 => stopThread t s
  | 3 => onThread t (fun th =>
      { th with state := .running, pc := if th.state == .trapped then th.epc + 1 else th.pc, stepping := false }) s
  | _ => onThread t (fun th => { th with state := .running, stepping := true }) s

/-- The numbers of VAT_TSTAT.STATE and WAIT. -/
def ThState.num : ThState → Nat
  | .stopped => 0 | .running => 1 | .waiting => 2 | .trapped => 3 | .halted => 4

def VWait.num : VWait → Nat
  | .frame .. => 1 | .shingle .. => 2 | .event .. => 3 | .timer .. => 4 | .bus => 5

/-- A bitmap over the threads. -/
def State.threadMap (s : State) (f : Thread → Bool) : Nat :=
  (List.range 8).foldl (fun n t => n + b2n (f (s.thread t)) * 2 ^ t) 0

/-- The VAT_ registers of one thread (offsets from VAT_TCTL). DEDUCED (notes/assumptions/22.md). -/
def threadView (th : Thread) (up off : Nat) : Option Word :=
  match off with
  | 0x04 => some (word (at_ th.state.num 29 + at_ th.ctx 26 + at_ (match th.wait with | some w => w.num | none => 0) 23 +
      at_ th.lastCode 15 + at_ (b2n th.inTrap) 14 + th.pc % 16384))
  | 0x10 => some (word (at_ th.cause 28 + at_ (b2n th.nested) 27 + th.epc))
  | 0x14 => some th.tword
  | 0x18 => some (word (if th.period = 0 then 0 else th.expiry - up))
  | _ => none

/-- The live words of page 0x04. -/
def vatView (a : Nat) (s : State) : Option Word :=
  let v := s.vat
  if VAT_DMEM 0 ≤ a ∧ a < VAT_DMEM 4096 then some (s.dmem ((a - VAT_DMEM 0) / 4))
  else if VAT_TV 0 0 ≤ a ∧ a < VAT_TV 8 0 then
    some (s.vreg ((a - VAT_TV 0 0) / 0x40) ((a - VAT_TV 0 0) % 0x40 / 4))
  else if VAT_TCTL 0 ≤ a ∧ a < VAT_TCTL 8 then
    threadView (s.thread ((a - VAT_TCTL 0) / 0x20)) s.upTicks ((a - VAT_TCTL 0) % 0x20)
  else
    let (i0, i1) := match v.img with
      | some i => (at_ i.origin 30 + at_ i.keySlot 28 + at_ i.dataWords 15 + i.codeWords, i.serial)
      | none => (0, 0)
    [ (VAT_STAT, word (at_ (b2n v.img.isSome) 31 + at_ (s.threadMap (·.state == .trapped)) 16 +
        at_ (s.threadMap (·.state == .waiting)) 8 +
        s.threadMap (fun th => th.state == .running || th.state == .waiting))),
      (VAT_IMG0, word i0), (VAT_IMG1, i1),
      (VAT_NOR, word (at_ (b2n v.storeBusy) 31 + at_ (b2n v.storeFail) 30 + at_ (b2n v.slotA.isSome) 29 +
        at_ (b2n v.slotB.isSome) 28)),
      (VAT_OTP, word (Config.otpProg % 16))].lookup a

/-- A CHECK starts long operation 6; its operands are kept in `arg`: 2 · SRC + START. -/
def startCheck (v : Word) (s : State) : State :=
  { s with cp := { s.cp with op := some ⟨6, bits v 1 0, s.time⟩ } }

/-- A STORE begins (R166): the slot that step 8 would not choose takes the staged image, which a CHECK that failed since has left zero.
DEDUCED (notes/assumptions/77.md). -/
def startStore (s : State) : State :=
  let slot := match s.norSlot with
    | some (2, _) => 3
    | _ => 2
  let ws := memGetList zeroes s.vat.staging 0 1 (imageLength (memGet zeroes s.vat.staging))
  let v := { s.vat with storeBusy := true, storeSlot := slot, storeWords := ws }
  { s with vat := if slot = 2 then { v with slotA := none } else { v with slotB := none } }

/-- STOPALL and CLEAR (R168). -/
def stopAll (s : State) : State := (List.range 8).foldl (fun s t => stopThread t s) s
def clearVat (s : State) : State := clearThreads { s with vat := { s.vat with pm := [], dm := [], img := none } }

/-- The writes of the VAT_ registers (R147, R159, R162, R164, R166, R168, Table 7.10). -/
def vatWrite (o : Origin) (a : Nat) (v : Word) (s : State) : Option WriteRule :=
  if VAT_DMEM 0 ≤ a ∧ a < VAT_DMEM 4096 then some { store := false, app := setDm ((a - VAT_DMEM 0) / 4) v }
  else if VAT_TV 0 0 ≤ a ∧ a < VAT_TV 8 0 then
    let t := (a - VAT_TV 0 0) / 0x40
    let r := (a - VAT_TV 0 0) % 0x40 / 4
    some { pre := if r = 0 then .eRo else chk (!(s.thread t).idle) .eState, store := false, app := setV t r v }
  else if VAT_TCTL 0 ≤ a ∧ a < VAT_TCTL 8 then
    let t := (a - VAT_TCTL 0) / 0x20
    match (a - VAT_TCTL 0) % 0x20 with
    | 0x00 =>
      let cmd := bits v 31 28
      some { pre := chk ((match o with | .vat u => u.val == t | .host => false) || s.vat.img.isNone ||
                        !s.tctlAllowed t cmd) .eState,
             bad := !(decide (1 ≤ cmd) && decide (cmd ≤ 4)) || (cmd == 1 && decide (s.codeWords ≤ bits v 13 0)),
             store := false, app := tctl t cmd (bits v 13 0) }
    | 0x0C => some { bad := bit v 31 && decide (s.codeWords ≤ bits v 13 0) }
    | _ => none
  else if a = VAT_CMD then
    let cmd := bits v 31 28
    some { pre := chk (isVat o ||
                    ((cmd == 1 || cmd == 3) && !s.allIdle) ||
                    (cmd == 4 && (s.vat.storeBusy || !s.vat.stagedIsInstalled || s.inEffect 12 ||
                      s.vat.img.map (·.origin) != some 1))) .eState,
           store := false,
           app := match cmd with
             | 1 => startCheck v
             | 2 => stopAll
             | 3 => clearVat
             | _ => startStore }
  else none

end Sys2Proof.Machine
end

