-- ==== Sys2Proof/Machine/BlkTables.lean ====
section
/-! DEFINITION. The table store (chapter 09): the catalogue, banks, staging, load check, swap and retirement, statistics
rings, and the TBL_ registers. -/

namespace Sys2Proof.Machine

/-! ### Catalogue (Table 9.3) -/

/-- The type of a table number: 1 NUC, 2 radiometric, 3 palette, 4 tone curve, 5 colour matrices; 0 when no table. -/
def tableType (n : Nat) : Nat :=
  if n < 4 then 1 else if n < 8 then 2 else if 0x10 ≤ n ∧ n < 0x20 then 3 else if 0x20 ≤ n ∧ n < 0x30 then 4
  else if n = 0x30 then 5 else 0

/-- The bank size of a table in words. -/
def bankWords (n : Nat) : Nat :=
  match tableType n with
  | 1 => 10 * 2 ^ 18 | 2 => 2 ^ 17 | 3 => 2 ^ 10 | 4 => 2 ^ 11 | 5 => 2 ^ 8 | _ => 0

/-- Table `n`. -/
def State.table (s : State) (n : Nat) : Table := aget {} s.tbl.tabs n

/-- The state with table `n` changed. -/
def onTable (n : Nat) (f : Table → Table) (s : State) : State :=
  { s with tbl := { s.tbl with tabs := aput s.tbl.tabs n (f (s.table n)) } }

/-- Bank `b` of a table. -/
def Table.bank (t : Table) (b : Nat) : Bank := if b = 0 then t.b0 else t.b1

/-- The table with bank `b` changed. -/
def Table.setBank (t : Table) (b : Nat) (x : Bank) : Table := if b = 0 then { t with b0 := x } else { t with b1 := x }

/-- The ACTIVE bank, if any. -/
def Table.active (t : Table) : Option Bank :=
  if t.b0.st = .active then some t.b0 else if t.b1.st = .active then some t.b1 else none

/-- The bank that is not ACTIVE; bank 1 when neither is (R187). -/
def Table.inactiveIx (t : Table) : Nat := if t.b1.st = .active then 0 else 1

/-! ### Users (R192, R307, chapter 16) -/

/-- The source that INT_MAP gives context `c`. -/
def State.source (s : State) (c : Nat) : Nat := s.fld INT_MAP (4 * c + 3) (4 * c)

/-- The frames that context `c` takes are RAW14 (R307). -/
def State.takesRaw14 (s : State) (c : Nat) : Bool :=
  decide (s.source c < 4) || (s.source c == 6 && decide (6 ≤ c) && s.fld (INT_XCFG (c - 6)) 27 26 == 0)

/-- Context `c` is ON or STOPPING (R174). -/
def State.ctxEnabled (s : State) (c : Nat) : Bool := (nth {} s.sch.ctxs c).st != .off

/-- The active settings of context `c` name table `n`. -/
def State.namesTable (s : State) (c n : Nat) : Bool :=
  match tableType n with
  | 1 => s.takesRaw14 c && s.cwf (NUC_CFG c) 7 0 == n
  | 2 => s.takesRaw14 c && s.cwf (NUC_CFG c) 30 30 == 1 && s.cwf (NUC_CFG c) 15 8 == n
  | 3 => s.cwf (RND_PAL c) 7 0 == n
  | 4 => s.cwf (RND_PAL c) 15 8 == n || s.cwf (RND_COL c) 23 16 == n || s.cwf (RND_COL c) 15 8 == n ||
         s.cwf (RND_COL c) 7 0 == n
  | 5 => s.cwf (RND_COL c) 31 31 == 1
  | _ => false

/-- The contexts that use table `n`: ON or STOPPING, with settings that name it. -/
def State.users (s : State) (n : Nat) : List Nat :=
  (List.range 8).filter fun c => s.ctxEnabled c && s.namesTable c n

/-! ### Swap and retirement (R191 to R193) -/

/-- Retiring banks of table `n` become VALID once nothing is waited for. -/
def retireTable (n : Nat) (s : State) : State :=
  let t := s.table n
  if t.swapPend && t.wait.isEmpty && t.old.isEmpty then
    let r (b : Bank) : Bank := if b.st = .retiring then { b with st := .valid } else b
    onTable n (fun t => { t with swapPend := false, b0 := r t.b0, b1 := r t.b1 }) s
  else s

/-- Every table's retirement is looked at. -/
def retireAll (s : State) : State := s.tbl.tabs.foldl (fun s p => retireTable p.1 s) s

/-- Context `c` had an accepted frame start, or went OFF: it no longer holds a swap back (R192). -/
def ctxMoved (c : Nat) (s : State) : State :=
  retireAll { s with tbl := { s.tbl with tabs := s.tbl.tabs.map fun p => (p.1, { p.2 with wait := p.2.wait.filter (· != c) }) } }

/-- A frame of context `c` reached DONE or broke: it no longer holds an old bank (R193). -/
def frameGone (c fn : Nat) (s : State) : State :=
  retireAll { s with tbl := { s.tbl with tabs := s.tbl.tabs.map fun p =>
    (p.1, { p.2 with old := p.2.old.filter (· != (c, fn)) }) } }

/-- The swap of table `n` to its VALID bank `k` (R191): that bank becomes ACTIVE, the old one RETIRING, HELD clears. -/
def swapBank (n k : Nat) (s : State) : State :=
  let t := s.table n
  let o := t.bank (1 - k)
  let us := s.users n
  let old := us.flatMap fun c => (nth {} s.sch.ctxs c).frames.map fun f => (c, f.fn)
  let t := (t.setBank k { t.bank k with st := .active }).setBank (1 - k)
    { o with st := if o.st = .active then .retiring else o.st }
  retireTable n (onTable n (fun _ => { t with act := k, held := t.held && k != (s.table n).inactiveIx, swapPend := true, wait := us, old }) s)

/-- The swap on command. -/
def swapTable (n : Nat) (s : State) : State := swapBank n (s.table n).inactiveIx s

/-- A swap of table `n` is refused (R191). -/
def State.swapRefused (s : State) (n : Nat) : Bool :=
  let t := s.table n
  (t.bank t.inactiveIx).st != .valid || t.b0.st == .retiring || t.b1.st == .retiring || t.swapPend

/-! ### Staging and load (R187 to R190) -/

/-- Staging opens on the inactive bank of table `n`. -/
def openStaging (n : Nat) (s : State) : State :=
  let s := onTable n (fun t => { t.setBank t.inactiveIx { st := .staging } with held := false }) s
  { s.setReg TBL_LADDR 0 with tbl := { s.tbl with isOpen := true, ltbl := n, image := [] } }

/-- Staging closes with the staging bank as given. -/
def closeStaging (b : Bank) (held : Bool) (s : State) : State :=
  let n := s.tbl.ltbl
  let s := onTable n (fun t => { t.setBank t.inactiveIx b with held }) s
  { s.setReg TBL_LADDR 0 with tbl := { s.tbl with isOpen := false, image := [] } }

/-- PAYLOAD_WORDS that Table 9.6 gives for a type and geometry; none for a radiometric image with a bad N. -/
def payloadWords (ty w h : Nat) (g : Nat → Word) : Option Nat :=
  match ty with
  | 1 => some (2 * w * h)
  | 2 => let n := (g 8).toNat; if 1 ≤ n ∧ n ≤ 8 then some (9 + 8192 * n) else none
  | 3 => some 1024
  | 4 => some 2048
  | _ => some 256

/-- The TS words of a radiometric image are legal (Table 9.6). -/
def planesOk (g : Nat → Word) : Bool :=
  let n := (g 8).toNat
  (List.range 8).all fun k =>
    let v := (g (9 + k)).toNat
    decide (v < 65536) && (if k < n then k == 0 || decide ((g (8 + k)).toNat < v) else v == 0)

/-- The header of a staged image of table `n` is legal (Table 9.5, Table 9.6). -/
def tableHeaderOk (n : Nat) (g : Nat → Word) : Bool :=
  let ty := tableType n
  let w := bits (g 2) 31 16
  let h := bits (g 2) 15 0
  g 0 == 0x54424C31 && bits (g 1) 31 24 == n && bits (g 1) 23 16 == ty && bits (g 1) 15 0 == 0 &&
  (if ty = 1 then decide (1 ≤ w) && decide (w ≤ 1280) && decide (1 ≤ h) && decide (h ≤ 1024) else w == 0 && h == 0) &&
  payloadWords ty w h g == some (g 3).toNat && g 6 == 0 && g 7 == 0 && (ty != 2 || planesOk g)

/-- The checks of R189 in their order. -/
def State.loadCode (s : State) : Code :=
  let g := memGet zeroes s.tbl.image
  let p := (g 3).toNat
  if s.fld TBL_LADDR 21 0 ≠ 8 + p then .eLen
  else if !tableHeaderOk s.tbl.ltbl g then .eRange
  else if crc32Words ((List.range p).map fun i => g (8 + i)) != (g 5).toNat then .eCrc
  else .ok

/-- The load ends (R189). -/
def loadDone (s : State) : Code × State :=
  let c := s.loadCode
  let g := memGet zeroes s.tbl.image
  if c = .ok then
    let b : Bank := ⟨.valid, memPutList zeroes [] 0 1 ((List.range (g 3).toNat).map fun i => g (8 + i)), (g 3).toNat,
      bits (g 2) 31 16, bits (g 2) 15 0, g 4⟩
    (c, closeStaging b (tableType s.tbl.ltbl == 1) s)
  else (c, closeStaging {} false s)

/-- A bulk write to TBL_LOAD (R188): its code and effect. DEDUCED (notes/assumptions/15.md). -/
def tblLoadCode (n : Nat) (s : State) : Code :=
  if !s.tbl.isOpen then .eState
  else if 8 + bankWords s.tbl.ltbl < s.fld TBL_LADDR 21 0 + n then .eLen else .ok

def tblLoad (ws : List Word) (s : State) : State :=
  let a := s.fld TBL_LADDR 21 0
  { s with tbl := { s.tbl with image := memPutList zeroes s.tbl.image a 1 ws } }.setReg TBL_LADDR (word (a + ws.length))

/-! ### Read-back and rings (R196, R197) -/

/-- A bulk read of `n` words of TBL_RDATA: its code and words. DESIGN CHOICE (notes/assumptions/8.md). -/
def State.tblRead (s : State) (n : Nat) : Code × List Word :=
  let a := s.fld TBL_RADDR 21 0
  if s.flag TBL_RSEL 31 then
    let k := 64 * s.fld TBL_RSEL 15 8 + s.fld TBL_RSEL 5 0
    if 2048 < a + n then (.eLen, [])
    else (.ok, (List.range n).map fun i => match s.tbl.rings.lookup k with
      | some l => nth 0 l (a + i)
      | none => Config.unwritten k (a + i))
  else
    let b := (s.table (s.fld TBL_RSEL 15 8)).bank (s.fld TBL_RSEL 16 16)
    if b.st = .empty ∨ b.st = .staging ∨ b.st = .press then (.eState, [])
    else if b.n < a + n then (.eLen, []) else (.ok, memGetList zeroes b.words a 1 n)

/-- A statistics record is written into its slot (R197): `rec` gives words 1 to 2046. -/
def writeRing (c fn : Nat) (rec : List Word) (s : State) : State :=
  let l := [word fn] ++ ((List.range 2046).map fun i => nth 0 rec i) ++ [word fn]
  { s with tbl := { s.tbl with rings := aput s.tbl.rings (64 * c + fn % 64) l } }

/-- DRAM_LOST: the directory is rebuilt empty and the rings are empty (R201). -/
def tablesLost (s : State) : State :=
  { s.setReg TBL_LADDR 0 with tbl := { s.tbl with tabs := [], isOpen := false, image := [], rings := [] } }

/-- A reset abandons staging; a RETIRING bank becomes VALID (R202). -/
def tablesReset (s : State) : State :=
  let r (b : Bank) : Bank :=
    match b.st with
    | .staging | .press => {}
    | .retiring => { b with st := .valid }
    | _ => b
  { s with tbl := { s.tbl with
      tabs := s.tbl.tabs.map fun p => (p.1, { p.2 with b0 := r p.2.b0, b1 := r p.2.b1, swapPend := false, wait := [], old := [] })
      isOpen := false, ltbl := 0, image := [], retrains := 0, draining := false, suspended := false } }

/-! ### Registers -/

/-- The number of a bank state (Table 9.4). -/
def BankSt.num : BankSt → Nat
  | .empty => 0 | .staging => 1 | .valid => 2 | .active => 3 | .retiring => 4 | .press => 5

/-- The word of TBL_DIRn. -/
def Table.dir (t : Table) : Word :=
  word (at_ (b2n t.held) 15 + at_ (b2n t.swapPend) 14 + at_ t.act 12 + at_ t.b1.st.num 4 + t.b0.st.num)

/-- The live words of page 0x05; `dramCk` is the heat model's DRAM-stack node. -/
def tblView (a dramCk : Nat) (s : State) : Option Word :=
  if a = TBL_STAT then
    some (putBits (putBits (s.reg TBL_STAT) 31 31 (b2n s.tbl.isOpen)) 23 16 s.tbl.ltbl)
  else if a = TBL_DRAM then
    let d := ((dramCk : Int) - s.tbl.trainCk).natAbs / 100
    some (word (at_ (b2n s.clk.dramDiv3) 30 + at_ (sat 255 d) 8 + sat 255 s.tbl.retrains))
  else if TBL_DIR 0 ≤ a ∧ a < TBL_DIR 0x40 then some (s.table ((a - TBL_DIR 0) / 4)).dir
  else if TBL_SER 0 ≤ a ∧ a < TBL_SER 0x40 then
    some (match (s.table ((a - TBL_SER 0) / 4)).active with | some b => b.serial | none => 0)
  else none

/-- The writes of the TBL_ registers (R186 to R191, R198, Table 9.10). `press n`: a press of head `n` is in progress. -/
def tblWrite (o : Origin) (press : Nat → Bool) (a : Nat) (v : Word) (s : State) : Option WriteRule :=
  if a = TBL_CMD then
    let cmd := bits v 31 28
    let n := bits v 7 0
    some { pre := chk ((cmd == 1 && (isVat o || !s.tbl.isOpen)) || (cmd == 2 && tableType n != 0 && s.swapRefused n) ||
                       (cmd == 3 && (isVat o || s.dramLost)) || (cmd == 4 && !s.tbl.isOpen)) .eState,
           bad := if cmd == 2 then tableType n == 0 else n != 0,
           store := false,
           app := match cmd with
             | 1 => fun t => { t with cp := { t.cp with op := some ⟨1, 0, t.time⟩ } }
             | 2 => swapTable n
             | 3 => fun t => { t with cp := { t.cp with op := some ⟨3, 0, t.time⟩ }, tbl := { t.tbl with draining := true } }
             | _ => closeStaging {} false }
  else if a = TBL_LSEL then
    let n := bits v 7 0
    let b := ((s.table n).bank (s.table n).inactiveIx).st
    some { pre := chk (s.tbl.isOpen || b == .retiring || b == .press || ((tableType n == 1 || tableType n == 2) && press (n % 4))) .eState,
           bad := tableType n == 0, app := openStaging n }
  else if a = TBL_LADDR then
    some { pre := chk (!s.tbl.isOpen) .eState, bad := decide (8 + bankWords s.tbl.ltbl < bits v 21 0) }
  else if a = TBL_RSEL then
    some { pre := chk (bit v 31 && decide (bits v 15 8 < 8) && (s.ctx (bits v 15 8)).st == .off) .eCtx,
           bad := if bit v 31 then decide (8 ≤ bits v 15 8) else bits v 5 0 != 0 || tableType (bits v 15 8) == 0,
           app := fun t => t.setReg TBL_RADDR 0 }
  else none

end Sys2Proof.Machine
end

