-- ==== Sys2Proof/Machine/BlkTrims.lean ====
section
/-! DEFINITION. References, trims and ripening (chapter 10). -/

namespace Sys2Proof.Machine

/-- Plausibility limits of Table 10.3: least and greatest GAIN, and the greatest magnitude of OFFSET. -/
def trimLimits (i : Nat) : Nat × Nat × Nat :=
  if i < 3 then (0x3EB8, 0x4148, 512) else if i < 7 then (0x3F5C, 0x40A4, 420) else if i < 11 then (0x3E14, 0x41EC, 200)
  else if i < 15 then (0x3CCD, 0x4333, 30) else (0x3F0A, 0x40F6, 0)

/-- Jump limits of Table 10.3 for GAIN and OFFSET. -/
def jumpLimits (i : Nat) : Nat × Nat :=
  if i < 3 then (16, 32) else if i < 7 then (8, 32) else if i < 11 then (16, 20) else if i < 15 then (32, 5) else (8, 0)

/-- The fields of a trim word. -/
def trimGain (w : Word) : Nat := bits w 31 16
def trimOffset (w : Word) : Int := sbits w 15 0
def trimWord (g : Nat) (o : Int) : Word := word (at_ g 16 + toBits 16 o)

/-- Both fields lie within the plausibility limits. -/
def plausible (i g : Nat) (o : Int) : Bool :=
  let l := trimLimits i
  decide (l.1 ≤ g) && decide (g ≤ l.2.1) && decide (o.natAbs ≤ l.2.2)

/-- Both fields lie within `k` times the jump limits of trim word `t`. -/
def withinJump (k i : Nat) (t : Word) (g : Nat) (o : Int) : Bool :=
  let l := jumpLimits i
  decide (((g : Int) - trimGain t).natAbs ≤ k * l.1) && decide ((o - trimOffset t).natAbs ≤ k * l.2)

/-- A trim in force. -/
def State.trim (s : State) (i : Nat) : Word := nth 0 s.trm.vals i

/-- The CRC over REF_TRIM0–15, REF_NOMINAL and T_FULL (R214): the CRC-32 of the trim record. DESIGN CHOICE (notes/assumptions/82.md). -/
def Trims.crcNow (t : Trims) : Nat := crc32Words (t.vals ++ [word t.nominal, word t.tFull])

/-- A change of the trims, with the CRC updated (R214). -/
def onTrims (f : Trims → Trims) (s : State) : State :=
  let t := f s.trm
  { s with trm := { t with crc := t.crcNow } }

/-- A trim takes effect. -/
def trimNow (i : Nat) (w : Word) (s : State) : State :=
  onTrims (fun t => { t with vals := t.vals.set i w, deferred := adel t.deferred i }) s

/-- A trim value is written (R212): at once for the master mirror and for the current sense of an idle channel, otherwise
deferred to the point of Table 10.2. -/
def putTrim (idle : Nat → Bool) (i : Nat) (w : Word) (s : State) : State :=
  if i = 15 || (decide (11 ≤ i) && idle (i - 11)) then trimNow i w s
  else { s with trm := { s.trm with deferred := aput s.trm.deferred i w } }

/-- The deferred values of some items take effect. -/
def trimsApply (is : List Nat) (s : State) : State :=
  is.foldl (fun s i => match s.trm.deferred.lookup i with
    | some w => trimNow i w s
    | none => s) s

/-- A sequence run of converter `j` starts (Table 10.2); `press`: some press is in progress. -/
def trimsAtRun (press : Bool) (j : Nat) (s : State) : State := if press then s else trimsApply [j] s

/-- A START point of the context of head `n` (0–3); a reference fault holds the codes as they are (R204). -/
def trimsAtStart (press : Bool) (n : Nat) (s : State) : State :=
  if press || s.trm.refFault then s else trimsApply [3 + n, 7 + n] s

/-- Items refreshed: their STALE bits clear (R218). -/
def refreshed (i : Nat) (s : State) : State :=
  { s with trm := { s.trm with stale := s.trm.stale - s.trm.stale / 2 ^ i % 2 * 2 ^ i, rejects := s.trm.rejects.set i 0 } }

/-- The NOMINAL bit of an item changed. -/
def setNominal (i : Nat) (b : Bool) (s : State) : State :=
  onTrims (fun t => { t with nominal := t.nominal - t.nominal / 2 ^ i % 2 * 2 ^ i + b2n b * 2 ^ i }) s

/-- An item is on nominal trim. -/
def State.isNominal (s : State) (i : Nat) : Bool := decide (s.trm.nominal / 2 ^ i % 2 = 1)

/-! ### Full runs and rounds (R209, R210) -/

/-- A full run starts, unless one runs, REF_FAULT is set or the engine is in Rind. -/
def startFull (s : State) : State :=
  if s.trm.fullBusy || s.trm.refFault || s.inRind then s
  else { s with trm := { s.trm with fullBusy := true } }

/-- A full run in progress is abandoned (event 0x1A8). DEDUCED (notes/assumptions/33.md). -/
def abortFull (s : State) : State :=
  if s.trm.fullBusy then raiseN 0x1A8 0 { s with trm := { s.trm with fullBusy := false, fullAborted := true } } else s

/-- One measurement of a ripening round (R209). -/
def ripen (idle : Nat → Bool) (m : TrimMeas) (s : State) : State :=
  let i := m.item.val
  let t := (s.trm.deferred.lookup i).getD (s.trim i)
  if s.isNominal i || (decide (11 ≤ i ∧ i < 15) && !idle (i - 11)) then s
  else if plausible i m.gain m.offset && withinJump 1 i t m.gain m.offset then
    let g := (trimGain t + roundHalfAway ((m.gain : Int) - trimGain t) 8).toNat
    let o := trimOffset t + roundHalfAway (m.offset - trimOffset t) 8
    refreshed i (putTrim idle i (trimWord g o) s)
  else
    let k := nth 0 s.trm.rejects i + 1
    let s := raiseN 0x1A2 i ((({ s with trm := { s.trm with rejects := s.trm.rejects.set i (k % 4) } } : State)).count REF_CNT 15 8)
    if k = 4 then startFull s else s

/-- Ripening and full runs go on: after hand-over, not from the acceptance of RIND_REQ until the wake (R207, R219). -/
def State.ripens (s : State) : Bool := s.live && s.start.phase == .up

/-- A ripening round completes: no rounds run during a full run or while ripening is stopped. -/
def ripeningRound (idle : Nat → Bool) (ms : List TrimMeas) (s : State) : State :=
  if s.trm.fullBusy || s.trm.refFault || !s.flag REF_CFG 15 || !s.ripens then s
  else (ms.foldl (fun s m => ripen idle m s) s).count REF_CNT 31 24

/-- A full run ends (R210): plausible results are written together, implausible ones reported. -/
def fullDone (idle : Nat → Bool) (tNow : Nat) (ms : List TrimMeas) (s : State) : State :=
  if !s.trm.fullBusy || s.trm.refFault || !s.ripens then s
  else
    let one (m : TrimMeas) (s : State) : State :=
      let i := m.item.val
      if plausible i m.gain m.offset then
        setNominal i false (refreshed i (putTrim idle i (trimWord m.gain m.offset) s))
      else raiseN 0x1A1 (at_ i 24 + at_ (m.gain % 65536) 8) s
    let s := ms.foldl (fun s m => one m s) s
    let s := onTrims (fun t => { t with fullBusy := false, fullAborted := false, tFull := tNow, fullSeq := t.fullSeq + 1 }) s
    raiseN 0x1A0 tNow (s.count REF_CNT 23 16)

/-- The TRIM_DT test (R210). -/
def trimDtTest (tNow : Nat) (s : State) : State :=
  if s.flag REF_CFG 16 && decide (s.fld REF_CFG 7 0 * 50 < ((tNow : Int) - s.trm.tFull).natAbs) && s.ripens then startFull s else s

/-! ### Reference fault (R204) -/

def refFaultSet (s : State) : State :=
  if s.trm.refFault then s
  else raiseN 0x1A6 0 { s with trm := { s.trm with refFault := true } }

def refFaultClear (s : State) : State :=
  if s.trm.refFault then startFull { s with trm := { s.trm with refFault := false } } else s

/-- HKIN25 shows the sense voltage in µV (Table 11.1): outside VREF by more than 5 % for 1 ms it declares the fault (R204).
DEDUCED (notes/assumptions/33.md). -/
def refSense (uv : Nat) (s : State) : State :=
  if 20 * ((uv : Int) - Config.vrefUv).natAbs ≤ Config.vrefUv then { s with trm := { s.trm with refBad := none } }
  else
    let since := s.trm.refBad.getD s.time
    let s := { s with trm := { s.trm with refBad := some since } }
    if since + msTicks ≤ s.time then refFaultSet s else s

/-! ### Records (R214 to R216, Table 10.4) -/

/-- The trim record built from the trims in force. -/
def State.trimRecord (s : State) : List Word :=
  let body := [0x54524D31, word (at_ 1 16 + 24), word (Config.unitId % 2 ^ 32), word (Config.unitId / 2 ^ 32),
    word (at_ s.trm.tFull 16 + s.trm.nominal), word s.trm.fullSeq] ++ (List.range 16).map s.trim ++ [0]
  body ++ [word (crc32Words body)]

/-- The check of a loaded record (R215). -/
def State.applyCode (s : State) : Code :=
  match s.trm.load with
  | none => .eState
  | some l =>
    let g (i : Nat) : Word := nth 0 l i
    if s.start.step = 12 then .eState
    else if l.length ≠ 24 then .eLen
    else if g 0 != 0x54524D31 || g 1 != word (at_ 1 16 + 24) || g 2 != word (Config.unitId % 2 ^ 32) ||
        g 3 != word (Config.unitId / 2 ^ 32) ||
        !(List.range 16).all (fun i => plausible i (trimGain (g (6 + i))) (trimOffset (g (6 + i)))) then .eRange
    else if crc32Words (l.take 23) != (g 23).toNat then .eCrc
    else .ok

/-- The trims, REF_NOMINAL and T_FULL take a record's values under R212. -/
def applyRecord (idle : Nat → Bool) (l : List Word) (s : State) : State :=
  let g (i : Nat) : Word := nth 0 l i
  let s := (List.range 16).foldl (fun s i => putTrim idle i (g (6 + i)) s) s
  onTrims (fun t => { t with nominal := bits (g 4) 15 0, tFull := bits (g 4) 31 16 }) s

/-- APPLY accepted (R215): held before step 12, applied after it. -/
def applyTrims (idle : Nat → Bool) (s : State) : State :=
  let l := s.trm.load.getD []
  let s := { s with trm := { s.trm with load := none } }
  if s.start.step < 12 ∨ s.start.step = 15 then { s with trm := { s.trm with held := some l, pendRestore := true } }
  else raiseN 0x1A4 0 (applyRecord idle l (abortFull s))

/-- A rejected APPLY: the loaded record is cleared and the rejection is reported.
DEDUCED (notes/assumptions/16.md). -/
def rejectTrims (c : Code) (s : State) : State :=
  if s.trm.load.isSome then raiseN 0x1A5 c.num { s with trm := { s.trm with load := none } } else s

/-- Every trim nominal under R212 (R217). -/
def nominalTrims (idle : Nat → Bool) (s : State) : State :=
  let s := (List.range 16).foldl (fun s i => putTrim idle i 0x40000000 s) (abortFull s)
  onTrims (fun t => { t with nominal := 0xFFFF }) s

/-- Trims lost to a reset (Table 4.5): nominal words, no bits. -/
def trimsLost (s : State) : State := { s with trm := {} }

/-- The trims in place are given up (R95, R205): nominal words, no bits; what else the block holds stays. -/
def trimsDropped (s : State) : State :=
  onTrims (fun t => { t with vals := ({} : Trims).vals, deferred := [], nominal := 0, tFull := 0 }) s

/-- A reset that keeps the trims: what is in force, REF_NOMINAL, T_FULL and their CRC stay. -/
def trimsKept (s : State) : State :=
  { s with trm := { ({} : Trims) with vals := s.trm.vals, nominal := s.trm.nominal, tFull := s.trm.tFull, crc := s.trm.crc } }

/-! ### Registers -/

/-- Ripening slots are reserved now (R207). -/
def State.ripeOn (s : State) : Bool := (s.flag REF_CFG 15 || s.trm.fullBusy) && !s.trm.refFault && s.ripens

/-- The live words of page 0x06; `tNow` and `diode` are R211. -/
def refView (a tNow : Nat) (diode : Bool) (s : State) : Option Word :=
  let t := s.trm
  if REF_TRIM 0 ≤ a ∧ a < REF_TRIM 16 then some (s.trim ((a - REF_TRIM 0) / 4))
  else [
    (REF_STAT, word (at_ t.src 30 + at_ (b2n t.fullBusy) 29 + at_ (b2n t.fullAborted) 28 + at_ (b2n t.refFault) 27 +
      at_ (b2n s.ripeOn) 26 + at_ (b2n diode) 25 + at_ (b2n t.pendRestore) 24 + t.stale)),
    (REF_TEMP, word (at_ (sat 65535 tNow) 16 + t.tFull)), (REF_FACT, word (Config.vrefUv % 2 ^ 24)),
    (REF_NOMINAL, word t.nominal)].lookup a

/-- The writes of the REF_ registers (R213, R215, R217). -/
def refWrite (idle : Nat → Bool) (a : Nat) (v : Word) (s : State) : Option WriteRule :=
  if REF_TRIM 0 ≤ a ∧ a < REF_TRIM 16 then
    let i := (a - REF_TRIM 0) / 4
    some { bad := !plausible i (trimGain v) (trimOffset v), store := false,
           app := fun t => setNominal i false (putTrim idle i v t) }
  else if a = REF_CMD then
    match bits v 31 28 with
    | 1 => some { pre := chk (s.start.step == 12 || s.trm.fullBusy || s.trm.refFault) .eState, store := false, app := startFull }
    | 2 => some { pre := s.applyCode, store := false, app := applyTrims idle, rej := rejectTrims s.applyCode }
    | 3 => some { pre := chk (s.start.step == 12) .eState, store := false, app := nominalTrims idle }
    | 4 => some { pre := chk (s.start.step == 12 || !s.trm.fullBusy) .eState, store := false, app := abortFull }
    | _ => some { pre := chk (s.start.step == 12) .eState, bad := true }
  else none

end Sys2Proof.Machine
end

