-- ==== Sys2Proof/Machine/BlkHk.lean ====
section
/-! DEFINITION. The housekeeping converters (chapter 11): triggers, runs, conversions, windows, ages, injection. -/

namespace Sys2Proof.Machine

/-- Converter `j`: 0 HKA, 1 HKB, 2 HKC. -/
def State.conv (s : State) (j : Nat) : HkConv := nth { trig := 0, per := 0 } s.hk.convs j

/-- The state with a converter changed. -/
def onConv (j : Nat) (f : HkConv → HkConv) (s : State) : State := { s with hk := { s.hk with convs := upd s.hk.convs j f } }

/-- A conversion code as a physical value: (code − zero) · span / 16 384 (R220), rounded half away from zero. -/
def hkValue (code z span : Nat) : Int := roundHalfAway (((code : Int) - z) * span) 16384

/-- A conversion period in 20 ns: 500 ns, or 5.00 µs in low-power mode (R221). -/
def hkPeriodTicks2 (lp : Bool) : Nat := if lp then 250 else 25

/-- Nothing converts on converter `j`. -/
def HkConv.isIdle (c : HkConv) : Bool := c.run.isNone && c.urgent.isNone && !c.ripening

/-- The conversion periods counted since the last ripening slot, full periods of idle time among them (R228). -/
def State.hkSlot (s : State) (j : Nat) : Nat :=
  let c := s.conv j
  c.slot + (if c.isIdle && s.live then 2 * (s.time - c.idleAt) / hkPeriodTicks2 c.lp else 0)

/-- The idle periods so far join the count, and a new idle time begins (R228). -/
def hkIdleCounted (j : Nat) (s : State) : State := onConv j (fun c => { c with slot := s.hkSlot j, idleAt := s.time }) s

/-- The last clean result of an input. -/
def State.hkLast (s : State) (n : Nat) : Option HkLast := s.hk.last.lookup n

/-- An injection is active into input `n` (R235). -/
def State.injected (s : State) (n : Nat) : Bool := s.flag HK_DIAG 31 && s.fld HK_DIAG 20 16 == n

/-! ### Triggers (R223, R225, R226) -/

/-- A trigger of converter `j`: lost during a run or delay, without effect when LEN is 0. -/
def hkTrigger (j : Nat) (s : State) : State :=
  let c := s.conv j
  if !s.live then s
  else if c.run.isSome || c.delaying then
    raiseN (0x190 + j) (c.runs % 65536) (s.count HK_CNT (31 - 8 * j) (24 - 8 * j))
  else if s.fld (HK_CFG j) 4 0 = 0 then s
  else onConv j (fun c => { c with delaying := true }) s

/-- Every converter whose trigger setting in force satisfies `p`. -/
def hkTriggerWhere (p : Word → Bool) (s : State) : State :=
  (List.range 3).foldl (fun t j => if p (s.conv j).trig then hkTrigger j t else t) s

/-- A frame point of a context that is not OFF (KIND 3). -/
def hkFramePoint (c pt : Nat) (s : State) : State :=
  hkTriggerWhere (fun w => bits w 31 28 == 3 && bits w 27 24 == c && bits w 23 22 == pt) s

/-- A PWM edge of a channel (KIND 4): 0 on-edge, 1 off-edge, 2 phase start. -/
def hkPwmEdge (ch pt : Nat) (s : State) : State :=
  hkTriggerWhere (fun w => bits w 31 28 == 4 && bits w 27 24 == ch && bits w 23 22 == pt) s

/-- The period timer of a converter expires (KIND 2). -/
def hkTimer (j : Nat) (s : State) : State := if bits (s.conv j).trig 31 28 = 2 then hkTrigger j s else s

/-! ### Runs -/

/-- TRIG and PER settings that waited for the end of the run take effect (R227). -/
def trigApplies (j : Nat) (s : State) : State :=
  onConv j (fun c => if c.trigNew && c.run.isNone then
    { c with trig := s.reg (HK_TRIG j), per := s.reg (HK_PER j), trigNew := false, delaying := false } else c) s

/-- An acquisition that begins now, in normal mode, would hold earlier than 2.0 µs after the hold of the conversion that set OVR, and
is moved (R231). -/
def HkConv.moves (c : HkConv) (now : Nat) : Bool :=
  match c.ovrAt with
  | some t => !c.lp && decide (2 * now < 2 * t + 75)
  | none => false

/-- A run starts (R222, R227); with LEN 0 none does: entry 0 begins its acquisition; a ripening conversion in progress is aborted (R228). -/
def hkRunStart (press : Bool) (j : Nat) (s : State) : State :=
  let c := s.conv j
  if !c.delaying then s
  else if s.fld (HK_CFG j) 4 0 = 0 then trigApplies j (onConv j (fun c => { c with delaying := false }) s)
  else
    let s := trimsAtRun press j (hkIdleCounted j s)
    let s := if c.ripening then s.count REF_CNT 7 0 else s
    onConv j (fun c => { c with
      delaying := false, ripening := false, slot := if c.ripening then 0 else c.slot, runs := c.runs + 1, lp := s.flag (HK_CFG j) 8
      wstate := (List.range 16).map fun e => if c.touched.contains e then 0 else nth 0 c.wstate e
      touched := []
      run := some { ents := (List.range 16).map fun e => s.reg (HK_ENT j e), wins := (List.range 16).map fun e => s.reg (HK_WIN j e),
                    len := s.fld (HK_CFG j) 4 0, trim := s.trim j, num := c.runs + 1
                    shift := c.urgent.isSome || (c.suspect == 0 && c.moves s.time) } }) s

/-! ### Results -/

/-- The trimmed result of R230 and its OVR flag. -/
def hkResult (trim : Word) (raw : Int) : Nat × Bool :=
  let r := roundHalfAway ((16 * raw - trimOffset trim) * trimGain trim) (2 ^ 18)
  if r < 0 then (0, true) else if 16383 < r then (0x3FFF, true) else (r.toNat, false)

/-- The window comparator of an entry (R233): the new state and whether the window was left. -/
def windowStep (ent win : Word) (st code : Nat) : Nat × Bool :=
  let lo := bits win 13 0
  let hi := bits win 29 16
  let hy := bits ent 31 24
  let out := if hi < code then 1 else if code < lo then 2 else 0
  if out ≠ 0 then (out, out != st)
  else if lo + hy ≤ code ∧ code + hy ≤ hi then (0, false) else (st, false)

/-- ACT_BST.VSET in mV. -/
def State.vsetMv (s : State) : Nat := 100 * s.fld ACT_BST 9 0

/-- VBST stands at `mv`: the clamp conducts while that is above VSET + 3.0 V (R243). DEDUCED (notes/assumptions/79.md). -/
def vbstSeen (mv : Nat) (s : State) : State :=
  let clamps := decide (s.vsetMv + 3000 < mv)
  raiseIf (clamps && !s.act.clamp) 0x1B9 (sat 65535 mv) { s with act := { s.act with clamp := clamps, vbst := mv } }

/-- What a result feeds (Table 11.1, R232): SUSPECT and DIAG results feed nothing; OVR results only the rail monitors. -/
def hkFeed (n code : Nat) (ovr bad : Bool) (s : State) : State :=
  if bad then s
  else
    let s := if ovr then s else { s with hk := { s.hk with
        last := aput s.hk.last n ⟨code, s.time⟩, stale := s.hk.stale - s.hk.stale / 2 ^ n % 2 * 2 ^ n } }
    let s := if n = 13 ∨ n = 14 then
        let st := s.isStale 13 || s.isStale 14
        let t := if n = 13 ∧ !ovr then { s with pwr := { s.pwr with busMv := (hkValue code 0 16000).toNat } } else s
        let t := match s.hkLast 13 with
          | some v => if n = 14 ∧ !ovr then busSample v.code code t else t
          | none => t
        if st = s.pwr.busStale then t else judgeOver { t with pwr := { t.pwr with busStale := st } }
      else s
    let s := if 16 ≤ n ∧ n < 24 then monSample (n - 16) code ovr (hkValue code 0 (railFullScale (n - 16))).toNat s else s
    let s := if n = 15 ∧ !ovr then heaterSample (hkValue code 0 3200).toNat s else s
    let s := if n = 25 ∧ !ovr then refSense (hkValue code 0 2500000).natAbs s else s
    let s := if n = 24 ∧ !ovr then { s with pwr := { s.pwr with hsupMa := (hkValue code 0 800).toNat } } else s
    if n = 12 ∧ !ovr then vbstSeen (hkValue code 0 60000).toNat s else s

/-- A completed conversion is counted, and its OVR starts the rule of R231: after the two SUSPECT conversions, what would hold too
early is moved. -/
def hkCounted (j : Nat) (ovr : Bool) (s : State) : State :=
  onConv j (fun c =>
    let c := { c with slot := c.slot + 1, idleAt := s.time }
    if ovr then { c with suspect := 2, ovrAt := some s.time }
    else
      { c with suspect := c.suspect - 1,
               run := if c.suspect = 1 ∧ c.moves s.time then c.run.map (fun r => { r with shift := true }) else c.run }) s

/-- When the ripening slot's period comes within a run, the ripening conversion takes it (R228). -/
def hkSlotDue (j : Nat) (s : State) : State :=
  let c := s.conv j
  if c.run.isSome && decide (33 ≤ s.hkSlot j) && s.ripeOn && c.urgent.isNone && !c.ripening then
    onConv j (fun c => { c with ripening := true, run := c.run.map fun r => { r with shift := true } }) s
  else s

/-- A ripening conversion ends: with OVR or SUSPECT it is discarded and repeated in the next slot (R207). -/
def hkRipeEnds (j : Nat) (ovr sus : Bool) (s : State) : State :=
  let s := if ovr || sus then s.count REF_CNT 7 0 else s
  let s := if ovr then (let p := s.draw; raise (0x193 + j) p.1 p.2) else s
  onConv j (fun c => { c with slot := 0 }) (hkCounted j ovr (onConv j (fun c => { c with ripening := false }) s))

/-- An urgent conversion of a channel ends: HK_URGn, and the next one waiting starts (R229). -/
def hkUrgentEnds (j ch : Nat) (late : Bool) (code : Nat) (ovr sus : Bool) (s : State) : State :=
  let old := s.reg (HK_URGR ch)
  let w := word (at_ ((bits old 31 24 + 1) % 256) 24 + at_ 1 23 + at_ (b2n ovr) 22 + at_ (b2n sus) 21 + at_ (b2n late) 20 + code)
  let s := raiseIf ovr (0x193 + j) (at_ 15 28 + at_ (8 + ch) 16 + code) (s.setReg (HK_URGR ch) w)
  hkSlotDue j (hkCounted j ovr (onConv j (fun c => match c.urgQueue with
    | q :: t => { c with urgent := some (q, true), urgQueue := t }
    | [] => { c with urgent := none }) s))

/-- The next entry of a run ends (R222, R230, R233). -/
def hkEntryEnds (j : Nat) (r : HkRun) (code : Nat) (ovr sus diag : Bool) (s : State) : State :=
  let e := r.next
  let ent := nth 0 r.ents e
  let n := bits ent 4 0
  let c := s.conv j
  let st := nth 0 c.wstate e
  let w := if bit ent 15 && !sus then windowStep ent (nth 0 r.wins e) st code else (st, false)
  let res := word (at_ (r.num % 256) 24 + at_ 1 23 + at_ (b2n ovr) 22 + at_ (b2n sus) 21 + at_ (b2n r.shift) 20 +
    at_ (b2n diag) 19 + at_ w.1 17 + code)
  let s := s.setReg (HK_RES j e) res
  let s := raiseIf ovr (0x193 + j) (at_ e 28 + at_ n 16 + code) s
  let s := raiseIf w.2 (0x160 + 16 * j + e)
    (at_ (b2n (w.1 == 1)) 31 + at_ (b2n ovr) 30 + at_ (r.num % 256) 16 + code) s
  let last := decide (r.len ≤ e + 1)
  let s := onConv j (fun c => { c with wstate := c.wstate.set e w.1,
                                       run := if last then none else some { r with next := e + 1 } }) s
  let s := hkFeed n code ovr (sus || diag) (hkCounted j ovr s)
  trigApplies j (hkSlotDue j s)

/-- What converter `j` converts now: an urgent channel and its LATE flag, the ripening conversion, or a run's entry. -/
inductive Doing where
  | nothing | ripening
  | urgent (ch : Nat) (late : Bool)
  | entry (r : HkRun)
  deriving DecidableEq, Repr

def HkConv.doing (c : HkConv) : Doing :=
  match c.urgent with
  | some (ch, l) => .urgent ch l
  | none => if c.ripening then .ripening else match c.run with
    | some r => .entry r
    | none => .nothing

/-- The injection into input `n` has started, changed or ended within the 5 µs before the acquisition of the conversion that ends
now (R235). -/
def State.hkSettling (s : State) (n : Nat) (m : ConvMeas) : Bool :=
  m.settling && s.hk.settle.any fun p => p.1 == n && decide (s.time ≤ p.2 + 250)

/-- A conversion of input `n` is SUSPECT: after an OVR or near an injection change. -/
def State.hkSuspect (s : State) (j n : Nat) (m : ConvMeas) : Bool := decide (0 < (s.conv j).suspect) || s.hkSettling n m

/-- What a conversion of input `n` gives, and its OVR flag: the trimmed result, or under injection the DAC's CODE × 16 (R230, R234,
Table 11.6). DEDUCED (notes/assumptions/80.md). -/
def State.hkCode (s : State) (n : Nat) (trim : Word) (m : ConvMeas) : Nat × Bool :=
  if s.injected n && !s.hkSettling n m then (16 * s.fld HK_DIAG 9 0, false) else hkResult trim m.raw

/-- The injection into its input starts, changes or ends. -/
def hkSettles (n : Nat) (s : State) : State :=
  { s with hk := { s.hk with settle := (n, s.time) :: s.hk.settle.filter fun p => decide (s.time ≤ p.2 + 250) } }

/-- A conversion ends on converter `j` (R230). -/
def hkConversion (j : Nat) (m : ConvMeas) (s : State) : State :=
  match (s.conv j).doing with
  | .nothing => s
  | .ripening => hkRipeEnds j (hkResult (s.trim j) m.raw).2 (s.hkSuspect j 32 m) s
  | .urgent ch l =>
    let x := s.hkCode (8 + ch) (s.trim j) m
    let sus := s.hkSuspect j (8 + ch) m
    hkFeed (8 + ch) x.1 x.2 (sus || s.injected (8 + ch)) (hkUrgentEnds j ch l x.1 x.2 sus s)
  | .entry r =>
    let n := bits (nth 0 r.ents r.next) 4 0
    let x := s.hkCode n r.trim m
    hkEntryEnds j r x.1 x.2 (s.hkSuspect j n m) (s.injected n) s

/-- The inputs of the start-up sequence (R238), in order. -/
def startupInputs : List Nat := [13, 14, 15, 16, 17, 18, 19, 20, 21, 22, 23, 24, 26]

/-- The start-up sequence on HKA: results feed their consumers, and no HK_ register or window (R238). -/
def hkStartup (raws : List Int) (s : State) : State :=
  (startupInputs.zip raws).foldl (fun s p =>
    let x := hkResult (s.trim 0) p.2
    let sus := (s.conv 0).suspect
    hkFeed p.1 x.1 x.2 (decide (0 < sus)) (onConv 0 (fun c => { c with suspect := if x.2 then 2 else sus - 1 }) s)) s

/-! ### Urgent requests, ripening slots, ages -/

/-- The converter that takes a channel's urgent requests, if they are enabled. -/
def State.urgConv (s : State) (ch : Nat) : Option Nat :=
  if s.flag HK_URG (4 * ch + 2) then some (s.fld HK_URG (4 * ch + 1) (4 * ch)) else none

/-- An urgent request of a channel (R229): it aborts what is in progress, or waits behind another urgent conversion. -/
def urgentRequest (ch : Nat) (s : State) : State :=
  match s.urgConv ch with
  | none => s
  | some j =>
    let c := s.conv j
    if c.urgent.isSome then
      raiseN 0x196 ch ((onConv j (fun c => { c with urgQueue := c.urgQueue ++ [ch] }) s).count HK_CNT 7 0)
    else
      let s := if c.ripening then s.count REF_CNT 7 0 else hkIdleCounted j s
      onConv j (fun c => { c with urgent := some (ch, false), ripening := false, slot := if c.ripening then 0 else c.slot, run := c.run.map fun r => { r with shift := true } }) s

/-- The ripening slot of an idle converter comes: the period after 33 that were counted (R208, R228). -/
def ripeningSlot (j : Nat) (s : State) : State :=
  if s.ripeOn && (s.conv j).isIdle && decide (33 ≤ s.hkSlot j) then onConv j (fun c => { c with ripening := true, slot := 33 }) s
  else s

/-- An input's age exceeds its limit (R236). Inputs without a limit in Table 11.3 never become stale. -/
def hkGoesStale (n : Nat) (s : State) : State :=
  if s.isStale n || !(n < 8 || (12 ≤ n && n ≤ 24) || n == 26) || !s.live then s
  else
    let s := raiseN 0x197 n { s with hk := { s.hk with stale := s.hk.stale + 2 ^ n } }
    if n = 13 ∨ n = 14 then judgeOver { s with pwr := { s.pwr with busStale := true } } else s

/-- Ages start at zero (R236), and the period counts go on (R240): at hand-over, wake and resumption. -/
def agesRestart (s : State) : State :=
  { s with hk := { s.hk with last := s.hk.last.map (fun p => (p.1, { p.2 with at_ := s.time }))
                             convs := s.hk.convs.map fun c => { c with idleAt := s.time } } }

/-- Everything in progress is abandoned (R240); settings that waited for the end of a run take effect (R227). -/
def hkAbandon (s : State) : State :=
  (List.range 3).foldl (fun s j => trigApplies j (onConv j (fun c =>
    { c with run := none, delaying := false, ripening := false, urgent := none, urgQueue := [], idleAt := s.time }) s)) s

/-- The injection ends (R235): reason 1 a write, 2 the time limit. -/
def diagEnds (reason : Nat) (s : State) : State :=
  if s.flag HK_DIAG 31 then
    raiseN 0x198 (at_ reason 28 + at_ (s.fld HK_DIAG 20 16) 16 + s.fld HK_DIAG 9 0)
      (hkSettles (s.fld HK_DIAG 20 16) (s.setFld HK_DIAG 31 31 0))
  else s

/-! ### Registers -/

/-- A conversion period in µs times two, for the LP bit. -/
def hkPeriod2 (lp : Bool) : Nat := if lp then 10 else 1

/-- The least PER in µs for a LEN and mode (R239). -/
def hkMinPer (len : Nat) (lp : Bool) : Nat := ceilDiv ((len + 2) * hkPeriod2 lp) 2

/-- The live words of page 0x07. -/
def hkView (a : Nat) (s : State) : Option Word :=
  let three (f : HkConv → Bool) : Nat := b2n (f (s.conv 0)) + 2 * b2n (f (s.conv 1)) + 4 * b2n (f (s.conv 2))
  let st (j : Nat) : Word := word (at_ ((s.conv j).runs % 65536) 16 + sat 33 (s.hkSlot j))
  [ (HK_STAT, word (at_ (three (·.lp)) 8 + at_ (three (fun c => c.run.isSome || c.delaying)) 4 + b2n (s.flag HK_DIAG 31))),
    (HK_STALE, word s.hk.stale), (HK_CSTAT 0, st 0), (HK_CSTAT 1, st 1), (HK_CSTAT 2, st 2)].lookup a

/-- A pair bit of ACT_PAIR is set. -/
def State.paired (s : State) (p : Nat) : Bool := s.flag ACT_PAIR p

/-- HK_URG gives the channels of pair `p` one converter or disables either (R259). -/
def urgPairBad (v : Word) (p : Nat) : Bool :=
  !bit v (8 * p + 2) || !bit v (8 * p + 6) || bits v (8 * p + 1) (8 * p) == bits v (8 * p + 5) (8 * p + 4)

/-- What a write to the register at `o` of converter `j` asks beyond its fields. -/
def convFieldWrite (j o : Nat) (v : Word) (s : State) : Option WriteRule :=
  if o = 0 then
    some { pre := chk (bit v 8 && (List.range 4).any fun n => s.urgConv n == some j) .eState,
           bad := bits (s.conv j).trig 31 28 == 2 && decide (s.fld (HK_PER j) 19 0 < hkMinPer (bits v 4 0) (bit v 8)) }
  else if o = 4 then
    let k := bits v 31 28
    some { bad := (if k == 3 then decide (7 < bits v 27 24) || decide (1 < bits v 23 22)
                   else if k == 4 then decide (3 < bits v 27 24) else bits v 27 24 != 0),
           app := fun t => trigApplies j (onConv j (fun c => { c with trigNew := true, delaying := false }) t) }
  else if o = 8 then
    some { bad := decide (bits v 19 0 < hkMinPer (s.fld (HK_CFG j) 4 0) (s.conv j).lp),
           app := fun t => trigApplies j (onConv j (fun c => { c with trigNew := true, delaying := false }) t) }
  else if 0x40 ≤ o ∧ o < 0xC0 then
    let e := o % 0x40 / 4
    let ent := if o < 0x80 then v else s.reg (HK_ENT j e)
    let win := if o < 0x80 then s.reg (HK_WIN j e) else v
    some { bad := decide (bits win 29 16 < bits win 13 0) ||
                  decide (bits win 29 16 < bits win 13 0 + 2 * bits ent 31 24),
           app := onConv j (fun c => { c with touched := e :: c.touched.filter (· != e) }) }
  else none

/-- The writes of HK_TRIGCMD, HK_URG, HK_DIAG and the per-converter registers. `press n`: a press of head `n` is in
progress; `running n`: channel `n` runs a profile. -/
def hkWrite (press running : Nat → Bool) (a : Nat) (v : Word) (s : State) : Option WriteRule :=
  if a = HK_TRIGCMD then
    let m := (List.range 3).filter fun j => bit v j
    some { pre := chk (m.any fun j => bits (s.conv j).trig 31 28 != 1) .eState, store := false,
           app := fun t => m.foldl (fun t j => hkTrigger j t) t }
  else if a = HK_URG then
    some { pre := chk ((List.range 4).any (fun n => bit v (4 * n + 2) && s.flag (HK_CFG (bits v (4 * n + 1) (4 * n))) 8 &&
                        decide (bits v (4 * n + 1) (4 * n) < 3)) ||
                      (List.range 2).any (fun p => s.paired p && urgPairBad v p)) .eState,
           bad := (List.range 4).any fun n => bits v (4 * n + 1) (4 * n) == 3 }
  else if a = HK_DIAG then
    let n := bits v 20 16
    let moved := s.flag HK_DIAG 31 && n != s.fld HK_DIAG 20 16
    some { pre := chk (moved || (bit v 31 && ((8 ≤ n && n < 12 && running (n - 8)) || (n < 4 && press n) ||
                        (4 ≤ n && n < 8 && press (n - 4))))) .eState,
           app := fun t =>
             if bit v 31 then (if s.flag HK_DIAG 31 && s.fld HK_DIAG 9 0 == bits v 9 0 then t else hkSettles n t)
             else if s.flag HK_DIAG 31 then
               raiseN 0x198 (at_ 1 28 + at_ (s.fld HK_DIAG 20 16) 16 + s.fld HK_DIAG 9 0) (hkSettles (s.fld HK_DIAG 20 16) t)
             else t }
  else if HK_CFG 0 ≤ a ∧ a < HK_CFG 3 then
    convFieldWrite ((a - HK_CFG 0) / 0x100) ((a - HK_CFG 0) % 0x100) v s
  else none

end Sys2Proof.Machine
end

