-- ==== Sys2Proof/Machine/BlkAct.lean ====
section
/-! DEFINITION. Actuators (chapter 12): boost, profiles, the current regulator, end of stroke, faults, FIRE. -/

namespace Sys2Proof.Machine

/-! ### Channels and pairs -/

/-- Channel `n`. -/
def State.chan (s : State) (n : Nat) : Chan := nth {} s.act.chans n

/-- The state with a channel changed. -/
def onChan (n : Nat) (f : Chan → Chan) (s : State) : State := { s with act := { s.act with chans := upd s.act.chans n f } }

/-- The channel is the slave of a pair (R259). -/
def State.isSlave (s : State) (n : Nat) : Bool := (n == 1 && s.paired 0) || (n == 3 && s.paired 1)

/-- The slave of channel `n`, if it is the master of a pair. -/
def State.slaveOf (s : State) (n : Nat) : Option Nat :=
  if (n == 0 && s.paired 0) || (n == 2 && s.paired 1) then some (n + 1) else none

/-- The channel that carries the state for bridge `n`. -/
def State.master (s : State) (n : Nat) : Nat := if s.isSlave n then n - 1 else n

/-- Channel `n` runs a profile. -/
def State.runsProfile (s : State) (n : Nat) : Bool := (s.chan (s.master n)).st == .run

/-- Channel `n` runs no profile (R212). -/
def State.chanIdle (s : State) (n : Nat) : Bool := !s.runsProfile n

/-! ### Boost (R242 to R244) -/

/-- VBST in mV from its latest clean result (ACT_STAT.VBST_MV). -/
def State.vbstMv (s : State) : Nat :=
  match s.hkLast 12 with
  | some l => (hkValue l.code 0 60000).toNat
  | none => 0

/-- Boost is ready (R244). -/
def State.boostReady (s : State) : Bool :=
  !s.isStale 12 && (s.hkLast 12).isSome && decide (100 * s.fld ACT_BST 25 16 ≤ s.vbstMv)

/-- The charger runs until VBST reaches VSET (R242). DEDUCED (notes/assumptions/79.md). -/
def State.charging (s : State) : Bool := s.live && !s.pwr.powerFail && decide (s.act.vbst < s.vsetMv)

/-- The most the charger may draw from the bus, in mW; 85 % of its draw reaches VBST (R242). -/
def State.chargeMw (s : State) : Nat := if s.charging then (if s.pwr.boostLim then 1000 else 100 * s.fld ACT_CHG 7 0) else 0
def State.chargeUw (s : State) : Nat := 850 * s.chargeMw

/-- What the 6.8 kΩ bleed draws from VBST, in µW (R242). -/
def State.bleedUw (s : State) : Nat := s.act.vbst ^ 2 / 6800

/-! ### Profiles -/

/-- The word of phase `k` of a profile copy, and its fields (Table 12.6). -/
def Profile.ph (p : Profile) (k : Nat) : Word := nth 0 p.phs k
def phTarget (w : Word) : Nat := 2 * bits w 31 20
def phReverse (w : Word) : Bool := bit w 19
def phDecay (w : Word) : Nat := bits w 18 17
def phEnd (w : Word) : Bool := bit w 16
def phDur (w : Word) : Nat := bits w 14 0
def Profile.last (p : Profile) : Nat := bits p.hdr 2 0

/-- A copy of profile `p` for channel `n` (R251). -/
def State.copyProfile (s : State) (n p : Nat) : Profile :=
  ⟨p, s.reg (ACT_PHDR p), (List.range 8).map fun k => s.reg (ACT_PPH p k), s.fld (ACT_CHCFG n) 7 0⟩

/-- The event DATA of 0x1B5 to 0x1B7. -/
def faultData (n : Nat) (c : Chan) : Nat :=
  at_ n 28 + at_ c.phase 24 + at_ c.prof.num 16 + toBits 16 c.iMa

/-- The event DATA of 0x1B4. -/
def State.boostData (s : State) (n p : Nat) (pend : Bool) : Nat :=
  at_ n 28 + at_ (b2n pend) 24 + at_ p 16 + sat 65535 (s.vbstMv / 10)

/-- A profile ends (R258): its result, event 0x1B0 + n, DECAY in a mode, and the trims of its current sense (Table 10.2). Its
end event follows a fault event of the channel (dispatchBefore). -/
def endProfile (n res mode : Nat) (s : State) : State :=
  let c := s.chan n
  let s := onChan n (fun c => { c with st := .decay, lastRes := res, decayMode := mode, below := 0, openRun := 0, d := 0
                                       driving := false, offAt := s.time, endedNow := true }) s
  let s := raiseN (0x1B0 + n) (at_ res 24 + at_ c.prof.num 16 + sat 65535 c.stroke) s
  trimsApply ([11 + n] ++ (match s.slaveOf n with | some m => [11 + m] | none => [])) s

/-- A pending FIRE is dropped (R252, R254). -/
def dropPending (n : Nat) (s : State) : State :=
  if (s.chan n).pend.isSome then (onChan n (fun c => { c with pend := none }) s).count (ACT_CHCNT n) 15 0 else s

/-- A profile is taken up: it starts at the next period start (R251). -/
def Chan.takeUp (c : Chan) (p : Profile) : Chan :=
  { c with st := .run, prof := p, pend := none, started := false, phase := 0, periods := 0, d := 0, reached := false, armed := false,
           dip := false, ended := false, openRun := 0, below := 0, peakMa := 0, lastT := 0 }

/-- DECAY ends by R254: the pending profile starts, or is dropped when boost is not ready. -/
def decayEnds (n : Nat) (s : State) : State :=
  match (s.chan n).pend with
  | none => onChan n (fun c => { c with st := .idle }) s
  | some p =>
    if s.boostReady && !s.pwr.powerFail then onChan n (fun c => c.takeUp p) s
    else raiseN 0x1B4 (s.boostData n p.num true) (dropPending n (onChan n (fun c => { c with st := .idle }) s))

/-! ### The regulator (R247 to R256) -/

/-- The new duty of R247. -/
def regulate (ki : Nat) (d t m : Int) : Int := clampI 0 1000 (d + (ki * (t - m)).tdiv 256)

/-- End-of-stroke detection on one sample (R249). -/
def strokeStep (hdr : Word) (m : Int) (c : Chan) : Chan :=
  let depth : Int := 4 * bits hdr 31 24
  if c.dip then
    let q := min c.minQ m
    { c with minQ := q, ended := c.ended || decide (q + depth / 2 ≤ m) }
  else if c.armed || decide ((20 * bits hdr 23 16 : Int) ≤ m) then
    let p := if c.armed then max c.peakP m else m
    if m ≤ p - depth then { c with armed := true, peakP := p, dip := true, minQ := m }
    else { c with armed := true, peakP := p }
  else c

/-- A sample in RUN: duty for the next period, end-of-stroke detection, open-load test. -/
def runSample (n : Nat) (m : Int) (s : State) : State :=
  let c := s.chan n
  let w := c.prof.ph c.phase
  let t : Int := phTarget w
  let md := if phReverse w then -m else m
  let c := if phEnd w then
      let c := strokeStep c.prof.hdr md c
      let reached := c.reached || decide (t ≤ md)
      { c with reached, d := if reached then regulate c.prof.ki c.d t md else 1000 }
    else { c with d := if t = 0 then 0 else regulate c.prof.ki c.d t md }
  let opn := bit c.prof.hdr 4 && decide (100 ≤ bits w 31 20) && (s.chan n).dNow == 1000 && s.boostReady && decide (10 * md < t)
  let c := { c with openRun := if opn then c.openRun + 1 else 0 }
  let s := onChan n (fun _ => c) s
  if opn && decide (25000 ≤ c.openRun * s.fld ACT_PWM 27 16) then
    endProfile n 3 1 (raiseN 0x1B6 (faultData n c) (onChan n (fun c => { c with isOpen := true }) s))
  else s

/-- A sample in DECAY: two in succession below the threshold end it (R254). -/
def decaySample (n : Nat) (m : Int) (s : State) : State :=
  let c := s.chan n
  if 100 * m.natAbs < max 2000 (5 * c.lastT) then
    if c.below = 0 then onChan n (fun c => { c with below := 1 }) s else decayEnds n (onChan n (fun c => { c with below := 0 }) s)
  else onChan n (fun c => { c with below := 0 }) s

/-- A usable sample of a channel or pair, in mA. -/
def chanSample (n : Nat) (m : Int) (s : State) : State :=
  let s := onChan n (fun c => { c with iMa := m, peakMa := max c.peakMa m.natAbs }) s
  match (s.chan n).st with
  | .run => if (s.chan n).started then runSample n m s else s
  | .decay => decaySample n m s
  | .idle => s

/-- A bridge's urgent result: SUSPECT results are not used, OVR counts as 4000 mA in its own sign (R246); a pair is summed
once both bridges have theirs. -/
def bridgeSample (n code : Nat) (ovr sus : Bool) (s : State) : State :=
  if sus then s
  else
    let m : Int := if ovr then (if code = 0 then -4000 else 4000) else hkValue code 8192 8000
    let k := s.master n
    match s.slaveOf k with
    | none => chanSample k m s
    | some j =>
      let other := if n = k then j else k
      match (s.chan other).raw with
      | some m' => chanSample k (m + m') (onChan other (fun c => { c with raw := none }) s)
      | none => onChan n (fun c => { c with raw := some m }) s

/-- A conversion ends; an urgent one also reaches its regulator. -/
def conversionComplete (j : Nat) (m : ConvMeas) (s : State) : State :=
  match (s.conv j).doing with
  | .urgent ch _ =>
    let x := s.hkCode (8 + ch) (s.trim j) m
    bridgeSample ch x.1 x.2 (s.hkSuspect j (8 + ch) m) (hkConversion j m s)
  | _ => hkConversion j m s

/-! ### PWM periods (R245, R248) -/

/-- A phase begins at this period start. -/
def beginPhase (n k : Nat) (s : State) : State :=
  let c := s.chan n
  let w := c.prof.ph k
  let t := phTarget w
  let c := { c with phase := k, periods := 0, reached := false, armed := false, dip := false, ended := false, openRun := 0,
                    lastT := if t = 0 then c.lastT else t,
                    d := if t = 0 then 0 else if phEnd w then 1000 else c.d,
                    stroke := if phEnd w then 0 else c.stroke }
  hkPwmEdge n 2 (onChan n (fun _ => c) s)

/-- The phase in progress has ended by time or stroke at this period start: the next begins, or the profile ends. -/
def nextPhase (n : Nat) (s : State) : State :=
  let c := s.chan n
  if c.prof.last ≤ c.phase then endProfile n 0 (phDecay (c.prof.ph c.phase)) s else beginPhase n (c.phase + 1) s

/-- Phases at a period start of a channel in RUN. -/
def periodPhase (n : Nat) (s : State) : State :=
  let c := s.chan n
  if !c.started then beginPhase n 0 (onChan n (fun c => { c with started := true }) s)
  else
    let per := s.fld ACT_PWM 27 16
    let w := c.prof.ph c.phase
    let k := c.periods + 1
    let s := onChan n (fun c => { c with periods := k }) s
    if phEnd w && c.ended then nextPhase n (onChan n (fun c => { c with stroke := sat 65535 (k * per / 250) }) s)
    else if phDur w ≠ 0x7FFF ∧ phDur w * 500 ≤ k * per then
      if phEnd w then
        endProfile n 4 1 (raiseN 0x1B7 (faultData n c) (onChan n (fun c => { c with stall := true }) s))
      else nextPhase n s
    else s

/-- The bridges that switch together: a channel's own, and with a pair its slave's (R259). -/
def State.bridgesOf (s : State) (n : Nat) : List Nat := n :: (s.slaveOf n).toList

/-- An edge of a channel's bridges (R245, R259). -/
def bridgeEdge (n pt : Nat) (s : State) : State := (s.bridgesOf n).foldl (fun s m => hkPwmEdge m pt s) s

/-- A channel's PWM period starts. -/
def pwmPeriod (n : Nat) (s : State) : State :=
  if !s.live || s.isSlave n then s
  else
    let s := onChan n (fun c => { c with perAt := s.time, offAt := s.time, driving := false, endedNow := false }) s
    let s := if (s.chan n).st = .run then periodPhase n s else s
    let s := onChan n (fun c => { c with dNow := if c.st = .run then c.d else 0, driving := c.st == .run && decide (0 < c.d) }) s
    let c := s.chan n
    let s := if c.driving then bridgeEdge n 0 s else s
    let due := c.st != .idle && (s.urgConv n).isSome
    (s.bridgesOf n).foldl (fun s m => onChan m (fun c => { c with reqDue := due, raw := none }) s) s

/-- The on-time of a period ends, and the off-time begins (R245, Table 11.2). -/
def pwmOff (n : Nat) (s : State) : State :=
  if s.live ∧ (s.chan n).driving then bridgeEdge n 1 (onChan n (fun c => { c with driving := false, offAt := s.time }) s) else s

/-- The on-time of a duty, in peripheral clocks (R245). -/
def State.onTime (s : State) (d : Int) : Nat := d.toNat * s.fld ACT_PWM 27 16 / 1024

/-- The switches in an off-time of `len` clocks by decay mode (Table 12.1). -/
def State.decayDrive (s : State) (c : Chan) (mode len : Nat) : Drive :=
  match mode with
  | 0 => .slow
  | 1 => .off
  | _ => if 16 * (s.time - c.offAt) < bits c.prof.hdr 11 8 * len then .off else .slow

/-- The switches of bridge `n`; a slave's are its master's (R245, R259, Tables 12.1 and 12.2). -/
def State.drive (s : State) (n : Nat) : Drive :=
  let c := s.chan (s.master n)
  let w := c.prof.ph c.phase
  if !s.live then .off
  else match c.st with
    | .idle => .off
    | .run =>
      if !c.started then .off
      else if c.driving then (if phReverse w then .reverse else .forward)
      else s.decayDrive c (phDecay w) (s.fld ACT_PWM 27 16 - s.onTime c.dNow)
    | .decay => s.decayDrive c c.decayMode (s.fld ACT_PWM 27 16)

/-- The urgent request of this period, at the period start plus SAMP; a master issues its slave's too (R246). -/
def issueUrgent (n : Nat) (s : State) : State :=
  if !(s.chan n).reqDue || (s.chan n).st == .idle || s.isSlave n then s
  else
    let go (m : Nat) (s : State) : State := urgentRequest m (onChan m (fun c => { c with reqDue := false }) s)
    match s.slaveOf n with
    | some m => go m (go n s)
    | none => go n s

/-! ### Faults -/

/-- The over-current comparator of bridge `n` trips (R255): it ends the profile, also one that has ended otherwise in the same
period; in a later period of DECAY no profile is left to end. DEDUCED (notes/assumptions/69.md). -/
def actOverCurrent (n : Nat) (s : State) : State :=
  let k := s.master n
  if (s.chan k).st = .idle then s
  else
    let ends := (s.chan k).st == .run || (s.chan k).endedNow
    let s := raiseN 0x1B5 (faultData k (s.chan k)) (onChan k (fun c => { c with oc := true, decayMode := 1 }) s)
    if ends then endProfile k 2 1 s else s

/-- DECAY has lasted 50 ms (R254). -/
def decayTimeout (n : Nat) (s : State) : State :=
  if (s.chan n).st = .decay then
    dropPending n (raiseN 0x1B8 (at_ n 28 + toBits 16 (s.chan n).iMa) (onChan n (fun c => { c with st := .idle, decayTo := true }) s))
  else s

/-- The safe state (R261): running profiles end with result 5, pending FIRE requests are dropped. -/
def actSafe (s : State) : State :=
  (List.range 4).foldl (fun s n => dropPending n (if (s.chan n).st = .run then endProfile n 5 1 s else s)) s

/-- The end events of the profiles that a reset ends with result 5 (R261); they are held until hand-over (R62, R99). -/
def actResetEvents (s : State) : List (Nat × Word) :=
  (List.range 4).filterMap fun n =>
    let c := s.chan n
    if c.st = .run then some (0x1B0 + n, word (at_ 5 24 + at_ c.prof.num 16 + sat 65535 c.stroke)) else none

/-- RIND_REQ accepted (R262): hold phases end with result 6, pending FIRE requests are dropped. -/
def actRind (s : State) : State :=
  (List.range 4).foldl (fun s n =>
    let c := s.chan n
    dropPending n (if c.st = .run ∧ phDur (c.prof.ph c.phase) = 0x7FFF then endProfile n 6 1 s else s)) s

/-! ### ACT_CMD (R250 to R253) -/

/-- The code of a FIRE, and whether it is the boost refusal that sets BNR. -/
def State.fireCode (s : State) (n p : Nat) : Code × Bool :=
  let c := s.chan n
  let both (f : Nat → Bool) : Bool := f n || (match s.slaveOf n with | some m => f m | none => false)
  let prof := s.copyProfile n p
  if s.pwr.powerFail || c.st == .run || (c.st == .decay && c.pend.isSome) || c.oc || c.isOpen || c.stall || c.decayTo ||
      both (fun m => (s.urgConv m).isNone) || both (fun m => s.injected (8 + m)) then (.eState, false)
  else if c.st == .idle && !s.boostReady then (.eState, true)
  else if !s.flag (ACT_CHCFG n) 8 || s.isSlave n then (.eCtx, false)
  else if (List.range (prof.last + 1)).any (fun k => phDur (prof.ph k) == 0 ||
      ((s.slaveOf n).isNone && decide (3000 < phTarget (prof.ph k)))) then (.eRange, false)
  else (.ok, false)

/-- An accepted FIRE (R251, R252). -/
def fireProfile (n p : Nat) (s : State) : State :=
  let prof := s.copyProfile n p
  let s := s.count (ACT_CHCNT n) 31 16
  onChan n (fun c => let c := { c with bnr := false }
    if c.st = .decay then { c with pend := some prof } else c.takeUp prof) s

/-- A FIRE refused for boost sets BNR (R250). DEDUCED (notes/assumptions/16.md). -/
def fireRefused (n p : Nat) (s : State) : State :=
  raiseN 0x1B4 (s.boostData n p false) (onChan n (fun c => { c with bnr := true }) s)

/-- STOP and CLEAR (R253). -/
def stopProfile (n : Nat) (s : State) : State :=
  if (s.chan n).st = .run then endProfile n 1 1 s else onChan n (fun c => { c with pend := none }) s

def clearLatches (n : Nat) (s : State) : State :=
  onChan n (fun c => { c with oc := false, isOpen := false, stall := false, decayTo := false }) s

/-! ### Registers -/

def ActSt.num : ActSt → Nat
  | .idle => 0 | .run => 1 | .decay => 2

/-- The live words of page 0x08. -/
def actView (a : Nat) (s : State) : Option Word :=
  if a = ACT_STAT then
    some (word (at_ (sat 65535 s.vbstMv) 16 + b2n s.act.clamp * 8 + b2n s.pwr.boostLim * 4 + b2n s.charging * 2 + b2n s.boostReady))
  else if ACT_CHCFG 0 ≤ a ∧ a < ACT_CHCFG 4 then
    let n := (a - ACT_CHCFG 0) / 0x20
    let c := s.chan n
    match (a - ACT_CHCFG 0) % 0x20 with
    | 0x04 => some (word (at_ c.st.num 30 + at_ (b2n c.pend.isSome) 29 + at_ c.prof.num 24 + at_ c.phase 21 + toBits 16 c.iMa))
    | 0x08 => some (word (at_ c.lastRes 24 + b2n c.bnr * 16 + b2n c.decayTo * 8 + b2n c.stall * 4 + b2n c.isOpen * 2 + b2n c.oc))
    | 0x0C => some (word (at_ c.stroke 16 + sat 65535 c.peakMa))
    | _ => none
  else none

/-- ACT_PAIR: the code of a write that changes pair bits, each check of R259 over both pairs. -/
def State.pairCode (s : State) (v : Word) : Code :=
  let any (f : Nat → Bool) : Bool := (List.range 2).any fun p => bit v p != s.paired p && f p
  firstCode [
    chk (any fun p => (s.chan (2 * p)).st != .idle || (s.chan (2 * p + 1)).st != .idle) .eState,
    chk (any fun p => bit v p && (!s.flag (ACT_CHCFG (2 * p)) 8 || !s.flag (ACT_CHCFG (2 * p + 1)) 8)) .eCtx,
    chk (any fun p => bit v p && urgPairBad (s.reg HK_URG) p) .eState]

/-- The writes of the ACT_ registers. -/
def actWrite (a : Nat) (v : Word) (s : State) : Option WriteRule :=
  if a = ACT_CMD then
    let n := bits v 17 16
    let p := bits v 15 11
    match bits v 31 28 with
    | 1 => let f := s.fireCode n p
           some { pre := f.1, store := false, app := fireProfile n p, rej := if f.2 then fireRefused n p else id }
    | 2 => some { pre := firstCode [chk (s.isSlave n || !s.flag (ACT_CHCFG n) 8) .eCtx,
                    chk (!((s.chan n).st == .run || ((s.chan n).st == .decay && (s.chan n).pend.isSome))) .eState],
                  bad := p != 0, store := false, app := stopProfile n }
    | 3 => some { pre := chk (s.isSlave n || !s.flag (ACT_CHCFG n) 8) .eCtx, bad := p != 0, store := false, app := clearLatches n }
    | _ => none
  else if a = ACT_BST then some { bad := decide (bits v 9 0 < bits v 25 16), app := fun t => vbstSeen t.act.vbst t }
  else if a = ACT_PWM then
    some { pre := chk ((List.range 4).any fun n => (s.chan n).st != .idle) .eState,
           bad := decide (bits v 27 16 / 4 < bits v 7 0) }
  else if a = ACT_PAIR then some { pre := s.pairCode v }
  else if ACT_CHCFG 0 ≤ a ∧ a < ACT_CHCFG 4 then
    let n := (a - ACT_CHCFG 0) / 0x20
    if (a - ACT_CHCFG 0) % 0x20 = 0 then
      some { pre := chk (!bit v 8 && ((s.chan (s.master n)).st != .idle || s.paired (n / 2))) .eState }
    else none
  else if ACT_PHDR 0 ≤ a ∧ a < ACT_PHDR 32 ∧ (a - ACT_PHDR 0) % 0x40 ≠ 0 then
    some { bad := phDecay v == 3 || phDur v == 0 || decide (6000 < phTarget v) || (phEnd v && phTarget v == 0) }
  else none

end Sys2Proof.Machine
end

