-- ==== Sys2Proof/Machine/BlkCtx.lean ====
section
/-! DEFINITION. Contexts, commits, runs and the pipeline schedule (chapter 08). What a finished frame does to the blocks
behind the pipeline is in Pipeline.lean. -/

namespace Sys2Proof.Machine

/-- The state with a context changed. -/
def onCtx (c : Nat) (f : Ctx → Ctx) (s : State) : State := { s with sch := { s.sch with ctxs := upd s.sch.ctxs c f } }

/-- A frame of a context changed. DESIGN CHOICE (notes/assumptions/43.md). -/
def onFrame (c fn : Nat) (f : Frame → Frame) (s : State) : State :=
  onCtx c (fun x => { x with frames := x.frames.map fun g => if g.fn = fn then f g else g }) s

/-- A frame of a context in the pipeline. -/
def State.frame? (s : State) (c fn : Nat) : Option Frame := (s.ctx c).frames.find? (·.fn == fn)

/-! ### CW registers and commits (R169 to R172) -/

/-- The CW registers of context `c` on pages 0x09 to 0x0F; those of the ports it feeds are in BlkOut. -/
def ctxCwRegs (c : Nat) : List Nat :=
  [INT_SHARE c, DNR_CTL c, DNR_TEMP c, DNR_SPAT c, DNR_EVT c, NUC_CFG c, RND_AGC c, RND_PCT c, RND_FIX c, RND_ROI0 c, RND_ROI1 c,
   RND_PAL c, RND_ISO c, RND_ISOC c, RND_VIS c, RND_WB0 c, RND_WB1 c, RND_COL c, RND_FUS c, RND_KEY c, OUT_CSTAT c,
   ANA_BG c, ANA_BLOB c, ANA_ABS c, TRK_CFG c, TRK_SPD c]

/-- The pending values of some CW registers come into force (R171). -/
def applyRegs (as : List Nat) (s : State) : State := as.foldl (fun s a => s.setCw a (s.reg a)) s

/-- The code of an INT_COMMIT write (R172). -/
def State.commitCode (s : State) (v : Word) : Code :=
  let any (p : CtxSt) : Bool := (List.range 8).any fun c => bit v c && (s.ctx c).st == p
  if any .off then .eCtx else if any .stopping then .eState else .ok

/-- Commits of the named contexts are armed (R170). -/
def armCommits (v : Word) (s : State) : State :=
  (List.range 8).foldl (fun s c => if bit v c then onCtx c (fun x => { x with armed := true }) s else s) s

/-! ### Heads and their bias values (R283) -/

/-- Head `n`. -/
def State.head (s : State) (n : Nat) : Head := nth {} s.int.heads n

/-- The state with a head changed. -/
def onHead (n : Nat) (f : Head → Head) (s : State) : State := { s with int := { s.int with heads := upd s.int.heads n f } }

/-- Pending BIAS and IREF values of a head take effect. -/
def biasApply (n : Nat) (s : State) : State :=
  onHead n (fun h => { h with
    bias := if h.biasPend then s.reg (INT_HBIAS n) else h.bias, biasPend := false
    iref := if h.irefPend then s.reg (INT_HIREF n) else h.iref, irefPend := false }) s

/-- They take effect at once, unless a press of the head is in progress or REF_FAULT is set.
DEDUCED (notes/assumptions/55.md). -/
def biasFreed (n : Nat) (s : State) : State :=
  if s.trm.refFault || (nth {} s.nuc.press n).active then s else biasApply n s

/-! ### Context states (R173) -/

def CtxSt.num : CtxSt → Nat
  | .off => 0 | .on => 1 | .stopping => 2

/-- A context changes state: event 0x0BF; at OFF its waits end, it uses no table any more (R174), and no bias value waits for its
next START point (R283). DEDUCED (notes/assumptions/55.md). -/
def setCtxSt (c : Nat) (st : CtxSt) (s : State) : State :=
  let s := raiseN 0x0BF (at_ c 28 + st.num) (onCtx c (fun x => { x with st }) s)
  if st = .off then ctxMoved c (ctxWaitsEnd c (if s.source c < 4 then biasFreed (s.source c) s else s)) else s

/-- EN = 1 (R173): OFF to ON with a commit of the pending bank armed, or EN_PEND while STOPPING. -/
def enableCtx (c : Nat) (s : State) : State :=
  match (s.ctx c).st with
  | .off => setCtxSt c .on (onCtx c (fun x => { x with armed := true }) s)
  | .on => s
  | .stopping => onCtx c (fun x => { x with enPend := true }) s

/-- EN = 0 (R173): STOPPING while a frame is in the pipeline, else OFF. -/
def disableCtx (c : Nat) (s : State) : State :=
  match (s.ctx c).st with
  | .off => s
  | .on => setCtxSt c (if (s.ctx c).frames.isEmpty then .off else .stopping) s
  | .stopping => onCtx c (fun x => { x with enPend := false }) s

/-- A STOPPING context whose last frame has left the pipeline becomes OFF, or ON with EN_PEND. -/
def ctxDrained (c : Nat) (s : State) : State :=
  let x := s.ctx c
  if x.st = .stopping ∧ x.frames.isEmpty then
    if x.enPend then setCtxSt c .on (onCtx c (fun x => { x with enPend := false }) s) else setCtxSt c .off s
  else s

/-! ### Runs (R175, R176) -/

/-- Pipeline clocks of one run of a `w` × `h` frame. -/
def runClocks (shingle : Bool) (hs w h : Nat) : Nat := (if shingle then hs + 8 else h) * ((w + 1) / 2) + 192

/-- Runs of one frame. -/
def runsOf (shingle : Bool) (hs h : Nat) : Nat := if shingle then ceilDiv h hs else 1

def Frame.clocks (f : Frame) : Nat := runClocks f.shingle f.hs f.w f.h
def Frame.runs (f : Frame) : Nat := runsOf f.shingle f.hs f.h

/-- The mode and shingle height of a context's active bank. -/
def State.shingleOf (s : State) (c : Nat) : Bool := s.cwf (INT_SHARE c) 0 0 == 1
def State.hsOf (s : State) (c : Nat) : Nat := 16 * 2 ^ s.cwf (INT_SHARE c) 2 1

/-- The next run of a frame is ready (R175): its last own line and the 4 below it, or the END point. -/
def Frame.ready (f : Frame) : Bool :=
  f.ended || (f.shingle && decide (f.runsDone + 1 < f.runs) && decide ((f.runsDone + 1) * f.hs + 4 ≤ f.rows.length))

/-- The frame whose run a context would run next, when it is ready: frames are served in order. -/
def Ctx.readyFrame (x : Ctx) : Option Frame :=
  match x.frames with
  | f :: _ => if f.ready then some f else none
  | [] => none

/-- The pipeline, when idle, starts the oldest ready run of the next context in order (R176). -/
def startRun (s : State) : State :=
  if s.sch.run.isSome || !s.live then s
  else
    match ((List.range 8).map fun i => (s.sch.lastServed + 1 + i) % 8).find? (fun c => (s.ctx c).readyFrame.isSome) with
    | none => s
    | some c => match (s.ctx c).readyFrame with
      | none => s
      | some f => { s with sch := { s.sch with run := some ⟨c, f.fn, f.runsDone, s.time, 0⟩, lastServed := c } }

/-- A frame leaves the pipeline, done or broken. -/
def removeFrame (c fn : Nat) (s : State) : State :=
  let s := onCtx c (fun x => { x with frames := x.frames.filter (·.fn != fn) }) s
  let s := match s.sch.run with
    | some r => if r.ctx = c ∧ r.fn = fn then { s with sch := { s.sch with run := none } } else s
    | none => s
  ctxDrained c (frameGone c fn s)

/-- Lines join a frame at intake now. -/
def Frame.addRows (f : Frame) (rs : List (List Nat)) (now : Nat) : Frame :=
  { f with rows := f.rows ++ rs, lineAt := f.lineAt ++ List.replicate rs.length now }

/-- The pipeline latency of the run with index `idx` that ends now, in 0.1 µs (R177, R184): from the arrival of the shingle's last own
line, in frame mode from the END point. Rounded down. DEDUCED (notes/assumptions/58.md). -/
def Frame.latency (f : Frame) (idx now : Nat) : Nat :=
  (now - if f.shingle then nth 0 f.lineAt (min f.h ((idx + 1) * f.hs) - 1) else f.endAt) * 2 / 5

/-- The latency of a run is recorded (R184). DEDUCED (notes/assumptions/58.md). -/
def recordLatency (c lat : Nat) (s : State) : State :=
  let lat := sat 65535 lat
  let s := { s with sch := { s.sch with lastLat := s.sch.lastLat.set c lat } }
  s.setFld (INT_LAT c) 31 16 (max (s.fld (INT_LAT c) 31 16) lat)

/-! ### Utilisation and backlog (R179, R180) -/

/-- The contexts that count as active: ON or STOPPING, with a measured frame. -/
def State.activeCtxs (s : State) : List Nat :=
  (List.range 8).filter fun c => s.ctxEnabled c && decide (0 < (s.ctx c).fper) && decide (0 < (s.ctx c).w)

/-- The run time of a context in units of 0.1 ns. -/
def State.runTime (s : State) (c : Nat) : Nat :=
  runClocks (s.shingleOf c) (s.hsOf c) (s.ctx c).w (s.ctx c).h * s.pipeClock10

/-- U as numerator and denominator: the sum over the active contexts of run time times runs per frame over the frame period. -/
def State.utilisation (s : State) : Nat × Nat :=
  s.activeCtxs.foldl (fun u c =>
    let d := (s.ctx c).fper * 100000
    (u.1 * d + s.runTime c * runsOf (s.shingleOf c) (s.hsOf c) (s.ctx c).h * u.2, u.2 * d)) (0, 1)

/-- The contexts in shingle mode whose round condition fails. -/
def State.roundFails (s : State) : List Nat :=
  let sum := (s.activeCtxs.map s.runTime).foldl (· + ·) 0
  s.activeCtxs.filter fun c => s.shingleOf c && decide (s.hsOf c * (s.ctx c).line * 100 < sum)

/-- At an accepted frame start the engine computes U and the round condition and reports a violation (R179). -/
def measureSched (s : State) : State :=
  let u := s.utilisation
  let exceeded := decide (950 * u.2 < 1000 * u.1)
  let u1000 := sat 1023 (1000 * u.1 / u.2)
  let bad := s.roundFails
  let b := bad.foldl (fun n c => n + 2 ^ c) 0
  let was := s.sch
  let s := { s with sch := { s.sch with u1000, utilOver := exceeded, roundOver := !bad.isEmpty } }
  raiseIf (!bad.isEmpty && !was.roundOver) 0x0BD b (raiseIf (exceeded && !was.utilOver) 0x0BC u1000 s)

/-- The thirds of pipeline clocks that the run in progress has executed: 80 a tick of 40 ns in Run, 40 in Eaves (R176). -/
def State.executed (s : State) (r : Run) : Nat := r.did + (s.time - r.since) * (1200 / s.pipeClock10)

/-- The clock of the pipeline changes: what the run in progress has executed so far stands (R176). -/
def rateChanges (s : State) : State :=
  { s with sch := { s.sch with run := s.sch.run.map fun r => { r with did := s.executed r, since := s.time } } }

/-- The backlog in thirds of pipeline clocks (R180): runs not yet executed, less what the run in progress has executed. -/
def State.backlogThirds (s : State) : Nat :=
  let all := (s.sch.ctxs.map fun x => (x.frames.map fun f => (f.runs - f.runsDone) * f.clocks).foldl (· + ·) 0).foldl (· + ·) 0
  match s.sch.run with
  | none => 3 * all
  | some r =>
    let cost := match s.frame? r.ctx r.fn with | some f => f.clocks | none => 0
    3 * all - min (3 * cost) (s.executed r)

/-- The backlog in µs, rounded down. DEDUCED (notes/assumptions/58.md). -/
def State.backlogUs (s : State) : Nat := s.backlogThirds * s.pipeClock10 / 30000

/-- R180 skips a frame start of context `c` unless a press exempts it (R182). -/
def State.skips (s : State) (c : Nat) (press : Bool) : Bool :=
  !press && decide ((s.fld (INT_CTL c) 2 0 + 1) * s.fld INT_SCHED 15 0 * 30000 < s.backlogThirds * s.pipeClock10)

/-- A skipped frame is counted and reported (R181). -/
def skipFrame (c fn : Nat) (s : State) : State :=
  raiseN 0x0BE (at_ c 28 + fn % 2 ^ 24) (s.count (INT_CNT c) 31 16)

/-- A frame point: the Vat's waits (R152) and the converters' triggers (R223); none for a context that is OFF.
DEDUCED (notes/assumptions/56.md). -/
def pointAt (c pt fn : Nat) (s : State) : State :=
  if (s.ctx c).st = .off then s
  else
    let s := framePoint c pt fn s
    if pt < 2 then hkFramePoint c pt s else s

/-! ### Registers -/

/-- The live words of page 0x09, offsets 0x0000 to 0x01FC. -/
def ctxView (a : Nat) (s : State) : Option Word :=
  if a = INT_SCHSTAT then
    some (word (at_ (b2n s.sch.utilOver) 31 + at_ (b2n s.sch.roundOver) 30 + at_ s.sch.u1000 16 + sat 65535 s.backlogUs))
  else if INT_CTL 0 ≤ a ∧ a < INT_CTL 8 then
    let c := (a - INT_CTL 0) / 0x20
    let x := s.ctx c
    match (a - INT_CTL 0) % 0x20 with
    | 0x00 => some (putBits (s.reg a) 8 8 (b2n (x.st == .on || (x.st == .stopping && x.enPend))))
    | 0x08 => some (word (at_ x.st.num 30 + at_ (b2n x.armed) 29 + at_ (b2n x.enPend) 28 + at_ (b2n !x.frames.isEmpty) 27))
    | 0x0C => some (word x.fnum)
    | 0x10 => some (word (at_ x.w 16 + x.h))
    | 0x14 => some (word (at_ x.line 16 + x.fper))
    | _ => none
  else none

/-- The writes of INT_COMMIT and INT_CnCTL. -/
def ctxWrite (a : Nat) (v : Word) (s : State) : Option WriteRule :=
  if a = INT_COMMIT then some { pre := s.commitCode v, store := false, app := armCommits v }
  else if INT_CTL 0 ≤ a ∧ a < INT_CTL 8 ∧ (a - INT_CTL 0) % 0x20 = 0 then
    let c := (a - INT_CTL 0) / 0x20
    some { app := if bit v 8 then enableCtx c else disableCtx c }
  else none

end Sys2Proof.Machine
end

