-- ==== Sys2Proof/Machine/BlkIntake.lean ====
section
/-! DEFINITION. Sensor intake and heads (chapter 13): the link, head states, telemetry, bias, I2C, generators, and the
INT_ registers from offset 0x0200. How a frame start, line and end reach a context is in Pipeline.lean. -/

namespace Sys2Proof.Machine

/-! ### Heads -/

/-- The context that INT_MAP gives head `n` to, if any. -/
def State.ctxOfHead (s : State) (n : Nat) : Option Nat := (List.range 8).find? fun c => s.source c == n

/-- Head `n` is enabled. -/
def State.headEn (s : State) (n : Nat) : Bool := s.flag (INT_HCFG n) 31

/-- The enabled head that uses a virtual channel. -/
def State.headOfVc (s : State) (vc : Nat) : Option Nat :=
  (List.range 6).find? fun n => s.headEn n && s.fld (INT_HCFG n) 27 24 == vc

/-- The data kind of a head: 0 RAW14, 1 RAW10, 2 RAW12. -/
def State.headKind (s : State) (n : Nat) : Nat := s.fld (INT_HCFG n) 23 22

/-- The geometry a head's frames must have: INT_HnGEOM, or the adopted one in auto (R272, R276). -/
def State.headGeom (s : State) (n : Nat) : Nat × Nat :=
  let w := s.fld (INT_HGEOM n) 31 16
  let h := s.fld (INT_HGEOM n) 15 0
  if w = 0 ∧ h = 0 then ((s.head n).geomW, (s.head n).geomH) else (w, h)

/-- Data types that a head kind allows (Table 13.1). -/
def kindAllowed (n k : Nat) : Bool := if n < 4 then k == 0 else k == 1 || k == 2

/-! ### Packets (R265 to R267, R278) -/

/-- Data arrives: before the skew calibration that is required it is discarded and reported once (R265); after it a packet's errors are
counted and reported (R267), and a packet with a valid or corrected header brings the link up (R278). -/
def packetSeen (e : PacketErr) (s : State) : State :=
  if decide (150 < s.fld INT_LINK 7 0) && !s.int.deskewOk then
    raiseIf (!s.int.deskewMissing) 0x0B3 0 { s with int := { s.int with deskewMissing := true } }
  else
    let s := match e with
      | .eccCorr => raiseN 0x0B4 0 (s.count INT_LINKERR 23 16)
      | .eccUnc => raiseN 0x0B5 0 (s.count INT_LINKERR 15 8)
      | .crc => raiseN 0x0B6 0 (s.count INT_LINKERR 7 0)
      | .sot => raiseN 0x0B2 0 (s.count INT_LINKERR 31 24)
      | _ => s
    if e = .eccUnc ∨ e = .sot ∨ s.int.linkUp then s
    else raiseN 0x0B0 0 { s with int := { s.int with linkUp := true } }

/-- High-speed data is accepted: the engine runs, and the skew calibration has come where it is required (R265). -/
def State.rxOn (s : State) : Bool := s.live && !(decide (150 < s.fld INT_LINK 7 0) && !s.int.deskewOk)

/-- The link goes DOWN (R278). -/
def linkDown (s : State) : State :=
  raiseIf s.int.linkUp 0x0B1 0 { s with int := { s.int with
    linkUp := false, deskewOk := false, deskewMissing := false, heads := s.int.heads.map fun h => { h with stray := none } } }

/-- An initial skew calibration sequence is received (R265). -/
def deskewSeen (s : State) : State := { s with int := { s.int with deskewOk := true } }

/-! ### Frame numbers (R270) -/

/-- The advance of the context frame number at a frame start with packet number `f`. -/
def frameStep (fmode : Bool) (h : Head) (f : Nat) : Nat :=
  match fmode, h.fLast with
  | true, some l =>
    let d := (((f : Int) - l + h.fnMax) % h.fnMax).toNat
    if f = 0 ∨ d = 0 then 1 else d
  | _, _ => 1

/-- FN_MAX is learnt as the highest number seen before a wrap to 1. DEDUCED (notes/assumptions/55.md). -/
def learnWrap (h : Head) (f : Nat) : Head :=
  let wrap := f == 1 && decide (1 < h.fHigh)
  { h with fnMax := if wrap then h.fHigh else h.fnMax, fHigh := if wrap then 1 else max h.fHigh f, fLast := some f }

/-! ### Telemetry (R280, R281) -/

/-- A telemetry code in cK through a TSCAL word. -/
def telemetryCk (scal : Word) (code : Nat) : Nat :=
  (clampI 0 65535 ((bits scal 31 16 : Int) + roundHalfAway ((code : Int) * sbits scal 15 0) 32768)).toNat

/-- The latest usable value of an input through a scale, and whether it is no older than 20 ms. -/
def State.telemetry (s : State) (hkin : Nat) (scal : Nat) : Option (Nat × Bool) :=
  (s.hkLast hkin).map fun l => (telemetryCk (s.reg scal) l.code, !s.isStale hkin && decide (s.time ≤ l.at_ + 20 * msTicks))

/-- At a frame start of H0–H3: TS, RATE and TF with their OK flags are latched. -/
def latchTelemetry (n : Nat) (s : State) : State :=
  if 4 ≤ n then s
  else
    let h := s.head n
    let t := s.telemetry n (INT_HTSCAL n)
    let f := s.telemetry (4 + n) (INT_HTFCAL n)
    let tsOk := (t.map (·.2)).getD false
    let tfOk := (f.map (·.2)).getD false
    let l := h.samples.take 17
    let rate : Int := if l.length = 17 then ((nth ⟨0, false⟩ l 0).ck : Int) - (nth ⟨0, false⟩ l 16).ck else h.rate
    let s1 := onHead n (fun h => { h with
      ts := (t.map (·.1)).getD h.ts, tsOk, tf := (f.map (·.1)).getD h.tf, tfOk, rate := clampI (-32768) 32767 rate
      rateOk := l.length == 17 && l.all (·.ok) }) s
    raiseIf (h.tfOk && !tfOk) (0x087 + 8 * n) 1 (raiseIf (h.tsOk && !tsOk) (0x087 + 8 * n) 0 s1)

/-- Every 62.5 ms the substrate value of H0–H3 is sampled. -/
def sampleSubstrate (s : State) : State :=
  if !s.live then s
  else (List.range 4).foldl (fun s n =>
    let t := s.telemetry n (INT_HTSCAL n)
    onHead n (fun h => { h with samples := (⟨(t.map (·.1)).getD h.ts, (t.map (·.2)).getD false⟩ :: h.samples).take 17 }) s) s

/-! ### Bias (R282 to R284) -/

/-- At a START point of the mapped context: unless a press of the head is in progress or REF_FAULT is set. -/
def biasAtStart (press : Bool) (n : Nat) (s : State) : State := if press || s.trm.refFault then s else biasApply n s

/-- A write of BIAS or IREF takes effect at once while the mapped context is OFF or there is none. -/
def biasWritten (n : Nat) (s : State) : State :=
  match s.ctxOfHead n with
  | some c => if (s.ctx c).st = .off then biasFreed n s else s
  | none => biasFreed n s

/-- The output code of BIASn or IREFn: off in Rind and while the head supply is off (R284). -/
def State.biasOut (s : State) (n : Nat) : Nat := if s.pwr.hsupOn ∧ !s.inRind ∧ bit (s.head n).bias 31 then bits (s.head n).bias 15 0 else 0
def State.irefOut (s : State) (n : Nat) : Nat := if s.pwr.hsupOn ∧ !s.inRind ∧ bit (s.head n).iref 31 then bits (s.head n).iref 15 0 else 0

/-! ### Head states (R275 to R277) -/

/-- A disagreement of kind `k` is present (R277). Packets count as seen for 500 ms after the last one.
DESIGN CHOICE (notes/assumptions/83.md). -/
def State.disHolds (s : State) (n k : Nat) : Bool :=
  let h := s.head n
  match k with
  | 1 => s.headEn n && h.obs != .streaming
  | 2 => !s.headEn n && (match h.stray with | some t => decide (s.time ≤ t + 500 * msTicks) | none => false)
  | 3 => s.headEn n && h.obs == .resync && h.mismatch.isSome
  | _ => false

/-- The kind of the present disagreement of configured and observed state, the mismatch before the state it is part of; 0 none
(R277). -/
def State.disagreement (s : State) (n : Nat) : Nat :=
  if s.disHolds n 3 then 3 else if s.disHolds n 1 then 1 else if s.disHolds n 2 then 2 else 0

/-- DIS clears when the disagreement it shows ends. -/
def disFollow (n : Nat) (s : State) : State :=
  if (s.head n).dis && !s.disHolds n (s.head n).disKind then onHead n (fun h => { h with dis := false, disKind := 0 }) s else s

/-- A disagreement has lasted DIS_T (R277). -/
def headDisagrees (n : Nat) (s : State) : State :=
  let k := s.disagreement n
  if k = 0 ∨ ((s.head n).dis ∧ (s.head n).disKind = k) ∨ !s.live then s
  else raiseN (0x085 + 8 * n) k (onHead n (fun h => { h with dis := true, disKind := k }) s)

/-- A resync frame ends with measured geometry (R276). -/
def resyncEnds (n w h : Nat) (s : State) : State :=
  let g := s.reg (INT_HGEOM n)
  let s := onHead n (fun x => { x with rx := none }) s
  if bits g 31 16 = 0 ∧ bits g 15 0 = 0 ∧ 0 < h ∨ bits g 31 16 = w ∧ bits g 15 0 = h then
    disFollow n (raiseN (0x083 + 8 * n) (at_ w 16 + h)
      (onHead n (fun x => { x with obs := .streaming, geomW := w, geomH := h, mismatch := none }) s))
  else
    let again := (s.head n).mismatch == some (w, h)
    raiseIf (!again) (0x084 + 8 * n) (at_ w 16 + h) (onHead n (fun x => { x with mismatch := some (w, h) }) s)

/-! ### I2C (R285, R286) -/

/-- The number of a reader: the port 8, a thread its own number. -/
def masterOf : Origin → Nat
  | .host => 8
  | .vat t => t.val

/-- The oldest finished result of a reader. -/
def State.i2cResult (s : State) (m : Nat) : Option I2cEntry := s.int.i2c.find? fun e => e.master == m && e.done

/-- The word of INT_I2CRES for a reader. -/
def State.i2cResWord (s : State) (m : Nat) : Word :=
  match s.i2cResult m with
  | some e => word (at_ 1 31 + at_ (bits e.cmd 25 23) 28 + at_ e.status 24)
  | none => 0

/-- The first entry that satisfies `p` leaves the queue. -/
def dropFirst (p : I2cEntry → Bool) : List I2cEntry → List I2cEntry
  | [] => []
  | e :: t => if p e then t else e :: dropFirst p t

/-- The reader takes its oldest result and its entry is freed. -/
def i2cTake (m : Nat) (s : State) : State :=
  match s.i2cResult m with
  | none => s
  | some e => { s with int := { s.int with
      i2cRdata := s.int.i2cRdata.set m e.rdata, i2c := dropFirst (fun e => e.master == m && e.done) s.int.i2c } }

/-- The first unfinished command ends with a status and read data. -/
def i2cFinish (st : Nat) (rd : Word) : List I2cEntry → List I2cEntry
  | [] => []
  | e :: t => if e.done then e :: i2cFinish st rd t else { e with done := true, status := st, rdata := rd } :: t

/-- A command ends on the bus (R286). -/
def i2cDone (st : Nat) (rd : Word) (s : State) : State :=
  match s.int.i2c.find? (fun e => !e.done) with
  | none => s
  | some e =>
    let s := { s with int := { s.int with i2c := i2cFinish st rd s.int.i2c } }
    let s := raiseIf (st == 4) 0x0BB 0 s
    raiseIf (st != 0) 0x0BA (at_ st 24 + at_ (bits e.cmd 22 16) 16) s

/-- A reset abandons the queue: what was queued ends with STATUS 5 (R286); its events. -/
def i2cReset (s : State) : List I2cEntry :=
  (s.int.i2c.filter (fun e => !e.done)).map fun e => { e with done := true, status := 5, rdata := 0 }
def i2cResetEvents (s : State) : List (Nat × Word) :=
  (i2cReset s).map fun e => (0x0BA, word (at_ 5 24 + at_ (bits e.cmd 22 16) 16))

/-- The queue is abandoned: unfinished commands end with STATUS 5 (R286). -/
def i2cAbandon (s : State) : State :=
  (s.int.i2c.filter (fun e => !e.done)).foldl (fun s _ => i2cDone 5 0 s) s

/-! ### Generators (R288, R289) -/

/-- Generator `g` of context 6 + g. -/
def State.gen (s : State) (g : Nat) : XGen := nth {} s.int.gens g
def onGen (g : Nat) (f : XGen → XGen) (s : State) : State := { s with int := { s.int with gens := upd s.int.gens g f } }

/-- The bit depth of a data kind. -/
def kindBits (k : Nat) : Nat := if k = 0 then 14 else if k = 1 then 10 else 12

/-- Line `y` of a generated frame (R288). -/
def State.genLine (s : State) (g fn y : Nat) : List Nat :=
  let cfg := s.reg (INT_XCFG g)
  let w := s.fld (INT_XGEOM g) 31 16
  let b := kindBits (bits cfg 27 26)
  (List.range w).map fun x =>
    if bits cfg 29 28 = 1 then
      let k := y * w + x
      let v := memGet zeroes (s.gen g).buf (k / 2)
      (if k % 2 = 0 then bits v 31 16 else bits v 15 0)
    else match bits cfg 25 24 with
      | 0 => (x + y + fn) % 2 ^ b
      | 1 => if (x / 16 + y / 16) % 2 = 0 then 0 else 2 ^ b - 1
      | _ => bits cfg 13 0 % 2 ^ b

/-- A bulk write to INT_XLOAD (R289): its code and effect. -/
def State.xloadCode (s : State) (n : Nat) : Code :=
  let g := s.fld INT_XLADDR 31 31
  if (s.gen g).rx.isSome then .eState
  else if ceilDiv (s.fld (INT_XGEOM g) 31 16 * s.fld (INT_XGEOM g) 15 0) 2 < s.fld INT_XLADDR 22 0 + n then .eLen else .ok

def xload (ws : List Word) (s : State) : State :=
  let g := s.fld INT_XLADDR 31 31
  let a := s.fld INT_XLADDR 22 0
  (onGen g (fun x => { x with buf := memPutList zeroes x.buf a 1 ws }) s).setFld INT_XLADDR 22 0 (a + ws.length)

/-! ### Registers -/

def HeadObs.num : HeadObs → Nat
  | .absent => 0 | .idle => 1 | .resync => 2 | .streaming => 3

/-- The live words of a head's block. -/
def headView (n o : Nat) (s : State) : Option Word :=
  let h := s.head n
  match o with
  | 0x08 => some (word (at_ h.obs.num 29 + at_ (b2n h.dis) 28 + at_ h.disKind 24 + at_ (b2n h.linked) 23 + at_ (b2n h.rx.isSome) 22 +
      at_ (b2n h.tsOk) 21 + at_ (b2n h.rateOk) 20 + at_ (b2n h.tfOk) 19 + h.fnMax))
  | 0x14 => some (word h.stampNs)
  | 0x18 => some (word (at_ h.ts 16 + toBits 16 h.rate))
  | 0x1C => some (word (at_ h.tf 16))
  | 0x28 => some (putBits (s.reg (INT_HBIAS n)) 30 30 (b2n h.biasPend))
  | 0x2C => some (putBits (s.reg (INT_HIREF n)) 30 30 (b2n h.irefPend))
  | _ => none

/-- The live words of page 0x09 from offset 0x0200, for a reader. -/
def intakeView (m a : Nat) (s : State) : Option Word :=
  if INT_HCFG 0 ≤ a ∧ a < INT_HCFG 6 then headView ((a - INT_HCFG 0) / 0x40) ((a - INT_HCFG 0) % 0x40) s
  else [
    (INT_LINKSTAT, word (at_ (b2n s.int.linkUp) 31 + at_ (b2n s.int.deskewOk) 30)),
    (INT_I2CRES, s.i2cResWord m), (INT_I2CRDATA, nth 0 s.int.i2cRdata m),
    (INT_I2CSTAT, word (at_ (b2n (s.int.i2c.any fun e => !e.done)) 31 + s.int.i2c.length))].lookup a

/-- W and H are legal for a data kind (R272). -/
def geomOk (k w h : Nat) (auto : Bool) : Bool :=
  (auto && w == 0 && h == 0) ||
  (decide (2 ≤ w) && decide (2 ≤ h) && w % 2 == 0 &&
    (if k = 0 then decide (w ≤ 1280) && decide (h ≤ 1024) else decide (w ≤ 3840) && decide (h ≤ 2160)))

/-- LANEMAP maps the used lanes to distinct logical lanes 0 to LANES − 1 (R278). -/
def laneMapOk (v : Word) : Bool :=
  let n := 2 ^ bits v 29 28
  let l := (List.range n).map fun p => bits v (2 * p + 17) (2 * p + 16)
  (List.range n).all fun k => l.contains k

/-- INT_MAP is legal (R273). -/
def mapOk (v : Word) : Bool :=
  let f (c : Nat) : Nat := bits v (4 * c + 3) (4 * c)
  (List.range 8).all (fun c => decide (f c < 6) || (f c == 6 && decide (6 ≤ c)) || f c == 15) &&
  (List.range 8).all (fun c => 6 ≤ f c || (List.range 8).all fun d => d == c || f d != f c)

/-- The mapped context of head `n` is ON or STOPPING. -/
def State.mappedActive (s : State) (n : Nat) : Bool :=
  match s.ctxOfHead n with
  | some c => s.ctxEnabled c
  | none => false

/-- What a write to a generator register of Table 12.3 asks beyond its fields; `off` is its place in the block of generator `g`. -/
def genWrite (g off : Nat) (v : Word) (s : State) : Option WriteRule :=
  let c := 6 + g
  let on := (s.ctx c).st == .on
  match off with
  | 0x0 => some { pre := chk on .eState, app := onGen g (fun x => { x with rx := x.rx.filter (·.accepted) }) }
  | 0x4 => some { pre := chk (s.ctxEnabled c) .eState, bad := !geomOk (s.fld (INT_XCFG g) 27 26) (bits v 31 16) (bits v 15 0) false }
  | 0x8 => some { pre := chk on .eState,
                  bad := decide (bits v 15 0 * 1000 < s.fld (INT_XGEOM g) 15 0 * bits v 31 16) }
  | _ => none

/-- What a write to a head register of Table 12.3 asks beyond its fields; `off` is its place in the block of head `n`. -/
def headWrite (cut : Nat → State → State) (n off : Nat) (v : Word) (s : State) : Option WriteRule :=
  match off with
  | 0x00 =>
    let ch (hi lo : Nat) : Bool := bits v hi lo != s.fld (INT_HCFG n) hi lo
    some { pre := chk (s.mappedActive n && (ch 27 24 || ch 23 22 || ch 21 21)) .eState,
           bad := (bit v 31 && (List.range 6).any fun m => m != n && s.headEn m && s.fld (INT_HCFG m) 27 24 == bits v 27 24) ||
                  (!s.flag INT_LINK 27 && decide (3 < bits v 27 24)) || !kindAllowed n (bits v 23 22) ||
                  !(decide (8 ≤ bits v 6 0) && decide (bits v 6 0 ≤ 0x77)),
           app := fun t =>
             let t := { t with int := { t.int with vcSeen := t.int.vcSeen.filter (· != bits v 27 24) } }
             if s.headEn n && !bit v 31 then
               disFollow n (onHead n (fun h => { h with obs := .idle, rx := none }) (cut n t))
             else disFollow n (onHead n (fun h => { h with stray := none }) t) }
  | 0x04 => some { pre := chk (s.mappedActive n) .eState, bad := !geomOk (s.headKind n) (bits v 31 16) (bits v 15 0) true }
  | 0x28 => some { bad := decide (s.fld (INT_HBLIM n) 15 0 < bits v 15 0),
                   app := fun t => biasWritten n (onHead n (fun h => { h with biasPend := true }) t) }
  | 0x2C => some { bad := !(decide (1000 ≤ bits v 15 0) && decide (bits v 15 0 ≤ 40000)) && !(bits v 15 0 == 0 && !bit v 31),
                   app := fun t => biasWritten n (onHead n (fun h => { h with irefPend := true }) t) }
  | 0x30 => some { bad := s.flag (INT_HBIAS n) 31 && decide (bits v 15 0 < s.fld (INT_HBIAS n) 15 0) }
  | _ => none

/-- The writes of the INT_ registers from offset 0x0200. `cut n` breaks a frame in progress when head `n` is disabled. -/
def intakeWrite (o : Origin) (cut : Nat → State → State) (a : Nat) (v : Word) (s : State) : Option WriteRule :=
  if a = INT_LINK then
    some { pre := chk ((List.range 6).any s.headEn) .eState, bad := !laneMapOk v, app := linkDown }
  else if a = INT_MAP then
    some { pre := chk ((List.range 8).any fun c => (s.ctx c).st != .off && bits v (4 * c + 3) (4 * c) != s.source c) .eState,
           bad := !mapOk v }
  else if a = INT_I2CCMD then
    some { bad := bit v 31 && bits v 28 26 == 0, post := chk (decide (8 ≤ s.int.i2c.length)) .eFull, store := false,
           app := fun t => { t with int := { t.int with i2c := t.int.i2c ++ [⟨masterOf o, v, t.reg INT_I2CWDATA, false, 0, 0⟩] } } }
  else if INT_XCFG 0 ≤ a ∧ a < INT_XCFG 2 then
    genWrite ((a - INT_XCFG 0) / 0x10) ((a - INT_XCFG 0) % 0x10) v s
  else if INT_HCFG 0 ≤ a ∧ a < INT_HCFG 6 then
    headWrite cut ((a - INT_HCFG 0) / 0x40) ((a - INT_HCFG 0) % 0x40) v s
  else none

end Sys2Proof.Machine
end

