-- ==== Sys2Proof/Machine/BlkDnr.lean ====
section
/-! DEFINITION. Raw denoise (chapter 14): the pixel stages as functions of a whole frame, the temporal state, and the DNR_
registers. -/

namespace Sys2Proof.Machine

/-! ### NUC entries (Table 9.7) -/

/-- The fields of a NUC entry. -/
structure NucEntry where
  off : Int
  gain : Nat
  d1 : Int
  d2 : Int
  flags : Nat
  deriving DecidableEq, Repr

/-- The entry held in two words. -/
def nucEntryOf (hi lo : Word) : NucEntry := ⟨sbits hi 31 16, bits hi 15 0, sbits lo 31 20, sbits lo 19 8, bits lo 7 0⟩

/-- The neutral entry. -/
def neutralNuc : NucEntry := ⟨0, 0x4000, 0, 0, 0⟩

/-- The entry of pixel `k` (raster order) of a bank; neutral when there is none or the geometry differs (R194, R293). -/
def entryAt (b : Option Bank) (w h k : Nat) : NucEntry :=
  match b with
  | some b => if b.w = w ∧ b.h = h then nucEntryOf (memGet zeroes b.words (2 * k)) (memGet zeroes b.words (2 * k + 1)) else neutralNuc
  | none => neutralNuc

/-- The ACTIVE bank of a table among a frame's tables. -/
def activeIn (tabs : List (Nat × Table)) (n : Nat) : Option Bank := (aget {} tabs n).active

/-- A CW word among a frame's values. -/
def Frame.cw (f : Frame) (a : Nat) : Word := memGet resetWord f.bank a

/-- The NUC bank of a frame of context `c`. -/
def Frame.nucBank (f : Frame) (c : Nat) : Option Bank := activeIn f.tabs (bits (f.cw (NUC_CFG c)) 7 0)

/-- The pixels of a frame in raster order; a missing one reads as zero. -/
def Frame.pixels (f : Frame) : List Nat :=
  (List.range f.h).flatMap fun y => (List.range f.w).map fun x => nth 0 (nth [] f.rows y) x

/-! ### Pixel stages (R294 to R299) -/

/-- Settings of one frame. -/
structure DnrCfg where
  rep : Bool
  sen : Bool
  ten : Bool
  alpha : Nat
  tt : Nat
  ts : Nat
  minN : Nat
  deriving DecidableEq, Repr

/-- The settings that a frame started with. -/
def Frame.dnrCfg (f : Frame) (c : Nat) : DnrCfg :=
  let k := f.cw (DNR_CTL c)
  let t := f.cw (DNR_TEMP c)
  let p := f.cw (DNR_SPAT c)
  ⟨bit k 2, bit k 1, bit k 0, bits t 20 16, bits t 11 0, bits p 11 0, bits p 19 16⟩

/-- A threshold in corrected counts scaled to raw counts by the pixel's gain (R294). -/
def dnrThreshold (t gain : Nat) : Nat := sat 0xFFFF (roundHalfAway (t * 65536) (max gain 0x1000)).toNat

/-- The dead or flicker flag. -/
def NucEntry.flagged (e : NucEntry) : Bool := decide (64 ≤ e.flags % 256)

/-- Insertion into a rising list. -/
def insertInt (a : Int) : List Int → List Int
  | [] => [a]
  | b :: t => if a ≤ b then a :: b :: t else b :: insertInt a t

/-- A list in rising order. -/
def sortInts (l : List Int) : List Int := l.foldl (fun s a => insertInt a s) []

/-- The ⌈n/2⌉-th smallest member. -/
def medianOf (l : List Int) : Int := nth 0 (sortInts l) ((l.length + 1) / 2 - 1)

/-- The levelled values of the usable neighbours of pixel (x, y) (R295). -/
def usableNeighbours (cfg : DnrCfg) (w h : Nat) (px : List Nat) (ent : Nat → NucEntry) (x y : Nat) : List Int :=
  ([(0, 0), (1, 0), (2, 0), (0, 1), (2, 1), (0, 2), (1, 2), (2, 2)] : List (Nat × Nat)).filterMap fun d =>
    let xx := x + d.1
    let yy := y + d.2
    if 1 ≤ xx ∧ xx ≤ w ∧ 1 ≤ yy ∧ yy ≤ h then
      let k := (yy - 1) * w + (xx - 1)
      let v := nth 0 px k
      if v = 0 ∨ v = 16383 ∨ (cfg.rep ∧ (ent k).flagged) then none else some (4 * v - (ent k).off)
    else none

/-- Counts of one frame. -/
structure DnrCounts where
  motion : Nat := 0
  imp : Nat := 0
  norep : Nat := 0
  rep : Nat := 0
  deriving DecidableEq, Repr

/-- The temporal zone of Table 14.1: new state and whether it is motion. R297 keeps every such output within 0x0004 to 0xFFF8, also
where the stored state is the code of a range pass. DEDUCED (notes/assumptions/81.md). -/
def temporal (alpha tT : Nat) (xs st : Int) : Int × Bool :=
  let d := xs - st
  let lim (y : Int) : Int := clampI 4 0xFFF8 y
  if d.natAbs ≤ tT then (lim (st + roundHalfAway (d * alpha) 16), false)
  else if d.natAbs ≤ 2 * tT then (lim (st + roundHalfAway (d * ((alpha + 1) / 2 : Nat)) 16), false)
  else (lim xs, true)

/-- The stage on pixel `k`: the outputs so far (newest first) and the counts grow by one pixel. -/
def dnrPixel (cfg : DnrCfg) (w h : Nat) (px : List Nat) (ent : Nat → NucEntry) (st : Option (List Nat))
    (acc : List Nat × DnrCounts) (k : Nat) : List Nat × DnrCounts :=
  let x := nth 0 px k
  let e := ent k
  let ns := usableNeighbours cfg w h px ent (k % w) (k / w)
  let fill := (clampI 4 0xFFF8 (medianOf ns + e.off)).toNat
  let n := acc.2
  if cfg.rep && e.flagged then
    if ns.isEmpty then ((match acc.1 with | p :: _ => p | [] => 0x8000) :: acc.1, { n with norep := n.norep + 1, rep := n.rep + 1 })
    else (fill :: acc.1, { n with rep := n.rep + 1 })
  else if x = 0 ∨ x = 16383 then (4 * x :: acc.1, n)
  else
    let y : Int := 4 * x - e.off
    let tS : Int := dnrThreshold cfg.ts e.gain
    let hi := ns.foldl max (nth 0 ns 0)
    let lo := ns.foldl min (nth 0 ns 0)
    let impulse := cfg.sen && decide (cfg.minN ≤ ns.length) && (decide (hi + tS < y) || decide (y < lo - tS))
    let xs : Nat := if impulse then fill else 4 * x
    let n := if impulse then { n with imp := n.imp + 1 } else n
    match st with
    | some l =>
      if cfg.ten then
        let r := temporal cfg.alpha (dnrThreshold cfg.tt e.gain) xs (nth 0 l k : Nat)
        (r.1.toNat :: acc.1, if r.2 then { n with motion := n.motion + 1 } else n)
      else (xs :: acc.1, n)
    | none => (xs :: acc.1, n)

/-- A treated frame: its output in Q14.2 (also the new state) and its counts. -/
def dnrFrame (cfg : DnrCfg) (w h : Nat) (px : List Nat) (ent : Nat → NucEntry) (st : Option (List Nat)) : List Nat × DnrCounts :=
  let r := (List.range (w * h)).foldl (dnrPixel cfg w h px ent st) ([], {})
  (r.1.reverse, r.2)

/-! ### Temporal state (R300 to R302) -/

/-- Denoise of context `c`. -/
def State.dnrOf (s : State) (c : Nat) : Dnr := nth {} s.dnr c
def onDnr (c : Nat) (f : Dnr → Dnr) (s : State) : State := { s with dnr := upd s.dnr c f }

/-- How far frame number `b` lies after `a`, modulo 2^32. -/
def fnAhead (a b : Nat) : Nat := (b + 2 ^ 32 - a % 2 ^ 32) % 2 ^ 32

/-- Why a state does not serve frame `fn` of a geometry (R301): 3 none, 2 geometry, 1 gap; none when it serves. -/
def stateReason (st : Option (Nat × Nat × Nat)) (pressFns : List Nat) (gapMax fn w h : Nat) : Option Nat :=
  match st with
  | none => some 3
  | some (g, sw, sh) =>
    if sw ≠ w ∨ sh ≠ h then some 2
    else
      let p := (pressFns.filter fun k => decide (0 < fnAhead g k) && decide (fnAhead g k < fnAhead g fn)).length
      if gapMax < fnAhead g fn - 1 - p then some 1 else none

/-- At the START of an accepted treated frame outside a press: the state it will read is that of the last frame in the pipeline
that writes one, or the one at hand; without one, event 0x0C1. -/
def dnrStart (c : Nat) (f : Frame) (inFlight : List Frame) (s : State) : State :=
  let d := s.dnrOf c
  let st := match inFlight.reverse.find? fun g => g.kind == 0 && !g.press with
    | some g => some (g.fn, g.w, g.h)
    | none => d.st.map fun x => (x.fn, x.w, x.h)
  match stateReason st d.pressFns (bits (f.cw (DNR_TEMP c)) 31 24) f.fn f.w f.h with
  | none => s
  | some r => raiseN 0x0C1 (at_ c 28 + at_ r 24 + f.fn % 2 ^ 24) (s.count (DNR_CNT c) 31 16)

/-- A START of a context during a press of its head, and the first one after it (R301, R302). -/
def dnrPressStart (c fn : Nat) (press : Bool) (s : State) : State :=
  onDnr c (fun d => if press then { d with frozen := true, pressFns := fn :: d.pressFns } else { d with frozen := false }) s

/-- A treated frame reaches DONE: the output, the state, the counts and the events of R304. -/
def dnrDone (c : Nat) (f : Frame) (s : State) : List Nat × DnrCounts × State :=
  if f.kind ≠ 0 then (f.pixels, {}, onDnr c (fun d => { d with bypass := true }) s)
  else
    let s := onDnr c (fun d => { d with bypass := false }) s
    if f.press then (f.pixels.map (4 * ·), {}, s)
    else
      let d := s.dnrOf c
      let valid := (stateReason (d.st.map fun x => (x.fn, x.w, x.h)) d.pressFns (bits (f.cw (DNR_TEMP c)) 31 24) f.fn f.w f.h).isNone
      let r := dnrFrame (f.dnrCfg c) f.w f.h f.pixels (entryAt (f.nucBank c) f.w f.h) (if valid then d.st.map (·.vals) else none)
      let n := r.2
      let s := onDnr c (fun d => { d with st := some { fn := f.fn, w := f.w, h := f.h, vals := r.1, ts := f.ts, tsOk := f.tsOk, rate := f.rate, rateOk := f.rateOk }, pressFns := d.pressFns.filter (fun k => decide (0 < fnAhead f.fn k ∧ fnAhead f.fn k < 2 ^ 31)) }) s
      let s := s.setReg (DNR_LAST c) (word (at_ (sat 65535 n.motion) 16 + sat 65535 n.imp))
      let s := s.setReg (DNR_LAST2 c) (word (at_ (sat 65535 n.norep) 16 + sat 65535 n.rep))
      let s := s.count (DNR_CNT c) 15 0
      let e := f.cw (DNR_EVT c)
      let data := at_ c 28 + f.fn % 2 ^ 24
      let s := raiseIf (bits e 31 16 != 0 && decide (bits e 31 16 ≤ n.imp)) 0x0C0 data s
      let s := raiseIf (n.norep != 0) 0x0C2 data s
      (r.1, n, raiseIf (bits e 9 0 != 0 && decide (bits e 9 0 * f.w * f.h < n.motion * 1000)) 0x0C3 data s)

/-- The state of a context is given up: OFF to ON, DRAM_LOST, wake from Rind (R301). -/
def dnrForget (c : Nat) (s : State) : State := onDnr c (fun d => { d with st := none, pressFns := [] }) s

/-- The live words of page 0x0A. -/
def dnrView (a : Nat) (s : State) : Option Word :=
  if DNR_CTL 0 ≤ a ∧ a < DNR_CTL 8 ∧ (a - DNR_CTL 0) % 0x20 = 0x10 then
    let c := (a - DNR_CTL 0) / 0x20
    let d := s.dnrOf c
    some (match d.st with
      | some x => word (at_ (b2n d.bypass) 31 + at_ (b2n (x.w == (s.ctx c).w && x.h == (s.ctx c).h)) 30 + at_ (b2n d.frozen) 29 + x.fn % 2 ^ 24)
      | none => word (at_ (b2n d.bypass) 31 + at_ (b2n d.frozen) 29))
  else none

end Sys2Proof.Machine
end

