-- ==== Sys2Proof/Machine/BlkNuc.lean ====
section
/-! DEFINITION. Non-uniformity correction, radiometry, the press and the sun guard (chapter 15), and the NUC_ and PRS_
registers. -/

namespace Sys2Proof.Machine

/-- Correction of context `c`, and the press of head `n`. -/
def State.nucOf (s : State) (c : Nat) : Nuc := nth {} s.nuc.ctxs c
def onNuc (c : Nat) (f : Nuc → Nuc) (s : State) : State := { s with nuc := { s.nuc with ctxs := upd s.nuc.ctxs c f } }
def State.pressOf (s : State) (n : Nat) : Press := nth {} s.nuc.press n
def onPress (n : Nat) (f : Press → Press) (s : State) : State := { s with nuc := { s.nuc with press := upd s.nuc.press n f } }

/-- A press of head `n` is in progress (R318). -/
def State.pressNow (s : State) (n : Nat) : Bool := decide (n < 4) && (s.pressOf n).active

/-- The shutter profile of the press of head `n` runs or has run, and blind frame 0 is still to come (R182): its frames are not
skipped either. DEDUCED (notes/assumptions/35.md). -/
def State.shutterRuns (s : State) (n : Nat) : Bool :=
  let p := s.pressOf n
  let c := s.chan (s.fld (PRS_CFG n) 29 28)
  ((p.st == .due && p.fired) || p.waitBlind) && c.pend.isNone && !(c.st == .run && !c.started)

/-! ### Correction (R308) -/

/-- The correction's reference temperature T0 in cK. -/
def nucT0 : Int := 29315

/-- The drift of an entry at a temperature and rate, in Q14.2. -/
def drift (d1 d2 ts rate : Int) : Int := roundHalfAway (d1 * (ts - nucT0) + 4 * d2 * rate) 1600

/-- The corrected value of one pixel. -/
def correct (e : NucEntry) (ts rate : Int) (x4 : Nat) : Nat :=
  if x4 = 0 ∨ x4 = 0xFFFC then x4
  else (clampI 4 0xFFF8 (32768 + roundHalfAway (e.gain * (x4 - 32768 - e.off - drift e.d1 e.d2 ts rate)) 16384)).toNat

/-! ### Radiometry (R309) -/

/-- Entry `i` of plane `k` of a radiometric bank. -/
def planeAt (b : Bank) (k i : Nat) : Nat :=
  let w := memGet zeroes b.words (9 + 8192 * k + i / 2)
  if i % 2 = 0 then bits w 31 16 else bits w 15 0

/-- The number of planes, and the temperature of plane `k`. -/
def planeN (b : Bank) : Nat := bits (memGet zeroes b.words 0) 3 0
def planeTs (b : Bank) (k : Nat) : Nat := bits (memGet zeroes b.words (1 + k)) 15 0

/-- The value of plane `k` at y4, interpolated between integer counts. -/
def planeValue (b : Bank) (k y4 : Nat) : Int :=
  let i := y4 / 4
  let p : Int := planeAt b k i
  if 16383 ≤ i then p else p + roundHalfAway (((planeAt b k (i + 1) : Int) - p) * (y4 % 4 : Nat)) 4

/-- v of R309 at y4 and substrate temperature `ts`; the neutral table gives 0. -/
def radValue (b : Option Bank) (ts y4 : Nat) : Int :=
  match b with
  | none => 0
  | some b =>
    let n := planeN b
    if n ≤ 1 ∨ ts ≤ planeTs b 0 then planeValue b 0 y4
    else if planeTs b (n - 1) ≤ ts then planeValue b (n - 1) y4
    else
      let k := ((List.range n).filter fun k => decide (planeTs b k ≤ ts)).length - 1
      let v := planeValue b k y4
      if planeTs b k = ts then v
      else
        let w := roundHalfAway (((ts : Int) - planeTs b k) * 256) (planeTs b (k + 1) - planeTs b k)
        v + roundHalfAway ((planeValue b (k + 1) y4 - v) * w) 256

/-- The frame's temperature lies outside the plane range. -/
def radClamped (b : Option Bank) (ts : Nat) : Bool :=
  match b with
  | none => false
  | some b => decide (1 < planeN b) && (decide (ts ≤ planeTs b 0) || decide (planeTs b (planeN b - 1) ≤ ts))

/-- Y16 of one pixel. -/
def y16Of (b : Option Bank) (flagB : Int) (ts y4 : Nat) : Nat :=
  if b.isNone then 0
  else if y4 = 0xFFFC then 0xFFFF
  else if y4 = 0 then 0
  else (clampI 1 0xFFFE (radValue b ts y4 + flagB)).toNat

/-- The radiometric bank of a frame of context `c`. -/
def Frame.radBank (f : Frame) (c : Nat) : Option Bank := activeIn f.tabs (bits (f.cw (NUC_CFG c)) 15 8)

/-- What the stage makes of a frame. -/
structure NucOut where
  y4 : List Nat
  y16 : List Nat
  bypass : Bool := false
  synth : Bool := false
  sun : Bool := false
  tsOld : Bool := false
  radClamp : Bool := false
  sat : Nat := 0
  deriving DecidableEq, Repr

/-- Correction and radiometry of values `xs` with telemetry (R308, R309). -/
def nucConvert (c : Nat) (f : Frame) (xs : List Nat) (ts : Nat) (rate : Int) : List Nat × List Nat :=
  let cfg := f.cw (NUC_CFG c)
  let y4 := if bit cfg 31 then xs.mapIdx fun k x => correct (entryAt (f.nucBank c) f.w f.h k) ts rate x else xs
  (y4, if bit cfg 30 then y4.map (y16Of (f.radBank c) f.nucB ts) else y4.map fun _ => 0)

/-- The stage on a frame at DONE, from denoise's output `x4` and the state held before the frame: a blind frame is built
from that state (R324), another from its own pixels. DEDUCED (notes/assumptions/56.md). -/
def nucFrame (c : Nat) (f : Frame) (st : Option DnrState) (x4 : List Nat) : NucOut :=
  let sat := (x4.filter (· == 0xFFFC)).length
  if f.kind ≠ 0 then { y4 := x4, y16 := x4.map fun _ => 0, bypass := true }
  else
    let rad := bit (f.cw (NUC_CFG c)) 30
    let mk (r : List Nat × List Nat) (ts : Nat) (tsOk : Bool) : NucOut :=
      { y4 := r.1, y16 := r.2, synth := f.press, sun := f.sun, tsOld := !tsOk, radClamp := rad && radClamped (f.radBank c) ts, sat }
    if !f.press then mk (nucConvert c f x4 f.ts (if f.rateOk then f.rate else 0)) f.ts f.tsOk
    else
      match st with
      | some d =>
        if d.w = f.w ∧ d.h = f.h then mk (nucConvert c f d.vals d.ts (if d.rateOk then d.rate else 0)) d.ts d.tsOk
        else
          let y4 := List.replicate (f.w * f.h) 0x8000
          mk (y4, y4.map fun y => if rad then y16Of (f.radBank c) f.nucB f.ts y else 0) f.ts f.tsOk
      | none =>
        let y4 := List.replicate (f.w * f.h) 0x8000
        mk (y4, y4.map fun y => if rad then y16Of (f.radBank c) f.nucB f.ts y else 0) f.ts f.tsOk

/-! ### Saturation and hot blocks (R311, R312) -/

/-- The saturated pixels of a frame, by raster number. -/
def satPixels (x4 : List Nat) : List Nat := (List.range x4.length).filter fun k => nth 0 x4 k == 0xFFFC

/-- The saturated pixels join the bitmap of the frame's epoch; four epochs are kept. -/
def addEpoch (fn : Nat) (ks : List Nat) (l : List (Nat × List Nat)) : List (Nat × List Nat) :=
  let e := fn / 100
  let old := aget [] l e
  let l := l.filter fun p => decide (p.1 ≤ e) && decide (e < p.1 + 4)
  if ks.isEmpty then l else aput l e (old.filter (fun k => !ks.contains k) ++ ks)

/-- Pixel `k` is sun-excluded at a press whose first capture frame is `fn`. -/
def sunExcluded (l : List (Nat × List Nat)) (fn k : Nat) : Bool :=
  l.any fun p => decide (fn / 100 < p.1 + 4) && decide (p.1 ≤ fn / 100) && p.2.contains k

/-- Hot blocks of a frame: 16 × 16 blocks with at least 64 saturated pixels. -/
def hotBlocks (w h : Nat) (ks : List Nat) : Nat :=
  ((List.range (ceilDiv w 16 * ceilDiv h 16)).filter fun b =>
    decide (64 ≤ (ks.filter fun k => k % w / 16 + k / w / 16 * ceilDiv w 16 == b).length)).length

/-! ### Press criteria (R314, R315) -/

/-- The NUC table of the context that head `n` feeds. -/
def State.nucTable (s : State) (n : Nat) : Option Nat := (s.ctxOfHead n).map fun c => s.cwf (NUC_CFG c) 7 0

/-- The bank that a press would write (R315). -/
def Table.pressBank (t : Table) : Nat :=
  if t.b0.st = .active then 1 else if t.b1.st = .active then 0
  else if t.b0.st = .staging ∨ (t.held ∧ t.inactiveIx = 0) then 1 else 0

/-- A blocker of R315 holds for head `n`. -/
def State.pressBlocked (s : State) (n : Nat) : Bool :=
  let ch := s.chan (s.fld (PRS_CFG n) 29 28)
  let tableBlocks := match s.nucTable n with
    | none => false
    | some k =>
      let t := s.table k
      let b := (t.bank t.pressBank).st
      (s.tbl.isOpen && s.tbl.ltbl == k) || (t.held && t.pressBank == t.inactiveIx) || b == .retiring || b == .staging
  tableBlocks || s.isStale (4 + n) || s.injected n || s.injected (4 + n) || s.injected (8 + s.fld (PRS_CFG n) 29 28) ||
    s.dramLost || ch.oc || ch.isOpen || ch.stall || ch.decayTo

/-- ρ in 1/16 count (Table 15.2). -/
def rhoOf (k1 ts ref : Nat) : Nat := (roundHalfAway ((k1 : Int) * ((ts : Int) - ref).natAbs) 1600).toNat

/-- The first met criterion of Table 15.2 at substrate temperature `ts`. Before the reference point only CMD can be met. -/
def State.pressReason (s : State) (n ts : Nat) : Option Nat :=
  let p := s.pressOf n
  let crit := s.reg (PRS_CRIT n)
  let sec := 1000 * msTicks
  let minOk := decide (p.minAt + bits crit 23 16 * sec ≤ s.upTicks)
  let empty := match s.nucTable n with | some k => (s.table k).active.isNone | none => true
  if p.cmd then some 4
  else if p.refPend then none
  else if empty && minOk then some 5
  else if p.maxAt + bits crit 15 8 * 60 * sec ≤ s.upTicks then some 3
  else if minOk && decide (10 * bits crit 31 24 < ((ts : Int) - p.tsRef).natAbs) then some 2
  else if minOk && decide (bits crit 7 0 < rhoOf p.k1 ts p.tsRef) then some 1
  else none

/-- The context of head `n` is ON, the head STREAMING, and criteria and correction enabled (R314). -/
def State.pressArmed (s : State) (n c : Nat) : Bool :=
  s.flag (PRS_CFG n) 31 && (s.ctx c).st == .on && (s.head n).obs == .streaming && s.cwf (NUC_CFG c) 31 31 == 1

/-! ### Blind time (R317, R318, R323) -/

/-- Blind frame 0 is chosen: the latest accepted frame whose first run has not started, else the next accepted one. `go`
marks GO_LATE. -/
def chooseBlind (n c : Nat) (go isSun : Bool) (s : State) : State :=
  match (s.ctx c).frames.reverse.find? fun f => !f.begun with
  | some f =>
    let s := onPress n (fun p => { p with active := true, waitBlind := false, blind := 1 }) s
    dnrPressStart c f.fn true (onFrame c f.fn (fun g => { g with press := true, sun := isSun }) s)
  | none =>
    let s := onPress n (fun p => { p with waitBlind := true, blind := 0, goLate := go }) s
    if go then s.count (PRS_CNT n) 7 0 else s

/-- The bank that a press was writing becomes EMPTY (R322, R325). -/
def dropPressBank (n : Nat) (s : State) : State :=
  match (s.pressOf n).table with
  | none => s
  | some k =>
    let e (b : Bank) : Bank := if b.st = .press then {} else b
    onPress n (fun p => { p with table := none }) (onTable k (fun t => { t with b0 := e t.b0, b1 := e t.b1 }) s)

/-- The long operation of a capture on command ends with the press (R328). -/
def cmdEnds (n res : Nat) (s : State) : State :=
  match s.cp.op with
  | some o => if o.id = 2 ∧ o.arg = n then endOp (if res = 0 then .ok else .eState) s else s
  | none => s

/-- A press ends with a result (R323, R326): its event, its counts and, when OK, the references and K1.
DEDUCED (notes/assumptions/35.md). -/
def pressEnds (n res : Nat) (s : State) : State :=
  let p := s.pressOf n
  let ok := res == 0
  let s := onPress n (fun p => { p with
    st := .idle, active := false, waitBlind := false, fired := false, waitFire := false, lastRes := res, minAt := s.upTicks, capMarks := []
    maxAt := if ok then s.upTicks else p.maxAt, okAt := if ok then some s.upTicks else p.okAt
    tsRef := if ok then p.tsP else p.tsRef, learnRef := if ok then some (p.tsP, p.rateP) else p.learnRef
    res := if ok then p.resP else p.res
    k1 := if ok && p.learnt then sat 0xFFFF (roundHalfAway (p.resP * 1600) (max p.u1.natAbs 50)).toNat else p.k1 }) s
  let s := if ok then s.count (PRS_CNT n) 31 24 else s.count (PRS_CNT n) 23 16
  let s := raiseN (0x0C6 + 4 * n) (at_ res 28 + at_ (b2n p.goLate) 27 + at_ (sat 255 p.blind) 16 + sat 65535 (s.pressOf n).res) s
  if p.reason = 4 ∧ p.cmd then cmdEnds n res (onPress n (fun p => { p with cmd := false }) s) else s

/-- A press, or a sun press, is aborted with blind time ending at once (R325). -/
def pressAbort (n res : Nat) (s : State) : State :=
  match (s.pressOf n).st with
  | .idle | .due => s
  | .sun | .probe =>
    let p := s.pressOf n
    raiseN (0x0C6 + 4 * n) (at_ res 28 + at_ (sat 255 p.blind) 16 + sat 65535 p.res)
      ((onPress n (fun p => { p with st := .idle, active := false, waitBlind := false, lastRes := res, hotFn := none }) s).count
        (PRS_CNT n) 23 16)
  | _ => pressEnds n res (dropPressBank n s)

/-- Every press is aborted: DRAM_LOST, the safe state, Rind (R325). -/
def pressAbortAll (s : State) : State := (List.range 4).foldl (fun s n => pressAbort n 9 s) s

/-- DUE is withdrawn (R316). -/
def dueWithdrawn (n : Nat) (s : State) : State :=
  if (s.pressOf n).st = .due then onPress n (fun p => { p with st := .idle, fired := false }) s else s

/-! ### GO (R317) -/

/-- GO: the code of the write, and its effect. While the head's telemetry is under injection a due press does not start (R235); while
the FIRE is still pending in DECAY, blind time waits for the profile to start (R19). DEDUCED (notes/assumptions/35.md). -/
def State.goCode (s : State) (n : Nat) : Code :=
  chk (!((s.pressOf n).st == .due && (s.pressOf n).fired) || s.injected n || s.injected (4 + n)) .eState

/-- GO of the host (R19, R316): CLOSING begins, and blind time with it unless the FIRE is pending in DECAY.
DEDUCED (notes/assumptions/35.md). -/
def pressGo (n : Nat) (s : State) : State :=
  match s.ctxOfHead n with
  | none => s
  | some c =>
    let blocked := s.pressBlocked n
    let waits := (s.chan (s.fld (PRS_CFG n) 29 28)).pend.isSome
    let k := s.cwf (NUC_CFG c) 7 0
    let s := onPress n (fun p => { p with
      st := .closing, blocked, result := b2n blocked, goLate := false, capt := 0, capStarts := 0, capMarks := [], caps := []
      acc := [], epochs := [], learnt := false, opened := false, waitFire := waits, table := if blocked then none else some k }) s
    let s := if blocked then s else onTable k (fun t => t.setBank t.pressBank { st := .press }) s
    if waits then s else chooseBlind n c true false s

/-! ### Learning (R320 to R322) -/

/-- What the capture says of the whole array. -/
structure Learn where
  ncal : Nat
  tsP : Int
  rateP : Int
  learns : Bool
  u1 : Int
  u2 : Int
  den : Nat
  mu : Nat
  flkth : Nat
  deriving DecidableEq, Repr

/-- One pixel at the end of capture: its new entry, whether it is newly marked, whether it learned, and its residual when
it is learning-eligible. -/
def learnPixel (l : Learn) (excluded : Bool) (e : NucEntry) (a : PixAcc) : NucEntry × Bool × Bool × Option Int :=
  let xb := roundHalfAway a.sum l.ncal
  let r := xb - 32768 - drift e.d1 e.d2 l.tsP l.rateP - e.off
  let dead := a.allS
  let flick := decide (2 ≤ l.ncal) && decide (l.flkth * 16384 < (a.mx - a.mn) * e.gain)
  let wasDead := e.flags / 128 % 2 == 1
  let wasFlick := e.flags / 64 % 2 == 1
  let newMark := (dead && !wasDead) || (flick && !wasFlick)
  let cnt := e.flags / 8 % 8
  let cnt := if excluded then sat 7 (cnt + 1) else cnt - 1
  let flags := b2n (dead || wasDead) * 128 + b2n (flick || wasFlick) * 64 + cnt * 8 + e.flags / 4 % 2 * 4 +
    (if newMark then 2 else e.flags / 2 % 2 * 2) + e.flags % 2
  let bad := dead || wasDead || flick || wasFlick
  let eligible := !bad && e.flags / 4 % 2 == 0 && !excluded && !a.anyS
  let learned := l.learns && eligible
  let d1 := if learned then clampI (-2048) 2047 (e.d1 + clampI (-256) 256 (roundHalfAway (l.mu * 100 * r * l.u1) l.den)) else e.d1
  let d2 := if learned then clampI (-2048) 2047 (e.d2 + clampI (-256) 256 (roundHalfAway (l.mu * 2500 * r * l.u2) l.den)) else e.d2
  let off := clampI (-32768) 32767 (xb - 32768 - drift d1 d2 l.tsP l.rateP)
  (if bad then { e with flags } else { e with off, d1, d2, flags }, newMark, learned, if eligible then some r else none)

/-- The two words of an entry. -/
def NucEntry.wordsOf (e : NucEntry) : List Word :=
  [word (at_ (toBits 16 e.off) 16 + e.gain), word (at_ (toBits 12 e.d1) 20 + at_ (toBits 12 e.d2) 8 + e.flags)]

/-- The rms residual in 1/16 count, rounded (R326): 4 · √(mean r²) with r in Q14.2. -/
def rmsOf (rs : List Int) : Nat :=
  if rs.isEmpty then 0 else (isqrt (64 * (rs.map fun r => r.natAbs ^ 2).foldl (· + ·) 0 / rs.length) + 1) / 2

/-- The flag reference after a capture that is not rejected (R310). DEDUCED (notes/assumptions/36.md). -/
def flagReference (c : Nat) (tsP tfP : Nat) (tfOk : Bool) (s : State) : State :=
  if s.cwf (NUC_CFG c) 29 29 = 1 ∧ tfOk then
    let b : Int := (tfP : Int) - radValue (s.table (s.cwf (NUC_CFG c) 15 8)).active tsP 32768
    if b.natAbs ≤ 1000 then onNuc c (fun x => { x with bNext := some b }) s
    else raiseN 0x0D4 (at_ c 28 + toBits 16 (clampI (-32768) 32767 b)) s
  else s

/-- Capture ends: the result is judged at the DONE point of the last capture frame `f` (R320 to R322).
DESIGN CHOICE (notes/assumptions/7.md), DEDUCED (notes/assumptions/36.md). -/
def pressJudge (n c : Nat) (f : Frame) (s : State) : State :=
  let p := s.pressOf n
  let caps := p.caps.reverse
  let lr := s.reg (PRS_LEARN n)
  let bd := s.reg (PRS_BAD n)
  let mean (l : List Int) : Int := roundHalfAway (l.foldl (· + ·) 0) (max 1 l.length)
  let rok := caps.all (·.rateOk)
  let tsP := mean (caps.map (·.ts))
  let rateP := if rok then mean (caps.map (·.rate)) else 0
  let tfP := (mean (caps.map (·.tf))).toNat
  let u1 := match p.learnRef with | some q => tsP - q.1 | none => 0
  let u2 := match p.learnRef with | some q => rateP - q.2 | none => 0
  let den := u1.natAbs ^ 2 + 100 * u2.natAbs ^ 2
  let learns := p.learnRef.isSome && rok && decide ((10 * bits lr 27 20) ^ 2 ≤ den)
  let l : Learn := ⟨max 1 caps.length, tsP, rateP, learns, u1, u2, max 1 den, bits lr 31 28, bits bd 31 16⟩
  let first := (caps.map (·.fn)).headD f.fn
  let eps := p.epochs ++ (s.nucOf c).epochs
  let old := f.nucBank c
  let rs := p.acc.mapIdx fun i a => learnPixel l (sunExcluded eps first i) (entryAt old f.w f.h i) a
  let newbad := (rs.filter (·.2.1)).length
  let learned := (rs.filter (·.2.2.1)).length
  let res := rs.filterMap (·.2.2.2)
  let neutral := match old with | some b => b.w != f.w || b.h != f.h | none => true
  let high := !neutral && !res.isEmpty &&
    decide (bits bd 15 0 ^ 2 * res.length < 16 * (res.map fun r => r.natAbs ^ 2).foldl (· + ·) 0)
  let result := if bits lr 11 0 < newbad then 5 else if high then 6 else 0
  let s := onPress n (fun p => { p with
    st := .opening, result, opened := false, newbad := sat 65535 newbad, learned := sat 65535 learned, learnt := learns, u1
    resP := sat 65535 (rmsOf res), tsP := tsP.toNat, rateP, tfP, acc := [] }) s
  let s := match result, p.table with
    | 0, some k =>
      let d := s.draw
      let ws := rs.flatMap fun r => r.1.wordsOf
      let t := s.table k
      let ix := if t.b0.st = .press then 0 else 1
      let s := onTable k (fun t => t.setBank ix ⟨.valid, memPutList zeroes [] 0 1 ws, 2 * f.w * f.h, f.w, f.h, d.1⟩) d.2
      flagReference c tsP.toNat tfP (caps.all (·.tfOk)) (swapBank k ix (onPress n (fun p => { p with table := none }) s))
    | _, _ => dropPressBank n s
  raiseN (0x0C5 + 4 * n) (at_ result 28 + sat 65535 newbad) s

/-- One more capture frame of a pixel. -/
def PixAcc.add (a : PixAcc) (x : Nat) : PixAcc :=
  let z := x == 0 || x == 0xFFFC
  ⟨a.sum + x, min a.mn x, max a.mx x, a.anyS || z, a.allS && z⟩

/-- A capture frame of head `n` reaches DONE with its x4 (R319). -/
def pressCapture (n c : Nat) (f : Frame) (x4 : List Nat) (s : State) : State :=
  let p := s.pressOf n
  if p.st = .capture ∧ p.capMarks.contains f.fn then
    let acc := if p.caps.isEmpty then x4.map fun x => (⟨x, x, x, x == 0 || x == 0xFFFC, x == 0 || x == 0xFFFC⟩ : PixAcc)
      else List.zipWith PixAcc.add p.acc x4
    let s := onPress n (fun p => { p with
      acc, epochs := if p.caps.isEmpty then (s.nucOf c).epochs else p.epochs, capt := p.capt + 1
      capMarks := p.capMarks.filter (· != f.fn)
      caps := ⟨f.fn, f.ts, f.rate, f.rateOk, f.tf, f.tfOk⟩ :: p.caps }) s
    if s.fld (PRS_CFG n) 17 14 ≤ p.capt + 1 then pressJudge n c f s else s
  else s

/-- A frame broke: it is no capture frame any more. -/
def pressFrameBroke (n fn : Nat) (s : State) : State :=
  onPress n (fun p => { p with capMarks := p.capMarks.filter (· != fn) }) s

/-! ### The sun guard (R312, R313) -/

/-- PCLOSE is fired by the engine: the guard closes the flag, or its FIRE is refused.
DEDUCED (notes/assumptions/35.md). -/
def sunClose (n c : Nat) (s : State) : State :=
  let ch := s.fld (PRS_CFG n) 29 28
  let pf := s.fld (PRS_CFG n) 27 23
  let f := s.fireCode ch pf
  if f.1 = .ok then
    let probe := (s.pressOf n).st == .probe
    let s := fireProfile ch pf s
    let s := raiseN (0x0C7 + 4 * n) (if probe then 2 else 1) (s.count (PRS_CNT n) 15 8)
    let s := onPress n (fun p => { p with
      st := .sun, sunM := if probe then min 3 (p.sunM + 1) else 0, sunRetry := false, openDue := false, openFired := false
      probes := 0, probeHot := false, goLate := if probe then p.goLate else false, blocked := if probe then p.blocked else false }) s
    if probe then s else chooseBlind n c false true s
  else
    let s := if f.2 then fireRefused ch pf s else s
    raiseN (0x0C7 + 4 * n) (3 + at_ f.1.num 8) (onPress n (fun p => { p with sunRetry := true }) s)

/-- The opening of the guard's flag is tried. DEDUCED (notes/assumptions/35.md). -/
def sunOpen (n : Nat) (s : State) : State :=
  let ch := s.fld (PRS_CFG n) 29 28
  let pf := s.fld (PRS_CFG n) 22 18
  let f := s.fireCode ch pf
  if f.1 = .ok then onPress n (fun p => { p with openDue := false, openFired := true }) (fireProfile ch pf s)
  else onPress n (fun p => { p with openDue := true }) (if f.2 then fireRefused ch pf s else s)

/-- The SUN wait ends: SUN_T · 2^m s have passed, or SUN_REL. -/
def sunWaitEnds (n : Nat) (s : State) : State :=
  let p := s.pressOf n
  if p.st = .sun ∧ !p.openDue ∧ !p.openFired then sunOpen n s else s

/-- The sun guard on a frame at DONE with `hot` hot blocks (R312, R313). -/
def sunGuard (n c : Nat) (f : Frame) (hot : Nat) (s : State) : State :=
  let p := s.pressOf n
  let isHot := decide (0 < hot)
  let s1 := onPress n (fun p => { p with hotFn := if isHot then some f.fn else none, sunRetry := p.sunRetry && isHot }) s
  match p.st with
  | .idle | .due =>
    if s.flag (PRS_CFG n) 30 && isHot && (p.sunRetry || p.hotFn == some (f.fn - 1)) then sunClose n c (dueWithdrawn n s1) else s1
  | .probe =>
    if p.probeSkip.contains f.fn then s1
    else
      let s1 := onPress n (fun p => { p with probes := p.probes + 1, probeHot := p.probeHot || (isHot && decide (p.probes < 2)) }) s1
      if isHot && (decide (p.probes < 2) || p.probeHot) then sunClose n c s1 else s1
  | _ => s1

/-! ### Frame starts (R313, R314, R317 to R319, R323) -/

/-- Whether blind time ends at this frame start, and with which result. -/
def State.blindEnds (s : State) (n : Nat) : Option Nat :=
  let p := s.pressOf n
  match p.st with
  | .opening =>
    if p.opened then some p.result
    else if s.fld (PRS_CFG n) 13 8 ≤ p.blind then some 8 else none
  | .probe => if 2 ≤ p.probes ∧ !p.probeHot then some 0 else none
  | _ => none

/-- A sun press ends (R313): it resets neither PRESS_MIN nor PRESS_MAX. -/
def sunEnds (n : Nat) (s : State) : State :=
  raiseN (0x0C7 + 4 * n) 0 (onPress n (fun p => { p with st := .idle, active := false, waitBlind := false, lastRes := 0, hotFn := none }) s)

/-- The first part of a frame start of the context of head `n`: blind time ends, or the frame is blind. The second component
tells whether the frame is within the press. DEDUCED (notes/assumptions/55.md). -/
def pressBlindStart (n : Nat) (accepted : Bool) (s : State) : State × Bool :=
  let p := s.pressOf n
  let s := if p.active then
      match s.blindEnds n with
      | some r => if p.st = .probe then sunEnds n s else pressEnds n r s
      | none => onPress n (fun p => { p with blind := sat 255 (p.blind + 1) }) s
    else if p.waitBlind && accepted then onPress n (fun p => { p with active := true, waitBlind := false, blind := 1 }) s
    else s
  (s, s.pressNow n)

/-- Capture at a frame start: the frame is marked, or the press aborts with result 3 (R319).
DEDUCED (notes/assumptions/35.md). -/
def captureStart (n fn : Nat) (marks : Bool) (s : State) : State :=
  if (s.pressOf n).st = .capture then
    let s := onPress n (fun p => { p with capStarts := p.capStarts + 1 }) s
    let p := s.pressOf n
    let need := s.fld (PRS_CFG n) 17 14
    let got := p.capt + p.capMarks.length
    if need + 4 < p.capStarts ∧ got < need then
      onPress n (fun p => { p with st := .opening, result := 3, opened := false, capMarks := [] }) (dropPressBank n s)
    else if marks ∧ got < need ∧ p.capStarts ≤ need + 4 then onPress n (fun p => { p with capMarks := fn :: p.capMarks }) s
    else s
  else s

/-- The reference point, and the criteria, at a frame start of context `c` fed by head `n` (R314).
DEDUCED (notes/assumptions/35.md). -/
def pressCriteria (n c fn : Nat) (s : State) : State :=
  let h := s.head n
  let s := if (s.pressOf n).refPend ∧ h.tsOk then
      onPress n (fun p => { p with refPend := false, tsRef := h.ts, minAt := s.upTicks, maxAt := s.upTicks }) s
    else s
  let s := onPress n (fun p => { p with rho := sat 0xFFFF (rhoOf p.k1 h.ts p.tsRef) }) s
  let p := s.pressOf n
  let due (r : Nat) (s : State) : State :=
    raiseN (0x0C4 + 4 * n) (at_ r 28 + fn % 2 ^ 24) (onPress n (fun p => { p with st := .due, reason := r }) s)
  if !s.pressArmed n c || s.pressBlocked n then s
  else match p.st with
    | .idle => match s.pressReason n h.ts with
      | some r => due r (onPress n (fun p => { p with fired := false }) s)
      | none => s
    | .due => if p.cmd ∧ p.reason ≠ 4 then due 4 s else s
    | _ => s

/-- The guard's refused opening is tried again at a frame start. DEDUCED (notes/assumptions/35.md). -/
def sunRetryStart (n : Nat) (s : State) : State := if (s.pressOf n).st = .sun ∧ (s.pressOf n).openDue then sunOpen n s else s

/-! ### Profiles (R312, R313, R317, R323, R325) -/

/-- A FIRE of profile `pf` was accepted on channel `ch`. -/
def pressFired (ch pf : Nat) (s : State) : State :=
  (List.range 4).foldl (fun s n =>
    if (s.pressOf n).st = .due ∧ s.fld (PRS_CFG n) 29 28 = ch ∧ s.fld (PRS_CFG n) 27 23 = pf then
      onPress n (fun p => { p with fired := true }) s
    else s) s

/-- A profile ended on the channel of head `n`. DEDUCED (notes/assumptions/35.md). -/
def pressProfileEnd (n pf res : Nat) (s : State) : State :=
  let p := s.pressOf n
  let isClose := s.fld (PRS_CFG n) 27 23 == pf
  let isOpen := s.fld (PRS_CFG n) 22 18 == pf
  match p.st with
  | .due => if isClose then onPress n (fun p => { p with fired := false }) s else s
  | .closing =>
    if !isClose then s
    else if res ≠ 0 then onPress n (fun p => { p with st := .opening, result := 2, opened := false }) (dropPressBank n s)
    else if p.blocked then onPress n (fun p => { p with st := .opening, opened := false }) s
    else onPress n (fun p => { p with st := .capture, capStarts := 0 }) s
  | .opening =>
    if !isOpen then s
    else if res = 0 then onPress n (fun p => { p with opened := true }) s
    else
      let s := onPress n (fun p => { p with result := 7 }) s
      raiseN (0x0C6 + 4 * n) (at_ 7 28 + at_ (b2n p.goLate) 27 + at_ (sat 255 p.blind) 16 + sat 65535 p.res) s
  | .sun =>
    if !isOpen || !p.openFired then s
    else if res = 0 then
      let begun := match s.ctxOfHead n with
        | none => []
        | some c => ((s.ctx c).frames.filter (·.begun)).map (·.fn)
      onPress n (fun p => { p with st := .probe, probes := 0, probeHot := false, probeSkip := begun, openFired := false }) s
    else onPress n (fun p => { p with openFired := false, openDue := true }) s
  | _ => s

/-- An over-current trip overrules the end of a profile in the same period (R255): what that end did to the press is undone, as if
it had ended with result 2. DEDUCED (notes/assumptions/69.md). -/
def pressOverruled (n pf : Nat) (s : State) : State :=
  let p := s.pressOf n
  let isClose := s.fld (PRS_CFG n) 27 23 == pf
  let isOpen := s.fld (PRS_CFG n) 22 18 == pf
  if p.st = .capture ∧ isClose ∧ p.capStarts = 0 then pressProfileEnd n pf 2 (onPress n (fun p => { p with st := .closing }) s)
  else if p.st = .opening ∧ isOpen ∧ p.opened then pressProfileEnd n pf 2 (onPress n (fun p => { p with opened := false }) s)
  else if p.st = .probe ∧ isOpen ∧ p.probes = 0 then onPress n (fun p => { p with st := .sun, openDue := true }) s
  else s

/-- The pending FIRE of a press has become its profile: blind time may begin (R19). -/
def pressFireBegins (n : Nat) (s : State) : State :=
  match s.ctxOfHead n with
  | some c =>
    if (s.pressOf n).waitFire then chooseBlind n c true false (onPress n (fun p => { p with waitFire := false }) s) else s
  | none => onPress n (fun p => { p with waitFire := false }) s

/-- The pending FIRE of a press is dropped: a press that waits for it does not start and stays due (R19). -/
def pressFireDropped (n pf : Nat) (s : State) : State :=
  if (s.pressOf n).waitFire then
    onPress n (fun p => { p with st := .due, fired := false, waitFire := false, blocked := false }) (dropPressBank n s)
  else if (s.pressOf n).st = .due then pressProfileEnd n pf 6 s
  else s

/-- What the starts and ends of profiles between two states do to the presses on their channels. -/
def pressFollow (before s : State) : State :=
  (List.range 4).foldl (fun s ch =>
    let b := before.chan ch
    let a := s.chan ch
    let each (f : Nat → State → State) (s : State) : State :=
      (List.range 4).foldl (fun t n => if t.fld (PRS_CFG n) 29 28 = ch then f n t else t) s
    if b.st = .run ∧ a.st ≠ .run then each (fun n => pressProfileEnd n b.prof.num a.lastRes) s
    else if b.st = .decay ∧ a.st = .decay ∧ b.endedNow ∧ a.oc ∧ !b.oc then each (fun n => pressOverruled n b.prof.num) s
    else match b.pend with
      | some p =>
        if a.pend.isSome ∨ a.st = .run then s
        else each (fun n => pressFireDropped n p.num) s
      | none => s) s

/-- Pending FIREs that have become profiles between two states: blind time may begin (R19). -/
def pressFires (before s : State) : State :=
  (List.range 4).foldl (fun s ch =>
    if (before.chan ch).pend.isSome ∧ (s.chan ch).pend.isNone ∧ (s.chan ch).st = .run then
      (List.range 4).foldl (fun t n => if t.fld (PRS_CFG n) 29 28 = ch then pressFireBegins n t else t) s
    else s) s

/-! ### Hooks of other blocks -/

/-- K1's initial value (R326). -/
def State.k1Init (s : State) (n : Nat) : Nat := 16 * s.fld (PRS_LEARN n) 19 12

/-- Table `k` was swapped by TBL_CMD: B of its contexts returns to 0 (R310); for a NUC table, K1 and the reference point
(R314, R326). -/
def nucSwapped (k : Nat) (s : State) : State :=
  (List.range 8).foldl (fun s c =>
    let named := s.cwf (NUC_CFG c) 7 0 == k
    let s := if named || s.cwf (NUC_CFG c) 15 8 == k then onNuc c (fun x => { x with b := 0, bNext := none }) s else s
    if named ∧ s.source c < 4 then
      let n := s.source c
      onPress n (fun p => { p with k1 := s.k1Init n, refPend := true }) s
    else s) s

/-- FORGET (R314, R326). -/
def pressForget (n : Nat) (s : State) : State :=
  onPress n (fun p => { p with k1 := s.k1Init n, learnRef := none, refPend := true }) s

/-- A new reference point is awaited for the head of context `c`, or for every head (R314). -/
def refAwaited (c : Nat) (s : State) : State :=
  if s.source c < 4 then onPress (s.source c) (fun p => { p with refPend := true }) s else s
def refAwaitedAll (s : State) : State := (List.range 4).foldl (fun s n => onPress n (fun p => { p with refPend := true }) s) s

/-- DRAM_LOST is cleared: every reference point is awaited anew (R314). -/
def dramLostCleared (before s : State) : State := if before.dramLost && !s.dramLost then refAwaitedAll s else s

/-- DRAM_LOST: B and the bitmaps go (R310, R311), presses abort (R325). -/
def nucLost (s : State) : State :=
  (List.range 8).foldl (fun s c => onNuc c (fun x => { x with b := 0, bNext := none, epochs := [] }) s) (pressAbortAll s)

/-- 1.5 s after the seal of a capture on command (R114, R328): the operation ends, and DUE of reason CMD is withdrawn; a press whose
GO was accepted runs on. -/
def captureTimeout (s : State) : State :=
  match s.cp.op with
  | some o =>
    if o.id = 2 then
      let n := o.arg
      let s := if (s.pressOf n).st = .due ∧ (s.pressOf n).reason = 4 then dueWithdrawn n s else s
      endOp .eState (onPress n (fun p => { p with cmd := false }) s)
    else s
  | none => s

/-! ### Registers -/

def PressSt.num : PressSt → Nat
  | .idle => 0 | .due => 1 | .closing => 2 | .capture => 3 | .opening => 4 | .sun => 5 | .probe => 6

/-- The live words of page 0x0B. DEDUCED (notes/assumptions/35.md). -/
def nucView (a : Nat) (s : State) : Option Word :=
  if NUC_CFG 0 ≤ a ∧ a < NUC_CFG 8 then
    let c := (a - NUC_CFG 0) / 0x10
    let x := s.nucOf c
    let n := s.source c
    let sun := decide (n < 4) && ((s.pressOf n).st == .sun || (s.pressOf n).st == .probe)
    match (a - NUC_CFG 0) % 0x10 with
    | 0x4 => some (word (b2n x.bypass * 2 ^ 31 + b2n x.synth * 2 ^ 30 + b2n sun * 2 ^ 29 + b2n x.radClamp * 2 ^ 28 + b2n x.tsOld * 2 ^ 27))
    | 0x8 => some (word (at_ (toBits 16 x.b) 16))
    | 0xC => some (word (at_ (sat 255 x.hotBlk) 24 + x.sat))
    | _ => none
  else if PRS_CFG 0 ≤ a ∧ a < PRS_CFG 4 then
    let n := (a - PRS_CFG 0) / 0x40
    let p := s.pressOf n
    match (a - PRS_CFG 0) % 0x40 with
    | 0x18 => some (word (at_ p.st.num 28 + at_ p.reason 24 + at_ p.lastRes 20 + b2n p.goLate * 2 ^ 19 + b2n p.blocked * 2 ^ 18 +
        at_ p.sunM 16 + at_ (sat 255 p.blind) 8 + sat 255 p.capt))
    | 0x1C => some (word (at_ p.tsP 16 + toBits 16 p.rateP))
    | 0x20 => some (word (at_ p.tfP 16 + p.res))
    | 0x24 => some (word (at_ (match p.okAt with | some t => sat 0xFFFF ((s.upTicks - t) / 25000000) | none => 0) 16 + p.rho))
    | 0x28 => some (word (at_ p.tsRef 16 + p.k1))
    | 0x2C => some (word (at_ p.newbad 16 + p.learned))
    | _ => none
  else none

/-- What a write to the press register at `off` of head `n` asks beyond its fields. -/
def pressFieldWrite (o : Origin) (n off : Nat) (v : Word) (s : State) : Option WriteRule :=
  let p := s.pressOf n
  let busy := chk (p.st != .idle && p.st != .due) .eState
  match off with
  | 0x00 => some {
      pre := busy,
      bad := bits v 27 23 == bits v 22 18 ||
        (List.range 4).any fun m => m != n && s.flag (PRS_CFG m) 31 && s.fld (PRS_CFG m) 29 28 == bits v 29 28,
      app := if bit v 31 then id else dueWithdrawn n }
  | 0x04 => some { pre := busy, bad := decide (bits v 15 8 * 60 ≤ bits v 23 16) }
  | 0x08 => some { pre := busy }
  | 0x0C => some { pre := busy }
  | 0x10 => some { pre := if bit v 0 then s.goCode n else .ok, store := false, app := if bit v 0 then pressGo n else id }
  | 0x14 =>
    match bits v 31 28 with
    | 1 => some {
        pre := chk (isVat o || !s.flag (PRS_CFG n) 31 || (s.head n).obs != .streaming || (p.st != .idle && p.st != .due)) .eState,
        store := false, app := fun t => startOp 2 n (onPress n (fun p => { p with cmd := true }) t) }
    | 2 => some { pre := chk (p.st != .due) .eState, store := false, app := dueWithdrawn n }
    | 3 => some { pre := chk (p.st != .sun) .eState, store := false, app := sunWaitEnds n }
    | 4 => some { store := false, app := pressForget n }
    | _ => some { bad := true }
  | _ => none

/-- The writes of the PRS_ registers. -/
def nucWrite (o : Origin) (a : Nat) (v : Word) (s : State) : Option WriteRule :=
  if PRS_CFG 0 ≤ a ∧ a < PRS_CFG 4 then
    pressFieldWrite o ((a - PRS_CFG 0) / 0x40) ((a - PRS_CFG 0) % 0x40) v s
  else none

end Sys2Proof.Machine
end

