-- ==== Sys2Proof/Machine/BlkRender.lean ====
section
/-! DEFINITION. Rendering (chapter 16): the AGC, the thermal and visible paths, the colour stage, fusion, the overlay stores
and warp grids, and the RND_ registers. -/

namespace Sys2Proof.Machine

/-- Rendering of context `c`. -/
def State.rndOf (s : State) (c : Nat) : Rnd := nth {} s.rnd.ctxs c
def onRnd (c : Nat) (f : Rnd → Rnd) (s : State) : State := { s with rnd := { s.rnd with ctxs := upd s.rnd.ctxs c f } }

/-! ### The AGC (R333 to R339) -/

/-- The corrected integer counts that a thermal frame's histogram counts (R333). -/
def agcCounts (f : Frame) (c : Nat) (y4 : List Nat) : List Nat :=
  let r0 := f.cw (RND_ROI0 c)
  let r1 := f.cw (RND_ROI1 c)
  (List.range y4.length).filterMap fun k =>
    let x := k % f.w
    let y := k / f.w
    let v := nth 0 y4 k
    if bits r0 27 16 ≤ x ∧ x ≤ bits r1 27 16 ∧ bits r0 11 0 ≤ y ∧ y ≤ bits r1 11 0 ∧ v ≠ 0 ∧ v ≠ 0xFFFC then some (v / 4) else none

/-- C(c): how many counted pixels lie at or below `c`. -/
def cumul (l : List Nat) (c : Nat) : Nat := (l.filter fun v => decide (v ≤ c)).length

/-- The smallest bin that satisfies `p`. -/
def firstBin (p : Nat → Bool) : Nat := ((List.range 16384).find? p).getD 16383

/-- lo and hi of R334, widened to MINSPAN. -/
def agcWindow (plo phi minspan : Nat) (l : List Nat) : Nat × Nat :=
  let n := l.length
  let lo := firstBin fun c => decide (plo * n < 1024 * cumul l c)
  let hi := firstBin fun c => decide ((1024 - phi) * n ≤ 1024 * cumul l c)
  if hi < lo + minspan then
    let m := (lo + hi) / 2
    if m < minspan / 2 then (0, minspan)
    else if 16383 < m - minspan / 2 + minspan then (16383 - minspan, 16383)
    else (m - minspan / 2, m - minspan / 2 + minspan)
  else (lo, hi)

/-- One filter step with speed k. -/
def filterStep (old new : Int) (k : Nat) : Int := old + roundHalfAway ((new - old) * k) 16

/-- lo_u and hi_u of a mapping (R335). -/
def AgcMap.lou (m : AgcMap) : Int := roundHalfAway m.llo 256
def AgcMap.hiu (m : AgcMap) : Int := max (roundHalfAway m.lhi 256) (m.lou + 1)

/-- The linear value of R337 for a window. -/
def linValue (lo hi : Int) (y4 : Nat) : Int :=
  clampI 0 4095 (roundHalfAway (((y4 : Int) - 4 * lo) * 4095) (4 * (hi - lo)).toNat)

/-- The equalisation E of R336 over a window. -/
def equalise (plat : Nat) (l : List Nat) (lo hi : Int) : List Int :=
  let h (c : Nat) : Nat := (l.filter (· == c)).length
  let p := max 1 (plat * l.length / (16 * (hi - lo + 1).toNat))
  let s (c : Nat) : Nat := ((List.range (c + 1)).map fun (j : Nat) => if lo ≤ (j : Int) then min (h j) p else 0).foldl (· + ·) 0
  let all := s hi.toNat
  (List.range 16384).map fun c =>
    if all = 0 then linValue lo hi (4 * c)
    else if (c : Int) < lo then 0
    else if hi < (c : Int) then 4095
    else roundHalfAway (4095 * (s c : Nat)) all

/-- A build from the counted pixels of frame `fn`, from the mapping before it (R335).
DEDUCED (notes/assumptions/42.md). -/
def agcBuild (agc pct fix : Word) (initial : Bool) (old : Option AgcMap) (fn : Nat) (l : List Nat) : AgcMap :=
  let w := agcWindow (bits pct 9 0) (bits fix 31 22) (bits pct 29 16) l
  let k := if initial then 16 else bits agc 28 24
  let o := old.getD ⟨0, 0, 0, [], 0⟩
  let m : AgcMap := ⟨fn, filterStep o.llo (256 * w.1) k, filterStep o.lhi (256 * w.2) k, [], l.length⟩
  let e := equalise (bits agc 15 8) l m.lou m.hiu
  { m with m := e.mapIdx fun c v => (filterStep (nth 0 o.m c : Nat) v k).toNat }

/-- The DONE point of a thermal frame that is counted (R338, R339). DEDUCED (notes/assumptions/42.md). -/
def agcDone (c : Nat) (f : Frame) (y4 : List Nat) (s : State) : State :=
  if f.kind ≠ 0 ∨ f.press then s
  else
    let l := agcCounts f c y4
    if l.isEmpty then raiseN 0x0E0 (at_ c 28 + f.fn % 2 ^ 24) (onRnd c (fun r => { r with hold := true }) s)
    else
      let agc := f.cw (RND_AGC c)
      onRnd c (fun r =>
        let old := match r.builds.getLast? with | some m => some m | none => r.map
        let initial := r.initNext || old.isNone
        { r with hold := false, initNext := false,
                 builds := r.builds ++ [agcBuild agc (f.cw (RND_PCT c)) (f.cw (RND_FIX c)) initial old f.fn l] }) s

/-- The oldest build of a context completes (R338). -/
def agcBuilt (c : Nat) (s : State) : State :=
  onRnd c (fun r => match r.builds with | m :: t => { r with map := some m, builds := t } | [] => r) s

/-- The next build of a context is an initial build (R335): OFF to ON, a change of its geometry or MODE. -/
def agcRestart (c : Nat) (s : State) : State := onRnd c (fun r => { r with initNext := true }) s

/-- Settings are applied at the start of frame `fn` (R335, R349): `before` had the settings until then. -/
def rndApplied (c fn : Nat) (before s : State) : State :=
  let s := onRnd c (fun r => { r with applied := some fn }) s
  if before.cwf (RND_AGC c) 31 30 = s.cwf (RND_AGC c) 31 30 then s else agcRestart c s

/-- The frame-buffer class of rendering is discarded (R351, Table 4.5): mappings, filter states and overlay stores. -/
def rndDiscard (s : State) : State :=
  { s with rnd := { s.rnd with ctxs := s.rnd.ctxs.map fun r =>
    { r with map := none, builds := [], initNext := true, bufs := List.replicate 4 none, newest := none } } }

/-! ### The thermal path (R337, R340) -/

/-- The window of a frame, and whether it is a mapping's (R337). -/
def Frame.agcWindow (f : Frame) (c : Nat) : Int × Int :=
  match f.agc with
  | some m => if bits (f.cw (RND_AGC c)) 31 30 = 0 then (bits (f.cw (RND_PAL c)) 29 16, bits (f.cw (RND_FIX c)) 21 8) else (m.lou, m.hiu)
  | none => (bits (f.cw (RND_PAL c)) 29 16, bits (f.cw (RND_FIX c)) 21 8)

/-- a of one pixel. -/
def Frame.agcPixel (f : Frame) (c y4 : Nat) : Nat :=
  let w := f.agcWindow c
  let lin := linValue w.1 w.2 y4
  if y4 = 0 then 0
  else if y4 = 0xFFFC then 4095
  else match f.agc with
    | some m =>
      let agc := f.cw (RND_AGC c)
      let q := bits agc 20 16
      if bits agc 31 30 = 2 then (roundHalfAway (q * (nth 0 m.m (y4 / 4) : Nat) + (16 - q : Nat) * lin) 16).toNat else lin.toNat
    | none => lin.toNat

/-- A 12-bit value through a tone curve of a frame's tables; 0 names none (R340, R343, Table 9.7). -/
def Frame.tone (f : Frame) (n k : Nat) : Nat :=
  let neutral := k * 16 + k / 256
  if n = 0 then neutral
  else match activeIn f.tabs n with
    | some b => let w := memGet zeroes b.words (k / 2); if k % 2 = 0 then bits w 31 16 else bits w 15 0
    | none => neutral

/-- The palette colour of a 16-bit value (R340, Table 9.7). -/
def Frame.palette (f : Frame) (n t : Nat) : Nat × Nat × Nat :=
  if n = 0 then (t / 256, t / 256, t / 256)
  else match activeIn f.tabs n with
    | some b => let w := memGet zeroes b.words (t / 64); (bits w 23 16, bits w 15 8, bits w 7 0)
    | none => (t / 64 / 4, t / 64 / 4, t / 64 / 4)

/-- An 8-bit channel at 12 bits. -/
def to12 (v : Nat) : Nat := v * 16 + v / 16

/-- One thermal pixel: a, the isotherm flag, the 12-bit colour. -/
def Frame.thermalPixel (f : Frame) (c y4 y16 : Nat) : Nat × Bool × (Nat × Nat × Nat) :=
  let a := f.agcPixel c y4
  let pal := f.cw (RND_PAL c)
  let iso := f.cw (RND_ISO c)
  let t := f.tone (bits pal 15 8) a
  let isIso := bit pal 31 && bit (f.cw (NUC_CFG c)) 30 && decide (bits iso 15 0 ≤ y16) && decide (y16 ≤ bits iso 31 16)
  let rgb := if isIso then
      let w := f.cw (RND_ISOC c)
      (bits w 23 16, bits w 15 8, bits w 7 0)
    else f.palette (bits pal 7 0) t
  (a, isIso, to12 rgb.1, to12 rgb.2.1, to12 rgb.2.2)

/-! ### The visible path (R341, R342) -/

/-- Input scaling and black level. -/
def blackLevel (kind black v : Nat) : Nat :=
  let v12 : Nat := if kind = 1 then v * 4 + v / 256 else v
  (clampI 0 4095 (roundHalfAway (((v12 : Int) - black) * 4095) (4095 - black))).toNat

/-- A coordinate reflected about the frame's edge without repeating the edge. -/
def reflect (n : Nat) (x : Int) : Nat := if x < 0 then (-x).toNat else if (n : Int) ≤ x then (2 * ((n : Int) - 1) - x).toNat else x.toNat

/-- The colour of a Bayer site: 0 R, 1 G, 2 B. -/
def bayer (cfa x y : Nat) : Nat :=
  let p : List Nat := match cfa with | 0 => [0, 1, 1, 2] | 1 => [1, 0, 2, 1] | 2 => [1, 2, 0, 1] | _ => [2, 1, 1, 0]
  nth 1 p (y % 2 * 2 + x % 2)

/-- Demosaic at (x, y). -/
def demosaic (cfa w h : Nat) (v : List Nat) (x y : Nat) : Nat × Nat × Nat :=
  let at' (dx dy : Int) : Nat := nth 0 v (reflect h (y + dy) * w + reflect w (x + dx))
  let avg2 (a b : Nat) : Nat := (a + b + 1) / 2
  let avg4 (a b c d : Nat) : Nat := (a + b + c + d + 2) / 4
  let own := at' 0 0
  let l := at' (-1) 0
  let r := at' 1 0
  let u := at' 0 (-1)
  let d := at' 0 1
  match bayer cfa x y with
  | 1 =>
    let hor := avg2 l r
    let ver := avg2 u d
    if bayer cfa (x + 1) y = 0 then (hor, own, ver) else (ver, own, hor)
  | k =>
    let dh := (l : Int) - r
    let dv := (u : Int) - d
    let g := if dh.natAbs < dv.natAbs then avg2 l r else if dv.natAbs < dh.natAbs then avg2 u d else avg4 l r u d
    let o := avg4 (at' (-1) (-1)) (at' 1 (-1)) (at' (-1) 1) (at' 1 1)
    if k = 0 then (own, g, o) else (o, g, own)

/-- The visible picture of a frame at 12 bits. -/
def Frame.visible (f : Frame) (c : Nat) (xs : List Nat) : List (Nat × Nat × Nat) :=
  let k := f.cw (RND_VIS c)
  let v := xs.map (blackLevel f.kind (bits k 9 0))
  (List.range xs.length).map fun i => demosaic (bits k 17 16) f.w f.h v (i % f.w) (i / f.w)

/-! ### The colour stage (R343) -/

/-- Coefficient `k` of matrix `m` of table 0x30, or an offset (k from 9); the neutral matrix when the table is empty. -/
def Frame.matrix (f : Frame) (m k : Nat) : Int :=
  match activeIn f.tabs 0x30 with
  | some b => sbits (memGet zeroes b.words (16 * m + k)) 15 0
  | none => if k = 0 ∨ k = 4 ∨ k = 8 then 0x1000 else 0

/-- The colour stage on one pixel. -/
def Frame.colour (f : Frame) (c : Nat) (p : Nat × Nat × Nat) : Nat × Nat × Nat :=
  let w0 := f.cw (RND_WB0 c)
  let col := f.cw (RND_COL c)
  let wb (x k : Nat) : Nat := min 4095 (roundHalfAway (x * k) 1024).toNat
  let r := wb p.1 (bits w0 29 16)
  let g := wb p.2.1 (bits w0 13 0)
  let b := wb p.2.2 (bits (f.cw (RND_WB1 c)) 13 0)
  let m := bits col 27 24
  let mul (i x : Nat) : Nat :=
    if bit col 31 then
      (clampI 0 4095 (roundHalfAway (f.matrix m (3 * i) * r + f.matrix m (3 * i + 1) * g + f.matrix m (3 * i + 2) * b) 4096 +
        f.matrix m (9 + i))).toNat
    else x
  (f.tone (bits col 23 16) (mul 0 r), f.tone (bits col 15 8) (mul 1 g), f.tone (bits col 7 0) (mul 2 b))

/-! ### Fusion (R345 to R349) -/

/-- Interpolation of four values with Q-weights over `d`. -/
def bilinear (fx gx fy gy d : Nat) (a b c e : Int) : Int :=
  roundHalfAway (gx * gy * a + fx * gy * b + gx * fy * c + fx * fy * e) d

/-- The overlay coordinates of base pixel (x, y), in 1/16 pixel (R345). -/
def warpAt (grid : List Word) (w h x y : Nat) : Int × Int :=
  let sx := ceilDiv w 16
  let sy := ceilDiv h 9
  let i := x / sx
  let j := y / sy
  let fx := x - i * sx
  let fy := y - j * sy
  let u (i j : Nat) : Int := sbits (nth 0 grid (10 * i + j)) 31 16
  let v (i j : Nat) : Int := sbits (nth 0 grid (10 * i + j)) 15 0
  (bilinear fx (sx - fx) fy (sy - fy) (sx * sy) (u i j) (u (i + 1) j) (u i (j + 1)) (u (i + 1) (j + 1)),
   bilinear fx (sx - fx) fy (sy - fy) (sx * sy) (v i j) (v (i + 1) j) (v i (j + 1)) (v (i + 1) (j + 1)))

/-- One fused pixel (R346, R347). -/
def fusePixel (fus key : Word) (o : OvlBuf) (u v : Int) (b : Nat × Nat × Nat) : Nat × Nat × Nat :=
  if u < 0 ∨ v < 0 ∨ 16 * ((o.w : Int) - 1) < u ∨ 16 * ((o.h : Int) - 1) < v then b
  else
    let px (x y : Nat) : OvlPx := nth ⟨0, 0, 0, 0, false⟩ o.px (min y (o.h - 1) * o.w + min x (o.w - 1))
    let uu := u.toNat / 16
    let vv := v.toNat / 16
    let fu := u.toNat % 16
    let fv := v.toNat % 16
    let q (g : OvlPx → Nat) : Int :=
      bilinear fu (16 - fu) fv (16 - fv) 256 (g (px uu vv)) (g (px (uu + 1) vv)) (g (px uu (vv + 1))) (g (px (uu + 1) (vv + 1)))
    let alpha : Int := bits fus 8 0
    let klo : Int := bits key 11 0
    let khi : Int := bits key 27 16
    let a := q (·.a)
    let al := match bits fus 31 30 with
      | 1 => alpha
      | 2 => if a ≤ klo then 0 else if khi ≤ a then alpha else roundHalfAway (alpha * (a - klo)) (khi - klo).toNat
      | _ => if (px (roundHalfAway u 16).toNat (roundHalfAway v 16).toNat).iso then alpha else 0
    let mix (b : Nat) (w8 : Int) : Nat := (b + roundHalfAway ((w8 * 257 - b) * al) 256).toNat
    (mix b.1 (q (·.r)), mix b.2.1 (q (·.g)), mix b.2.2 (q (·.b)))

/-- Nanoseconds of a stamp. -/
def stampNs (sec ns : Nat) : Int := (sec : Int) * 1000000000 + ns

/-- What render makes of a frame: its taps, and the facts for the record. -/
structure RndOut where
  a : List Nat
  iso : List Bool
  y8 : List Nat
  rgb : List (Nat × Nat × Nat)
  fused : Option (List (Nat × Nat × Nat)) := none
  isFused : Bool := false
  noOvl : Bool := false
  ovlFn : Nat := 0
  ovlSynth : Bool := false
  deriving DecidableEq, Repr

/-- The taps Y8 and COLOUR of a frame (R332). -/
def renderFrame (c : Nat) (f : Frame) (n : NucOut) : RndOut :=
  if f.kind = 0 then
    let px := List.zipWith (f.thermalPixel c) n.y4 n.y16
    { a := px.map (·.1), iso := px.map (·.2.1), y8 := px.map (·.1 / 16), rgb := px.map fun p => f.colour c p.2.2 }
  else
    let rgb := (f.visible c n.y4).map (f.colour c)
    { a := rgb.map fun _ => 0, iso := rgb.map fun _ => false, y8 := rgb.map (·.2.1 / 256), rgb }

/-- The FUSED tap of a base frame at DONE, with its counts and events (R349). -/
def fuseFrame (c : Nat) (f : Frame) (r : RndOut) (s : State) : RndOut × State :=
  let fus := f.cw (RND_FUS c)
  let data := at_ c 28 + f.fn % 2 ^ 24
  if bits fus 31 30 = 0 then (r, s)
  else if f.kind = 0 ∨ f.grid.isNone then
    (r, raiseN 0x0E1 (data + at_ (if f.kind = 0 then 2 else 1) 24)
      ((onRnd c (fun x => { x with ovlOk := false }) s).count (RND_CNT c) 31 16))
  else
    let fresh := match (s.rndOf c).applied with | some k => decide (fnAhead k f.fn < 2 ^ 31) | none => false
    let s := if fresh then onRnd c (fun x => { x with fuse := 0, applied := none }) s else s
    let t := bits fus 26 24
    let buf := match f.pin with | some p => nth none (s.rndOf t).bufs p.2 | none => none
    let good := match buf with
      | some o => o.raw14 && decide ((stampNs f.stampS f.stampNs - stampNs o.stampS o.stampNs).natAbs ≤ bits fus 23 16 * 1000000)
      | none => false
    match good, buf, f.grid with
    | true, some o, some g =>
      let px := r.rgb.mapIdx fun k b =>
        let uv := warpAt g f.w f.h (k % f.w) (k / f.w)
        fusePixel fus (f.cw (RND_KEY c)) o uv.1 uv.2 b
      ({ r with fused := some px, isFused := true, ovlFn := o.fn, ovlSynth := o.synth },
       onRnd c (fun x => { x with fuse := 1, ovlOk := true }) s)
    | _, _, _ =>
      let first := (s.rndOf c).fuse != 2
      let s := (onRnd c (fun x => { x with fuse := 2, ovlOk := false }) s).count (RND_CNT c) 15 0
      ({ r with fused := some r.rgb, noOvl := true }, raiseIf first 0x0E2 data s)

/-- A frame is written to its context's overlay store and completes there at DONE (R348): into a buffer that is neither
pinned nor the newest complete one. -/
def storeOverlay (c : Nat) (f : Frame) (r : RndOut) (s : State) : State :=
  if !f.ovl then s
  else
    let pinned := s.sch.ctxs.flatMap fun x => x.frames.filterMap fun g => match g.pin with
      | some p => if p.1 = c then some p.2 else none
      | none => none
    let x := s.rndOf c
    let k := ((List.range 4).find? fun k => !pinned.contains k && x.newest != some k).getD 0
    let top (v : Nat) : Nat := min 255 ((v + 128) / 256)
    let px := (List.range r.rgb.length).map fun i =>
      let p := nth (0, 0, 0) r.rgb i
      (⟨top p.1, top p.2.1, top p.2.2, nth 0 r.a i, nth false r.iso i⟩ : OvlPx)
    onRnd c (fun x => { x with bufs := x.bufs.set k (some ⟨f.fn, f.w, f.h, f.kind == 0, f.press, f.stampS, f.stampNs, px⟩), newest := some k }) s

/-- Render at the DONE point of a frame. -/
def renderDone (c : Nat) (f : Frame) (n : NucOut) (s : State) : RndOut × State :=
  let w := f.agcWindow c
  let s := if f.kind = 0 then
      onRnd c (fun x => { x with lo := w.1.toNat, hi := w.2.toNat, src := match f.agc with | some m => m.src | none => 0 }) s
    else s
  let r := fuseFrame c f (renderFrame c f n) s
  (r.1, agcDone c f n.y4 (storeOverlay c f r.1 r.2))

/-- A frame's first run starts: it takes the newest complete mapping and pins the newest complete overlay buffer.
DEDUCED (notes/assumptions/42.md). -/
def renderFirstRun (c fn : Nat) (s : State) : State :=
  onFrame c fn (fun f =>
    let fus := f.cw (RND_FUS c)
    let t := bits fus 26 24
    let pin := if bits fus 31 30 ≠ 0 ∧ (s.ctx t).st = .on then (s.rndOf t).newest.map fun k => (t, k) else none
    { f with begun := true, agc := (s.rndOf c).map, pin }) s

/-! ### Warp grids (R350) -/

/-- The ON context whose active settings name grid `k`. -/
def State.gridUser (s : State) (k : Nat) : Option Nat :=
  (List.range 8).find? fun c => (s.ctx c).st == .on && s.cwf (RND_FUS c) 31 30 != 0 && s.cwf (RND_FUS c) 29 29 == k

/-- The pending words of grid `k` become active. -/
def gridApply (k c fn : Nat) (s : State) : State :=
  let ws := (List.range 170).map fun m => s.reg (RND_WG k m)
  raiseN 0x0E3 (at_ k 31 + at_ c 28 + fn % 2 ^ 24)
    { s with rnd := { s.rnd with grids := s.rnd.grids.set k (some ws), pubPend := s.rnd.pubPend.set k false } }

/-- Publishes that wait for no context any more apply in the next fabric cycle. -/
def gridsIdle (s : State) : State :=
  [0, 1].foldl (fun s k => if nth false s.rnd.pubPend k && (s.gridUser k).isNone then gridApply k 0 0 s else s) s

/-- An accepted frame start of context `c`. -/
def gridsAtStart (c fn : Nat) (s : State) : State :=
  [0, 1].foldl (fun s k => if nth false s.rnd.pubPend k && s.gridUser k == some c then gridApply k c fn s else s) s

/-- A frame start: the frame is marked for the overlay store, and takes the grid in force. -/
def renderStart (c : Nat) (f : Frame) (s : State) : Frame :=
  let named := (List.range 8).any fun d => (s.ctx d).st == .on && s.cwf (RND_FUS d) 31 30 != 0 && s.cwf (RND_FUS d) 26 24 == c
  { f with ovl := named, grid := nth none s.rnd.grids (s.cwf (RND_FUS c) 29 29) }

/-! ### Registers -/

/-- The live words of page 0x0C. -/
def rndView (a : Nat) (s : State) : Option Word :=
  if RND_AGC 0 ≤ a ∧ a < RND_AGC 8 then
    let x := s.rndOf ((a - RND_AGC 0) / 0x80)
    match (a - RND_AGC 0) % 0x80 with
    | 0x38 => some (word (b2n x.map.isNone * 2 ^ 31 + b2n x.hold * 2 ^ 30 + at_ (x.hi % 16384) 16 + x.lo % 16384))
    | 0x3C => some (word (b2n x.ovlOk * 2 ^ 31 + x.src % 2 ^ 24))
    | _ => none
  else if a = RND_WSTAT then
    let g (k : Nat) : Nat := b2n (nth none s.rnd.grids k).isSome * 8 + b2n (nth false s.rnd.pubPend k) * 4
    some (word (g 1 * 16 + g 0))
  else none

/-- A field that is 0 or names a table of a range. -/
def tableField (v lo : Nat) : Bool := v == 0 || (decide (lo ≤ v) && decide (v < lo + 16))

/-- What a write to the rendition register at `off` of context `c` asks beyond its fields. -/
def rndFieldWrite (c off : Nat) (v : Word) (s : State) : Option WriteRule :=
  match off with
  | 0x04 => some { bad := decide (1000 < bits v 9 0 + s.fld (RND_FIX c) 31 22) }
  | 0x08 => some { bad := decide (1000 < bits v 31 22 + s.fld (RND_PCT c) 9 0) || decide (bits v 21 8 ≤ s.fld (RND_PAL c) 29 16) }
  | 0x0C => some { bad := decide (s.fld (RND_ROI1 c) 27 16 < bits v 27 16) || decide (s.fld (RND_ROI1 c) 11 0 < bits v 11 0) }
  | 0x10 => some { bad := decide (bits v 27 16 < s.fld (RND_ROI0 c) 27 16) || decide (bits v 11 0 < s.fld (RND_ROI0 c) 11 0) }
  | 0x14 => some { bad := decide (s.fld (RND_FIX c) 21 8 ≤ bits v 29 16) || !tableField (bits v 15 8) 0x20 || !tableField (bits v 7 0) 0x10 }
  | 0x18 => some { bad := decide (bits v 31 16 < bits v 15 0) }
  | 0x2C => some { bad := !tableField (bits v 23 16) 0x20 || !tableField (bits v 15 8) 0x20 || !tableField (bits v 7 0) 0x20 }
  | 0x30 =>
    let taken := (List.range 8).any fun d => d != c &&
      ((s.fld (RND_FUS d) 31 30 != 0 && s.fld (RND_FUS d) 29 29 == bits v 29 29) ||
       (s.cwf (RND_FUS d) 31 30 != 0 && s.cwf (RND_FUS d) 29 29 == bits v 29 29))
    some { pre := chk (bits v 31 30 != 0 && taken) .eState, bad := bits v 26 24 == c }
  | 0x34 => some { bad := decide (bits v 27 16 ≤ bits v 11 0) }
  | _ => none

/-- The writes of the RND_ registers (R344, R350, Table 16.4). -/
def rndWrite (a : Nat) (v : Word) (s : State) : Option WriteRule :=
  if RND_AGC 0 ≤ a ∧ a < RND_AGC 8 then
    rndFieldWrite ((a - RND_AGC 0) / 0x80) ((a - RND_AGC 0) % 0x80) v s
  else if a = RND_WPUBR then
    some { pre := chk ((bit v 0 && nth false s.rnd.pubPend 0) || (bit v 1 && nth false s.rnd.pubPend 1)) .eState, store := false,
           app := fun t => gridsIdle { t with rnd := { t.rnd with
             pubPend := [nth false t.rnd.pubPend 0 || bit v 0, nth false t.rnd.pubPend 1 || bit v 1] } } }
  else none

end Sys2Proof.Machine
end

