-- ==== Sys2Proof/Machine/BlkOut.lean ====
section
/-! DEFINITION. Output ports: crop, scaler, masks, format conversion, port states; the statistics record (chapter 17), and
mask groups with the inside test (R458 to R460). -/

namespace Sys2Proof.Machine

/-- Port `p`, encoder channel `e`. -/
def State.port (s : State) (p : Nat) : Port := nth {} s.out.ports p
def onPort (p : Nat) (f : Port → Port) (s : State) : State := { s with out := { s.out with ports := upd s.out.ports p f } }
def State.enc (s : State) (e : Nat) : EncChan := nth {} s.out.chans e
def onEnc (e : Nat) (f : EncChan → EncChan) (s : State) : State := { s with out := { s.out with chans := upd s.out.chans e f } }

/-- A port's source context, destination and encoder channel. -/
def State.portSrc (s : State) (p : Nat) : Nat := s.fld (OUT_CTL p) 26 24
def State.portDest (s : State) (p : Nat) : Nat := s.fld (OUT_CTL p) 21 20
def State.portEnc (s : State) (p : Nat) : Nat := s.fld (OUT_CTL p) 19 16

/-! ### The inside test (R460) -/

/-- An edge from (x1, y1) to (x2, y2) meets both conditions of R460 for the point (px / dx, py / dy). -/
def edgeCrosses (px dx py dy x1 y1 x2 y2 : Int) : Bool :=
  (decide (py < y1 * dy) != decide (py < y2 * dy)) &&
  (let l := (px - x1 * dx) * dy * (y2 - y1)
   let r := (py - y1 * dy) * (x2 - x1) * dx
   if y1 < y2 then decide (l < r) else decide (r < l))

/-- A point lies inside a polygon. -/
def insidePoly (vs : List (Int × Int)) (px dx py dy : Int) : Bool :=
  ((List.range vs.length).filter fun i =>
    let a := nth (0, 0) vs i
    let b := nth (0, 0) vs ((i + 1) % vs.length)
    edgeCrosses px dx py dy a.1 a.2 b.1 b.2).length % 2 == 1

/-- A point lies inside any polygon of a group. -/
def insideGroup (ps : List (List (Nat × Nat))) (px dx py dy : Int) : Bool :=
  ps.any fun vs => insidePoly (vs.map fun v => ((v.1 : Int), (v.2 : Int))) px dx py dy

/-! ### Scaler (R356, R357) -/

/-- A tap of a coefficient set: K_0[0] passes tap 3, the others are fixed in the engine.
DESIGN CHOICE (notes/assumptions/8.md). -/
def kTap (set ph t : Nat) : Int := if set = 0 ∧ ph = 0 then (if t = 3 then 4096 else 0) else Config.scalerTap set ph t

/-- How a tap treats special values: none, Y16 or corrected counts (R357). -/
inductive ScaleKind where
  | plain (mx : Nat)
  | rad
  | corr
  deriving DecidableEq, Repr

/-- The value that marks saturation, if the kind has one. -/
def ScaleKind.top : ScaleKind → Option Nat
  | .plain _ => none | .rad => some 0xFFFF | .corr => some 16383

/-- The divisor of pre-decimation. -/
def preDecim (nIn nOut : Nat) : Nat := if nIn ≤ 2 * nOut then 1 else if nIn ≤ 4 * nOut then 2 else 4

/-- A pre-decimated sample. DEDUCED (notes/assumptions/39.md). -/
def decimated (k : ScaleKind) (x0 d : Nat) (get : Nat → Nat) (i : Nat) : Nat :=
  let l := (List.range d).map fun t => get (x0 + d * i + t)
  match k.top with
  | some m => if l.any (· == m) then m else (l.foldl (· + ·) 0 + d / 2) / d
  | none => (l.foldl (· + ·) 0 + d / 2) / d

/-- The sample position of output `x`: index and phase. -/
def scalePos (nIn nOut x : Nat) : Int × Nat :=
  let step := roundHalfAway (65536 * (nIn / preDecim nIn nOut)) nOut
  let p := ((2 * x + 1 : Nat) * step - 65536) / 2
  (p / 65536, (p / 1024 % 64).toNat)

/-- One axis of the scaler at output position `x`, reading source samples through `get`. -/
def scaleAxis (k : ScaleKind) (x0 nIn nOut : Nat) (get : Nat → Nat) (x : Nat) : Nat :=
  let d := preDecim nIn nOut
  let n := nIn / d
  let pos := scalePos nIn nOut x
  let set := if n ≤ nOut then 0 else 1
  let taps := (List.range 8).map fun t => (kTap set pos.2 t, decimated k x0 d get (clampI 0 (n - 1 : Nat) (pos.1 - 3 + t)).toNat)
  let v := roundHalfAway (taps.foldl (fun a p => a + p.1 * p.2) 0) 4096
  let live := taps.filter fun p => p.1 != 0
  match k with
  | .plain mx => (clampI 0 mx v).toNat
  | .rad => if live.any (fun p => p.2 == 0xFFFF) then 0xFFFF else if live.all (fun p => p.2 == 0) then 0 else (clampI 1 0xFFFE v).toNat
  | .corr => if live.any (fun p => p.2 == 16383) then 16383 else (clampI 0 16383 v).toNat

/-! ### A port's picture (R355 to R359) -/

/-- Settings of a port for one frame. -/
structure PortCfg where
  x : Nat
  y : Nat
  wc : Nat
  hc : Nat
  wo : Nat
  ho : Nat
  fmt : Nat
  tap : Nat
  csc : Nat
  mgrp : Nat
  fill : Word
  deriving DecidableEq, Repr

/-- The settings that a frame gives port `p`. -/
def Frame.portCfg (f : Frame) (p : Nat) : PortCfg :=
  let c0 := f.cw (OUT_CROP0 p)
  let c1 := f.cw (OUT_CROP1 p)
  let sz := f.cw (OUT_SIZE p)
  let fm := f.cw (OUT_FMT p)
  ⟨bits c0 27 16, bits c0 11 0, bits c1 27 16, bits c1 11 0, bits sz 27 16, bits sz 11 0, bits fm 31 28, bits fm 26 24,
   bits fm 21 20, bits fm 19 16, f.cw (OUT_FILL p)⟩

/-- The tap carries a picture for this frame (R349, R360). -/
def Frame.tapOk (f : Frame) (c tap : Nat) : Bool :=
  match tap with
  | 2 => bits (f.cw (RND_FUS c)) 31 30 != 0 && f.kind != 0 && f.grid.isSome
  | 3 => f.kind == 0
  | 4 => f.kind == 0
  | _ => true

/-- The frame contains the crop window. -/
def Frame.cropOk (f : Frame) (k : PortCfg) : Bool := decide (k.x + k.wc ≤ f.w) && decide (k.y + k.hc ≤ f.h)

/-- Why a frame is not delivered (R360): 1 no tap, 2 crop. -/
def Frame.noDeliv (f : Frame) (c p : Nat) : Option Nat :=
  let k := f.portCfg p
  if !f.tapOk c k.tap then some 1 else if !f.cropOk k then some 2 else none

/-- A port's picture after scaling and masking: one or three channels in raster order, and which pixels are masked. -/
structure PortImg where
  w : Nat
  h : Nat
  ch : List (List Nat)
  masked : List Bool
  deriving DecidableEq, Repr

/-- Whether an output pixel lies in the port's mask group (R358). -/
def Frame.maskedAt (f : Frame) (k : PortCfg) (x y : Nat) : Bool :=
  decide (k.mgrp < 8) &&
    insideGroup (nth ([], 0) f.masks k.mgrp).1 (k.x * 2 * k.wo + (2 * x + 1) * k.wc : Nat) (2 * k.wo : Nat)
      (k.y * 2 * k.ho + (2 * y + 1) * k.hc : Nat) (2 * k.ho : Nat)

/-- The channels of a tap, as raster lists of a frame. -/
def tapChannels (tap : Nat) (n : NucOut) (r : RndOut) : List (List Nat) :=
  let three (l : List (Nat × Nat × Nat)) := [l.map (·.1), l.map (·.2.1), l.map (·.2.2)]
  match tap with
  | 0 => [r.y8]
  | 1 => three r.rgb
  | 2 => three (r.fused.getD [])
  | 3 => [n.y16]
  | _ => [n.y4.map (· / 4)]

/-- The picture of port `p` for a frame. -/
def portImage (f : Frame) (p : Nat) (n : NucOut) (r : RndOut) : PortImg :=
  let k := f.portCfg p
  let kind : ScaleKind := match k.tap with | 0 => .plain 255 | 3 => .rad | 4 => .corr | _ => .plain 65535
  let masked := (List.range (k.wo * k.ho)).map fun i => f.maskedAt k (i % k.wo) (i / k.wo)
  let fillOf (i : Nat) : Nat :=
    match k.tap with
    | 0 => bits k.fill 15 8
    | 1 | 2 => (match i with | 0 => bits k.fill 23 16 | 1 => bits k.fill 15 8 | _ => bits k.fill 7 0) * 257
    | _ => 0
  let one (i : Nat) (src : List Nat) : List Nat :=
    (List.range (k.wo * k.ho)).map fun q =>
      if nth false masked q then fillOf i
      else scaleAxis kind k.y k.hc k.ho (fun row => scaleAxis kind k.x k.wc k.wo (fun col => nth 0 src (row * f.w + col)) (q % k.wo)) (q / k.wo)
  ⟨k.wo, k.ho, (tapChannels k.tap n r).mapIdx one, masked⟩

/-- Y, Cb and Cr of one pixel at `n` bits from channel values of full scale `m` (R359). -/
def toYCbCr (csc nb m : Nat) (r g b : Int) : Nat × Nat × Nat :=
  let kr : Int := if csc = 2 then 2990 else 2126
  let kb : Int := if csc = 2 then 1140 else 722
  let y10 := kr * r + (10000 - kr - kb) * g + kb * b
  let sc : Int := 2 ^ (nb - 8)
  let full : Int := 2 ^ nb - 1
  let chroma (e kx : Int) : Int :=
    let num := (10000 * e - y10) * 10000
    let den := (10000 * m * 2 * (10000 - kx)).toNat
    if csc = 1 then clampI 0 full (roundHalfAway (2 ^ (nb - 1) * den + full * num) den) else roundHalfAway (sc * (128 * den + 224 * num)) den
  let y := if csc = 1 then roundHalfAway (full * y10) (10000 * m) else roundHalfAway (sc * (16 * 10000 * m + 219 * y10)) (10000 * m)
  (y.toNat, (chroma b kb).toNat, (chroma r kr).toNat)

/-- The samples of a port's picture in its format, plane by plane (R359, Table 17.1).
DEDUCED (notes/assumptions/39.md). -/
def portSamples (k : PortCfg) (g : PortImg) : List Nat :=
  let c0 := nth [] g.ch 0
  let at' (i q : Nat) : Nat := nth 0 (if g.ch.length = 3 then nth [] g.ch i else c0) q
  let size := g.w * g.h
  let m := if k.tap = 0 then 255 else 65535
  let ycc (nb : Nat) : List (Nat × Nat × Nat) := (List.range size).map fun q => toYCbCr k.csc nb m (at' 0 q) (at' 1 q) (at' 2 q)
  let blocks (l : List Nat) : List Nat :=
    (List.range (g.w / 2 * (g.h / 2))).map fun i =>
      let x := 2 * (i % (g.w / 2))
      let y := 2 * (i / (g.w / 2))
      (nth 0 l (y * g.w + x) + nth 0 l (y * g.w + x + 1) + nth 0 l ((y + 1) * g.w + x) + nth 0 l ((y + 1) * g.w + x + 1) + 2) / 4
  let pairs (l : List Nat) : List Nat := (List.range (size / 2)).map fun i => (nth 0 l (2 * i) + nth 0 l (2 * i + 1) + 1) / 2
  let weave (a b : List Nat) : List Nat := (List.zip a b).flatMap fun p => [p.1, p.2]
  match k.fmt with
  | 0 => (List.range size).flatMap fun q =>
      if k.tap = 0 then [at' 0 q, at' 0 q, at' 0 q] else [0, 1, 2].map fun i => min 255 ((at' i q + 128) / 256)
  | 1 => let l := ycc 8; l.map (·.1) ++ pairs (l.map (·.2.1)) ++ pairs (l.map (·.2.2))
  | 2 => let l := ycc 8; l.map (·.1) ++ weave (blocks (l.map (·.2.1))) (blocks (l.map (·.2.2)))
  | 3 => let l := ycc 10; (l.map (·.1) ++ weave (blocks (l.map (·.2.1))) (blocks (l.map (·.2.2)))).map (· * 64)
  | _ => c0

/-! ### Port states (R352, R361) -/

def PortSt.num : PortSt → Nat
  | .off => 0 | .on => 1 | .draining => 2

/-- A port changes state: event 0x0E8 + p. A channel of a port that becomes ON starts afresh unless it stayed ACTIVE. -/
def setPortSt (p : Nat) (st : PortSt) (s : State) : State :=
  let was := (s.port p).st
  let s := raiseN (0x0E8 + p) st.num (onPort p (fun x => { x with st }) s)
  if st = .on then
    let s := onPort p (fun x => { x with fresh := true, missed := false }) s
    if was = .off ∧ s.portDest p = 1 then
      onEnc (s.portEnc p) (fun x => { x with count := 0, pos := 0, idrForce := true, last := none, seq := 0, jobs := [] }) s
    else s
  else s

/-- A frame of the port is between its first output line and its last line's taking (R361). -/
def State.portBusy (s : State) (p : Nat) : Bool :=
  (s.sch.ctxs.any fun x => x.frames.any fun f => f.begun && f.ports.contains p) ||
  (s.out.chans.any fun x => x.jobs.any fun j => j.port == p)

/-- Frames that the port has not begun are not delivered by it any more. DEDUCED (notes/assumptions/39.md). -/
def dropUnbegun (p : Nat) (s : State) : State :=
  { s with sch := { s.sch with ctxs := s.sch.ctxs.map fun x => { x with frames := x.frames.map fun f =>
      if f.begun then f else { f with ports := f.ports.filter (· != p) } } } }

/-- EN = 1. -/
def enablePort (p : Nat) (s : State) : State :=
  match (s.port p).st with
  | .off => setPortSt p .on s
  | .on => s
  | .draining => onPort p (fun x => { x with enPend := true }) s

/-- EN = 0. -/
def disablePort (p : Nat) (s : State) : State :=
  match (s.port p).st with
  | .off => s
  | .on => let s := dropUnbegun p s; setPortSt p (if s.portBusy p then .draining else .off) s
  | .draining => onPort p (fun x => { x with enPend := false }) s

/-- A port that has drained becomes OFF, or ON with EN_PEND; one that a safe state interrupted waits (R377). -/
def portDrained (p : Nat) (s : State) : State :=
  if (s.port p).st = .draining ∧ !s.portBusy p ∧ !(s.port p).held then
    if (s.port p).enPend then setPortSt p .on (onPort p (fun x => { x with enPend := false }) s) else setPortSt p .off s
  else s

def portsDrained (s : State) : State := (List.range 8).foldl (fun s p => portDrained p s) s

/-- The safe state is forced: a port that drains a frame in flight completes its drain at the next frame event (R377). -/
def portsHeld (s : State) : State :=
  { s with out := { s.out with ports := s.out.ports.map fun x => { x with held := x.st == .draining } } }

/-- A frame event of context `c`: the drains that a safe state interrupted complete (R377).
DEDUCED (notes/assumptions/39.md). -/
def portsReleased (c : Nat) (s : State) : State :=
  (List.range 8).foldl (fun s p =>
    if (s.port p).held && s.portSrc p == c then portDrained p (onPort p (fun x => { x with held := false }) s) else s) s

/-- The ports that deliver a frame of context `c` that starts now. -/
def State.portsOn (s : State) (c : Nat) : List Nat := (List.range 8).filter fun p => (s.port p).st == .on && s.portSrc p == c

/-- The CW registers of a port. -/
def portCwRegs (p : Nat) : List Nat := [OUT_CROP0 p, OUT_CROP1 p, OUT_SIZE p, OUT_FMT p, OUT_FILL p]

/-- The CW registers that a commit of context `c` applies: the context's own and those of the ports it feeds (R353). -/
def State.commitRegs (s : State) (c : Nat) : List Nat :=
  ctxCwRegs c ++ ((List.range 8).filter fun p => s.portSrc p == c).flatMap portCwRegs

/-- At an accepted frame start, ports that begin take their own pending values (R353). -/
def portsBegin (c : Nat) (s : State) : State :=
  (s.portsOn c).foldl (fun s p =>
    if (s.port p).fresh then onPort p (fun x => { x with fresh := false }) (applyRegs (portCwRegs p) s) else s) s

/-- The active masks, as a frame takes them at its START (R459). -/
def State.masksNow (s : State) : List (List (List (Nat × Nat)) × Nat) := s.out.masks.map fun m => (m.polys, m.ver)

/-- A frame that the port produced in full, or did not deliver, at DONE (R360). -/
def portFrame (c p : Nat) (f : Frame) (s : State) : State :=
  match f.noDeliv c p with
  | none => (onPort p (fun x => { x with fnum := f.fn, missed := false }) s).count (OUT_CNT p) 31 16
  | some r =>
    let first := !(s.port p).missed
    raiseIf first (0x0F0 + p) (at_ r 28 + f.fn % 2 ^ 24) ((onPort p (fun x => { x with missed := true }) s).count (OUT_CNT p) 15 0)

/-! ### Mask groups (R458, R459) -/

/-- The pending polygons of group `g`. -/
def State.pendingMask (s : State) (g : Nat) : List (List (Nat × Nat)) :=
  (List.range 16).filterMap fun p =>
    let nv := s.fld (TEN_MGHDR g p) 3 0
    if nv = 0 then none
    else some ((List.range nv).map fun v => (s.fld (TEN_MGV g p v) 27 16, s.fld (TEN_MGV g p v) 11 0))

/-- A frame still in an output port uses an older version of group `g`. -/
def State.maskBusy (s : State) (g : Nat) : Bool :=
  let v := (nth {} s.out.masks g).ver
  s.sch.ctxs.any fun x => x.frames.any fun f =>
    decide ((nth ([], 0) f.masks g).2 < v) && f.ports.any fun p => (f.portCfg p).mgrp == g

/-- The publish of the groups named. -/
def publishMasks (v : Word) (s : State) : State :=
  (List.range 8).foldl (fun s g =>
    if bit v g then
      let ps := s.pendingMask g
      raiseN 0x1E7 g { s with out := { s.out with masks := upd s.out.masks g fun m => ⟨ps, m.ver + 1, true⟩ } }
    else s) s

/-! ### The statistics record (R375, R376) -/

/-- What a record carries beside the frame and the stages' results. -/
structure RecordFacts where
  neutral : Bool
  geom : Bool
  hotBlk : Nat
  b : Int
  deriving DecidableEq, Repr

/-- The minimum, maximum, sum and number of a zone's pixels. -/
def zoneStats (l : List Nat) : Nat × Nat × Nat × Nat := (l.foldl min (nth 0 l 0), l.foldl max 0, l.foldl (· + ·) 0, l.length)

/-- Words 1 to 2046 of the record of a frame that reached DONE (Table 17.4). -/
def statsRecord (c : Nat) (f : Frame) (n : NucOut) (d : DnrCounts) (r : RndOut) (x : RecordFacts) : List Word :=
  let st := f.cw (OUT_CSTAT c)
  let ssrc := bit st 31
  let hshift := bits st 18 16
  let hbase := bits st 15 0
  let vals := if f.kind ≠ 0 then r.rgb.map (·.2.1 / 4) else if ssrc then n.y16 else n.y4.map (· / 4)
  let bin (v : Nat) : Nat := min 1023 ((v - hbase) / 2 ^ hshift)
  let hot := vals.foldl max 0
  let cold := vals.foldl min (nth 0 vals 0)
  let hk := vals.findIdx (· == hot)
  let ck := vals.findIdx (· == cold)
  let w := f.agcWindow c
  let raw := f.kind == 0
  let agcLag := match f.agc with | some m => fnAhead m.src f.fn != 1 | none => false
  let modeFixed := bits (f.cw (RND_AGC c)) 31 30 == 0
  let w1 := b2n (f.repairs != 0) * 2 ^ 26 + b2n n.synth * 2 ^ 25 + b2n n.sun * 2 ^ 24 + b2n (raw && n.tsOld) * 2 ^ 23 +
    b2n n.radClamp * 2 ^ 22 + b2n x.neutral * 2 ^ 21 + b2n x.geom * 2 ^ 20 + b2n (raw && !modeFixed && f.agc.isNone) * 2 ^ 19 +
    b2n (raw && agcLag) * 2 ^ 18 + b2n r.isFused * 2 ^ 17 + b2n r.noOvl * 2 ^ 16 + b2n r.ovlSynth * 2 ^ 15 + b2n (!raw) * 2 ^ 14 +
    at_ f.pst 11 + at_ c 8 + sat 255 f.repairs
  let head : List Nat := [w1, f.fn, f.stampS, f.stampNs, at_ f.w 16 + f.h, if raw then at_ f.ts 16 + toBits 16 f.rate else 0,
    if raw then at_ f.tf 16 + b2n f.tsOk * 4 + b2n f.rateOk * 2 + b2n f.tfOk else 0, at_ (sat 255 x.hotBlk) 24 + n.sat,
    at_ (toBits 16 x.b) 16 + f.pres, at_ (sat 65535 d.motion) 16 + sat 65535 d.imp, at_ (sat 65535 d.norep) 16 + sat 65535 d.rep,
    (match f.agc with | some m => m.src % 2 ^ 24 | none => 0), if raw then at_ w.2.toNat 16 + w.1.toNat else 0,
    (match f.agc with | some m => m.n | none => 0), if r.isFused then r.ovlFn else 0,
    b2n ssrc * 2 ^ 31 + at_ hshift 16 + hbase, at_ (hk % f.w) 16 + hk / f.w, at_ hot 16 + cold, at_ (ck % f.w) 16 + ck / f.w]
  let hist := (List.range 1024).map fun b => (vals.filter fun v => bin v == b).length
  let zones := (List.range 192).flatMap fun z =>
    let q := zoneStats ((List.range vals.length).filterMap fun k =>
      if 16 * (k % f.w) / f.w = z % 16 ∧ 12 * (k / f.w) / f.h = z / 16 then some (nth 0 vals k) else none)
    [at_ q.1 16 + q.2.1, at_ (roundHalfAway q.2.2.1 (max 1 q.2.2.2)).toNat 16 + sat 65535 q.2.2.2]
  (head ++ List.replicate 12 0 ++ hist ++ zones).map word

/-- Words 1 to 31 of the record of a frame that broke after its START: what the START fixed, and 0 for what no stage has
computed (R375). DEDUCED (notes/assumptions/68.md). -/
def brokenRecord (c : Nat) (f : Frame) (reason : Nat) : List Word :=
  let raw := f.kind == 0
  [word (2 ^ 31 + at_ reason 27 + b2n (f.repairs != 0) * 2 ^ 26 + b2n f.press * 2 ^ 25 + b2n f.sun * 2 ^ 24 +
     at_ f.pst 11 + at_ c 8 + sat 255 f.repairs),
   word f.fn, word f.stampS, word f.stampNs, word (at_ f.w 16 + f.h), word (if raw then at_ f.ts 16 + toBits 16 f.rate else 0),
   word (if raw then at_ f.tf 16 + b2n f.tsOk * 4 + b2n f.rateOk * 2 + b2n f.tfOk else 0), 0,
   word (at_ (toBits 16 f.nucB) 16 + f.pres)] ++ List.replicate 6 0 ++ [f.cw (OUT_CSTAT c) &&& 0x8007FFFF]

/-! ### Registers -/

/-- A format's legal taps and destinations (Table 17.1), and the format that a codec takes. -/
def fmtTapOk (fmt tap : Nat) : Bool :=
  if fmt < 4 then decide (tap < 3) else match fmt with | 4 => tap == 3 | 5 => tap == 4 | 6 => tap == 0 | _ => false
def fmtDestOk (fmt dest : Nat) : Bool :=
  match dest with
  | 1 => fmt == 2 || fmt == 3
  | 3 => fmt == 4 || fmt == 6
  | _ => true
def codecFmt (codec : Nat) : Nat := if codec = 1 then 3 else 2

/-- The live words of page 0x0D. -/
def outView (a : Nat) (s : State) : Option Word :=
  if OUT_CTL 0 ≤ a ∧ a < OUT_CTL 8 ∧ (a - OUT_CTL 0) % 0x40 = 4 then
    let x := s.port ((a - OUT_CTL 0) / 0x40)
    some (word (at_ x.st.num 30 + at_ (b2n x.enPend) 29 + x.fnum % 2 ^ 24))
  else none

/-- Word `w` of the scaler's coefficient window. -/
def State.kData (s : State) (w : Nat) : Word :=
  let set := s.fld OUT_KSEL 8 8
  word (at_ (toBits 16 (kTap set (w / 4 % 64) (2 * (w % 4)))) 16 + toBits 16 (kTap set (w / 4 % 64) (2 * (w % 4) + 1)))

/-- The code of a write of OUT_PnCTL (R352). -/
def State.portCtlCode (s : State) (p : Nat) (v : Word) : Code :=
  let old := s.reg (OUT_CTL p)
  let same (hi lo : Nat) : Bool := bits v hi lo == bits old hi lo
  let src := bits v 26 24
  let dest := bits v 21 20
  let e := bits v 19 16
  let busy (q : Nat) : Bool := q != p && (s.flag (OUT_CTL q) 31 || (s.port q).st == .draining)
  let fmt := s.fld (OUT_FMT p) 31 28
  if (s.port p).st != .off && !(same 26 24 && same 21 20 && same 19 16) then .eState
  else if !bit v 31 then .ok
  else if (s.ctx src).st == .off || (dest == 1 && !s.flag (ENC_CFG e) 31) then .eCtx
  else if (dest == 1 && (List.range 8).any fun q => busy q && s.portDest q == 1 && s.portEnc q == e) ||
      (dest == 3 && (List.range 8).any fun q => busy q && s.portDest q == 3 && s.portSrc q == src) ||
      !fmtDestOk fmt dest || (dest == 1 && fmt != codecFmt (s.fld (ENC_CFG e) 30 28)) then .eState
  else .ok

/-- Crop and output sizes meet the ratios of R355. -/
def ratioOk (n o : Nat) : Bool := decide (n ≤ 8 * o) && decide (o ≤ 4 * n)

/-- What a write to the register at `off` of port `p` asks beyond its fields. -/
def outFieldWrite (p off : Nat) (v : Word) (s : State) : Option WriteRule :=
  match off with
  | 0x00 => some { pre := s.portCtlCode p v, app := if bit v 31 then enablePort p else disablePort p }
  | 0x0C => some {
      bad := bits v 27 16 % 4 != 0 || bits v 11 0 % 4 != 0 || bits v 27 16 == 0 || bits v 11 0 == 0 ||
        !ratioOk (bits v 27 16) (s.fld (OUT_SIZE p) 27 16) || !ratioOk (bits v 11 0) (s.fld (OUT_SIZE p) 11 0) }
  | 0x10 =>
    let w := bits v 27 16
    let h := bits v 11 0
    some {
      bad := w % 2 != 0 || h % 2 != 0 || !(decide (16 ≤ w) && decide (w ≤ 3840) && decide (16 ≤ h) && decide (h ≤ 2160)) ||
        !ratioOk (s.fld (OUT_CROP1 p) 27 16) w || !ratioOk (s.fld (OUT_CROP1 p) 11 0) h }
  | 0x14 =>
    let fmt := bits v 31 28
    some {
      bad := !fmtTapOk fmt (bits v 26 24) || !fmtDestOk fmt (s.portDest p) || bits v 21 20 == 3 ||
        (decide (8 ≤ bits v 19 16) && bits v 19 16 != 15) ||
        (s.portDest p == 1 && fmt != codecFmt (s.fld (ENC_CFG (s.portEnc p)) 30 28)) }
  | _ => none

/-- The writes of the OUT_ registers. -/
def outWrite (a : Nat) (v : Word) (s : State) : Option WriteRule :=
  if OUT_CTL 0 ≤ a ∧ a < OUT_CTL 8 then
    outFieldWrite ((a - OUT_CTL 0) / 0x40) ((a - OUT_CTL 0) % 0x40) v s
  else none

end Sys2Proof.Machine
end

