-- ==== Sys2Proof/Machine/BlkAna.lean ====
section
/-! DEFINITION. Analysis (chapter 18): the background model, blobs, tracks, speed, zones, and the ANA_ and TRK_ registers. -/

namespace Sys2Proof.Machine

/-- The analysis of context `c`. -/
def State.anaOf (s : State) (c : Nat) : Ana := nth {} s.ana c
def onAna (c : Nat) (f : Ana → Ana) (s : State) : State := { s with ana := upd s.ana c f }

/-- The event source `k` of context `c`. -/
def anaSrc (c k : Nat) : Nat := 0x120 + 8 * c + k

/-- The port that feeds context `c`. -/
def State.anaPort (s : State) (c : Nat) : Option Nat :=
  (List.range 8).find? fun p => (s.port p).st != .off && s.portDest p == 3 && s.portSrc p == c

/-! ### Model (R381, R382) -/

/-- Everything that a start of the model clears: tracks, IDs, memberships, sides, timers. -/
def Ana.cleared (a : Ana) : Ana :=
  { a with slots := List.replicate 64 none, nextId := 1, occ := 0, loit := 0, lastFn := none, zclear := false }

/-- The model is started with a reason (R381). -/
def modelStart (c reason : Nat) (s : State) : State :=
  if (s.anaOf c).st = .off ∧ reason ≠ 1 then s
  else
    raiseN (anaSrc c 7) reason (onAna c (fun a => { a.cleared with
      st := .learning, left := s.cwf (ANA_BG c) 7 0, started := false, job := none }) s)

/-- The analysis is disabled (R399); the port that feeds it when it is enabled again is no change of port.
DEDUCED (notes/assumptions/37.md). -/
def anaDisable (c : Nat) (s : State) : State :=
  onAna c (fun a => { a.cleared with st := .off, left := 0, job := none, fed := none }) s

/-- A CW word among a frame's values. -/
def AnaJob.cw (j : AnaJob) (a : Nat) : Word := memGet resetWord j.bank a

/-- B moved towards v by at most `step`. -/
def follow (step b v : Nat) : Nat := if b ≤ v then b + min step (v - b) else b - min step (b - v)

/-- A learning frame: the first sets B, later ones follow (R381). -/
def learnModel (first : Bool) (step : Nat) (j : AnaJob) (b : List Nat) : List Nat :=
  (List.range j.v.length).map fun k =>
    if nth false j.excluded k then (if first then Config.bgUnset k else nth 0 b k)
    else if first then nth 0 j.v k else follow (32 * step) (nth 0 b k) (nth 0 j.v k)

/-- The foreground pixels, by raster number (R382). -/
def foreground (th : Nat) (pol : Bool) (j : AnaJob) (b : List Nat) : List Nat :=
  (List.range j.v.length).filter fun k =>
    let d : Int := ((nth 0 j.v k : Nat) : Int) - (nth 0 b k : Nat)
    !nth false j.excluded k && (decide ((th : Int) < d) || (pol && decide (th < d.natAbs)))

/-- The model after a detecting frame: foreground leaves it unchanged. -/
def trackModel (step : Nat) (fg : List Nat) (j : AnaJob) (b : List Nat) : List Nat :=
  (List.range j.v.length).map fun k =>
    if nth false j.excluded k || fg.contains k then nth 0 b k else follow step (nth 0 b k) (nth 0 j.v k)

/-! ### Blobs (R383) -/

/-- A blob: its pixels, box, and foot point in 1/16 pixel. -/
structure Blob where
  px : List Nat
  x0 : Nat
  y0 : Nat
  x1 : Nat
  y1 : Nat
  deriving DecidableEq, Repr

/-- Two pixels are 8-neighbours. -/
def adjacent (w a b : Nat) : Bool :=
  decide ((((a % w : Nat) : Int) - (b % w : Nat)).natAbs ≤ 1) && decide ((((a / w : Nat) : Int) - (b / w : Nat)).natAbs ≤ 1)

/-- A foreground pixel joins the components it touches, which become one. -/
def joinPixel (w : Nat) (cs : List (List Nat)) (k : Nat) : List (List Nat) :=
  let touch := cs.filter fun c => c.any fun q => adjacent w q k
  cs.filter (fun c => !c.any fun q => adjacent w q k) ++ [touch.flatten ++ [k]]

/-- The 8-connected components of a set of pixels. DEDUCED (notes/assumptions/37.md). -/
def components (w : Nat) (fg : List Nat) : List (List Nat) := fg.foldl (joinPixel w) []

/-- The box of a component. -/
def blobOf (w : Nat) (px : List Nat) : Blob :=
  let xs := px.map (· % w)
  let ys := px.map (· / w)
  ⟨px, xs.foldl min (nth 0 xs 0), ys.foldl min (nth 0 ys 0), xs.foldl max 0, ys.foldl max 0⟩

def Blob.footX (b : Blob) : Int := 8 * (b.x0 + b.x1 + 1 : Nat)
def Blob.footY (b : Blob) : Int := 16 * (b.y1 + 1 : Nat)
def Blob.first (b : Blob) : Nat := b.px.foldl min (nth 0 b.px 0)

/-- Insertion by a key, rising. -/
def insertBy {α : Type} (key : α → Nat) (a : α) : List α → List α
  | [] => [a]
  | b :: t => if key a < key b then a :: b :: t else b :: insertBy key a t

/-- A list in rising order of a key; equal keys keep their order. -/
def sortBy {α : Type} (key : α → Nat) (l : List α) : List α := l.foldl (fun s a => insertBy key a s) []

/-- The blobs of a frame in raster order of their first pixels, and how many qualifying ones were left out. -/
def blobsOf (w mn mx : Nat) (fg : List Nat) : List Blob × Nat :=
  let all := ((components w fg).map (blobOf w)).filter fun b => decide (mn ≤ b.px.length) && (mx == 0 || decide (b.px.length ≤ 64 * mx))
  let inOrder := sortBy Blob.first all
  let bySize := sortBy (fun b => 2 ^ 32 - b.px.length) inOrder
  (sortBy Blob.first (bySize.take 256), all.length - 256)

/-! ### Speed and heading (R386 to R388) -/

/-- The rounded square root. -/
def rootRound (n : Nat) : Nat := (isqrt (4 * n) + 1) / 2

/-- The vector and the frames of a window. -/
def winX (l : List TrkStep) : Int := (l.map fun t => (t.df : Int) * t.sx).foldl (· + ·) 0
def winY (l : List TrkStep) : Int := (l.map fun t => (t.df : Int) * t.sy).foldl (· + ·) 0
def winN (l : List TrkStep) : Nat := (l.map (·.df)).foldl (· + ·) 0

/-- SPEED_PX of a window: the rounded length of its vector over its frames. -/
def speedPx (l : List TrkStep) : Nat :=
  let n := max 1 (winN l)
  (isqrt (4 * ((winX l).natAbs ^ 2 + (winY l).natAbs ^ 2) / n ^ 2) + 1) / 2

/-- tan((k + ½) · 2π / 256) scaled by 2^60, for k from 0 to 31: the boundaries of headings in the first octant.
DEDUCED (notes/assumptions/37.md). -/
def tanTable : List Nat :=
  [14149185791880476, 42464613530529150, 70831292055927830, 99283663811763906, 127856587094917147, 156585508399730172,
   185506640893168365, 214657150959168772, 244075354897443910, 273800928049751376, 303875128860528396, 334341040665645889,
   365243834351428720, 396631055446702029, 428552939716731105, 461062761935993876, 494217223247206067, 528076883392331791,
   562706645159148419, 598176299663926909, 634561142636686934, 671942673752999063, 710409393344837959, 750057713623576167,
   790993004990076735, 833330802256197302, 877198200873859257, 922735479841999395, 970097996204790531, 1019458406449987963,
   1071009283306416001, 1124966213284153595]

/-- The heading of a vector with 0 ≤ y ≤ x, in 1/256 turn: 0 to 32. -/
def octant (x y : Nat) : Nat := (tanTable.filter fun t => decide (t * x < y * 2 ^ 60)).length

/-- The heading of a vector that is not zero. DEDUCED (notes/assumptions/37.md). -/
def headingOf (x y : Int) : Nat :=
  let a := x.natAbs
  let b := y.natAbs
  let q := if b ≤ a then octant a b else 64 - octant b a
  (if 0 ≤ x ∧ 0 ≤ y then q else if x < 0 ∧ 0 ≤ y then 128 - q else if x < 0 then 128 + q else 256 - q) % 256

/-- A window keeps at most the last `n` frames. -/
def trimWindow (n : Nat) : List TrkStep → List TrkStep
  | [] => []
  | t :: l => if winN (t :: l) ≤ n then t :: l else trimWindow n l

/-- A step extends the window of R387. -/
def pushStep (n : Nat) (l : List TrkStep) (t : TrkStep) : List TrkStep := trimWindow n (l ++ [t])

/-- HEADING follows the window's vector. -/
def Track.reheaded (t : Track) : Track :=
  let x := winX t.window
  let y := winY t.window
  if x = 0 ∧ y = 0 then t else { t with heading := headingOf x y }

/-- To STILL. -/
def Track.toStill (t : Track) (now : Int) : Track :=
  { t with st := .still, window := [], streak := 0, back := [], stillAt := if t.st = .still then t.stillAt else now }

/-- The motion state after a matched frame's step (Table 18.1, R388). -/
def Track.move (t : Track) (win dstart : Nat) (now : Int) (p : TrkStep) : Track :=
  let moving := decide (dstart < rootRound (p.sx.natAbs ^ 2 + p.sy.natAbs ^ 2))
  let back := decide (p.sx * winX t.window + p.sy * winY t.window < 0)
  match t.st with
  | .still => if moving then { t with st := .starting, window := [p], streak := 1 } else { t with window := [] }
  | .starting =>
    if !moving then t.toStill now
    else
      let w := pushStep win t.window p
      if 3 ≤ t.streak + 1 then ({ t with st := .moving, window := w, streak := 0 } : Track).reheaded
      else { t with window := w, streak := t.streak + 1 }
  | .moving =>
    if moving && back then { t with st := .reversing, back := [p] }
    else
      let k := if moving then 0 else t.streak + 1
      if 3 ≤ k then t.toStill now
      else ({ t with window := pushStep win t.window p, streak := k } : Track).reheaded
  | .reversing =>
    if !moving then t.toStill now
    else if !back then
      ({ t with st := .moving, window := (t.back ++ [p]).foldl (pushStep win) t.window, back := [], streak := 0 } : Track).reheaded
    else if 3 ≤ t.back.length + 1 then
      ({ t with st := .moving, window := trimWindow win (t.back ++ [p]), back := [], streak := 0, dir := !t.dir,
                rev := sat 255 (t.rev + 1) } : Track).reheaded
    else { t with back := t.back ++ [p] }

/-- A ground coordinate's numerators and denominator at a point in 1/16 pixel (R389). -/
def ground (h : List Int) (x y : Int) : Int × Int × Int :=
  (nth 0 h 0 * x + nth 0 h 1 * y + 16 * nth 0 h 2, nth 0 h 3 * x + nth 0 h 4 * y + 16 * nth 0 h 5,
   nth 0 h 6 * x + nth 0 h 7 * y + 16 * nth 0 h 8)

/-- SPEED_KMH of a window in 0.1 km/h (R389). -/
def speedKmh (h : List Int) (l : List TrkStep) : Nat :=
  match l.head?, l.getLast? with
  | some a, some b =>
    let p := ground h a.x0 a.y0
    let q := ground h b.x1 b.y1
    let dt := (b.t1 - a.t0).natAbs
    let nx := q.1 * p.2.2 - p.1 * q.2.2
    let ny := q.2.1 * p.2.2 - p.2.1 * q.2.2
    let w := (p.2.2 * q.2.2).natAbs
    let num := 4 * (36 * 1000000000) ^ 2 * (nx.natAbs ^ 2 + ny.natAbs ^ 2)
    let den := (w * dt) ^ 2
    if den = 0 then 0xFFFE else if 131068 ^ 2 ≤ num / den then 0xFFFE else min 0xFFFE ((isqrt (num / den) + 1) / 2)
  | _, _ => 0

/-- H is valid for an output size (R390). DEDUCED (notes/assumptions/37.md). -/
def homogValid (h : List Int) (w hh : Nat) : Bool :=
  h.any (· != 0) && [(0, 0), (w - 1, 0), (0, hh - 1), (w - 1, hh - 1)].all fun p =>
    decide (0 < (ground h (16 * (p.1 : Nat)) (16 * (p.2 : Nat))).2.2)

/-! ### Association (R384, R385) -/

/-- The predicted foot point at frame `fn`. DEDUCED (notes/assumptions/37.md). -/
def Track.predict (t : Track) (fn : Nat) : Int × Int :=
  let df : Int := fnAhead t.ffn fn
  if t.st = .moving then
    let n := max 1 (winN t.window)
    (t.fx + roundHalfAway (df * winX t.window) n, t.fy + roundHalfAway (df * winY t.window) n)
  else (t.fx, t.fy)

/-- The track moved to its prediction. DEDUCED (notes/assumptions/38.md). -/
def Track.toPrediction (t : Track) (fn : Nat) : Track :=
  let p := t.predict fn
  let dx := roundHalfAway (p.1 - t.fx) 16
  let dy := roundHalfAway (p.2 - t.fy) 16
  { t with fx := p.1, fy := p.2, ffn := fn, x0 := t.x0 + dx, x1 := t.x1 + dx, y0 := t.y0 + dy, y1 := t.y1 + dy }

/-- Candidate pairs (distance, slot, blob), nearest first. -/
def candidates (fn gate : Nat) (slots : List (Option Track)) (bs : List Blob) : List (Nat × Nat × Nat) :=
  let all := (List.range slots.length).flatMap fun i => match nth none slots i with
    | none => []
    | some t =>
      let p := t.predict fn
      (List.range bs.length).filterMap fun k =>
        let b := nth ⟨[], 0, 0, 0, 0⟩ bs k
        let d := (b.footX - p.1).natAbs + (b.footY - p.2).natAbs
        if d ≤ 16 * gate then some (d, i, k) else none
  sortBy (·.1) all

/-- Greedy matching: (slot, blob) pairs, each used once. -/
def greedy (l : List (Nat × Nat × Nat)) : List (Nat × Nat) :=
  l.foldl (fun m c => if m.any (fun p => p.1 == c.2.1 || p.2 == c.2.2) then m else m ++ [(c.2.1, c.2.2)]) []

/-- A matched track takes the blob's box and foot point, and its motion is judged when it is confirmed.
DEDUCED (notes/assumptions/38.md). -/
def Track.matched (t : Track) (b : Blob) (win dstart fn : Nat) (now : Int) : Track :=
  let df := fnAhead t.mfn fn
  let p : TrkStep := ⟨df, roundHalfAway (b.footX - t.mx) (max 1 df), roundHalfAway (b.footY - t.my) (max 1 df), t.mx, t.my,
    b.footX, b.footY, t.mt, now⟩
  let t := if t.id = 0 then t else t.move win dstart now p
  { t with x0 := b.x0, y0 := b.y0, x1 := b.x1, y1 := b.y1, area := b.px.length, fx := b.footX, fy := b.footY, ffn := fn,
           mx := b.footX, my := b.footY, mfn := fn, mt := now, coast := 0, coasting := false, extrap := false, run := t.run + 1 }

/-- A new tentative track. DEDUCED (notes/assumptions/38.md). -/
def newTrack (b : Blob) (fn : Nat) (now : Int) : Track :=
  { x0 := b.x0, y0 := b.y0, x1 := b.x1, y1 := b.y1, area := b.px.length, fx := b.footX, fy := b.footY, ffn := fn, mx := b.footX,
    my := b.footY, mfn := fn, mt := now }

/-! ### Zones (R394 to R397) -/

/-- Orientation of three points, and whether a point on their line lies within the segment's box. -/
def orient (ax ay bx b_y cx cy : Int) : Int := (bx - ax) * (cy - ay) - (b_y - ay) * (cx - ax)
def onSegment (ax ay bx b_y px py : Int) : Bool :=
  decide (min ax bx ≤ px) && decide (px ≤ max ax bx) && decide (min ay b_y ≤ py) && decide (py ≤ max ay b_y)

/-- Two segments intersect, endpoints included. -/
def segmentsMeet (ax ay bx b_y cx cy dx dy : Int) : Bool :=
  let o1 := orient ax ay bx b_y cx cy
  let o2 := orient ax ay bx b_y dx dy
  let o3 := orient cx cy dx dy ax ay
  let o4 := orient cx cy dx dy bx b_y
  (decide (o1.sign * o2.sign < 0) && decide (o3.sign * o4.sign < 0)) || (o1 == 0 && onSegment ax ay bx b_y cx cy) ||
    (o2 == 0 && onSegment ax ay bx b_y dx dy) || (o3 == 0 && onSegment cx cy dx dy ax ay) || (o4 == 0 && onSegment cx cy dx dy bx b_y)

/-- The side of a LINE zone that a foot point takes: 1, −1, or 0 for within the hysteresis (R396).
DEDUCED (notes/assumptions/37.md). -/
def lineSide (z : Zone) (lhyst : Nat) (px py : Int) : Int :=
  let a := nth (0, 0) z.vs 0
  let b := nth (0, 0) z.vs 1
  let ax : Int := 16 * a.1
  let ay : Int := 16 * a.2
  let bx : Int := 16 * b.1
  let b_y : Int := 16 * b.2
  let e := (bx - ax) * (py - ay) - (b_y - ay) * (px - ax)
  let beyond := decide ((16 * lhyst) ^ 2 * ((bx - ax).natAbs ^ 2 + (b_y - ay).natAbs ^ 2) < e.natAbs ^ 2)
  if beyond then e.sign else 0

/-- A track's line sides on a frame that is not a holdover frame: the track, and the crossings as (zone, NEG). -/
def Track.lines (t : Track) (zs : List Zone) (lhyst : Nat) : Track × List (Nat × Bool) :=
  (List.range zs.length).foldl (fun acc k =>
    let z := nth {} zs k
    if z.kind ≠ 2 then acc
    else
      let t := acc.1
      let side := lineSide z lhyst t.fx t.fy
      if side = 0 then acc
      else
        let old := t.sides.lookup k
        let a := nth (0, 0) z.vs 0
        let b := nth (0, 0) z.vs 1
        let cross := match old with
          | some o => o.1 == -side && segmentsMeet o.2.1 o.2.2 t.fx t.fy (16 * a.1 : Nat) (16 * a.2 : Nat) (16 * b.1 : Nat) (16 * b.2 : Nat)
          | none => false
        ({ t with sides := aput t.sides k (side, t.fx, t.fy) }, if cross then acc.2 ++ [(k, decide (side < 0))] else acc.2)) (t, [])

/-- A track's memberships (R395, R397): the track, and the zones whose loiter event comes now. -/
def Track.areas (t : Track) (zs : List Zone) (leave : Nat) (now : Int) : Track × List Nat :=
  (List.range zs.length).foldl (fun acc k =>
    let z := nth {} zs k
    if z.kind ≠ 1 then acc
    else
      let t := acc.1
      let inside := insidePoly (z.vs.map fun v => ((v.1 : Int), (v.2 : Int))) t.fx 16 t.fy 16
      let rest := t.zones.filter (·.zone != k)
      match t.zones.find? (·.zone == k) with
      | none => if inside then ({ t with zones := rest ++ [{ zone := k, since := now }] }, acc.2) else acc
      | some m =>
        let m := { m with out := if inside then 0 else m.out + 1 }
        if leave ≤ m.out then ({ t with zones := rest }, acc.2)
        else
          let due := z.loiter != 0 && !m.loitered && decide ((z.loiter : Int) * 1000000000 ≤ now - m.since)
          ({ t with zones := rest ++ [{ m with loitered := m.loitered || due }] }, if due then acc.2 ++ [k] else acc.2)) (t, [])

/-- The zones that have a member, and those with a member whose dwell has reached LOITER_T. -/
def occWord (slots : List (Option Track)) (p : Member → Bool) : Nat :=
  (List.range 32).foldl (fun n z =>
    if slots.any (fun o => match o with | some t => t.id != 0 && t.zones.any (fun m => m.zone == z && p m) | none => false)
    then n + 2 ^ z else n) 0

/-! ### Results (R379, R384 to R397) -/

/-- A confirmed track ends with a reason. DEDUCED (notes/assumptions/37.md). -/
def endTrack (c reason : Nat) (t : Track) (s : State) : State := if t.id = 0 then s else raiseN (anaSrc c 1) (at_ reason 28 + t.id) s

/-- Every slot of a context passes through `f`. -/
def mapSlots (c : Nat) (f : Nat → Track → State → Option Track × State) (s : State) : State :=
  (List.range 64).foldl (fun s i =>
    match nth none (s.anaOf c).slots i with
    | none => s
    | some t => let r := f i t s; onAna c (fun a => { a with slots := a.slots.set i r.1 }) r.2) s

/-- Zone memberships, loiter timers, occupancy, and on frames that are not holdover frames line crossings. -/
def zonesResult (c : Nat) (j : AnaJob) (s : State) : State :=
  let zs := (s.anaOf c).zones
  let leave := bits (j.cw (TRK_SPD c)) 23 16
  let lhyst := bits (j.cw (TRK_SPD c)) 31 24
  let before := (s.anaOf c).occ
  let s := mapSlots c (fun _ t s =>
    if t.id = 0 then (some t, s)
    else
      let r := t.areas zs leave j.t
      let s := r.2.foldl (fun s z => raiseN (anaSrc c 5) (at_ z 24 + t.id) s) s
      if j.synth then (some r.1, s)
      else
        let q := r.1.lines zs lhyst
        (some q.1, q.2.foldl (fun s x =>
          let s := if x.2 then s.count (ANA_LINE c x.1) 15 0 else s.count (ANA_LINE c x.1) 31 16
          raiseN (anaSrc c 2) (b2n x.2 * 2 ^ 31 + at_ x.1 24 + t.id) s) s)) s
  let a := s.anaOf c
  let occ := occWord a.slots fun _ => true
  let s := onAna c (fun a => { a with occ, loit := occWord a.slots (·.loitered) }) s
  (List.range 32).foldl (fun s z =>
    let was := before / 2 ^ z % 2
    let now := occ / 2 ^ z % 2
    let id := (a.slots.findSome? fun o => match o with
      | some t => if t.id != 0 && t.zones.any (·.zone == z) then some t.id else none
      | none => none).getD 0
    if was = 0 ∧ now = 1 then raiseN (anaSrc c 3) (at_ z 24 + id) s
    else if was = 1 ∧ now = 0 then raiseN (anaSrc c 4) (at_ z 24) s else s) s

/-- A holdover frame: active tracks move to their predictions (R393). -/
def holdoverResult (c : Nat) (j : AnaJob) (s : State) : State :=
  mapSlots c (fun _ t s => (some (if t.id = 0 then t else { t.toPrediction j.fn with extrap := true }), s)) s

/-- B takes v at the foreground pixels inside an absorbed track's box (R392). -/
def absorb (j : AnaJob) (fg : List Nat) (t : Track) (b : List Nat) : List Nat :=
  (List.range b.length).map fun k =>
    let x : Int := (k % j.w : Nat)
    let y : Int := (k / j.w : Nat)
    if fg.contains k && decide (t.x0 ≤ x) && decide (x ≤ t.x1) && decide (t.y0 ≤ y) && decide (y ≤ t.y1) then nth 0 j.v k else nth 0 b k

/-- A detecting frame: blobs, matching, confirmation, coasting, new tracks, absorption. -/
def detectResult (c : Nat) (j : AnaJob) (s : State) : State :=
  let a := s.anaOf c
  let bg := j.cw (ANA_BG c)
  let ab := j.cw (ANA_ABS c)
  let cfg := j.cw (TRK_CFG c)
  let fg := foreground (bits bg 31 16) (bit ab 8) j a.model
  let bl := blobsOf j.w (bits (j.cw (ANA_BLOB c)) 31 16) (bits (j.cw (ANA_BLOB c)) 15 0) fg
  let s := if bl.2 = 0 then s else raiseN (anaSrc c 6) (at_ 1 28 + j.fn % 2 ^ 24) (s.count (ANA_DROP c) 31 16 bl.2)
  let m := greedy (candidates j.fn (bits cfg 31 24) a.slots bl.1)
  let free := (List.range 64).filter fun i => (nth none a.slots i).isNone
  let newBlobs := (List.range bl.1.length).filter fun k => !m.any (·.2 == k)
  let nb : Blob := ⟨[], 0, 0, 0, 0⟩
  let s := onAna c (fun a => { a with model := trackModel (bits bg 15 8) fg j a.model }) s
  let s := mapSlots c (fun i t s =>
    match m.find? (·.1 == i) with
    | some p =>
      let t := t.matched (nth nb bl.1 p.2) (bits cfg 11 4) (bits (j.cw (TRK_SPD c)) 15 0) j.fn j.t
      if t.id = 0 ∧ bits cfg 23 20 ≤ t.run then
        let id := (s.anaOf c).nextId
        (some { t with id, st := .still, stillAt := j.t },
         raiseN (anaSrc c 0) (at_ i 16 + id) (onAna c (fun a => { a with nextId := if id = 65535 then 1 else id + 1 }) s))
      else (some t, s)
    | none =>
      if t.id = 0 then (none, s)
      else
        let k := t.coast + fnAhead t.ffn j.fn
        let t := { t.toPrediction j.fn with coast := k, coasting := true, extrap := false }
        if bits cfg 19 12 < k then (none, endTrack c 1 t s) else (some t, s)) s
  let s := (List.range (min free.length newBlobs.length)).foldl (fun s k =>
    onAna c (fun a => { a with slots := a.slots.set (nth 0 free k) (some (newTrack (nth nb bl.1 (nth 0 newBlobs k)) j.fn j.t)) }) s) s
  let lost := newBlobs.length - free.length
  let s := if lost = 0 then s else raiseN (anaSrc c 6) (at_ 2 28 + j.fn % 2 ^ 24) (s.count (ANA_DROP c) 15 0 lost)
  let still := bits ab 31 16
  mapSlots c (fun _ t s =>
    if t.id ≠ 0 ∧ t.st = .still ∧ still ≠ 0 ∧ (still : Int) * 1000000000 ≤ j.t - t.stillAt then
      (none, endTrack c 2 t (onAna c (fun a => { a with model := absorb j fg t a.model }) s))
    else (some t, s)) s

/-- What a result takes over whatever it finds: its frame, the homography and the window it was made with, and, with zones published
since the last result, no membership, side or timer of the zones before (R379, R390, R394). -/
def Ana.resulted (a : Ana) (j : AnaJob) : Ana :=
  let a := { a with job := none, resFn := j.fn, resHomog := a.homog, hvalid := homogValid a.homog j.w j.h, win := j.win }
  if a.zclear then
    { a with zclear := false, occ := 0, loit := 0, slots := a.slots.map fun o => o.map fun t => { t with zones := [], sides := [] } }
  else a

/-- The analysis of a frame completes (R379); a holdover frame ends no track for a gap (R391, R393).
DEDUCED (notes/assumptions/37.md). -/
def anaResult (c : Nat) (s : State) : State :=
  match (s.anaOf c).job with
  | none => s
  | some j =>
    let s := (onAna c (fun a => a.resulted j) s).count (ANA_CNT c) 31 16
    let a := s.anaOf c
    if a.st = .off then s
    else if a.st = .learning then
      if j.synth then onAna c (fun a => { a with lastFn := some j.fn }) s
      else
        let b := learnModel (!a.started) (bits (j.cw (ANA_BG c)) 15 8) j a.model
        onAna c (fun a => { a with
          model := b, started := true, left := a.left - 1, st := if a.left ≤ 1 then .run else .learning, lastFn := some j.fn }) s
    else
      let gap := match a.lastFn with
        | some f => !j.synth && decide (bits (j.cw (ANA_ABS c)) 7 0 < fnAhead f j.fn)
        | none => false
      let s := if gap then onAna c (fun a => { a with slots := List.replicate 64 none }) (mapSlots c (fun _ t s => (none, endTrack c 3 t s)) s)
        else s
      let s := zonesResult c j (if j.synth then holdoverResult c j s else detectResult c j s)
      onAna c (fun a => { a with lastFn := some j.fn }) s

/-- A publish that waits comes into force as a frame starts analysis (R390, R394). -/
def anaPublish (c : Nat) (s : State) : State :=
  let a := s.anaOf c
  let s := if a.hpend then onAna c (fun a => { a with hpend := false, homog := (List.range 9).map fun k => (s.reg (ANA_H c k)).toInt }) s else s
  if a.zpend then
    let zs := (List.range 32).map fun z =>
      let h := s.reg (ANA_ZHDR c z)
      (⟨bits h 31 30, bits h 15 0, (List.range (bits h 27 24)).map fun v => (s.fld (ANA_ZV c z v) 27 16, s.fld (ANA_ZV c z v) 11 0)⟩ : Zone)
    onAna c (fun a => { a with zpend := false, zones := zs, zclear := true }) s
  else s

/-- The port that delivers frame `f` of context `c` to analysis. -/
def State.anaFeed (s : State) (c : Nat) (f : Frame) : Option Nat :=
  f.ports.find? fun p => s.portDest p == 3 && (f.noDeliv c p).isNone

/-- The first line of a frame reaches analysis: it is skipped while the analysis before is not complete, else publishes take effect with
it (R379, R390). DEDUCED (notes/assumptions/37.md). -/
def anaBegin (c fn : Nat) (s : State) : State :=
  match s.frame? c fn with
  | none => s
  | some f =>
    if (s.anaOf c).st = .off ∨ (s.anaFeed c f).isNone then s
    else if (s.anaOf c).job.isSome then onFrame c fn (fun f => { f with anaSkip := true }) s
    else anaPublish c s

/-- A port delivers a frame to analysis (R378, R379); a change of the feeding port shows with the first frame that another one delivers
(R381). DEDUCED (notes/assumptions/37.md). -/
def anaDeliver (c p : Nat) (f : Frame) (g : PortImg) (s : State) : State :=
  let a := s.anaOf c
  if a.st = .off then s
  else if f.anaSkip ∨ a.job.isSome then
    raiseN (anaSrc c 6) (at_ 3 28 + f.fn % 2 ^ 24) (s.count (ANA_CNT c) 15 0)
  else
    let k := f.portCfg p
    let raw := nth [] g.ch 0
    let v := if k.fmt = 4 then raw else raw.map (· * 256)
    let ex := (List.range v.length).map fun q => nth false g.masked q || (k.fmt == 4 && (nth 0 raw q == 0 || nth 0 raw q == 0xFFFF))
    let fed := (p, k.wo, k.ho, k.fmt)
    let s := match a.fed with
      | some q => if q = fed then s else modelStart c 5 s
      | none => s
    let j : AnaJob := ⟨p, k.wo, k.ho, k.fmt, v, ex, f.fn, stampNs f.stampS f.stampNs, f.press, f.bank, (k.x, k.y, k.wc, k.hc, k.wo, k.ho)⟩
    onAna c (fun a => { a with fed := some fed, job := some j }) s

/-! ### Registers -/

def ModelSt.num : ModelSt → Nat
  | .off => 0 | .learning => 1 | .run => 2
def Motion.num : Motion → Nat
  | .still => 0 | .starting => 1 | .moving => 2 | .reversing => 3

/-- Active tracks of a context. -/
def Ana.active (a : Ana) : List Track := a.slots.filterMap fun o => match o with
  | some t => if t.id = 0 then none else some t
  | none => none

/-- Word `w` of the track entry in a slot (Table 18.2). -/
def Ana.entry (a : Ana) (i w : Nat) : Word :=
  let t? := match nth none a.slots i with | some t => if t.id = 0 then none else some t | none => none
  match t? with
  | none => if w = 1 then word (a.resFn % 2 ^ 24) else 0
  | some t =>
    let n12 (x : Int) : Nat := (clampI 0 4095 x).toNat
    match w with
    | 0 => word (at_ t.id 16 + at_ t.st.num 6 + b2n t.coasting * 4 + b2n t.extrap * 2 + b2n t.dir)
    | 1 => word (at_ (sat 255 t.coast) 24 + a.resFn % 2 ^ 24)
    | 2 => word (at_ (n12 t.x0) 16 + n12 t.y0)
    | 3 => word (at_ (n12 t.x1) 16 + n12 t.y1)
    | 4 => word (at_ (toBits 16 t.fx) 16 + toBits 16 t.fy)
    | 5 =>
      let moving := t.st == .moving
      word (at_ (if moving then sat 65535 (speedPx t.window) else 0) 16 +
        (if !a.hvalid then 0xFFFF else if moving then speedKmh a.resHomog t.window else 0))
    | 6 => word (at_ t.heading 24 + at_ t.rev 16 + sat 65535 t.area)
    | _ => word (t.zones.foldl (fun n m => n + 2 ^ m.zone) 0)

/-- A bulk read of ANA_TDATA: its code and words. -/
def State.trackRead (s : State) (n : Nat) : Code × List Word :=
  let a := s.fld ANA_TADDR 8 0
  if 512 < a + n then (.eLen, [])
  else (.ok, (List.range n).map fun i => (s.anaOf (s.fld ANA_TSEL 2 0)).entry ((a + i) / 8) ((a + i) % 8))

/-- The live words of page 0x0F. -/
def anaView (a : Nat) (s : State) : Option Word :=
  if ANA_CTL 0 ≤ a ∧ a < ANA_CTL 8 then
    let c := (a - ANA_CTL 0) / 0x100
    let x := s.anaOf c
    match (a - ANA_CTL 0) % 0x100 with
    | 0x18 =>
      let p := s.anaPort c
      some (word (at_ x.st.num 30 + at_ (b2n x.hvalid) 29 + at_ (b2n p.isSome) 27 + at_ (p.getD 0) 24 + at_ x.active.length 16 + x.left))
    | 0x1C => some (word x.occ)
    | 0x20 => some (word x.loit)
    | 0x30 => some (word (b2n x.zpend * 2 + b2n x.hpend))
    | _ => none
  else none

/-- A zone header is legal (R394). -/
def zoneHdrOk (v : Word) : Bool :=
  let nv := bits v 27 24
  match bits v 31 30 with
  | 1 => decide (3 ≤ nv) && decide (nv ≤ 8)
  | 2 => nv == 2 && bits v 15 0 == 0
  | _ => true

/-- What a write to the register at `off` of the analysis engine of context `c` asks beyond its fields. -/
def anaFieldWrite (c off : Nat) (v : Word) (s : State) : Option WriteRule :=
  match off with
  | 0x00 =>
    let was := s.flag (ANA_CTL c) 31
    some { app := if bit v 31 && !was then modelStart c 1 else if !bit v 31 && was then anaDisable c else id }
  | 0x2C =>
    let x := s.anaOf c
    some { pre := chk ((bit v 0 && x.hpend) || (bit v 1 && x.zpend)) .eState, store := false,
           app := onAna c (fun x => { x with hpend := x.hpend || bit v 0, zpend := x.zpend || bit v 1 }) }
  | _ => none

/-- The writes of the ANA_ registers. -/
def anaWrite (a : Nat) (v : Word) (s : State) : Option WriteRule :=
  if a = ANA_TSEL then some { pre := chk ((s.ctx (bits v 2 0)).st == .off) .eCtx, app := fun t => t.setReg ANA_TADDR 0 }
  else if ANA_CTL 0 ≤ a ∧ a < ANA_CTL 8 then
    anaFieldWrite ((a - ANA_CTL 0) / 0x100) ((a - ANA_CTL 0) % 0x100) v s
  else if ANA_ZHDR 0 0 ≤ a ∧ a < ANA_ZHDR 8 0 ∧ (a - ANA_ZHDR 0 0) % 0x40 = 0 then some { bad := !zoneHdrOk v }
  else none

end Sys2Proof.Machine
end

