-- ==== Sys2Proof/Machine/BlkEnc.lean ====
section
/-! DEFINITION. The encoder (chapter 17): stripes and their service, decimation, skips, IDR frames, layers, descriptors, the
rings, the load, and the ENC_ registers. What takes a coded frame onwards is in Pipeline.lean. -/

namespace Sys2Proof.Machine

/-! ### Channels -/

/-- The port that names channel `e` and is ON or DRAINING. -/
def State.encPort (s : State) (e : Nat) : Option Nat :=
  (List.range 8).find? fun p => (s.port p).st != .off && s.portDest p == 1 && s.portEnc p == e

/-- CODEC, LEVELS, DECIM and the ring's size in bytes. -/
def State.codec (s : State) (e : Nat) : Nat := s.fld (ENC_CFG e) 30 28
def State.levels (s : State) (e : Nat) : Nat := s.fld (ENC_CFG e) 27 26
def State.decim (s : State) (e : Nat) : Nat := s.fld (ENC_RC e) 31 24
def State.ringSize (s : State) (e : Nat) : Nat := s.fld (ENC_BUF e) 7 0 * 65536

/-- Bytes of a coded frame in the ring: descriptor and coded bytes. -/
def Coded.len (c : Coded) : Nat := (nth 0 c.desc 4).toNat
def Coded.fn (c : Coded) : Nat := (nth 0 c.desc 1).toNat
def Coded.seq (c : Coded) : Nat := (nth 0 c.desc 5).toNat
def Coded.isIdr (c : Coded) : Bool := bit (nth 0 c.desc 0) 17
def Coded.chan (c : Coded) : Nat := bits (nth 0 c.desc 0) 27 24
def Coded.codec (c : Coded) : Nat := bits (nth 0 c.desc 0) 31 28
def Coded.ctx (c : Coded) : Nat := bits (nth 0 c.desc 0) 22 20
def Coded.ptpS (c : Coded) : Nat := (nth 0 c.desc 2).toNat
def Coded.ptpNs (c : Coded) : Nat := (nth 0 c.desc 3).toNat

/-- Bytes held in a ring. -/
def EncChan.used (x : EncChan) : Nat := (x.ring.map fun c => 32 + c.len).foldl (· + ·) 0

/-! ### Layers and IDR frames (R366, R367) -/

/-- Trailing zero bits of a number below 2^n; n for zero. -/
def trailing (n k : Nat) : Nat := ((List.range n).find? fun b => k / 2 ^ b % 2 == 1).getD n

/-- The layer of position `k` with `l` levels. -/
def layerOf (l k : Nat) : Nat := let g := 2 ^ (l - 1); if k % g = 0 then 0 else l - 1 - trailing (l - 1) (k % g)

/-- Coding of a frame begins as IDR. -/
def State.startsIdr (s : State) (e : Nat) (j : EncJob) : Bool :=
  let x := s.enc e
  let iper := s.fld (ENC_CFG e) 15 0
  let igap := s.fld (ENC_CFG e) 19 16
  x.last.isNone || x.idrForce || x.idrReq || (iper != 0 && x.pos == iper) ||
    (match x.last with
     | some l => l.2.1 != j.w || l.2.2 != j.h || (igap != 0 && decide (igap * s.decim e < fnAhead l.1 j.fn))
     | none => false)

/-- A box of an active track, mapped through crop and scale, meets the coding port's window (R372). -/
def State.roiPresent (s : State) (e : Nat) (j : EncJob) : Bool :=
  let a := s.anaOf j.ctx
  let w := a.win
  let meet (lo hi x0 wc wo cx cw : Nat) : Bool :=
    decide (x0 * wo + lo * wc < (cx + cw) * wo) && decide (cx * wo < x0 * wo + (hi + 1) * wc)
  s.flag (ENC_QP e) 7 && s.codec e != 3 && a.active.any fun t =>
    meet t.x0.toNat t.x1.toNat w.1 w.2.2.1 w.2.2.2.2.1 j.crop.1 j.crop.2.2.1 &&
    meet t.y0.toNat t.y1.toNat w.2.1 w.2.2.2.1 w.2.2.2.2.2 j.crop.2.1 j.crop.2.2.2

/-! ### Service (R368, R369) -/

/-- A frame is skipped, whole and uncoded (R369). -/
def encSkip (e reason fn : Nat) (s : State) : State := raiseN (0x100 + e) (at_ reason 28 + fn % 2 ^ 24) (s.count (ENC_CNT e) 15 0)

/-- The first job of a channel with a ready stripe, and the order number of that stripe. -/
def EncChan.front (x : EncChan) : Option (EncJob × Nat) :=
  match x.jobs with
  | j :: _ => j.waiting.head?.map fun w => (j, w.1)
  | [] => none

/-- The channel to serve next: highest PRIO, then the stripe that became ready first. -/
def State.encNext (s : State) : Option Nat :=
  (List.range 16).foldl (fun best e => match (s.enc e).front with
    | none => best
    | some f => match best with
      | none => some e
      | some b =>
        let pe := s.fld (ENC_CFG e) 25 24
        let pb := s.fld (ENC_CFG b) 25 24
        let ob := match (s.enc b).front with | some g => g.2 | none => 0
        if pb < pe ∨ (pb = pe ∧ f.2 < ob) then some e else some b) none

/-- Coding of the front job of a channel begins: its position, layer and IDR are fixed; or it is skipped for want of ring
space (reason 2). -/
def encBegin (e : Nat) (j : EncJob) (s : State) : State × Bool :=
  let x := s.enc e
  if 4 * (s.ringSize e - x.used) < s.ringSize e then
    (encSkip e 2 j.fn (onEnc e (fun x => { x with jobs := x.jobs.tail }) s), false)
  else
    let jpeg := s.codec e == 3
    let idr := jpeg || s.startsIdr e j
    let pos := if idr then 0 else x.pos
    let layer := if jpeg then 0 else layerOf (s.levels e) pos
    let refer := !jpeg && (s.levels e == 1 || decide (layer + 1 < s.levels e))
    let j := { j with begun := true, pos, layer, idr, refer, roi := s.roiPresent e j, jpg := s.reg (ENC_JPG e) }
    (onEnc e (fun x => { x with jobs := j :: x.jobs.tail, idrReq := false, idrForce := false }) s, true)

/-- The idle encoder takes up the next ready stripe. -/
def encServe : Nat → State → State
  | 0, s => s
  | k + 1, s =>
    if s.out.cur.isSome || !s.serves then s
    else match s.encNext with
      | none => s
      | some e => match (s.enc e).jobs with
        | [] => s
        | j :: _ =>
          if j.begun then { s with out := { s.out with cur := some e } }
          else
            let r := encBegin e j s
            if r.2 then { r.1 with out := { r.1.out with cur := some e } } else encServe k r.1

/-- Service with as many trials as there can be frames waiting. -/
def encGo (s : State) : State := portsDrained (encServe 64 s)

/-! ### Stripes become ready -/

/-- The last source row that output row `y` of a port needs (R356). -/
def PortCfg.rowNeeded (k : PortCfg) (y : Nat) : Nat :=
  let d := preDecim k.hc k.ho
  let n := k.hc / d
  k.y + d * (clampI 0 (n - 1 : Nat) ((scalePos k.hc k.ho y).1 + 4)).toNat + d - 1

/-- Stripes of a frame that are ready once `rows` source rows are done. -/
def PortCfg.stripesReady (k : PortCfg) (rows : Nat) : Nat :=
  ((List.range (ceilDiv k.ho 64)).filter fun j => decide (k.rowNeeded (min (64 * (j + 1)) k.ho - 1) < rows)).length

/-- The first stripe of a frame becomes ready: decimation by the DECIM of that moment, SNAP, and reason 1 (R365, R369, R374).
DEDUCED (notes/assumptions/41.md). -/
def encFirst (e p c : Nat) (f : Frame) (s : State) : State :=
  let x := s.enc e
  let d := s.decim e
  let snap := x.snap && s.codec e == 3
  let take := (d != 0 && x.count % d == 0) || snap
  let s := onEnc e (fun x => { x with count := x.count + 1, seen := some f.fn, snap := x.snap && !snap }) s
  if !take then s
  else if 2 ≤ x.jobs.length then encSkip e 1 f.fn s
  else
    let k := f.portCfg p
    let j : EncJob := { port := p, ctx := c, fn := f.fn, w := k.wo, h := k.ho, mgrp := k.mgrp, synth := f.press, sun := f.sun,
                        stampS := f.stampS, stampNs := f.stampNs, stripes := ceilDiv k.ho 64, crop := (k.x, k.y, k.wc, k.hc) }
    onEnc e (fun x => { x with jobs := x.jobs ++ [j] }) s

/-- One more stripe of a frame is ready. -/
def encReady (e fn : Nat) (s : State) : State :=
  let o := s.out.order
  let s := onEnc e (fun x => { x with jobs := x.jobs.map fun j =>
    if j.fn = fn then { j with ready := j.ready + 1, waiting := j.waiting ++ [(o, s.time)] } else j }) s
  { s with out := { s.out with order := o + 1 } }

/-- `rows` source rows of a frame are done: its ports to the encoder have more stripes ready. -/
def encAdvance (c : Nat) (f : Frame) (rows : Nat) (s : State) : State :=
  encGo (f.ports.foldl (fun s p =>
    if s.portDest p ≠ 1 ∨ (f.noDeliv c p).isSome then s
    else
      let e := s.portEnc p
      let n := (f.portCfg p).stripesReady rows
      if n = 0 then s
      else
        let s := if (s.enc e).seen = some f.fn then s else encFirst e p c f s
        match (s.enc e).jobs.find? (·.fn == f.fn) with
        | some j => (List.range (n - j.ready)).foldl (fun s _ => encReady e f.fn s) s
        | none => s) s)

/-! ### A stripe is coded (R368, R373) -/

/-- The descriptor of a coded frame (Table 17.3). DEDUCED (notes/assumptions/41.md). -/
def EncJob.desc (j : EncJob) (codec e len seq : Nat) : List Word :=
  [word (at_ codec 28 + at_ e 24 + at_ j.ctx 20 + at_ j.layer 18 + b2n j.idr * 2 ^ 17 + b2n j.refer * 2 ^ 16 + b2n j.synth * 2 ^ 15 +
     b2n j.sun * 2 ^ 14 + b2n j.roi * 2 ^ 13),
   word j.fn, word j.stampS, word j.stampNs, word len, word seq, word (at_ j.w 16 + j.h), 0]

/-- A frame is completely coded: descriptor, counts, position. `nals` are the sizes of the NAL units the encoder made, or
the size of the entropy-coded data of a JPEG frame; a coded frame never exceeds a quarter of the ring.
DEDUCED (notes/assumptions/41.md). -/
def encFinish (e : Nat) (j : EncJob) (len : Nat) (nals : List Nat) (s : State) : Coded × State :=
  let x := s.enc e
  let codec := s.codec e
  let len := min len (s.ringSize e / 4 - 32)
  let jpeg := codec == 3
  let skippable := jpeg || (decide (2 ≤ s.levels e) && j.layer + 1 == s.levels e && !j.refer)
  let cd : Coded := ⟨j.desc codec e len x.seq, j.mgrp, skippable, nals, j.jpg, s.draws⟩
  let s := onEnc e (fun x => { x with
    jobs := x.jobs.tail, ring := x.ring ++ [cd], seq := x.seq + 1, pos := j.pos + 1, last := some (j.fn, j.w, j.h)
    layer := j.layer, idr := j.idr, fnum := j.fn, bytes := len
    codedAt := if jpeg then s.time :: x.codedAt.filter (fun t => decide (s.time < t + 1000 * msTicks)) else [] }) s
  (cd, s.draw.2.count (ENC_CNT e) 31 16)

/-- The stripe in service is coded. The answer names the channel and the frame when that completes it.
DESIGN CHOICE (notes/assumptions/8.md). -/
def encStripe (len : Nat) (nals : List Nat) (s : State) : Option (Nat × Coded) × State :=
  match s.out.cur with
  | none => (none, s)
  | some e => match (s.enc e).jobs with
    | [] => (none, { s with out := { s.out with cur := none } })
    | j :: t =>
      let us := match j.waiting.head? with | some w => (s.time - w.2) / 25 | none => 0
      let s := s.setFld (ENC_LAT e) 31 16 (max (s.fld (ENC_LAT e) 31 16) (sat 65535 us))
      let s := onEnc e (fun x => { x with lat := sat 65535 us }) { s with out := { s.out with cur := none } }
      let j := { j with coded := j.coded + 1, waiting := j.waiting.tail }
      if j.stripes ≤ j.coded then
        let r := encFinish e j len nals s
        (some (e, r.1), r.2)
      else (none, onEnc e (fun x => { x with jobs := j :: t }) s)

/-- The first job of a channel leaves uncoded after its coding began: an IDR that it was to be is owed to the next one (R367).
DEDUCED (notes/assumptions/41.md). -/
def idrOwed (j : EncJob) (x : EncChan) : EncChan := { x with idrForce := x.idrForce || (j.begun && j.idr) }

/-- A frame of context `c` broke: it leaves the encoder (R362, R370). -/
def encBreak (c fn : Nat) (s : State) : State :=
  encGo ((List.range 16).foldl (fun s e =>
    match (s.enc e).jobs.find? (fun j => j.ctx == c && j.fn == fn) with
    | none => s
    | some j =>
      let s := onEnc e (fun x => idrOwed j { x with jobs := x.jobs.filter fun i => !(i.ctx == c && i.fn == fn) }) s
      let s := if j.begun ∧ s.out.cur = some e then { s with out := { s.out with cur := none } } else s
      raiseIf j.begun (0x100 + e) (at_ 3 28 + fn % 2 ^ 24) s) s)

/-- Frames in the encoder are lost: the safe state, a reset, DRAM_LOST. -/
def encDrop (s : State) : State :=
  portsDrained ((List.range 16).foldl (fun s e =>
    (s.enc e).jobs.foldl (fun s j => raiseIf j.begun (0x100 + e) (at_ 3 28 + j.fn % 2 ^ 24) s)
      (onEnc e (fun x => { x.jobs.foldl (fun x j => idrOwed j x) x with jobs := [] }) s)) { s with out := { s.out with cur := none } })

/-- References are discarded: the next coded frame of every channel is IDR (R367, R377). -/
def encForceIdr (s : State) : State := (List.range 16).foldl (fun s e => onEnc e (fun x => { x with idrForce := true }) s) s

/-- The rings are emptied (DRAM_LOST). -/
def ringsLost (s : State) : State := (List.range 16).foldl (fun s e => onEnc e (fun x => { x with ring := [] }) s) s

/-! ### Load (R371) -/

/-- DEMAND in pixel/s times 10^0: the sum over ACTIVE channels. DEDUCED (notes/assumptions/39.md). -/
def State.encDemand (s : State) : Nat :=
  ((List.range 16).map fun e =>
    match s.encPort e with
    | none => 0
    | some p =>
      let sz := s.cw (OUT_SIZE p)
      let px := bits sz 27 16 * bits sz 11 0
      if s.codec e = 3 then px * ((s.enc e).codedAt.filter fun t => decide (s.time < t + 1000 * msTicks)).length
      else
        let fper := (s.ctx (s.portSrc p)).fper
        if fper = 0 ∨ s.decim e = 0 then 0 else px * 100000 / (fper * s.decim e)).foldl (· + ·) 0

/-- The capacity in Mpixel/s. -/
def State.encCap (s : State) : Nat := if s.clk.eaves then 260 else 520

/-- OVER follows DEMAND; its event is raised when it sets. -/
def encLoad (s : State) : State :=
  let d := s.encDemand
  let exceeded := decide (s.encCap * 1000000 < d)
  raiseIf (exceeded && !s.out.exceeded) 0x110 (sat 65535 (d / 1000000)) { s with out := { s.out with exceeded } }

/-! ### Registers -/

/-- The live words of page 0x0E. -/
def encView (a : Nat) (s : State) : Option Word :=
  if a = ENC_LOAD then some (word (at_ (sat 65535 (s.encDemand / 1000000)) 16 + s.encCap))
  else if a = ENC_STAT then some (word (b2n s.out.exceeded * 2 ^ 31))
  else if ENC_CFG 0 ≤ a ∧ a < ENC_CFG 16 then
    let e := (a - ENC_CFG 0) / 0x40
    let x := s.enc e
    match (a - ENC_CFG 0) % 0x40 with
    | 0x14 =>
      let st := if !s.flag (ENC_CFG e) 31 then 0 else if (s.encPort e).isSome then 2 else 1
      some (word (at_ st 30 + at_ x.layer 28 + b2n x.idr * 2 ^ 27 + x.fnum % 2 ^ 24))
    | 0x18 => some (word x.bytes)
    | _ => none
  else none

/-- What a write to the register at `off` of encoder `e` asks beyond its fields. -/
def encFieldWrite (e off : Nat) (v : Word) (s : State) : Option WriteRule :=
  let busy := chk (s.encPort e).isSome .eState
  match off with
  | 0x00 =>
    let iper := bits v 15 0
    some { pre := busy, bad := iper % 2 ^ (bits v 27 26 - 1) != 0 || decide (65528 < iper) }
  | 0x04 =>
    let new := bits v 31 24 != s.decim e
    some { bad := s.codec e != 3 && bits v 31 24 == 0,
           app := fun t => if new then onEnc e (fun x => { x with count := 0 }) t else t }
  | 0x08 => some { bad := decide (bits v 25 20 < bits v 31 26) }
  | 0x10 =>
    some { pre := chk (bit v 1 && s.codec e != 3) .eState, store := false,
           app := onEnc e (fun x => { x with snap := x.snap || bit v 1, idrReq := x.idrReq || bit v 0 }) }
  | 0x24 => some { pre := busy }
  | _ => none

/-- The writes of the ENC_ registers (R364, R365, R367, R374). -/
def encWrite (a : Nat) (v : Word) (s : State) : Option WriteRule :=
  if ENC_CFG 0 ≤ a ∧ a < ENC_CFG 16 then
    encFieldWrite ((a - ENC_CFG 0) / 0x40) ((a - ENC_CFG 0) % 0x40) v s
  else none

end Sys2Proof.Machine
end

