-- ==== Sys2Proof/Machine/BlkSwitch.lean ====
section
/-! DEFINITION. The three-port switch (chapter 20): forwarding, VLANs, queues, snooping, the transparent clock, the PTP
counter, links, error counters and quarantine. -/

namespace Sys2Proof.Machine

/-- A switch port: 0 CHA, 1 CHB, 2 HP. -/
def State.swPort (s : State) (p : Nat) : SwPort := nth {} s.sw.ports p

def onSw (f : Switch → Switch) (s : State) : State := { s with sw := f s.sw }

def onSwPort (p : Nat) (f : SwPort → SwPort) (s : State) : State := onSw (fun w => { w with ports := upd w.ports p f }) s

/-- The switch works from the end of start-up step 9, but not while the clocks are stopped or in Rind (R42, R454). -/
def State.swUp (s : State) : Bool :=
  (s.start.phase == .up || s.start.phase == .entering || (s.start.phase == .start && decide (9 < s.start.step ∧ s.start.step < 15))) && !s.clk.waiting

/-- A port's role: 0 OFF, 1 CHAIN, 2 UPLINK. HP resets to OFF. -/
def State.role (s : State) (p : Nat) : Nat := s.fld (SW_PCTL p) 29 28

/-- FWD of SW_PnSTAT: 0 FORWARD, 1 VELVA_ONLY, 2 BLOCKED, 3 QUARANTINE. -/
def SwPort.fwd (p : SwPort) : Nat := if p.quar then 3 else if p.blocked then 2 else if p.velvaOnly then 1 else 0

/-- A port that can carry frames: enabled, its link up. -/
def State.portUp (s : State) (p : Nat) : Bool := s.flag (SW_PCTL p) 31 && (s.swPort p).link && s.swUp

/-! ### Bytes -/

/-- `n` bytes from `o`, most significant first. -/
def be (b : List Nat) (o n : Nat) : Nat := ((b.drop o).take n).foldl (fun v x => 256 * v + x % 256) 0

/-- A value as `n` bytes, most significant first. -/
def toBe (v n : Nat) : List Nat := (List.range n).map fun i => v / 256 ^ (n - 1 - i) % 256

/-- `n` bytes from `o` replaced by a value. -/
def setBe (b : List Nat) (o n v : Nat) : List Nat := b.take o ++ toBe v n ++ b.drop (o + n)

/-- The IEEE 802.1Q tag of a frame, if it has one, its EtherType and where its payload begins. -/
def etherType (b : List Nat) : Option Nat × Nat × Nat :=
  if be b 12 2 = 0x8100 then (some (be b 14 2), be b 16 2, 18) else (none, be b 12 2, 14)

/-- A port's own MAC address (Table 20.9). -/
def ownMac (p : Nat) : Nat := 0x0257 * 2 ^ 32 + Config.portMac p % 2 ^ 32

/-- The Velva multicast address. -/
def velvaMac : Nat := 0x0157A100564C

/-! ### PTP time (R425, R428) -/

/-- The PTP counter in ns. -/
def State.ptp (s : State) : Int := ((s.ptpS * 1000000000 + s.ptpNs : Nat) : Int)

/-- The counter set to a number of ns, modulo 2^32 seconds. DEDUCED (notes/assumptions/62.md). -/
def setPtp (t : Int) (s : State) : State :=
  let m := t % (2 ^ 32 * 1000000000)
  { s with ptpS := (m / 1000000000).toNat, ptpNs := (m % 1000000000).toNat }

/-- A peripheral-clock tick is five network clocks of 8 ns, corrected by SW_PTP_RATE (R425).
DESIGN CHOICE (notes/assumptions/2.md), DEDUCED (notes/assumptions/62.md). -/
def ptpTick (s : State) : State :=
  let f := s.sw.frac + 40 * sbits (s.reg SW_PTP_RATE) 31 0
  setPtp (s.ptp + 40 + f / 1000000000) (onSw (fun w => { w with frac := f % 1000000000 }) s)

/-- TIER (R429). -/
def State.tier (s : State) : Nat := if s.flag SW_PTP_SYNC 0 then 0 else s.sw.followed.getD 255

/-- The counter stops with its domain (R63, R428). -/
def ptpStops (s : State) : State := onSw (fun w => { w with stoppedAt := s.time }) s

/-- The counter continues: SYNC clears, and event 0x1C8 gives the stop in ms as measured on the RC oscillator or the LFO, a
measurement the model leaves open (R428). A followed time does not outlast the stop.
DESIGN CHOICE (notes/assumptions/7.md), DEDUCED (notes/assumptions/62.md). -/
def ptpResumes (s : State) : State :=
  let p := s.draw
  raise 0x1C8 p.1 (onSw (fun w => { w with followed := none }) (p.2.setFld SW_PTP_SYNC 0 0 0))

/-! ### PTP messages (R426, R427), laid out as IEEE 1588-2019 has them -/

/-- Where a PTP message begins in a frame, and where the UDP checksum of an Annex D frame stands. -/
def ptpAt (b : List Nat) : Option (Nat × Option Nat) :=
  let e := etherType b
  let o := e.2.2
  if e.2.1 = 0x88F7 then some (o, none)
  else if e.2.1 = 0x0800 ∧ be b (o + 9) 1 = 17 then
    let u := o + 4 * (be b o 1 % 16)
    if be b (u + 2) 2 = 319 ∨ be b (u + 2) 2 = 320 then some (u + 8, none) else none
  else if e.2.1 = 0x86DD ∧ be b (o + 6) 1 = 17 then
    let u := o + 40
    if be b (u + 2) 2 = 319 ∨ be b (u + 2) 2 = 320 then some (u + 8, some (u + 6)) else none
  else none

/-- messageType, when the frame carries a PTP message. PRESUMED (notes/assumptions/46.md). -/
def ptpType (b : List Nat) : Option Nat := (ptpAt b).map fun m => be b m.1 1 % 16

/-- A PTP event message: Sync, Delay_Req, Pdelay_Req or Pdelay_Resp. PRESUMED (notes/assumptions/46.md). -/
def ptpEvent (b : List Nat) : Bool :=
  match ptpType b with
  | some t => decide (t < 4)
  | none => false

/-- The one's complement checksum `c` after a 64-bit field changes from `x` to `y`. -/
def fixChecksum (c x y : Nat) : Nat :=
  let w (v i : Nat) : Nat := v / 2 ^ (16 * i) % 65536
  let sum := (List.range 4).foldl (fun t i => t + (65535 - w x i) + w y i) (65535 - c)
  let f := sum % 65536 + sum / 65536
  let r := 65535 - (f % 65536 + f / 65536)
  if r = 0 then 65535 else r

/-- `ns` added to the correctionField of the message; the UDP checksum follows where Annex D requires it.
DESIGN CHOICE (notes/assumptions/7.md), PRESUMED (notes/assumptions/46.md). -/
def addCorrection (b : List Nat) (ns : Int) : List Nat :=
  match ptpAt b with
  | none => b
  | some (o, ck) =>
    let x := be b (o + 8) 8
    let y := toBits 64 (ofBits 64 x + ns * 65536)
    let b' := setBe b (o + 8) 8 y
    match ck with
    | some c => setBe b' c 2 (fixChecksum (be b c 2) x y)
    | none => b'

/-- A timestamp FIFO entry (Table 20.9, SW_TSDATA): the newest is discarded when 64 are held (R427). -/
def stampFifo (p : Nat) (egress : Bool) (b : List Nat) (t : Int) (s : State) : State :=
  match ptpAt b with
  | none => s
  | some (o, _) =>
    if 256 < s.sw.fifo.length + 4 then raiseN 0x1C9 0 (s.setFld SW_TSSTAT 31 31 1)
    else
      let e := [word (at_ p 30 + at_ (b2n egress) 29 + at_ (be b o 1 % 16) 24 + be b (o + 30) 2), word (at_ (be b (o + 4) 1) 24),
        word (t / 1000000000).toNat, word (t % 1000000000).toNat]
      onSw (fun w => { w with fifo := w.fifo ++ e }) s

/-- The transparent clock at the moment a frame leaves external port `p` (R426): residence time, with its uncertainty of ±16 ns
left open, and in P2P mode the entry port's link delay and ASYM, go into the message or wait for its follow-up.
PRESUMED (notes/assumptions/46.md). -/
def correct1588 (p : Nat) (f : QFrame) (s : State) : List Nat × State :=
  match ptpAt f.bytes, s.fld SW_PTP_CFG 1 0 == 0 with
  | some (o, _), false =>
    let b := f.bytes
    let ty := be b o 1 % 16
    let dom := be b (o + 4) 1
    let pid := be b (o + 20) 10
    let seq := be b (o + 30) 2
    if ty < 4 then
      let d := s.draw
      let res := s.ptp - f.tin + ((d.1.toNat % 33 : Nat) : Int) - 16
      let corr := if ty = 0 ∧ s.fld SW_PTP_CFG 1 0 = 2 ∧ f.inp < 2 then
          res + (s.swPort f.inp).delay + sbits (s.reg (SW_PPTP f.inp)) 15 0 else res
      if be b (o + 6) 1 / 2 % 2 = 1 ∧ (ty = 0 ∨ ty = 3) then
        (b, onSw (fun w => { w with tcs := w.tcs ++ [⟨p, f.inp, ty, seq, dom, pid, corr⟩] }) d.2)
      else (addCorrection b corr, d.2)
    else if ty = 8 ∨ ty = 10 then
      let hit (e : TcEntry) : Bool := e.out == p && e.inp == f.inp && e.seq == seq && e.dom == dom && e.pid == pid &&
        e.ty == (if ty = 8 then 0 else 3)
      match s.sw.tcs.find? hit with
      | some e => (addCorrection b e.corr, onSw (fun w => { w with tcs := w.tcs.filter fun x => !hit x }) s)
      | none => (b, s)
    else (b, s)
  | _, _ => (f.bytes, s)

/-! ### Queues and transmission (R423) -/

/-- The size of queue `q` of an external port in bytes (Table 20.2). DESIGN CHOICE (notes/assumptions/47.md). -/
def queueSize (q : Nat) : Nat := 1024 * [32, 64, 64, 64, 16, 16].getD q 0

/-- The queue of a PCP; PTP event messages go into Q4 (R423). -/
def queueOf (pcp : Nat) (event : Bool) : Nat := if event then 4 else if pcp < 3 then 0 else pcp - 2

/-- The bits a frame takes on the wire, with preamble and gap. -/
def wireBits (len : Nat) : Nat := 8 * (max 64 len + 20)

/-- A frame is a Velva frame: by its destination and its EtherType (R431). -/
def State.isVelva (s : State) (b : List Nat) : Bool := be b 0 6 == velvaMac && (etherType b).2.1 == s.fld VLV_ETYPE 15 0

/-- The forwarding state of port `p` lets a frame pass (Table 20.6, R436, R443): FORWARD every frame, QUARANTINE only ALARM,
HOP_ACK and PROBE frames, VELVA_ONLY and BLOCKED only Velva frames. DESIGN CHOICE (notes/assumptions/47.md). -/
def State.mayPass (s : State) (p : Nat) (b : List Nat) : Bool :=
  let ty := be b (etherType b).2.2 1 % 16
  match (s.swPort p).fwd with
  | 0 => true
  | 3 => s.isVelva b && (ty == 6 || ty == 7 || ty == 12)
  | _ => s.isVelva b

/-- The first frame of a queue that may pass, and the queue without it. -/
def takeFirst (ok : QFrame → Bool) : List QFrame → Option (QFrame × List QFrame)
  | [] => none
  | f :: t => if ok f then some (f, t) else (takeFirst ok t).map fun r => (r.1, f :: r.2)

/-- An idle port whose link is up begins to send the first frame of its highest queue that may pass it.
DESIGN CHOICE (notes/assumptions/47.md). -/
def pump (p : Nat) (s : State) : State :=
  let pt := s.swPort p
  if pt.tx.isSome || !s.portUp p then s
  else
    let ok (f : QFrame) : Bool := s.mayPass p f.bytes
    match ([5, 4, 3, 2, 1, 0].find? fun q => (nth [] pt.queues q).any ok) with
    | none => s
    | some q =>
      match takeFirst ok (nth [] pt.queues q) with
      | none => s
      | some (f, rest) =>
        let s := onSwPort p (fun x => { x with queues := x.queues.set q rest }) s
        let c := if f.inp < 3 ∨ f.inp = 4 ∧ ptpType f.bytes = some 3 then correct1588 p f s else (f.bytes, s)
        let s := c.2
        let s := if ptpEvent c.1 ∧ f.inp = 2 ∧ p < 2 then stampFifo p true c.1 s.ptp s else s
        let s := if f.inp = 4 ∧ ptpType f.bytes = some 2 then onSwPort p (fun x => { x with pdT1 := some s.ptp }) s else s
        onSwPort p (fun x => { x with tx := some ({ f with bytes := c.1 }, wireBits f.len) }) s

/-- A frame joins queue `q` of port `p`, or is dropped whole and counted when the queue has no room for it (R423); a frame that
may not pass the port is not queued, and a quarantined port counts it (R421, R436). DESIGN CHOICE (notes/assumptions/47.md). -/
def enqueueFrame (p q : Nat) (f : QFrame) (s : State) : State :=
  let used := (nth [] (s.swPort p).queues q).foldl (fun n x => n + x.len) 0
  if !s.mayPass p f.bytes then (if (s.swPort p).quar then s.count (SW_PDROP p) 15 0 else s)
  else if queueSize q < used + f.len then s.count (SW_PDROP p) 31 16
  else pump p (onSwPort p (fun x => { x with queues := upd x.queues q (· ++ [f]) }) s)

/-- 40 ns of transmission on port `p`: 40 bits at 1000 Mbit/s, 4 at 100 Mbit/s.
DESIGN CHOICE (notes/assumptions/2.md), DESIGN CHOICE (notes/assumptions/47.md). -/
def txTick (p : Nat) (s : State) : State :=
  match (s.swPort p).tx with
  | none => pump p s
  | some (f, n) =>
    let k := if (s.swPort p).g1000 then 40 else 4
    if n ≤ k then
      pump p ((onSwPort p (fun x => { x with tx := none, last := f.bytes }) s).count (SW_PTXC p) 31 0)
    else onSwPort p (fun x => { x with tx := some (f, n - k) }) s

/-! ### VLANs, addresses, groups (R421, R422, R424) -/

/-- The valid VLAN entry of a VID. -/
def State.vlan (s : State) (vid : Nat) : Option Word :=
  ((List.range 64).map fun i => s.reg (SW_VLAN i)).find? fun w => bit w 31 && bits w 27 16 == vid

/-- Ageing in ticks. -/
def State.ageTicks (s : State) : Nat := s.fld SW_CFG 15 0 * 1000 * msTicks

/-- The addresses that have not aged. -/
def State.learnt (s : State) : List (Nat × (Nat × Nat)) := s.sw.macs.filter fun e => decide (s.upTicks - e.2.2 ≤ s.ageTicks)

/-- A source address is learnt when the table has it or has room; event 0x1C6 when the table first becomes full (R421).
DEDUCED (notes/assumptions/48.md). -/
def learnMac (mac p : Nat) (s : State) : State :=
  let l := s.learnt
  if mac / 2 ^ 40 % 2 = 1 then s
  else if (l.lookup mac).isSome ∨ l.length < 2048 then
    let l := aput l mac (p, s.upTicks)
    let full := decide (2048 ≤ l.length)
    raiseIf (full && !s.sw.macFull) 0x1C6 0 (onSw (fun w => { w with macs := l, macFull := full }) s)
  else onSw (fun w => { w with macs := l, macFull := true }) s

/-- Learnt addresses of the chain ports are forgotten (R444, R445). -/
def flushMacs (s : State) : State :=
  onSw (fun w => let l := w.macs.filter fun e => e.2.1 == 2
                 { w with macs := l, macFull := decide (2048 ≤ l.length) }) s

/-- A port joins or leaves a group; a further group than 256 stays unregistered (R424).
DEDUCED (notes/assumptions/48.md). -/
def joinGroup (p mac : Nat) (s : State) : State :=
  match s.sw.groups.lookup mac with
  | some m => onSw (fun w => { w with groups := aput w.groups mac (m ||| 2 ^ p) }) s
  | none => if s.sw.groups.length < 256 then onSw (fun w => { w with groups := aput w.groups mac (2 ^ p) }) s else s

/-- Port `p` leaves a group at once. DEDUCED (notes/assumptions/48.md). -/
def leaveGroup (p mac : Nat) (s : State) : State :=
  match s.sw.groups.lookup mac with
  | some m =>
    let m' := m - m / 2 ^ p % 2 * 2 ^ p
    onSw (fun w => { w with groups := if m' = 0 then adel w.groups mac else aput w.groups mac m' }) s
  | none => s

/-- The MAC addresses of an IPv4 and an IPv6 group. -/
def mac4 (ip : Nat) : Nat := 0x01005E000000 + ip % 2 ^ 23
def mac6 (ip : Nat) : Nat := 0x333300000000 + ip % 2 ^ 32

/-- The group records of an IGMPv3 or MLDv2 report: record type, whether it lists no source, group address. -/
def groupRecords (b : List Nat) (alen : Nat) : Nat → Nat → List (Nat × Bool × Nat)
  | 0, _ => []
  | n + 1, o =>
    let srcs := be b (o + 2) 2
    (be b o 1, srcs == 0, be b (o + 4) alen) :: groupRecords b alen n (o + 4 + alen + alen * srcs + 4 * be b (o + 1) 1)

/-- A record joins its group, or leaves it when it includes no source. -/
def applyRecord1588 (p : Nat) (mac : Nat → Nat) (r : Nat × Bool × Nat) (s : State) : State :=
  if (r.1 = 1 ∨ r.1 = 3) ∧ r.2.1 then leaveGroup p (mac r.2.2) s
  else if r.1 = 6 then s else joinGroup p (mac r.2.2) s

/-- Snooping of IGMPv1 to v3 and MLDv1 and v2 messages that arrive on port `p` (R424, Table 20.1).
DEDUCED (notes/assumptions/48.md). -/
def snoop (p : Nat) (b : List Nat) (s : State) : State :=
  let e := etherType b
  let o := e.2.2
  let router (s : State) : State := onSwPort p (fun x => { x with router := some s.upTicks }) s
  if !s.flag SW_CFG 31 then s
  else if e.2.1 = 0x0800 ∧ be b (o + 9) 1 = 2 then
    let g := o + 4 * (be b o 1 % 16)
    let ip := be b (g + 4) 4
    match be b g 1 with
    | 0x11 => router s
    | 0x12 => joinGroup p (mac4 ip) s
    | 0x16 => joinGroup p (mac4 ip) s
    | 0x17 => leaveGroup p (mac4 ip) s
    | 0x22 => (groupRecords b 4 (be b (g + 6) 2) (g + 8)).foldl (fun s r => applyRecord1588 p mac4 r s) s
    | _ => s
  else if e.2.1 = 0x86DD then
    let hop := be b (o + 6) 1 == 0
    let g := if hop then o + 40 + 8 * (be b (o + 41) 1 + 1) else o + 40
    let nh := if hop then be b (o + 40) 1 else be b (o + 6) 1
    let ip := be b (g + 8) 16
    if nh != 58 then s
    else match be b g 1 with
      | 130 => router s
      | 131 => joinGroup p (mac6 ip) s
      | 132 => leaveGroup p (mac6 ip) s
      | 143 => (groupRecords b 16 (be b (g + 6) 2) (g + 8)).foldl (fun s r => applyRecord1588 p mac6 r s) s
      | _ => s
  else s

/-- A router port: a query within 260 s. -/
def State.routerPort (s : State) (p : Nat) : Bool :=
  match (s.swPort p).router with
  | some t => decide (s.upTicks - t ≤ 260 * 1000 * msTicks)
  | none => false

/-- The external ports a frame may go to by its destination address (R421, R424); `exempt` from snooping: Velva and PTP. -/
def State.destinations (s : State) (dst : Nat) (exempt : Bool) : List Nat :=
  if dst / 2 ^ 40 % 2 = 0 then
    match s.learnt.lookup dst with
    | some e => [e.1]
    | none => [0, 1, 2]
  else if dst = 0xFFFFFFFFFFFF ∨ exempt ∨ !s.flag SW_CFG 31 then [0, 1, 2]
  else match s.sw.groups.lookup dst with
    | some m => [0, 1, 2].filter fun p => m / 2 ^ p % 2 == 1 || s.routerPort p
    | none => if s.flag SW_CFG 30 then [0, 1, 2].filter s.routerPort else [0, 1, 2]

/-- The frame as it leaves: with the tag of its VID and PCP, or without one where UNTAG is set (R422). -/
def retag (untag : Bool) (vid pcp : Nat) (f : QFrame) : QFrame :=
  let e := etherType f.bytes
  let dei := (e.1.getD 0) / 4096 % 2
  let body := f.bytes.drop (if e.1.isSome then 16 else 12)
  let n := if e.1.isSome then f.len - 4 else f.len
  if untag then { f with bytes := f.bytes.take 12 ++ body, len := max 64 n }
  else { f with bytes := f.bytes.take 12 ++ [0x81, 0x00] ++ toBe (at_ pcp 13 + at_ dei 12 + vid) 2 ++ body, len := n + 4 }

/-- A frame of VLAN `vid` goes to its destinations: member ports other than its ingress (R421, R422). -/
def forward (f : QFrame) (dst vid pcp : Nat) (exempt : Bool) (s : State) : State :=
  match s.vlan vid with
  | none => s
  | some w =>
    (s.destinations dst exempt).foldl (fun s p =>
      if p != f.inp && bit w (4 + p) && s.portUp p then
        let s := if ptpEvent f.bytes ∧ p = 2 ∧ f.inp < 2 then stampFifo f.inp false f.bytes f.tin s else s
        enqueueFrame p (queueOf pcp (ptpEvent f.bytes)) (retag (bit w p) vid pcp f) s
      else s) s

/-! ### Error counters, WARN and quarantine (R434 to R436) -/

/-- The DATA of 0x1C3 and 0x1C4. -/
def errData (p : Nat) (s : State) : Nat := at_ p 24 + at_ (s.swPort p).rxErr 8 + (s.swPort p).txErr

/-- The counters are judged. The Boolean says that quarantine has just begun. -/
def judgeErrors (p : Nat) (s : State) : State :=
  let x := s.swPort p
  let high (n : Nat) : Bool := decide (n ≤ x.rxErr ∨ n ≤ x.txErr)
  let low := decide (x.rxErr ≤ 64 ∧ x.txErr ≤ 64)
  let s := if high 96 && !x.warn then raiseN 0x1C3 (errData p s) (onSwPort p (fun y => { y with warn := true }) s)
    else if low then onSwPort p (fun y => { y with warn := false }) s else s
  if high 255 && !x.quar then raiseN 0x1C4 (errData p s) (onSwPort p (fun y => { y with quar := true, obsOk := false }) s)
  else if low && x.quar then raiseN 0x1C5 (at_ p 24) (onSwPort p (fun y => { y with quar := false }) s)
  else s

/-- RX_ERR and TX_ERR of a chain port change by `r` and `t`, within 0 to 255 (R434). -/
def addErr (p : Nat) (r t : Int) (s : State) : State :=
  if p < 2 then
    judgeErrors p (onSwPort p (fun y => { y with rxErr := (clampI 0 255 (y.rxErr + r)).toNat,
                                                 txErr := (clampI 0 255 (y.txErr + t)).toNat }) s)
  else s

/-- Both counters return to 0 and quarantine ends (R430, R436). -/
def clearErr (p : Nat) (s : State) : State :=
  let was := (s.swPort p).quar
  raiseIf was 0x1C5 (at_ p 24) (onSwPort p (fun y => { y with rxErr := 0, txErr := 0, warn := false, quar := false }) s)

/-! ### Frames received -/

/-- A Pdelay_Resp or its follow-up that answers the port's own Pdelay_Req gives the link delay (R426). -/
def pdelayMeasure (p : Nat) (b : List Nat) (s : State) : State :=
  let x := s.swPort p
  match ptpAt b, x.pdT1, decide (s.fld SW_PTP_CFG 1 0 = 2 ∧ p < 2) with
  | some (o, _), some t1, true =>
    let corr := ofBits 64 (be b (o + 8) 8) / 65536
    let stamp := ((be b (o + 34) 6 * 1000000000 + be b (o + 40) 4 : Nat) : Int)
    if be b (o + 30) 2 != x.pdSeq then s
    else if be b o 1 % 16 = 3 ∧ be b (o + 6) 1 / 2 % 2 = 0 then
      onSwPort p (fun y => { y with delay := (s.ptp - t1 - corr) / 2, pdT1 := none }) s
    else if be b o 1 % 16 = 3 then onSwPort p (fun y => { y with pdResp := some (s.ptp, stamp, corr) }) s
    else if be b o 1 % 16 = 10 then
      match x.pdResp with
      | some (t4, t2, c2) => onSwPort p (fun y => { y with delay := (t4 - t1 - (stamp - t2) - corr - c2) / 2, pdT1 := none, pdResp := none }) s
      | none => s
    else s
  | _, _, _ => s

/-- The common part of a PTP message of the engine's own: peer address, source, EtherType, header and body.
PRESUMED (notes/assumptions/46.md). -/
def ptpFrame (p ty seq corr : Nat) (body : List Nat) : List Nat :=
  toBe 0x0180C200000E 6 ++ toBe (ownMac p) 6 ++ [0x88, 0xF7] ++ [ty, 0x12] ++ toBe (44 + body.length - 10) 2 ++ [0, 0, 0, 0] ++
    toBe corr 8 ++ [0, 0, 0, 0] ++ toBe (ownMac p / 2 ^ 24 * 2 ^ 40 + 0xFFFE * 2 ^ 24 + ownMac p % 2 ^ 24) 8 ++ [0, 1] ++
    toBe seq 2 ++ [5, 0x7F] ++ body

/-- P2P mode sends a Pdelay_Req on CHA and CHB (R426). -/
def pdelayReq (s : State) : State :=
  if s.fld SW_PTP_CFG 1 0 = 2 then
    [0, 1].foldl (fun s p =>
      if s.portUp p then
        let seq := ((s.swPort p).pdSeq + 1) % 65536
        let b := ptpFrame p 2 seq 0 (List.replicate 20 0)
        enqueueFrame p 4 ⟨b, b.length + 4, 4, s.ptp⟩ (onSwPort p (fun x => { x with pdSeq := seq, pdT1 := none, pdResp := none }) s)
      else s) s
  else s

/-- P2P mode answers a Pdelay_Req with a one-step Pdelay_Resp, whose correctionField carries the turnaround (R426).
PRESUMED (notes/assumptions/46.md). -/
def pdelayAnswer (p : Nat) (b : List Nat) (s : State) : State :=
  match ptpAt b with
  | some (o, _) =>
    if be b o 1 % 16 = 2 ∧ s.fld SW_PTP_CFG 1 0 = 2 ∧ p < 2 then
      let r := ptpFrame p 3 (be b (o + 30) 2) (be b (o + 8) 8) (List.replicate 10 0 ++ toBe (be b (o + 20) 10) 10)
      enqueueFrame p 4 ⟨r, r.length + 4, 4, s.ptp⟩ s
    else s
  | none => s

/-- A frame that has passed the checks of reception is classified into its VLAN, learnt, snooped and forwarded. -/
def classify (p : Nat) (b : List Nat) (s : State) : State :=
  let e := etherType b
  let tci := e.1.getD 0
  let vid := if tci % 4096 = 0 then s.fld (SW_PCTL p) 11 0 else tci % 4096
  let velva := be b 0 6 == velvaMac && e.2.1 == s.fld VLV_ETYPE 15 0
  match s.vlan vid with
  | none => s
  | some w =>
    if s.flag (SW_PCTL p) 27 && !bit w (4 + p) then s
    else
      let s := learnMac (be b 6 6) p s
      let s := pdelayAnswer p b (pdelayMeasure p b (snoop p b s))
      forward ⟨b, b.length + 4, p, s.ptp⟩ (be b 0 6) vid (tci / 8192) (velva || (ptpAt b).isSome) s

/-- A frame other than a Velva frame of the engine's own VLAN arrives (R421 to R424, R434, R436). -/
def dataFrame (p : Nat) (b : List Nat) (s : State) : State :=
  let s := addErr p (-1) 0 s
  if 2000 < b.length + 4 then s.count (SW_PDROP p) 15 0
  else if !s.mayPass p b then (if (s.swPort p).quar then s.count (SW_PDROP p) 15 0 else s)
  else if be b 0 6 == 0x0180C2000001 then s
  else classify p b s

/-! ### Registers of page 0x11, SW_ part (Table 20.9) -/

/-- The live words of the SW_ registers. -/
def swView (a : Nat) (s : State) : Option Word :=
  let port (p : Nat) : List (Nat × Word) :=
    let x := s.swPort p
    [(SW_PSTAT p, word (at_ (b2n x.link) 31 + at_ (b2n (x.link && x.g1000)) 30 + at_ x.fwd 28 + at_ (b2n x.warn) 27 +
        at_ x.rxErr 8 + x.txErr)),
     (SW_PMAC p, word (Config.portMac p % 2 ^ 32))]
  ([(SW_STAT, word (at_ s.learnt.length 16 + s.sw.groups.length)), (SW_PTP_LO, word s.ptpNs),
    (SW_PTP_SYNC, word (at_ (b2n (s.sw.followed.isSome && !s.flag SW_PTP_SYNC 0)) 16 + at_ s.tier 8 + b2n (s.flag SW_PTP_SYNC 0))),
    (SW_TSSTAT, putBits (s.reg SW_TSSTAT) 6 0 (ceilDiv s.sw.fifo.length 4))] ++ port 0 ++ port 1 ++ port 2).lookup a

/-- A read of `n` words of SW_TSDATA takes them out of the FIFO, oldest first. -/
def tsTake (n : Nat) (s : State) : State := onSw (fun w => { w with fifo := w.fifo.drop n }) s

/-- A VLAN entry may not hold VID 0 or 4095 nor the VID of another valid entry (R422). -/
def vlanBad (i : Nat) (v : Word) (s : State) : Bool :=
  let vid := bits v 27 16
  vid == 0 || vid == 4095 || (List.range 64).any fun j => j != i && s.flag (SW_VLAN j) 31 && s.fld (SW_VLAN j) 27 16 == vid

/-- The writes of the SW_ registers (R422, R425, R436, R455, Table 20.9). -/
def swWrite (a : Nat) (v : Word) (s : State) : Option WriteRule :=
  if SW_VLAN 0 ≤ a ∧ a < SW_VLAN 64 then some { bad := vlanBad ((a - SW_VLAN 0) / 4) v s }
  else [
    (SW_PTP_SETLO, ({ bad := decide (1000000000 ≤ v.toNat),
                      app := fun t => { t with ptpS := t.fld SW_PTP_SETHI 31 0, ptpNs := v.toNat } } : WriteRule)),
    (SW_PTP_ADJ, { app := fun t => setPtp (t.ptp + sbits v 31 0) t }),
    (SW_PTP_RATE, { bad := !(decide (-500000 ≤ sbits v 31 0 ∧ sbits v 31 0 ≤ 500000)) }),
    (SW_PTP_SYNC, { app := fun t => if bit v 0 then onSw (fun w => { w with followed := none }) t else t }),
    (SW_PCTL 0, { bad := bit v 26 && bits v 29 28 != 2 }), (SW_PCTL 1, { bad := bit v 26 && bits v 29 28 != 2 }),
    (SW_PCTL 2, { bad := bits v 29 28 != 0 || bit v 26 }),
    (SW_PCLR 0, { app := fun t => if bit v 0 then clearErr 0 t else t }),
    (SW_PCLR 1, { app := fun t => if bit v 0 then clearErr 1 t else t }),
    (SW_PCLR 2, { app := fun t => if bit v 0 then clearErr 2 t else t })].lookup a

/-- A reset clears the switch (Table 4.5); links stay as the PHYs see them after renegotiation. -/
def swReset (s : State) : State := { s with sw := {}, ptpS := 0, ptpNs := 0 }

/-- A link is down, and its port has nothing queued. -/
def SwPort.down (x : SwPort) : SwPort := { x with link := false, tx := none, queues := List.replicate 6 [], obsOk := false }

/-- The safe state, and a resumption: CHA and CHB are silent and renegotiate; HP is cut off in what it sends, and goes on with its
queues when its transmitter resumes (Table 3.2, Table 3.3 step 8, R454). -/
def swDown (s : State) : State :=
  onSw (fun w => { w with ports := w.ports.zipIdx.map fun p => if p.2 = 2 then { p.1 with tx := none } else p.1.down }) s

/-- The network domain loses its supply in Rind, HP with it (R42, R454). -/
def swOff (s : State) : State := onSw (fun w => { w with ports := w.ports.map SwPort.down }) s

end Sys2Proof.Machine
end

