-- ==== Sys2Proof/Machine/BlkPacket.lean ====
section
/-! DEFINITION. Runs of coded bytes, the RTP payloads of a coded frame (R470), and the encryption of a packet (R468). -/

namespace Sys2Proof.Machine

/-! ### Runs of bytes -/

def Seg.len : Seg → Nat
  | .lit b => b.length
  | .coded _ _ _ n => n

def Seg.bytes : Seg → List Nat
  | .lit b => b
  | .coded e q o n => (List.range n).map fun i => Config.codedByte e q (o + i) % 256

def segsLen (l : List Seg) : Nat := (l.map Seg.len).foldl (· + ·) 0

def segsBytes (l : List Seg) : List Nat := l.flatMap Seg.bytes

/-! ### RTP payloads (R470) -/

/-- `n` bytes cut into pieces of at most `m`: offset and length of each. -/
def payloadPieces (m n : Nat) : List (Nat × Nat) :=
  (List.range (ceilDiv n (max 1 m))).map fun i => (m * i, min m (n - m * i))

/-- The fragmentation header of a NAL unit whose first bytes are `b0` and `b1`: that of FU-A (RFC 6184) for H.264, that of
FU (RFC 7798) for H.265, with the start and end flags. PRESUMED (notes/assumptions/67.md). -/
def fuHeader (codec b0 b1 : Nat) (first last : Bool) : List Nat :=
  let flags := at_ (b2n first) 7 + at_ (b2n last) 6
  if codec = 2 then [b0 / 32 * 32 + 28, flags + b0 % 32] else [b0 / 128 * 128 + 98 + b0 % 2, b1, flags + b0 / 2 % 64]

/-- The payloads of one NAL unit of `n` bytes at `off` of a frame's bytes: itself, or fragmentation units that are filled to
`pm` but for the last. PRESUMED (notes/assumptions/67.md). -/
def nalPayloads (pm codec e q off n : Nat) : List (List Seg) :=
  if n ≤ pm then [[.coded e q off n]]
  else
    let hd := if codec = 2 then 1 else 2
    let b (i : Nat) : Nat := Config.codedByte e q (off + i) % 256
    (payloadPieces (pm - hd - 1) (n - hd)).map fun p =>
      [.lit (fuHeader codec (b 0) (b 1) (p.1 == 0) (p.1 + p.2 == n - hd)), .coded e q (off + hd + p.1) p.2]

/-- The quantisation tables of Annex K of ITU-T T.81 in the order of transmission, luminance and chrominance.
PRESUMED (notes/assumptions/67.md). -/
def annexK : List Nat := [
  16, 11, 12, 14, 12, 10, 16, 14, 13, 14, 18, 17, 16, 19, 24, 40, 26, 24, 22, 22, 24, 49, 35, 37, 29, 40, 58, 51, 61, 60, 57, 51,
  56, 55, 64, 72, 92, 78, 64, 68, 87, 69, 55, 56, 80, 109, 81, 87, 95, 98, 103, 104, 103, 62, 77, 113, 121, 112, 100, 120, 92,
  101, 103, 99] ++ [
  17, 18, 18, 24, 21, 24, 47, 26, 26, 47, 99, 66, 56, 66] ++ List.replicate 50 99

/-- The tables scaled by QUALITY (R374). PRESUMED (notes/assumptions/67.md). -/
def jpegTables (quality : Nat) : List Nat :=
  annexK.map fun t =>
    max 1 (min 255 (if quality < 50 then (5000 * t + 50 * quality) / (100 * quality) else (t * (200 - 2 * quality) + 50) / 100))

/-- The payloads of a JPEG frame (RFC 2435): its main header in each packet, the restart and quantisation table headers in the
first, and the entropy-coded data. DEDUCED (notes/assumptions/41.md), PRESUMED (notes/assumptions/67.md). -/
def jpegPayloads (pm : Nat) (c : Coded) : List (List Seg) :=
  let n := c.nals.foldl (· + ·) 0
  let off := Config.nalStart c.chan c.id 0
  let w := bits (nth 0 c.desc 6) 31 16
  let h := bits (nth 0 c.desc 6) 15 0
  let rsti := bits c.jpg 7 0
  let main (o : Nat) : List Nat := [0] ++ toBe o 3 ++ [if rsti = 0 then 1 else 65, 255, ceilDiv w 8, ceilDiv h 8]
  let extra := (if rsti = 0 then [] else toBe (rsti * ceilDiv w 16) 2 ++ [255, 255]) ++ [0, 0, 0, 128] ++ jpegTables (bits c.jpg 30 24)
  let first := min n (pm - 8 - extra.length)
  [.lit (main 0 ++ extra), .coded c.chan c.id off first] :: (payloadPieces (pm - 8) (n - first)).map fun p =>
    [.lit (main (first + p.1)), .coded c.chan c.id (off + first + p.1) p.2]

/-- The RTP payloads of a coded frame, at most `pm` bytes each (R470).
DEDUCED (notes/assumptions/41.md), PRESUMED (notes/assumptions/67.md). -/
def rtpPayloads (pm : Nat) (c : Coded) : List (List Seg) :=
  if c.codec = 3 then jpegPayloads pm c
  else c.nals.zipIdx.flatMap fun p => nalPayloads pm c.codec c.chan c.id (Config.nalStart c.chan c.id p.2) p.1

/-! ### AEAD_AES_GCM (R468), of NIST SP 800-38D. PRESUMED (notes/assumptions/5.md) -/

/-- Multiplication in GF(2^128), bit 0 the most significant. -/
def gcmMul (x y : Nat) : Nat :=
  ((List.range 128).foldl (fun (p : Nat × Nat) i =>
    (if x.testBit (127 - i) then p.1 ^^^ p.2 else p.1,
     if p.2 % 2 = 1 then (p.2 / 2) ^^^ (0xE1 * 2 ^ 120) else p.2 / 2)) (0, y)).1

/-- A byte string filled with zeros to whole blocks. -/
def padBlock (b : List Nat) : List Nat := b ++ List.replicate ((16 - b.length % 16) % 16) 0

/-- GHASH of whole blocks under the hash key `h`. -/
def ghash (h : Nat) (b : List Nat) : Nat :=
  (pieces 16 (b.length / 16) b).foldl (fun y p => gcmMul (y ^^^ bytesNat p) h) 0

/-- The counter-mode encryption of `b`: the keystream starts at counter 2. PRESUMED (notes/assumptions/5.md). -/
def gcmCrypt (key iv b : List Nat) : List Nat :=
  xorBytes b ((List.range (ceilDiv b.length 16)).flatMap fun i => aesEncrypt key (iv ++ natBytes 4 (i + 2)))

/-- The authentication tag of a ciphertext and its additional data. PRESUMED (notes/assumptions/5.md). -/
def gcmTag (key iv aad c : List Nat) : List Nat :=
  let h := bytesNat (aesEncrypt key (List.replicate 16 0))
  let g := ghash h (padBlock aad ++ padBlock c ++ natBytes 8 (8 * aad.length) ++ natBytes 8 (8 * c.length))
  xorBytes (natBytes 16 g) (aesEncrypt key (iv ++ [0, 0, 0, 1]))

/-- The key and the salt of a slot: key words, then three salt words (R118). -/
def Key.keyBytes (k : Key) : List Nat := (k.words.take (k.words.length - 3)).flatMap wordBytes
def Key.saltBytes (k : Key) : List Nat := (k.words.drop (k.words.length - 3)).flatMap wordBytes

/-- The SRTP payload and tag of a packet: `aad` is its RTP header, the IV the salt XOR (0x0000 ‖ SSRC ‖ ROC ‖ SEQ) (R468).
PRESUMED (notes/assumptions/5.md). -/
def srtpSeal (k : Key) (ssrc roc seq : Nat) (aad body : List Nat) : List Nat :=
  let iv := xorBytes k.saltBytes ([0, 0] ++ toBe ssrc 4 ++ toBe roc 4 ++ toBe seq 2)
  let c := gcmCrypt k.keyBytes iv body
  c ++ gcmTag k.keyBytes iv aad c

end Sys2Proof.Machine
end

