-- ==== Sys2Proof/Machine/BlkEgr.lean ====
section
/-! DEFINITION. Tenants, sessions, packets, overload and the host stream (chapter 21). -/

namespace Sys2Proof.Machine

def onEgr (f : Egress → Egress) (s : State) : State := { s with egr := f s.egr }

/-- A session; EMPTY when it holds no entry. -/
def State.ses (s : State) (n : Nat) : Session := aget {} s.egr.sessions n
def onSes (n : Nat) (f : Session → Session) (s : State) : State :=
  onEgr (fun g => { g with sessions := aput g.sessions n (f (aget {} g.sessions n)) }) s

def State.ten (s : State) (t : Nat) : Tenant := aget {} s.egr.tenants t
def onTen (t : Nat) (f : Tenant → Tenant) (s : State) : State :=
  onEgr (fun g => { g with tenants := aput g.tenants t (f (aget {} g.tenants t)) }) s

/-! ### Fields of a session entry (Table 21.4) -/

def Session.fld (x : Session) (w hi lo : Nat) : Nat := bits (nth 0 x.words w) hi lo
def Session.tenant (x : Session) : Nat := x.fld 0 31 24
def Session.src (x : Session) : Nat := x.fld 0 21 20
def Session.chan (x : Session) : Nat := x.fld 0 19 16
def Session.ipv6 (x : Session) : Bool := x.fld 0 15 15 == 1
def Session.ssrc (x : Session) : Nat := x.fld 1 31 0
def Session.payMax (x : Session) : Nat := x.fld 7 10 0
def Session.dmac (x : Session) : Nat := x.fld 5 31 0 * 65536 + x.fld 6 31 16

/-- A tenant's CLASS, MGRP and KEY. -/
def State.tenClass (s : State) (t : Nat) : Nat := s.fld (TEN_CFG t) 29 28
def State.tenGroup (s : State) (t : Nat) : Nat := s.fld (TEN_CFG t) 27 24
def State.tenKey (s : State) (t : Nat) : Nat := s.fld (TEN_CFG t) 8 0

/-- A session that takes or waits for frames. DEDUCED (notes/assumptions/51.md). -/
def Session.live (x : Session) : Bool := x.st == .waitIdr || x.st == .sending || x.st == .stalled

/-- The key slot holds a key. DEDUCED (notes/assumptions/51.md). -/
def State.keyHeld (s : State) (k : Nat) : Bool := (s.cp.keys.lookup k).isSome

/-- A word of Table 21.4 as read: the entry's words, then the words the engine keeps. -/
def Session.word (x : Session) (w : Nat) : Word :=
  if w < 24 then nth 0 x.words w
  else match w with
    | 24 => Sys2Proof.word x.pkts
    | 25 => Sys2Proof.word x.octets
    | 26 => Sys2Proof.word x.ts
    | 27 => Sys2Proof.word (x.ptp / 1000000000)
    | 28 => Sys2Proof.word (x.ptp % 1000000000)
    | 29 => Sys2Proof.word (at_ x.seq 16 + sat 255 x.queue.length)
    | 30 => Sys2Proof.word x.roc
    | 31 => Sys2Proof.word x.sent
    | 32 => Sys2Proof.word x.skipped
    | 33 => Sys2Proof.word x.withheld
    | 34 => Sys2Proof.word x.stalls
    | _ => 0

/-- A field of a staged entry lies outside its legal values (Table 21.4). -/
def entryBad (ws : List Word) : Bool :=
  let f (w hi lo : Nat) : Nat := bits (nth 0 ws w) hi lo
  let pt := f 0 6 0
  let v4 := f 0 15 15 == 0
  decide (1 < f 0 21 20) || (f 0 21 20 == 1 && f 0 19 16 != 0) || (decide (72 ≤ pt) && decide (pt ≤ 76)) ||
  f 2 11 0 == 0 || f 2 11 0 == 4095 || f 6 7 0 == 0 || (v4 && f 7 31 12 != 0) || decide (f 7 10 0 < 256) || decide (1400 < f 7 10 0) ||
  (v4 && [9, 10, 11, 13, 14, 15].any fun w => nth 0 ws w != 0) || f 16 15 0 == 0 || (List.range 7).any fun i => nth 0 ws (17 + i) != 0

/-! ### Rings (R475) -/

/-- A channel's ring keeps a coded frame while a session has it queued. -/
def ringPrune (e : Nat) (s : State) : State :=
  let held (c : Coded) : Bool := s.egr.sessions.any fun p => p.2.queue.any fun f => f.chan == e && f.seq == c.id
  onEnc e (fun x => { x with ring := x.ring.filter held }) s

def ringsPrune (s : State) : State := (List.range 16).foldl (fun s e => ringPrune e s) s

/-! ### Packets of a frame (R466) -/

/-- The bytes of a packet from the destination address through the FCS. -/
def Session.packetBytes (x : Session) (n : Nat) : Nat := 14 + 4 + (if x.ipv6 then 40 else 20) + 8 + 12 + n + 16 + 4

/-- The wire bits of a packet (R466). -/
def Session.wire (x : Session) (n : Nat) : Nat := 8 * (x.packetBytes n + 20)

/-- The wire bits of packets with the given payloads. -/
def Session.wireOf (x : Session) (ps : List (List Seg)) : Nat := (ps.map fun p => x.wire (segsLen p)).foldl (· + ·) 0

/-! ### Withholding (R463, R469) -/

/-- A withheld frame: WITHHELD, the reason, and event 0x1E0 when it is the first. -/
def withhold (n reason group : Nat) (s : State) : State :=
  let first := !(s.ses n).reported
  raiseIf first 0x1E0 (at_ reason 28 + at_ group 24 + n)
    (onSes n (fun x => { x with withheld := x.withheld + 1, why := reason, reported := true }) s)

/-- An IDR request as a write of ENC_EnCMD.IDR sets it (R367). -/
def requestIdr (e : Nat) (s : State) : State := if e < 16 then onEnc e (fun x => { x with idrReq := true }) s else s

/-- The queued frames whose first packet has not left are withheld whole. DEDUCED (notes/assumptions/52.md). -/
def dropQueued (why : Option Nat) (n : Nat) (s : State) : State :=
  ringsPrune (onSes n (fun x =>
    let gone := x.queue.filter fun f => !f.begun
    { x with queue := x.queue.filter (·.begun), withheld := x.withheld + gone.length, why := why.getD x.why }) s)

/-- Withheld for cause: the reason, if there is one (R463). -/
def State.causeOf (s : State) (x : Session) (c : Coded) : Option Nat :=
  let t := x.tenant
  if !s.flag (TEN_CFG t) 31 then some 1
  else if c.mgrp != s.tenGroup t || decide (7 < s.tenGroup t) then some 2
  else if !s.keyHeld (s.tenKey t) then some 3
  else if c.codec = 3 ∧ (2040 < bits (nth 0 c.desc 6) 31 16 ∨ 2040 < bits (nth 0 c.desc 6) 15 0) then some 4
  else none

/-! ### Offering frames (R463, R464, R473, R474) -/

/-- A frame joins a session's queue; its wire bits count as offered. -/
def queueFrame (n e : Nat) (c : Coded) (s : State) : State :=
  let x := s.ses n
  let ps := rtpPayloads x.payMax c
  let f : SFrame := { chan := e, seq := c.id, pkts := ps, bits := x.wireOf ps, at_ := s.time,
                      ptp := c.ptpS * 1000000000 + c.ptpNs }
  onSes n (fun x => { x with queue := x.queue ++ [f], reported := false }) s

/-- A frame offered in SENDING, not withheld for cause: counted as offered, then skipped or queued (R473, R474). -/
def judgeSkip (n e : Nat) (c : Coded) (s : State) : State :=
  let x := s.ses n
  let t := x.tenant
  let w := x.wireOf (rtpPayloads x.payMax c)
  let s := onTen t (fun y => { y with o := y.o + w, k := if c.skippable then y.k + w else y.k }) s
  let a := x.acc + (s.ten t).r
  if !c.skippable then queueFrame n e c s
  else if 256 ≤ a then onSes n (fun x => { x with acc := a - 256, skipped := x.skipped + 1 }) s
  else queueFrame n e c (onSes n (fun x => { x with acc := a }) s)

/-- A frame is offered to one session of an encoder channel. DEDUCED (notes/assumptions/52.md). -/
def offerOne (e : Nat) (c : Coded) (n : Nat) (s : State) : State :=
  let x := s.ses n
  if x.src != 0 || x.chan != e || x.offPend then s
  else
    let enter (s : State) : State := onSes n (fun x => { x with st := .sending, acc := 0 }) s
    let judge (s : State) : State :=
      match s.causeOf (s.ses n) c with
      | some r =>
        let s := withhold n r c.mgrp s
        if c.codec = 3 then s else requestIdr e (onSes n (fun x => { x with st := .waitIdr }) s)
      | none => judgeSkip n e c s
    match x.st with
    | .waitIdr => if c.isIdr then judge (onSes n (fun x => { x with reported := false }) (enter s)) else s
    | .sending => judge s
    | .stalled =>
      if c.isIdr then judge (raiseN 0x1E4 n (enter s))
      else onSes n (fun x => { x with withheld := x.withheld + 1 }) s
    | _ => s

/-- A coded frame is offered to every session of its channel in ascending number (R463); a frame that no session takes leaves
the ring at once. -/
def offerFrame (e : Nat) (c : Coded) (s : State) : State :=
  ringPrune e (s.egr.sessions.foldl (fun s p => offerOne e c p.1 s) s)

/-- A Cellar job offers a recorded frame to its session (R464): withheld only for cause. -/
def offerCellar (n : Nat) (c : Coded) (s : State) : State :=
  let x := s.ses n
  if x.src != 1 || !x.live || x.offPend then s
  else
    let s := onSes n (fun x => { x with st := .sending }) s
    match s.causeOf x c with
    | some r => withhold n r c.mgrp s
    | none =>
      let w := x.wireOf (rtpPayloads x.payMax c)
      queueFrame n 16 c (onTen x.tenant (fun y => { y with o := y.o + w }) s)

/-! ### Buckets (R472): tokens are kept in 1/25000 bit, so that a rate in kbit/s adds its value at each tick of 40 ns -/

/-- A tenant's bucket now. -/
def State.tenTok (s : State) (t : Nat) : Int :=
  let x := s.ten t
  min (((x.depth * 25000000 : Nat) : Int)) (x.tok + ((x.rate * (s.upTicks - x.tokAt) : Nat) : Int))

/-- The egress bucket now, at most 64 kbit. -/
def State.egrTok (s : State) : Int :=
  min 1600000000 (s.egr.tok + ((s.fld EGR_CFG 19 0 * (s.upTicks - s.egr.tokAt) : Nat) : Int))

/-! ### The scheduler (R472) -/

/-- A session has a packet ready: its frame in progress, or a next frame that its tenant's bucket lets start. A tenant whose key
slot is empty sends nothing (R24). DEDUCED (notes/assumptions/51.md). -/
def State.sesReady (s : State) (x : Session) : Bool :=
  match x.queue with
  | f :: _ => s.keyHeld (if f.begun then f.key else s.tenKey x.tenant) && (f.begun || decide (0 < s.tenTok x.tenant))
  | [] => false

/-- The lowest session of tenant `t` with a packet ready. -/
def State.tenReady (s : State) (t : Nat) : Option Nat :=
  (s.egr.sessions.find? fun p => p.2.tenant == t && s.sesReady p.2).map (·.1)

/-- The bits of the next packet of a session. -/
def State.nextBits (s : State) (n : Nat) : Nat :=
  match (s.ses n).queue with
  | f :: _ => (s.ses n).wire (segsLen (nth [] f.pkts 0))
  | [] => 0

/-- Deficit round robin within class `c`: the visit of tenants from the one in service, each with a quantum of WEIGHT · 12 000
bits when its turn begins. -/
def drr (c : Nat) : Nat → State → Option Nat × State
  | 0, s => (none, s)
  | k + 1, s =>
    let tn := nth (0, false) s.egr.turn c
    let t := tn.1
    let setTurn (x : Nat × Bool) (s : State) : State := onEgr (fun g => { g with turn := g.turn.set c x }) s
    let skip (s : State) : Option Nat × State := drr c k (setTurn ((t + 1) % 256, false) s)
    if s.tenClass t != c then skip s
    else match s.tenReady t with
      | none => skip (onTen t (fun x => { x with deficit := 0 }) s)
      | some n =>
        let s := if tn.2 then s else
          setTurn (t, true) (onTen t (fun x => { x with deficit := x.deficit + 12000 * x.weight }) s)
        if s.nextBits n ≤ (s.ten t).deficit then (some n, s) else skip s

/-- The session whose packet leaves next: class M, then A, then B. -/
def pick (s : State) : Option Nat × State :=
  let ready (c : Nat) : Bool := s.egr.sessions.any fun p => s.tenClass p.2.tenant == c && s.sesReady p.2
  if ready 0 then drr 0 514 s else if ready 1 then drr 1 514 s else if ready 2 then drr 2 514 s else (none, s)

/-! ### Sending a packet (R466 to R469) -/

/-- The one's complement of the one's complement sum of 16-bit words; never 0. -/
def ipChecksum (b : List Nat) : Nat :=
  let sum := (List.range ((b.length + 1) / 2)).foldl (fun t i => t + be (b ++ [0]) (2 * i) 2) 0
  65535 - sum % 65535

/-- The RTP header of the next packet: version 2, no padding, extension or CSRC (Table 21.1). -/
def Session.rtpHeader (x : Session) (ts : Nat) (marker : Bool) : List Nat :=
  [0x80, at_ (b2n marker) 7 + x.fld 0 6 0] ++ toBe x.seq 2 ++ toBe ts 4 ++ toBe x.ssrc 4

/-- The source or destination address of an entry, `k` words from word `o`. -/
def Session.addr (x : Session) (o k : Nat) : List Nat := (List.range k).flatMap fun i => toBe (x.fld (o + i) 31 0) 4

/-- A UDP datagram with its checksum over the pseudo-header of its IP version (R466). -/
def Session.udp (x : Session) (body : List Nat) : List Nat :=
  let len := 8 + body.length
  let h (c : Nat) : List Nat := toBe (x.fld 16 31 16) 2 ++ toBe (x.fld 16 15 0) 2 ++ toBe len 2 ++ toBe c 2
  let pseudo := if x.ipv6 then x.addr 8 4 ++ x.addr 12 4 ++ toBe len 4 ++ [0, 0, 0, 17] else x.addr 8 1 ++ x.addr 12 1 ++ [0, 17] ++ toBe len 2
  h (ipChecksum (pseudo ++ h 0 ++ body)) ++ body

/-- The bytes of a packet without FCS: Ethernet and tag, IP, UDP, RTP header, SRTP payload and tag (R466). The IPv4
identification counts packets from a free value. DESIGN CHOICE (notes/assumptions/7.md). -/
def Session.packet (x : Session) (cls ts : Nat) (marker : Bool) (key : Key) (body : List Nat) : List Nat :=
  let rtp := x.rtpHeader ts marker
  let udp := x.udp (rtp ++ srtpSeal key x.ssrc x.roc x.seq rtp body)
  let l2 := toBe x.dmac 6 ++ toBe (ownMac 0) 6 ++ [0x81, 0x00] ++ toBe (at_ (5 - cls) 13 + x.fld 2 11 0) 2
  let ip :=
    if x.ipv6 then
      [0x86, 0xDD] ++ toBe (at_ 6 28 + at_ (x.fld 6 13 8 * 4) 20 + x.fld 7 31 12) 4 ++ toBe udp.length 2 ++ [17, x.fld 6 7 0] ++
        x.addr 8 4 ++ x.addr 12 4
    else
      let h (c : Nat) : List Nat := [0x45, x.fld 6 13 8 * 4] ++ toBe (20 + udp.length) 2 ++ toBe x.ipId 2 ++ [0x40, 0, x.fld 6 7 0, 17] ++
        toBe c 2 ++ x.addr 8 1 ++ x.addr 12 1
      [0x08, 0x00] ++ h (ipChecksum (h 0) % 65535)
  l2 ++ ip ++ udp

/-- The RTP timestamp of a frame (R467). -/
def Session.rtpTs (x : Session) (ptp : Nat) : Nat := (x.fld 4 31 0 + 9 * ptp / 100000) % 2 ^ 32

/-- The index-record check before a frame's first packet (R469): the reason it is withheld with, or the record made ready. -/
def indexCheck (slot ssrc ix : Nat) (s : State) : Except Nat State :=
  let rec_ := aget [] s.egr.index slot
  match rec_.lookup ssrc with
  | some h => if h < ix then .ok s else .error 6
  | none => if 64 ≤ rec_.length then .error 7
    else .ok (onEgr (fun g => { g with index := aput g.index slot (aput rec_ ssrc 0) }) s)

/-- Frames leave a session whose frame was withheld by the index record or whose ROC is exhausted: OFF, with event 0x1E8.
DEDUCED (notes/assumptions/52.md). -/
def ivEnd (n reason : Nat) (s : State) : State :=
  raiseN 0x1E8 (at_ reason 28 + n) (ringsPrune (onSes n (fun x =>
    { x with st := .off, offPend := false, withheld := x.withheld + x.queue.length, queue := [] }) s))

/-- The values of a tenant that take effect with a frame's first packet (R457). -/
def tenApply (t : Nat) (s : State) : State :=
  onTen t (fun x => { x with tok := s.tenTok t, tokAt := s.upTicks, rate := s.fld (TEN_RATE t) 19 0,
                             depth := s.fld (TEN_BKT t) 31 16, weight := s.fld (TEN_BKT t) 7 0 }) s

/-- One packet of session `n` goes out. -/
def sendOne (n : Nat) (f : SFrame) (rest : List SFrame) (s : State) : State :=
  let x := s.ses n
  let t := x.tenant
  let cls := s.tenClass t
  let body := nth [] f.pkts 0
  let sz := segsLen body
  let wb := x.wire sz
  let ix := x.roc * 65536 + x.seq
  let last := f.pkts.length ≤ 1
  let ts := x.rtpTs f.ptp
  let pkt := x.packet cls ts (decide last) ((s.cp.keys.lookup f.key).getD ⟨0, []⟩) (segsBytes body)
  let s := if f.begun then s else onTen t (fun y => { y with tok := s.tenTok t - 25000 * f.bits, tokAt := s.upTicks }) s
  let s := onTen t (fun y => { y with deficit := y.deficit - wb }) s
  let s := onEgr (fun g => { g with
    tok := s.egrTok - 25000 * wb, tokAt := s.upTicks, last := pkt
    sentNow := upd g.sentNow cls (· + wb)
    index := aput g.index f.key (aput (aget [] g.index f.key) x.ssrc ix) }) s
  let s := onSes n (fun x =>
    let y := { x with pkts := (x.pkts + 1) % 2 ^ 32, octets := (x.octets + sz) % 2 ^ 32, ipId := (x.ipId + 1) % 65536,
                      seq := (x.seq + 1) % 65536, roc := if x.seq = 65535 then x.roc + 1 else x.roc }
    if last then { y with sent := (y.sent + 1) % 2 ^ 32, ts, ptp := f.ptp, queue := rest, offPend := false
                          st := if y.offPend then .off else y.st }
    else { y with queue := { f with begun := true, pkts := f.pkts.tail } :: rest }) s
  let s := if last then ringsPrune s else s
  forward ⟨pkt, x.packetBytes sz, 3, s.ptp⟩ x.dmac (x.fld 2 11 0) (5 - cls) false s

/-- The scheduler sends the next packet; a frame that the index record withholds makes way for the next candidate. -/
def sendPacket : Nat → State → State
  | 0, s => s
  | k + 1, s =>
    if s.egrTok < 0 || !s.serves then s
    else match pick s with
      | (none, s) => s
      | (some n, s) =>
        match (s.ses n).queue with
        | [] => s
        | f :: rest =>
          let x := s.ses n
          if 2 ^ 32 ≤ x.roc then sendPacket k (ivEnd n 1 s)
          else if f.begun then sendOne n f rest s
          else
            let slot := s.tenKey x.tenant
            match indexCheck slot x.ssrc (x.roc * 65536 + x.seq) s with
            | .error r => sendPacket k (ivEnd n (r - 4) (onSes n (fun x => { x with why := r }) s))
            | .ok s => sendOne n { f with key := slot } rest (tenApply x.tenant s)

/-! ### The tick (R473) -/

/-- The wire bits a session has queued. -/
def Session.queuedBits (x : Session) : Nat := x.wireOf (x.queue.flatMap (·.pkts))

/-- The allowances A_t of tenants given as (tenant, d, W), `cap` bits to share: those that want no more than their share at the
present λ get what they want, and the rest divide what is left. DEDUCED (notes/assumptions/52.md). -/
def allowances : Nat → Nat → List (Nat × Nat × Nat) → List (Nat × Nat)
  | 0, _, _ => []
  | k + 1, cap, l =>
    let w := (l.map (·.2.2)).foldl (· + ·) 0
    let low (x : Nat × Nat × Nat) : Bool := decide (x.2.1 * w ≤ cap * x.2.2)
    match l.filter low with
    | [] => l.map fun x => (x.1, min x.2.1 (cap * x.2.2 / max 1 w))
    | g => (g.map fun x => (x.1, x.2.1)) ++ allowances k (cap - (g.map (·.2.1)).foldl (· + ·) 0) (l.filter fun x => !low x)

/-- The skip ratio r_t (R473). -/
def skipRatio (x : Int) (k : Nat) : Nat := if x ≤ 0 then 0 else if k = 0 then 256 else min 256 (ceilDiv (256 * x.toNat) k)

/-- A tenant's ratio is set; events 0x1E1 and 0x1E2 (R474). DEDUCED (notes/assumptions/52.md). -/
def setRatio (t r : Nat) (s : State) : State :=
  let old := (s.ten t).r
  let s := onTen t (fun x => { x with r }) s
  if old = 0 ∧ r ≠ 0 then raiseN 0x1E1 (at_ t 16 + r) s
  else if old ≠ 0 ∧ r = 0 then raiseN 0x1E2 (at_ t 16) s else s

/-- The tick for class `c`, after the higher classes. -/
def tickClass (c : Nat) (s : State) : State :=
  let higher := ((s.egr.sentLast.take c).foldl (· + ·) 0)
  let cap := s.fld EGR_CFG 19 0 * 100 - higher
  let ts := (List.range 256).filter fun t =>
    s.tenClass t == c && s.egr.sessions.any fun p => p.2.tenant == t && p.2.st == .sending
  let d (t : Nat) : Nat := min (s.ten t).o ((s.ten t).rate * 100)
  let al := allowances 257 cap (ts.map fun t => (t, d t, (s.ten t).weight))
  let q (t : Nat) : Nat := ((s.egr.sessions.filter fun p => p.2.tenant == t).map fun p => p.2.queuedBits).foldl (· + ·) 0
  let x (t : Nat) : Int := (((s.ten t).o + q t : Nat) : Int) - ((((al.lookup t).getD 0) : Nat) : Int)
  let exceeded := ts.any fun t => decide (0 < x t)
  let was := nth false s.egr.exceeded c
  let s1 := ts.foldl (fun u t => setRatio t (skipRatio (x t) (s.ten t).k) u) s
  let idle := (s1.egr.tenants.filter fun p => s1.tenClass p.1 == c && !ts.contains p.1).map (·.1)
  let s1 := idle.foldl (fun u t => setRatio t 0 u) s1
  raiseIf (exceeded && !was) 0x1E5 c (onEgr (fun g => { g with exceeded := g.exceeded.set c exceeded }) s1)

/-- Every 100 ms: what each class sent is taken, the ratios follow, and counting begins afresh (R473). -/
def egressTick (s : State) : State :=
  if !s.live || !s.handedOver then s
  else
    let s := onEgr (fun g => { g with sentLast := g.sentNow, sentNow := [0, 0, 0] }) s
    let s := tickClass 2 (tickClass 1 (tickClass 0 s))
    onEgr (fun g => { g with tenants := g.tenants.map fun p => (p.1, { p.2 with o := 0, k := 0 }) }) s

/-- The oldest queued frame of session `n` has waited QWAIT without its first packet leaving (R475). -/
def sesStall (n : Nat) (s : State) : State :=
  let x := s.ses n
  match x.queue with
  | f :: _ =>
    if x.st = .sending ∧ x.src = 0 ∧ !f.begun then
      let s := dropQueued (some 5) n (onSes n (fun x => { x with st := .stalled, stalls := x.stalls + 1 }) s)
      raiseN 0x1E3 n (requestIdr x.chan s)
    else s
  | [] => s

/-! ### SES_CMD (R462) -/

/-- The code of a command on the selected session. DEDUCED (notes/assumptions/52.md). -/
def State.sesCode (s : State) (cmd : Nat) : Code :=
  let n := s.fld SES_SEL 11 0
  let x := s.ses n
  match cmd with
  | 1 => if x.live || s.egr.stage.isNone then .eState else .ok
  | 2 =>
    let key (y : Session) : Nat := s.tenKey y.tenant
    if x.st != .off || (s.egr.sessions.any fun p => p.1 != n && p.2.live && p.2.ssrc == x.ssrc &&
        (p.2.tenant == x.tenant || key p.2 == key x)) then .eState
    else if !s.flag (TEN_CFG x.tenant) 31 || (x.src == 0 && !s.flag (ENC_CFG x.chan) 31) then .eCtx
    else .ok
  | 3 => if x.st == .empty || x.st == .off then .eState else .ok
  | 4 => if x.st != .off then .eState else .ok
  | _ => .ok

/-- WRITE: the staged entry replaces the entry whole. DESIGN CHOICE (notes/assumptions/7.md). -/
def sesWriteEntry (n : Nat) (s : State) : State :=
  match s.egr.stage with
  | none => s
  | some ws =>
    let d := s.draw
    let x : Session := { st := .off, words := ws, seq := bits (nth 0 ws 2) 31 16, roc := (nth 0 ws 3).toNat, ipId := bits d.1 15 0 }
    onEgr (fun g => { g with sessions := aput g.sessions n x, stage := none }) d.2

def sesOn (n : Nat) (s : State) : State :=
  let x := s.ses n
  let s := onSes n (fun x => { x with st := .waitIdr, reported := false }) s
  if x.src = 0 then requestIdr x.chan s else s

/-- OFF: queued frames are withheld; a frame whose first packet has been sent is sent to its end first, while its key slot still holds
a key, and the session is OFF then (R462). DEDUCED (notes/assumptions/52.md). -/
def sesOff (n : Nat) (s : State) : State :=
  let s := dropQueued none n s
  if (s.ses n).queue.any fun f => s.keyHeld f.key then onSes n (fun x => { x with offPend := true }) s
  else ringsPrune (onSes n (fun x => { x with st := .off, queue := [] }) s)

def sesClear (n : Nat) (s : State) : State := onEgr (fun g => { g with sessions := adel g.sessions n }) s

/-- SES_CMD with its seal. DEDUCED (notes/assumptions/52.md). -/
def sesCmd (cmd : Nat) (s : State) : State :=
  let n := s.fld SES_SEL 11 0
  match cmd with
  | 1 => sesWriteEntry n s
  | 2 => sesOn n s
  | 3 => sesOff n s
  | 4 => sesClear n s
  | _ => s

/-! ### Host stream (R471) -/

/-- Bytes of a port's picture: samples of one byte, or of two for the 16-bit formats, whose byte order the spec leaves open
(`hi` first when the free bit says so). DESIGN CHOICE (notes/assumptions/40.md). -/
def hostBytes (fmt : Nat) (hi : Bool) (v : List Nat) : List Nat :=
  if fmt = 3 ∨ fmt = 4 ∨ fmt = 5 then v.flatMap fun x => if hi then [x / 256 % 256, x % 256] else [x % 256, x / 256 % 256]
  else v.map (· % 256)

/-- A START of a port with DEST 2 while its previous frame is being sent: that frame is withheld whole. -/
def hostStart (c fn : Nat) (ports : List Nat) (s : State) : State :=
  ports.foldl (fun s p =>
    if s.portDest p = 2 ∧ s.portSrc p = c ∧ (s.egr.host.any fun j => j.port == p) then
      let first := !nth false s.egr.hostMissed p
      raiseIf first 0x1E6 (at_ p 28 + fn % 2 ^ 24)
        (onEgr (fun g => { g with hostMissed := g.hostMissed.set p true, hostSkip := (p, fn) :: g.hostSkip }) (s.count EGR_CNT 31 16))
    else s) s

/-- A delivered frame of a DEST 2 port is taken for the host, unless it was withheld at its START.
DEDUCED (notes/assumptions/52.md). -/
def hostOffer (j : HostJob) (s : State) : State :=
  if s.egr.hostSkip.contains (j.port, j.fn) then
    onEgr (fun g => { g with hostSkip := g.hostSkip.filter (· != (j.port, j.fn)) }) s
  else onEgr (fun g => { g with host := g.host ++ [j] }) s

/-- The next packet of the host stream: the oldest picture, in byte order (Table 21.2). -/
def hostPacket (s : State) : State :=
  match s.egr.host with
  | [] => s
  | j :: rest =>
    if !s.serves then s
    else
      let body := (j.bytes.drop j.off).take 1440
      let last := decide (j.bytes.length ≤ j.off + 1440)
      let w0 := at_ 1 28 + at_ j.port 24 + at_ j.ctx 20 + at_ j.fmt 16 + at_ (b2n (j.off == 0)) 15 + at_ (b2n last) 14 +
        at_ (b2n j.synth) 13 + at_ (b2n j.sun) 12
      let mac := s.fld EGR_HMAC_HI 15 0 * 2 ^ 32 + s.fld EGR_HMAC_LO 31 0
      let b := toBe mac 6 ++ toBe (ownMac 0) 6 ++ toBe (s.fld EGR_HOST 15 0) 2 ++ toBe w0 4 ++ toBe j.fn 4 ++ toBe j.off 4 ++
        toBe (at_ j.w 16 + j.h) 4 ++ body
      let s := onEgr (fun g => { g with
        host := if last then rest else { j with off := j.off + 1440 } :: rest, lastHost := b
        hostMissed := if last then g.hostMissed.set j.port false else g.hostMissed }) s
      let s := if last then s.count EGR_CNT 15 0 else s
      if s.portUp 2 then enqueueFrame 2 0 ⟨b, max 64 (b.length + 4), 3, s.ptp⟩ s else s

/-! ### Life cycle (R465) -/

/-- A resumption in place or a wake: sessions that were sending wait for an IDR frame; frames in flight are lost. -/
def egrResume (s : State) : State :=
  ringsPrune (onEgr (fun g => { g with host := [], hostSkip := [], sessions := g.sessions.map fun p =>
    (p.1, { p.2 with queue := [], offPend := false
                     st := if p.2.offPend then .off else if p.2.st = .sending ∨ p.2.st = .stalled then .waitIdr else p.2.st }) }) s)

/-- Sessions and tenants are cleared, the tenants' registers with them (R201, Table 9.8). -/
def egrCleared (s : State) : State :=
  onEgr (fun g => { g with sessions := [], tenants := [], stage := none, host := [], hostSkip := [] })
    { s with regs := s.regs.filter fun p => !(decide (TEN_CFG 0 ≤ p.1) && decide (p.1 < TEN_CFG 256)) }

/-- A reset. -/
def egrReset (s : State) : State := { s with egr := {} }

/-- The index record of a slot is emptied when it takes a key or is cleared (R469). -/
def indexEmpty (slot : Nat) (s : State) : State := onEgr (fun g => { g with index := adel g.index slot }) s

/-! ### Registers of page 0x12 (Table 21.3) -/

/-- The live words. -/
def egrView (a : Nat) (s : State) : Option Word :=
  let x := s.ses (s.fld SES_SEL 11 0)
  let cls (c : Nat) : Nat × Word := (EGR_CLS c, word (at_ (b2n (nth false s.egr.exceeded c)) 31 + sat (2 ^ 20 - 1) (nth 0 s.egr.sentLast c / 1000)))
  if TEN_CFG 0 ≤ a ∧ a < TEN_CFG 256 ∧ (a - TEN_CFG 0) % 0x10 = 0xC then
    let t := (a - TEN_CFG 0) / 0x10
    some (word (at_ (toBits 16 (clampI (-32768) 32767 (s.tenTok t / 25000000))) 16 + (s.ten t).r))
  else [cls 0, cls 1, cls 2,
    (SES_STAT, word (at_ (match x.st with | .empty => 0 | .off => 1 | .waitIdr => 2 | .sending => 3 | .stalled => 4) 29 + at_ x.why 24 +
      at_ x.tenant 16 + x.acc)),
    (TEN_MSTAT, word ((List.range 8).foldl (fun v g =>
      v + at_ (b2n (s.maskBusy g)) (8 + g) + at_ (b2n (nth {} s.out.masks g).act) g) 0))].lookup a

/-- A tenant has a session in WAIT_IDR, SENDING or STALLED. -/
def State.tenLive (s : State) (t : Nat) : Bool := s.egr.sessions.any fun p => p.2.tenant == t && p.2.live

/-- The EtherTypes that VLV_ETYPE and EGR_HOST may not take (R455, R471). -/
def etypeBad (e : Nat) : Bool := decide (e < 0x0600) || [0x0800, 0x0806, 0x8100, 0x86DD, 0x88A8, 0x88F7].contains e

/-- The writes of page 0x12 (R456, R458, R459, R462, R471). -/
def egrWrite (a : Nat) (v : Word) (s : State) : Option WriteRule :=
  if TEN_CFG 0 ≤ a ∧ a < TEN_CFG 256 ∧ (a - TEN_CFG 0) % 0x10 = 0 then
    let t := (a - TEN_CFG 0) / 0x10
    let g := bits v 27 24
    some { bad := decide (8 ≤ g) && g != 15,
           pre := chk ((bits v 29 28 != s.tenClass t || g != s.tenGroup t) && s.tenLive t) .eState }
  else if TEN_MGHDR 0 0 ≤ a ∧ a < TEN_MGHDR 8 0 ∧ (a - TEN_MGHDR 0 0) % 0x40 = 0 then
    some { bad := let n := bits v 3 0
                  decide (8 < n) || n == 1 || n == 2 }
  else [
    (EGR_CFG, ({ app := fun t => { t with egr := { t.egr with tok := s.egrTok, tokAt := s.upTicks } } } : WriteRule)),
    (EGR_HOST, { bad := etypeBad (bits v 15 0) || bits v 15 0 == s.fld VLV_ETYPE 15 0 }),
    (SES_SEL, { app := fun t => t.setReg SES_RADDR 0 }),
    (SES_CMD, { pre := s.sesCode (bits v 31 28),
                bad := bits v 31 28 == 0 || (bits v 31 28 == 1 && (match s.egr.stage with | some ws => entryBad ws | none => false)),
                app := sesCmd (bits v 31 28) }),
    (TEN_MPUBR, { pre := chk ((List.range 8).any fun g => bit v g && s.maskBusy g) .eState, app := publishMasks v })].lookup a

end Sys2Proof.Machine
end

