-- ==== Sys2Proof/Machine/BlkMedia.lean ====
section
/-! DEFINITION. The Cellar's media (chapter 22): states, the layout of label, index, header, pages and records, the choice of
a wheel, and the packing of records into pages. -/

namespace Sys2Proof.Machine

def onCel (f : Cellar → Cellar) (s : State) : State := { s with cel := f s.cel }

/-- Medium `m`: 0 eMMC, 1 microSD. -/
def State.med (s : State) (m : Nat) : Medium := nth {} s.cel.media m
def onMed (m : Nat) (f : Medium → Medium) (s : State) : State := onCel (fun c => { c with media := upd c.media m f }) s

def State.strm (s : State) (e : Nat) : CelStream := nth {} s.cel.streams e
def onStrm (e : Nat) (f : CelStream → CelStream) (s : State) : State := onCel (fun c => { c with streams := upd c.streams e f }) s

def Medium.wheel (x : Medium) (k : Nat) : Wheel := aget {} x.wheels k
def onWheel (m k : Nat) (f : Wheel → Wheel) (s : State) : State :=
  onMed m (fun x => { x with wheels := aput x.wheels k (f (x.wheel k)) }) s

/-- STATE of CEL_MmSTAT. -/
def MedSt.num : MedSt → Nat
  | .absent => 0 | .opening => 1 | .ready => 2 | .full => 3 | .unformatted => 4 | .failed => 5 | .off => 6

/-- A state change raises event 0x1F2 (R478). -/
def setMed (m : Nat) (st : MedSt) (s : State) : State :=
  if (s.med m).st = st then s else raiseN 0x1F2 (at_ m 31 + at_ st.num 24) (onMed m (fun x => { x with st }) s)

/-- A medium is usable only in READY (R478), and not while it is being formatted. DEDUCED (notes/assumptions/53.md). -/
def State.usable (s : State) (m : Nat) : Bool := (s.med m).st == .ready && s.cel.fmt != some m

/-- N_w of a capacity (Table 22.2). -/
def wheelsOf (capMiB : Nat) : Nat := min 131072 ((capMiB - 16) / 4)

/-! ### Runs of bytes -/

/-- The first `n` bytes of a run, and the rest. -/
def segsTake : Nat → List Seg → List Seg
  | _, [] => []
  | n, .lit b :: t => if n = 0 then [] else if b.length ≤ n then .lit b :: segsTake (n - b.length) t else [.lit (b.take n)]
  | n, .coded e q o k :: t => if n = 0 then [] else if k ≤ n then .coded e q o k :: segsTake (n - k) t else [.coded e q o n]

def segsDrop : Nat → List Seg → List Seg
  | _, [] => []
  | n, .lit b :: t => if n < b.length then .lit (b.drop n) :: t else segsDrop (n - b.length) t
  | n, .coded e q o k :: t => if n < k then .coded e q (o + n) (k - n) :: t else segsDrop (n - k) t

/-! ### Layout on the medium (R482, Tables 22.2 to 22.7) -/

/-- Words as bytes, most significant first. -/
def wordsBe (ws : List Word) : List Nat := ws.flatMap wordBytes

/-- The label (Table 22.3). -/
def Medium.label (x : Medium) : List Word :=
  let h := [0x43454C31, 0x00010000, word x.format, word x.nw, word (x.fmtUnit / 2 ^ 32), word x.fmtUnit, x.fmtHi, x.fmtLo] ++
    List.replicate 1015 0
  h ++ [word (crc32Words h)]

/-- An index entry (Table 22.4). -/
def Wheel.entry (w : Wheel) : List Word :=
  let h := [word (at_ w.st 28 + at_ (b2n w.prot) 27 + at_ (b2n w.hosted) 26 + at_ (b2n w.alarm) 25 + at_ (b2n w.gap) 24 + at_ w.causes 20 +
      at_ w.chan 16 + at_ w.ctx 12 + w.npages),
    word w.wseq, word w.fn0, word w.fn1, word w.t0, word w.t1, word w.writes]
  h ++ [word (crc32Words h)]

/-- A wheel as an index entry tells of it. -/
def wheelOfEntry (ws : List Word) : Wheel :=
  let f (hi lo : Nat) : Nat := bits (nth 0 ws 0) hi lo
  let n (k : Nat) : Nat := (nth 0 ws k).toNat
  { st := f 31 28, prot := f 27 27 == 1, hosted := f 26 26 == 1, alarm := f 25 25 == 1, gap := f 24 24 == 1, causes := f 23 20,
    chan := f 19 16, ctx := f 14 12, npages := f 9 0, wseq := n 1, fn0 := n 2, fn1 := n 3, t0 := n 4, t1 := n 5, writes := n 6,
    foreign := true }

/-- An index entry whose CRC is correct. -/
def entryValid (ws : List Word) : Bool := ws.length == 8 && nth 0 ws 7 == word (crc32Words (ws.take 7))

/-- The header page of a wheel (Table 22.5), as 1024 words. -/
def Wheel.header (w : Wheel) (format k : Nat) : List Word :=
  let h := [0x57484C31, word format, word k, word w.wseq, word (w.origin / 2 ^ 32), word w.origin,
    word (at_ w.chan 16 + at_ w.ctx 12 + at_ w.codec 8 + w.mgrp), word w.hdrFn, w.openHi, w.openLo, word w.openCauses, 0, 0, 0, 0]
  h ++ [word (crc32Words h)] ++ List.replicate 1008 0

def CPage.used (p : CPage) : Nat := segsLen p.segs

/-- A data page (Table 22.6), as 1024 words. -/
def CPage.words (p : CPage) (format k wseq : Nat) : List Word :=
  let pay := (p.segs.flatMap Seg.bytes) ++ List.replicate (4064 - p.used) 0
  let h := [0x50414731, word format, word (at_ k 10 + p.num), word wseq, word (at_ p.firstOff 20 + p.used), p.fn,
    word (at_ (b2n p.last) 31 + at_ (b2n p.pf) 30)]
  h ++ [word (crc32 (wordsBe h ++ pay))] ++ (List.range 1016).map fun i => word (be pay (4 * i) 4)

/-- Page `p` of wheel `k` as it stands on medium `m`: verbatim what was written, or what a card brought.
DESIGN CHOICE (notes/assumptions/4.md). -/
def State.pageWords (s : State) (m k p : Nat) : List Word :=
  let w := (s.med m).wheel k
  if w.foreign then (List.range 1024).map fun i => word (be ((List.range 4).map fun j => Config.mediumByte m k p (4 * i + j)) 0 4)
  else if p = 0 then w.header (s.med m).format k
  else match w.pages.find? (·.num == p) with
    | some g => g.words (s.med m).format k w.wseq
    | none => List.replicate 1024 0

/-! ### Wheels (R488 to R490) -/

/-- The least number from `c` on that a rising list does not hold. -/
def gapFrom (c : Nat) (l : List Nat) : Nat := l.foldl (fun c u => if u = c then c + 1 else c) c

/-- Free and reusable wheels of a medium (CEL_MmFREE). -/
def State.freeWheels (s : State) (m : Nat) : Nat :=
  let x := s.med m
  let used := x.wheels.filter fun p => p.2.st != 0
  let reuse := used.filter fun p => decide (2 ≤ p.2.st) && !p.2.prot
  x.nw - used.length + (if s.flag CEL_CFG (24 + m) then reuse.length else 0)

/-- The wheel to open next (R489): the lowest free one above the last opened, wrapping; else, with WRAP, the closed wheel with
the lowest WSEQ that is not PROT. -/
def State.nextWheel (s : State) (m : Nat) : Option Nat :=
  let x := s.med m
  let used := (x.wheels.filter fun p => p.2.st != 0).map (·.1)
  let start := match x.lastOpen with | some k => k + 1 | none => 0
  let up := gapFrom start (used.filter fun u => decide (start ≤ u))
  let low := gapFrom 0 used
  if up < x.nw then some up
  else if low < x.nw then some low
  else if s.flag CEL_CFG (24 + m) then
    (x.wheels.foldl (fun (b : Option (Nat × Nat)) p =>
      if p.2.st < 2 || p.2.prot then b
      else match b with
        | some q => if p.2.wseq < q.2 then some (p.1, p.2.wseq) else b
        | none => some (p.1, p.2.wseq)) none).map (·.1)
  else none

/-- A wheel is opened with the fields `w` gives it (R488). -/
def openWheel (m k : Nat) (w : Wheel) (s : State) : State :=
  let x := s.med m
  let old := x.wheel k
  onMed m (fun x => { x with lastOpen := some k, wseq := x.wseq + 1 })
    (onWheel m k (fun _ => { w with st := 1, wseq := (x.wseq + 1) % 2 ^ 32, writes := old.writes + 1,
                                    openHi := word s.ptpS, openLo := word s.ptpNs }) s)

/-- A medium that was FULL has a wheel again. -/
def fullFollow (m : Nat) (s : State) : State :=
  if (s.med m).st = .full ∧ (s.nextWheel m).isSome then setMed m .ready s else s

/-- The last data page carries LAST, and PF when it is closed at a power failure. -/
def lastPage (pf : Bool) (ps : List CPage) : List CPage :=
  match ps.reverse with
  | p :: t => t.reverse ++ [{ p with last := true, pf }]
  | [] => []

/-- The index entry takes its closing state. -/
def closeWheel (m k st : Nat) (gap : Bool) (s : State) : State :=
  fullFollow m (onWheel m k (fun w => { w with st, gap := w.gap || gap, npages := w.pages.length }) s)

/-- One thing that waits is carried out: a page written, a wheel closed. Nothing is written on a medium that has gone. -/
def writeOut (o : Nat × Nat × COut) (s : State) : State :=
  if !(s.usable o.1 || (s.med o.1).st == .full) then s
  else match o.2.2 with
    | .page p => onWheel o.1 o.2.1 (fun w => { w with pages := w.pages ++ [p] }) s
    | .close st gap => closeWheel o.1 o.2.1 st gap s

/-! ### Packing records into pages (Table 22.7, R487) -/

/-- The header of a fragment. -/
def CRec.frag (r : CRec) (first last : Bool) (n : Nat) : List Nat :=
  wordsBe [word (at_ r.ty 28 + at_ (b2n first) 27 + at_ (b2n last) 26 + n), r.w1, r.hi, r.lo]

/-- A record goes into the page being filled and, fragment by fragment, into the following ones: the pages filled, and the page
left. -/
def packRec (r : CRec) : Nat → Bool → List Seg → CPage → List CPage × CPage
  | 0, _, _, b => ([], b)
  | k + 1, first, body, b =>
    let len := segsLen body
    if 4064 < b.used + 16 + min len 4 then
      let q := packRec r k first body { num := b.num + 1 }
      (b :: q.1, q.2)
    else
      let n := min len (4064 - b.used - 16)
      let mark := first && b.firstOff == 0xFFF
      let b' := { b with
        segs := b.segs ++ [.lit (r.frag first (n == len) n)] ++ segsTake n body ++ [.lit (List.replicate ((4 - n % 4) % 4) 0)]
        firstOff := if mark then b.used else b.firstOff, fn := if mark then r.w1 else b.fn
        frames := if first && r.ty == 1 then b.frames + 1 else b.frames }
      if n = len then ([], b')
      else
        let q := packRec r k false (segsDrop n body) { num := b.num + 1 }
        (b' :: q.1, q.2)

def CRec.pack (r : CRec) (b : CPage) : List CPage × CPage := packRec r 1100 true r.body b

/-- The record of a coded frame: its descriptor and its coded bytes. -/
def frameRec (e : Nat) (c : Coded) : CRec :=
  ⟨1, word c.fn, nth 0 c.desc 2, nth 0 c.desc 3, [.lit (wordsBe c.desc), .coded e c.id 0 c.len]⟩

/-- The causes of a stream that are active (R484): continuous, alarm, host loss, uplink loss; `reach` is UPLINK_REACH. -/
def State.celCauses (s : State) (reach : Bool) (e : Nat) : Nat :=
  let f (n : Nat) : Bool := s.flag (CEL_RCFG e) n
  b2n (f 30) + 2 * b2n (f 29 && (s.strm e).alarm) + 4 * b2n (f 28 && s.start.hostLost) + 8 * b2n (f 27 && !reach)

/-- A stream is armed (R483). -/
def State.armed (s : State) (e : Nat) : Bool := s.flag CEL_CFG 31 && s.flag (CEL_RCFG e) 31

/-- GOSSIP word 5 (R492). -/
def State.cellarWord (s : State) : Word :=
  let us := [0, 1].filter s.usable
  word (at_ (b2n (!us.isEmpty)) 31 + at_ (b2n (s.cel.streams.any (·.recording))) 30 + at_ (b2n (!s.cel.hosted.isEmpty)) 29 +
    sat 65535 ((us.map s.freeWheels).foldl max 0))

end Sys2Proof.Machine
end

