-- ==== Sys2Proof/Machine/BlkVelva.lean ====
section
/-! DEFINITION. The Velva engine (chapter 20): frames and their relaying, hop acknowledgement, alarms, topology, roll-call,
gossip, uplinks and views. Buddy frames are in BlkCel.lean. -/

namespace Sys2Proof.Machine

def onVlv (f : Velva → Velva) (s : State) : State := { s with vlv := f s.vlv }

def State.vlvEn (s : State) : Bool := s.flag VLV_CFG 31
def State.isHead (s : State) : Bool := s.flag VLV_CFG 30
def State.ringEn (s : State) : Bool := s.flag VLV_CFG 29

/-- A Velva port whose link is up (R431). -/
def State.vlvPort (s : State) (p : Nat) : Bool := decide (p < 2) && s.vlvEn && s.role p != 0 && s.portUp p

/-! ### Frames (Tables 20.3 and 20.4) -/

/-- The PCP of a type. -/
def velvaPcp (ty : Nat) : Nat := if ty = 6 ∨ ty = 7 ∨ ty = 12 then 7 else if ty = 10 ∨ ty = 11 then 5 else 6

/-- The header and payload of a frame, before the CRC. -/
def vBody (v : VFrame) : List Nat :=
  [0x10 + v.ty % 16, v.flags % 256] ++ toBe v.pl.length 2 ++ toBe v.origin 8 ++ [v.hops % 256, v.ohop % 256] ++ toBe v.seq 2 ++ v.pl

/-- A Velva frame as port `p` sends it, padded to 60 bytes before the FCS. -/
def State.velvaBytes (s : State) (p : Nat) (v : VFrame) : List Nat :=
  let b := vBody v
  let f := toBe velvaMac 6 ++ toBe (ownMac p) 6 ++ [0x81, 0x00] ++ toBe (at_ (velvaPcp v.ty) 13 + s.fld VLV_ETYPE 27 16) 2 ++
    toBe (s.fld VLV_ETYPE 15 0) 2 ++ b ++ toBe (b.foldl crc16Byte 0xFFFF) 2
  f ++ List.replicate (60 - f.length) 0

/-- A frame is sent on Velva port `p` (R431). -/
def vSend (p : Nat) (v : VFrame) (s : State) : State :=
  if !s.vlvPort p then s
  else
    let b := s.velvaBytes p v
    enqueueFrame p (queueOf (velvaPcp v.ty) false) ⟨b, b.length + 4, 4, s.ptp⟩ s

/-- The next SEQ of a type. -/
def nextSeq (ty : Nat) (s : State) : Nat × State :=
  let q := nth 0 s.vlv.seqs ty
  (q, onVlv (fun x => { x with seqs := x.seqs.set ty ((q + 1) % 65536) }) s)

/-- A frame of this unit's own: its hop index is told while it is known (R442). -/
def State.ownFrame (s : State) (ty seq : Nat) (pl : List Nat) : VFrame :=
  ⟨ty, at_ (b2n s.vlv.hopValid) 7, Config.unitId % 2 ^ 64, 0, if s.vlv.hopValid then s.vlv.hop else 0, seq, pl⟩

/-- A frame of this unit on every Velva port. -/
def flood (ty : Nat) (pl : List Nat) (s : State) : State :=
  let q := nextSeq ty s
  let v := q.2.ownFrame ty q.1 pl
  vSend 1 v (vSend 0 v q.2)

/-- A frame received on port `p` goes on to the other Velva port, HOPS increased, unless HOPS is 255 (R432). -/
def relay (p : Nat) (v : VFrame) (s : State) : State :=
  if 255 ≤ v.hops then s else vSend (1 - p) { v with hops := v.hops + 1 } s

/-- A frame whose HOP_ACK is awaited is sent for the first time (R433). -/
def sendAcked (p : Nat) (v : VFrame) (max : Nat) (s : State) : State :=
  if s.vlvPort p then onVlv (fun x => { x with attempts := x.attempts ++ [⟨p, v, 1, max⟩] }) (vSend p v s) else s

/-- The HOP_ACK of a frame accepted on port `p` (R433). -/
def hopAckFor (p : Nat) (v : VFrame) (s : State) : State :=
  let q := nextSeq 7 s
  vSend p (q.2.ownFrame 7 q.1 (toBe v.origin 8 ++ toBe (at_ v.ty 28 + v.seq) 4)) q.2

/-- Sequence numbers modulo 65 536: `a` is later than `b` within half the range (R432). -/
def seqLater (a b : Nat) : Bool := let d := (a + 65536 - b) % 65536; decide (0 < d) && decide (d < 32768)

/-- An ALARM, LINK_EVT or RING_CTL frame is new when it is not among the last 64 of its type; it is then kept (R432).
DEDUCED (notes/assumptions/50.md). -/
def isNew (v : VFrame) (s : State) : Bool := v.origin != Config.unitId % 2 ^ 64 && !s.vlv.dups.contains (v.ty, v.origin, v.seq)
def keepDup (v : VFrame) (s : State) : State :=
  onVlv (fun x =>
    let same := (x.dups ++ [(v.ty, v.origin, v.seq)]).filter fun d => d.1 == v.ty
    { x with dups := x.dups.filter (fun d => d.1 != v.ty) ++ same.drop (same.length - 64) }) s

/-! ### Uplinks and GOSSIP (R449, R450) -/

/-- UPLINK_OWN and UPLINK_REACH (R450). -/
def State.uplinkOwn (s : State) : Bool := [0, 1].any fun p => s.role p == 2 && s.portUp p && (s.swPort p).fwd == 0
def State.uplinkReach (s : State) : Bool := !s.vlvEn || s.uplinkOwn || s.vlv.beacon

/-- GOSSIP word 0 (Table 20.5). -/
def State.gossip0 (s : State) : Word :=
  let x := s.vlv
  word (at_ (b2n s.isHead) 31 + at_ (b2n s.ringEn) 30 + at_ x.topo 28 + at_ (b2n s.uplinkOwn) 27 + at_ (b2n s.uplinkReach) 26 +
    at_ (b2n (s.flag VLV_LATCH 0)) 25 + at_ (b2n x.hopValid) 24 + at_ (s.role 0) 22 + at_ (s.role 1) 20 +
    at_ (b2n (s.swPort 0).link) 19 + at_ (b2n (s.swPort 1).link) 18 + at_ (b2n (s.swPort 0).quar) 17 +
    at_ (b2n (s.swPort 1).quar) 16 + at_ s.tier 8 + (if x.hopValid then x.hop else 0))

/-! ### Views (R451, R452, Table 20.8) -/

/-- A gossip entry by origin. -/
def State.gossipOf (s : State) (origin : Nat) : Option (Nat × GEntry) := s.vlv.table.find? fun g => g.2.origin == origin

/-- 3 · GOSSIP_T in ticks. -/
def State.gossip3 (s : State) : Nat := 3 * s.fld VLV_CFG 23 16 * 100 * msTicks

/-- A neighbour is observed reachable on a port (R452). -/
def State.reachable (s : State) (p : Nat) : Bool :=
  let x := s.swPort p
  x.link && !x.quar && x.obsOk && decide (s.upTicks - x.obsAt ≤ s.gossip3)

/-- The neighbour's last GOSSIP is known, and shows the facing link up (CHA faces its CHB). -/
def State.cfgKnown (s : State) (p : Nat) : Bool := (s.swPort p).obs != 0 && (s.gossipOf (s.swPort p).obs).isSome
def State.cfgLink (s : State) (p : Nat) : Bool :=
  match s.gossipOf (s.swPort p).obs with
  | some g => (s.swPort p).obs != 0 && bit (nth 0 g.2.words 0) (18 + p)
  | none => false

/-- The expected neighbour of a port. -/
def State.expected (s : State) (p : Nat) : Nat := s.fld (VLV_EXP_HI p) 31 0 * 2 ^ 32 + s.fld (VLV_EXP_LO p) 31 0

/-- A gossip entry's origin has sent no Velva frame within 3 · GOSSIP_T. -/
def State.unseen (s : State) (g : GEntry) : Bool := g.silent || decide (s.gossip3 < s.upTicks - g.seen)

/-- A disagreement holds now: kind 1 or 2 on port `k`, kind 3 for gossip index `k`, kind 4. -/
def State.disagrees (s : State) (kind k : Nat) : Bool :=
  match kind with
  | 1 => decide (k < 2) && s.cfgLink k && !(s.swPort k).link
  | 2 => decide (k < 2) && s.expected k != 0 && s.expected k != (s.swPort k).obs
  | 3 => match s.vlv.table.lookup k with
    | some g => s.unseen g
    | none => false
  | 4 => k == 0 && !s.uplinkReach && s.vlv.table.any fun g => bit (nth 0 g.2.words 0) 27
  | _ => false

/-- The disagreements of a kind. -/
def State.disagreements (s : State) (kind : Nat) : List Nat :=
  (match kind with
   | 3 => s.vlv.table.map fun (g : Nat × GEntry) => g.1
   | 4 => [0]
   | _ => [0, 1]).filter (s.disagrees kind)

/-- GOSSIP payload (Table 20.5). -/
def State.gossipWords (s : State) : List Word :=
  let dis := sat 255 (([1, 2, 3, 4].map fun k => (s.disagreements k).length).foldl (· + ·) 0)
  let id (p : Nat) : List Word := [word ((s.swPort p).obs / 2 ^ 32), word (s.swPort p).obs]
  [s.gossip0] ++ id 0 ++ id 1 ++ [s.cellarWord, word s.ptpS, word s.ptpNs, word (at_ dis 24 + s.vlv.lastSeq), word s.uptimeS, 0, 0]

/-- A GOSSIP on every Velva port (R449). -/
def sendGossip (s : State) : State :=
  if s.vlvEn && s.swUp then
    onVlv (fun x => { x with word0 := some s.gossip0 }) (flood 4 (wordsBe s.gossipWords) s)
  else s

/-- What follows a change (R449 to R451): UPLINK_REACH is lost or comes back, a disagreement that has ended may be reported anew,
and a changed word 0 is told at once. -/
def velvaFollow (before : State) (s : State) : State :=
  let s := if before.uplinkReach && !s.uplinkReach then raiseN 0x1CE 0 s
    else if !before.uplinkReach && s.uplinkReach then raiseN 0x1CF 0 s else s
  let s := onVlv (fun x => { x with reported := x.reported.filter fun r => s.disagrees r.1 r.2 }) s
  if s.vlvEn && s.swUp && s.vlv.word0.isSome && s.vlv.word0 != some s.gossip0 then sendGossip s else s

/-- A disagreement has lasted DISAGREE_T: event 0x1D3, once (R451). For kind 3 the happening says that nothing has come. -/
def velvaDisagree (kind k : Nat) (s : State) : State :=
  let s := if kind = 3 then onVlv (fun x => { x with table := x.table.map fun g => if g.1 = k then (k, { g.2 with silent := true }) else g }) s
    else s
  if s.disagrees kind k && !s.vlv.reported.contains (kind, k) then
    let g := s.vlv.table.lookup k
    let nb (p : Nat) : Option GEntry := (s.gossipOf (s.swPort p).obs).map (·.2)
    let of : Option GEntry := match kind with | 3 => g | 4 => none | _ => nb k
    let known := match of with | some e => e.known | none => false
    let oh := match of with | some e => if e.known then e.ohop else 0 | none => 0
    raiseN 0x1D3 (at_ kind 28 + at_ (if kind < 3 then k else 0) 24 + at_ (if kind = 3 then k else 0) 16 + at_ (b2n known) 8 + oh)
      (onVlv (fun x => { x with reported := x.reported ++ [(kind, k)] }) s)
  else s

/-! ### Hop index, topology, ring (R442 to R445) -/

/-- The hop index is taken; each change raises event 0x1CC (R442). -/
def takeHop (h : Nat) (s : State) : State :=
  let x := s.vlv
  if x.hopValid ∧ x.hop = h then s
  else raiseN 0x1CC (at_ (b2n x.hopValid) 16 + at_ x.hop 8 + h) (onVlv (fun x => { x with hopValid := true, hop := h }) s)

/-- A RING_CTL is accepted, or was made here: TOPO, the VELVA_ONLY ports open, chain-port addresses are forgotten (R444). The
same search announced open after closed is RING_OPEN. DEDUCED (notes/assumptions/50.md). -/
def ringCtl (closed : Bool) (search : Nat) (s : State) : State :=
  let topo := if closed then 2 else if s.vlv.topo = 2 ∧ s.vlv.ctlSeq = some search then 3 else 1
  let s := onVlv (fun x => { x with topo, ctlSeq := if closed then some search else x.ctlSeq }) s
  flushMacs (onSwPort 1 (fun p => { p with velvaOnly := false }) (onSwPort 0 (fun p => { p with velvaOnly := false }) s))

/-- A head in TOPO RING opens it (R445). DEDUCED (notes/assumptions/50.md). -/
def openRing (s : State) : State :=
  if s.isHead && s.vlv.topo == 2 && s.vlvEn then
    let s := onSwPort 0 (fun p => { p with blocked := false }) s
    let s := onVlv (fun x => { x with topo := 3 }) s
    raiseN 0x1CD 3 (flood 9 (toBe (at_ s.vlv.rcSeq 16) 4) s)
  else s

/-- A LINK_EVT of this unit: port, UP, QUAR and the neighbour last observed (Table 20.4).
DEDUCED (notes/assumptions/64.md). -/
def linkEvt (p : Nat) (up : Bool) (s : State) : State :=
  if s.vlvEn && decide (p < 2) && s.role p != 0 then
    flood 8 (toBe (at_ p 24 + at_ (b2n up) 23 + at_ (b2n (s.swPort p).quar) 22) 4 ++ toBe (s.swPort p).obs 8) s
  else s

/-- A Velva port has gone down or entered quarantine (R445). -/
def portLost (p : Nat) (s : State) : State :=
  if s.vlvEn && decide (p < 2) && s.role p != 0 then openRing (linkEvt p false s) else s

/-! ### Roll-call (R446 to R448) -/

/-- A search ends at the head with a result, LAST and, in a PARTIAL result, the units beyond it entered as UNREACHED.
DEDUCED (notes/assumptions/50.md). -/
def endSearch (result last : Nat) (s : State) : State :=
  if !s.vlv.rcBusy then s
  else
    let x := s.vlv
    let gone := if result = 4 then
        (x.rcPrev.filter fun p => decide (last < p.1) && (x.rc.lookup p.1).isNone).map fun p => (p.1, { p.2 with w2 := putBits p.2.w2 22 22 1 })
      else []
    let count := x.rc.length
    let s := onVlv (fun x => { x with
      rcBusy := false, rcResult := result, rcLast := last
      rcDur := sat 65535 ((s.upTicks - x.rcStart) / 250)
      rc := gone.foldl (fun l p => aput l p.1 p.2) x.rc
      rcPrev := if result = 2 ∨ result = 3 then x.rc else x.rcPrev }) s
    let s := onSwPort 0 (fun p => { p with blocked := result == 3 }) s
    let s := ringCtl (result == 3) x.rcSeq s
    let s := flood 9 (toBe (at_ x.rcSeq 16 + b2n (result == 3)) 4) s
    raiseN 0x1CA (at_ result 28 + at_ count 16 + at_ last 8) s

/-- Words 2 and 3 of this unit's result entry (Table 20.7); `elapsed` in µs, none at the head. -/
def State.ownEntry (s : State) (hop : Nat) (elapsed : Option Nat) : Word × Word :=
  let age := (s.upTicks - (s.swPort 0).linkAt)
  let late := match elapsed with | some e => decide (age / 25 < e) | none => false
  (word (at_ hop 24 + at_ (b2n late) 23 + at_ (b2n s.uplinkOwn) 21 + at_ (b2n s.isHead) 20 + at_ (s.role 0) 18 + at_ (s.role 1) 16 +
    (if (s.swPort 0).link then sat 65535 (age / msTicks) else 0)), s.cellarWord)

/-- An RC_END of this unit: last hop, PARTIAL, RING (Table 20.4). -/
def sendRcEnd (part : Bool) (s : State) : State :=
  if s.isHead then endSearch (if part then 4 else 2) s.vlv.hop s
  else
    let q := nextSeq 3 s
    vSend 0 (q.2.ownFrame 3 q.1 (toBe (at_ s.vlv.hop 24 + 2 * b2n part) 4)) q.2

/-- The token leaves on CHB, or its search ends here (R447). DEDUCED (notes/assumptions/50.md). -/
def forwardToken (v : VFrame) (s : State) : State :=
  if s.role 1 = 0 then sendRcEnd false s
  else if !(s.vlvPort 1) || (s.swPort 1).quar then sendRcEnd true s
  else sendAcked 1 v 3 s

/-- START: the head begins a search (R446). -/
def startSearch (s : State) : State :=
  let s := takeHop 0 s
  let q := nextSeq 1 s
  let s := q.2
  let e := s.ownEntry 0 none
  let s := onVlv (fun x => { x with
    rcBusy := true, rcResult := 1, rcSeq := q.1, lastSeq := q.1, rcStart := s.upTicks, rcLast := 0, autoRc := false
    rc := [(0, ⟨Config.unitId % 2 ^ 64, e.1, e.2⟩)] }) s
  forwardToken (s.ownFrame 1 q.1 (toBe 0 4)) s

/-- A ROLLCALL arrives (R447, R448). The holding time, at most 20 µs in Run and 40 µs in Eaves, is open.
DESIGN CHOICE (notes/assumptions/7.md). -/
def rollcall (p : Nat) (v : VFrame) (s : State) : State :=
  if p != 0 then raiseN 0x1D6 (at_ p 24 + 1) s
  else
    let s := hopAckFor p v s
    if s.isHead then (if s.vlv.rcBusy ∧ v.seq = s.vlv.rcSeq then endSearch 3 v.hops s else s)
    else
      let el := be v.pl 0 4
      let s := takeHop ((v.hops + 1) % 256) (onVlv (fun x => { x with lastSeq := v.seq }) s)
      let e := s.ownEntry s.vlv.hop (some el)
      let q := nextSeq 2 s
      let s := vSend 0 (q.2.ownFrame 2 q.1 (wordsBe [e.1, e.2])) q.2
      let d := s.draw
      let hold := d.1.toNat % (if s.clk.eaves then 41 else 21)
      forwardToken { v with hops := v.hops + 1, pl := toBe (el + hold + 2) 4 } d.2

/-- An RC_ENTRY arrives (R432, R448): the head keeps it, others send it on towards CHA.
DEDUCED (notes/assumptions/50.md). -/
def rcEntry (p : Nat) (v : VFrame) (s : State) : State :=
  if p != 1 then s
  else if s.isHead then
    let w2 := word (be v.pl 0 4)
    onVlv (fun x => { x with rc := aput x.rc (bits w2 31 24) ⟨v.origin, w2, word (be v.pl 4 4)⟩ }) s
  else relay p v s

/-- An RC_END arrives (R448). -/
def rcEnd (p : Nat) (v : VFrame) (s : State) : State :=
  if p != 1 then s
  else if s.isHead then endSearch (if be v.pl 0 4 / 2 % 2 = 1 then 4 else 2) (be v.pl 0 4 / 2 ^ 24 % 256) s
  else relay p v s

/-- 600 ms have passed without an end (R448): LAST is the highest hop up to which every entry has arrived. -/
def rollcallTimeout (s : State) : State :=
  let last := (List.range 256).foldl (fun h k => if k = h + 1 ∧ (s.vlv.rc.lookup k).isSome then k else h) 0
  endSearch 4 last s

/-! ### Alarms (R437 to R440) -/

/-- The local alarm latch (R439). -/
def alarmLatch (src : Nat) (s : State) : State :=
  raiseN 0x1D1 src (onVlv (fun x => { x with latchCnt := sat 255 (x.latchCnt + 1) }) (s.setFld VLV_LATCH 0 0 1))

/-- A Velva port by which an alarm can go whatever its counters say. -/
def State.alarmPorts (s : State) : List Nat := [0, 1].filter s.vlvPort

/-- A D3 delivery becomes an ALARM frame on every Velva port whose link is up (R437); false says that it counts as LOST. -/
def alarmHandoff (d : Delivery) (s : State) : Bool × State :=
  if !s.vlvEn || (s.role 0 == 0 && s.role 1 == 0) then (false, s)
  else
    let q := nextSeq 6 s
    let s := q.2
    let v := s.ownFrame 6 q.1 (toBe (at_ d.src 16) 4 ++ wordsBe [d.data, d.timeHi, d.timeLo])
    let ps := s.alarmPorts
    let latch := !ps.any fun p => !(s.swPort p).quar
    let s := ps.foldl (fun s p =>
      if s.role p = 1 then sendAcked p v (if (s.swPort p).quar then 3 else 8) s
      else onVlv (fun x => { x with resends := x.resends ++ [(p, v, 1)] }) (vSend p v s)) s
    let up := ps.any fun p => s.role p == 2
    let wait := ps.any fun p => s.role p == 1
    let s := s.count VLV_CNT 31 24
    let s := if latch then alarmLatch d.src s
      else if wait then onVlv (fun x => { x with jobs := x.jobs ++ [⟨q.1, d.src, up, false⟩] }) s else s
    (true, s)

/-- When the attempts of one of this unit's alarms are over and nothing delivered it, the latch is raised (R439). -/
def alarmSettle (seq : Nat) (s : State) : State :=
  let own := Config.unitId % 2 ^ 64
  if s.vlv.attempts.any fun a => a.frame.ty == 6 && a.frame.origin == own && a.frame.seq == seq then s
  else match s.vlv.jobs.find? (·.seq == seq) with
    | none => s
    | some j =>
      let s := onVlv (fun x => { x with jobs := x.jobs.filter (·.seq != seq) }) s
      if j.up || j.acked then s else alarmLatch j.src s

/-- An alarm is repeated on an UPLINK port, three times in all (R437): the `k`-th that waits. -/
def alarmResend (k : Nat) (s : State) : State :=
  match s.vlv.resends[k]? with
  | none => s
  | some (p, v, n) =>
    vSend p v (onVlv (fun x => { x with resends := if 2 ≤ n then x.resends.eraseIdx k else x.resends.set k (p, v, n + 1) }) s)

/-- An ALARM frame arrives (R440): acknowledged, and when new kept, relayed and reported.
DEDUCED (notes/assumptions/50.md). -/
def alarmFrame (p : Nat) (v : VFrame) (s : State) : State :=
  let s := hopAckFor p v s
  if !isNew v s then s.count VLV_CNT 15 8
  else
    let s := keepDup v s
    let src := be v.pl 0 4 / 65536 % 512
    let known := v.flags / 128 % 2 == 1
    let e : AEntry := ⟨v.origin, known, v.ohop, v.hops, v.seq, src, word (be v.pl 4 4), word (be v.pl 8 4), word (be v.pl 12 4), p⟩
    let s := onVlv (fun x => { x with alarms := (e :: x.alarms).take 16 }) (s.count VLV_CNT 23 16)
    let o := 1 - p
    let w := { v with hops := v.hops + 1 }
    let s := if 255 ≤ v.hops then s
      else if s.role o = 1 then sendAcked o w (if (s.swPort o).quar then 3 else 8) s else vSend o w s
    raiseN 0x1D0 (at_ v.ohop 24 + at_ v.hops 16 + at_ (b2n known) 15 + src) s

/-! ### Hop acknowledgement (R433 to R435, R438) -/

/-- What the end of an attempt without acknowledgement brings: RC_END for a token, event 0x1D2 and the latch for an alarm. -/
def attemptFails (a : Attempt) (s : State) : State :=
  match a.frame.ty with
  | 1 => sendRcEnd true s
  | 6 => alarmSettle a.frame.seq (raiseN 0x1D2 (at_ a.port 24 + a.frame.seq) (s.count VLV_CNT 7 0))
  | _ => s

/-- A counter change of a Velva port; entering quarantine is a lost port (R435, R445).
DEDUCED (notes/assumptions/49.md). -/
def velvaErr (p : Nat) (r t : Int) (s : State) : State :=
  let was := (s.swPort p).quar
  let s := addErr p r t s
  if !was && (s.swPort p).quar then portLost p s else s

/-- An attempt gets no HOP_ACK in 2 ms: TX_ERR rises, and the frame is sent again or given up (R433, R434). -/
def attemptTimeout (k : Nat) (s : State) : State :=
  match s.vlv.attempts[k]? with
  | none => s
  | some a =>
    let s := velvaErr a.port 0 8 s
    if a.made < a.max then
      vSend a.port a.frame (onVlv (fun x => { x with attempts := x.attempts.set k { a with made := a.made + 1 } }) s)
    else attemptFails a (onVlv (fun x => { x with attempts := x.attempts.eraseIdx k }) s)

/-- A port that goes down ends its attempts at once (R433). -/
def attemptsEnd (p : Nat) (s : State) : State :=
  let gone := s.vlv.attempts.filter (·.port == p)
  gone.foldl (fun s a => attemptFails a s) (onVlv (fun x => { x with attempts := x.attempts.filter (·.port != p) }) s)

/-- A HOP_ACK arrives (R433, R434). DEDUCED (notes/assumptions/49.md). -/
def hopAck (p : Nat) (v : VFrame) (s : State) : State :=
  let origin := be v.pl 0 8
  let ty := be v.pl 8 4 / 2 ^ 28
  let seq := be v.pl 8 4 % 65536
  let hit (a : Attempt) : Bool := a.port == p && a.frame.ty == ty && a.frame.origin == origin && a.frame.seq == seq
  let s := velvaErr p 0 (if ty = 12 ∧ s.vlv.attempts.any hit then -17 else -1) s
  if s.vlv.attempts.any hit then
    let s := onVlv (fun x => { x with attempts := x.attempts.filter fun a => !hit a }) s
    if ty = 6 ∧ origin = Config.unitId % 2 ^ 64 then
      alarmSettle seq (onVlv (fun x => { x with jobs := x.jobs.map fun j => if j.seq = seq then { j with acked := true } else j }) s)
    else s
  else s

/-- A quarantined port sends a PROBE (R436). -/
def probeTimer (p : Nat) (s : State) : State :=
  if (s.swPort p).quar && s.vlvPort p then
    let q := nextSeq 12 s
    sendAcked p (q.2.ownFrame 12 q.1 []) 1 q.2
  else s

/-! ### The other frames -/

/-- The words of a GOSSIP payload (Table 20.5). -/
def gossipWords12 (v : VFrame) : List Word := (List.range 12).map fun i => word (be v.pl (4 * i) 4)

/-- A new GOSSIP is stored, where the table has its origin or room, and relayed (R432, R449). -/
def gossipNew (p : Nat) (v : VFrame) (s : State) : State :=
  let e : GEntry := ⟨v.origin, s.upTicks, s.upTicks, false, v.flags / 128 % 2 == 1, v.ohop, v.hops, v.seq, gossipWords12 v⟩
  let slot := match s.gossipOf v.origin with
    | some g => some g.1
    | none => (List.range 256).find? fun k => (s.vlv.table.lookup k).isNone
  let s := match slot with
    | some k => onVlv (fun x => { x with table := aput x.table k e }) s
    | none => raiseN 0x1D5 (v.origin % 2 ^ 32) s
  relay p v s

/-- A neighbour's GOSSIP of a lower tier gives the time (R429). -/
def timeFollow (v : VFrame) (s : State) : State :=
  let tier := bits (nth 0 (gossipWords12 v) 0) 15 8
  if !s.flag SW_PTP_SYNC 0 && s.flag VLV_CFG 28 && v.hops == 0 && decide (tier + 1 < s.tier) then
    raiseN 0x1D7 (tier + 1) (onSw (fun w => { w with followed := some (tier + 1) })
      (setPtp (((nth 0 (gossipWords12 v) 6).toNat * 1000000000 + (nth 0 (gossipWords12 v) 7).toNat : Nat) + 4000) s))
  else s

/-- A GOSSIP arrives (R429, R432, R449): stored and relayed when new; it may set the time. -/
def gossipFrame (p : Nat) (v : VFrame) (s : State) : State :=
  let fresh := match s.gossipOf v.origin with | some g => seqLater v.seq g.2.seq | none => true
  if v.origin == Config.unitId % 2 ^ 64 then s else timeFollow v (if fresh then gossipNew p v s else s)

/-- A BEACON arrives (R450). DEDUCED (notes/assumptions/50.md). -/
def beaconFrame (p : Nat) (v : VFrame) (s : State) : State :=
  let fresh := match s.vlv.beacons.lookup v.origin with | some q => seqLater v.seq q | none => true
  if v.origin == Config.unitId % 2 ^ 64 || !fresh then s
  else relay p v (onVlv (fun x => { x with beacons := aput x.beacons v.origin v.seq, beacon := true }) s)

/-- A LINK_EVT arrives (R443, R445). -/
def linkEvtFrame (p : Nat) (v : VFrame) (s : State) : State :=
  if !isNew v s then s
  else
    let s := flushMacs (relay p v (keepDup v s))
    if be v.pl 0 4 / 2 ^ 23 % 2 = 0 then openRing s
    else if s.isHead && s.flag VLV_CFG 27 then onVlv (fun x => { x with autoRc := true }) s else s

/-- A RING_CTL arrives (R444). -/
def ringCtlFrame (p : Nat) (v : VFrame) (s : State) : State :=
  if !isNew v s then s
  else ringCtl (be v.pl 0 4 % 2 == 1) (be v.pl 0 4 / 65536) (relay p v (keepDup v s))

/-- What every received Velva frame does first (R434, R436, R452): the receive counter, RX_ERR, the observed neighbour and the
time its origin was last seen. The answer is whether the frame is accepted.
DESIGN CHOICE (notes/assumptions/60.md). -/
def velvaArrive (p : Nat) (v : VFrame) (s : State) : Bool × State :=
  if !s.portUp p then (false, s)
  else
    let s := velvaErr p (-1) 0 (s.count (SW_PRXC p) 31 0)
    if !s.vlvPort p then (false, s)
    else if (s.swPort p).quar && !(v.ty == 6 || v.ty == 7 || v.ty == 12) then (false, s.count (SW_PDROP p) 15 0)
    else
      let s := if v.hops = 0 then onSwPort p (fun x => { x with obs := v.origin, obsOk := !x.quar, obsAt := s.upTicks }) s else s
      (true, onVlv (fun x => { x with table := x.table.map fun g =>
        if g.2.origin = v.origin then (g.1, { g.2 with seen := s.upTicks, silent := false }) else g }) s)

/-- A frame of types 1 to 9 and 12; a reserved type raises event 0x1D6 (R431). -/
def velvaHandle (p : Nat) (v : VFrame) (s : State) : State :=
  match v.ty with
  | 1 => rollcall p v s
  | 2 => rcEntry p v s
  | 3 => rcEnd p v s
  | 4 => gossipFrame p v s
  | 5 => beaconFrame p v s
  | 6 => alarmFrame p v s
  | 7 => hopAck p v s
  | 8 => linkEvtFrame p v s
  | 9 => ringCtlFrame p v s
  | 10 => s
  | 11 => s
  | 12 => hopAckFor p v s
  | t => raiseN 0x1D6 (at_ p 24 + t) s

/-- What a received frame of the Velva EtherType carries: nothing for another VID or VER, an error for a wrong CRC. -/
def State.velvaParse (s : State) (b : List Nat) : Except Bool VFrame :=
  let e := etherType b
  let o := e.2.2
  let len := be b (o + 2) 2
  if (e.1.getD (s.fld VLV_ETYPE 27 16)) % 4096 != s.fld VLV_ETYPE 27 16 || be b o 1 / 16 != 1 then .error false
  else if 1440 < len || be b (o + 16 + len) 2 != ((b.drop o).take (16 + len)).foldl crc16Byte 0xFFFF then .error true
  else .ok ⟨be b o 1 % 16, be b (o + 1) 1, be b (o + 4) 8, be b (o + 12) 1, be b (o + 13) 1, be b (o + 14) 2, (b.drop (o + 16)).take len⟩

/-- A frame is received by the switch; the answer is the Velva frame that the engine is to take (R421, R431, R434).
DEDUCED (notes/assumptions/49.md). -/
def ethernetFrame (p : Nat) (b : List Nat) (damaged : Bool) (s : State) : Option VFrame × State :=
  if !s.portUp p then (none, s)
  else
    let s1 := s.count (SW_PRXC p) 31 0
    if damaged then (none, velvaErr p 8 0 s1)
    else if s.isVelva b then
      if p = 2 then (none, s1)
      else if !s.vlvEn then (none, dataFrame p b s1)
      else match s.velvaParse b with
        | .ok v => (some v, s)
        | .error true => (none, velvaErr p 8 0 s1)
        | .error false => (none, s1)
    else (none, dataFrame p b s1)

/-! ### Links (R430, R443, R454) -/

/-- A link comes up. -/
def swLinkUp (p : Nat) (g1000 : Bool) (s : State) : State :=
  if (s.swPort p).link || !s.swUp then s
  else
    let s := clearErr p s
    let only := decide (p < 2) && s.ringEn && s.role p != 0
    let s := onSwPort p (fun x => { x with link := true, g1000, linkAt := s.upTicks, velvaOnly := only, obsOk := false }) s
    let s := raiseN (0x1C0 + p) (at_ 1 31 + at_ (b2n g1000) 30) s
    let s := if only then
        let s := linkEvt p true s
        if s.isHead && s.flag VLV_CFG 27 && s.vlvEn then onVlv (fun x => { x with autoRc := true }) s else s
      else s
    pump p s

/-- A link goes down. DEDUCED (notes/assumptions/49.md). -/
def swLinkDown (p : Nat) (s : State) : State :=
  if !(s.swPort p).link then s
  else
    let s := onSwPort p (fun x => { x with link := false, tx := none, obsOk := false }) s
    let s := raiseN (0x1C0 + p) 0 s
    portLost p (attemptsEnd p s)

/-- A resumption in place or a wake (R454): a search ends with result 5, attempts are dropped, ports renegotiate. -/
def velvaResume (s : State) : State :=
  let s := onVlv (fun x => { x with attempts := [], jobs := [], resends := []
                                    rcBusy := false, rcResult := if x.rcBusy then 5 else x.rcResult }) s
  swDown s

/-- A reset. -/
def velvaReset (s : State) : State := swReset { s with vlv := {} }

/-! ### Registers of page 0x11, VLV_ part (Table 20.10) -/

/-- Word `w` of VLV_RCDATA. -/
def State.rcData (s : State) (w : Nat) : Word :=
  match s.vlv.rc.lookup (w / 4) with
  | none => 0
  | some e => match w % 4 with
    | 0 => word e.origin
    | 1 => word (e.origin / 2 ^ 32)
    | 2 => e.w2
    | _ => e.w3

/-- Word `w` of VLV_GDATA. -/
def State.gData (s : State) (w : Nat) : Word :=
  match s.vlv.table.lookup (w / 16) with
  | none => 0
  | some e => match w % 16 with
    | 0 => word (e.origin / 2 ^ 32)
    | 1 => word e.origin
    | 2 => word (sat (2 ^ 32 - 1) ((s.upTicks - e.at_) / (100 * msTicks)))
    | 3 => word (at_ e.ohop 24 + at_ e.hops 16 + e.seq)
    | k => nth 0 e.words (k - 4)

/-- Word `w` of VLV_ADATA, the newest alarm first. DEDUCED (notes/assumptions/50.md). -/
def State.aData (s : State) (w : Nat) : Word :=
  match s.vlv.alarms[w / 8]? with
  | none => 0
  | some e => match w % 8 with
    | 0 => word (e.origin / 2 ^ 32)
    | 1 => word e.origin
    | 2 => word (at_ e.ohop 24 + at_ e.hops 16 + e.seq)
    | 3 => word e.src
    | 4 => e.data
    | 5 => e.hi
    | 6 => e.lo
    | _ => word (at_ (b2n e.known) 8 + e.port)

/-- The live words of the VLV_ registers. -/
def vlvView (a : Nat) (s : State) : Option Word :=
  let x := s.vlv
  let dis (p : Nat) : Nat := b2n (s.disagrees 1 p) + 2 * b2n (s.disagrees 2 p) +
    4 * b2n (match s.gossipOf (s.swPort p).obs with | some g => s.unseen g.2 | none => false) + 8 * b2n (s.disagrees 4 0)
  let age (p : Nat) : Nat := match s.gossipOf (s.swPort p).obs with
    | some g => sat 65535 ((s.upTicks - g.2.at_) / (100 * msTicks))
    | none => 0
  let view (p : Nat) : Word := word (at_ (b2n (s.swPort p).link) 31 + at_ (b2n (s.reachable p)) 30 + at_ (b2n (s.cfgLink p)) 29 +
    at_ (b2n (s.cfgKnown p)) 28 + at_ (dis p) 24 + age p)
  let n (k : Nat) : Nat := sat 255 (s.disagreements k).length
  let gone := (x.rc.filter fun e => bit e.2.w2 22).length
  [(VLV_STAT, word (at_ x.hop 24 + at_ x.topo 22 + at_ (b2n s.uplinkOwn) 21 + at_ (b2n s.uplinkReach) 20 + at_ (b2n x.rcBusy) 19 +
     at_ (b2n x.hopValid) 18 + x.table.length)),
   (VLV_LATCH, putBits (s.reg VLV_LATCH) 15 8 x.latchCnt),
   (VLV_DIS, word (at_ (n 1) 24 + at_ (n 2) 16 + at_ (n 3) 8 + n 4)),
   (VLV_NBR_LO 0, word (s.swPort 0).obs), (VLV_NBR_HI 0, word ((s.swPort 0).obs / 2 ^ 32)),
   (VLV_NBR_LO 1, word (s.swPort 1).obs), (VLV_NBR_HI 1, word ((s.swPort 1).obs / 2 ^ 32)),
   (VLV_VIEW 0, view 0), (VLV_VIEW 1, view 1),
   (VLV_RC_STAT, word (at_ x.rcResult 28 + at_ (x.rc.length - gone) 16 + at_ x.rcLast 8 + sat 255 gone)),
   (VLV_RC_STAT2, word (at_ x.rcSeq 16 + (if x.rcBusy then sat 65535 ((s.upTicks - x.rcStart) / 250) else x.rcDur)))].lookup a

/-- A valid VLAN entry holds the Velva VID with CHA and CHB as members (R455). -/
def State.velvaVlan (s : State) : Bool :=
  match s.vlan (s.fld VLV_ETYPE 27 16) with
  | some w => bit w 4 && bit w 5
  | none => false

/-- EN of VLV_CFG rises or falls: gossip begins with a frame, or what the engine was sending and searching ends (R431, R449).
DEDUCED (notes/assumptions/50.md). -/
def velvaEnable (before : State) (s : State) : State :=
  if !before.vlvEn && s.vlvEn then sendGossip s
  else if before.vlvEn && !s.vlvEn then
    onVlv (fun x => { x with attempts := [], jobs := [], resends := [], beacon := false, word0 := none, autoRc := false,
                             rcBusy := false, rcResult := if x.rcBusy then 5 else x.rcResult }) s
  else s

/-- The writes of the VLV_ registers (R446, R449, R455). -/
def vlvWrite (a : Nat) (v : Word) (s : State) : Option WriteRule := [
    (VLV_CFG, ({ pre := chk ((s.vlvEn && (bit v 30 != s.isHead || bit v 29 != s.ringEn)) || (bit v 31 && !s.velvaVlan)) .eState,
                 app := velvaEnable s } : WriteRule)),
    (VLV_ETYPE, { pre := chk s.vlvEn .eState, bad := etypeBad (bits v 15 0) || bits v 15 0 == s.fld EGR_HOST 15 0 }),
    (VLV_RC_CMD, { pre := match bits v 31 28 with
                     | 1 => chk (!s.isHead || !s.vlvEn || s.vlv.rcBusy) .eState
                     | 2 => chk (!s.vlv.rcBusy) .eState
                     | _ => .ok,
                   app := fun t => if bits v 31 28 = 1 then startSearch t else endSearch 5 t.vlv.rcLast t }),
    (VLV_GCMD, { app := onVlv fun x => { x with table := if bits v 31 28 = 1 then adel x.table (bits v 7 0) else [] } })].lookup a

end Sys2Proof.Machine
end

