-- ==== Sys2Proof/Machine/BlkCel.lean ====
section
/-! DEFINITION. The Cellar (chapter 22): recording and its causes, destinations and buddies, closings, retrieval through the
control port and as network jobs. -/

namespace Sys2Proof.Machine

/-! ### Closing and leaving out (R487, R488) -/

/-- The open wheel of a stream is to be closed: its last page carries LAST. -/
def closeStream (e st : Nat) (gap pf : Bool) (s : State) : State :=
  let x := s.strm e
  match x.wheel with
  | none => onStrm e (fun x => { x with buf := { num := 1 } }) s
  | some (m, k) =>
    let fin : List (Nat × Nat × COut) := [(m, k, .close st gap)]
    if x.buf.segs.isEmpty then
      match x.out.reverse with
      | (m', k', .page p) :: t =>
        onStrm e (fun x => { x with wheel := none, buf := { num := 1 }, out := t.reverse ++ [(m', k', .page { p with last := true, pf })] ++ fin }) s
      | _ =>
        let s := onWheel m k (fun w => { w with pages := lastPage pf w.pages }) s
        onStrm e (fun x => { x with wheel := none, buf := { num := 1 }, out := x.out ++ fin }) s
    else
      onStrm e (fun x => { x with wheel := none, buf := { num := 1 }, out := x.out ++ [(m, k, .page { x.buf with last := true, pf })] ++ fin }) s

/-- Everything a stream has waiting is written. -/
def flushStream (e : Nat) (s : State) : State :=
  (s.strm e).out.foldl (fun s o => writeOut o s) (onStrm e (fun x => { x with out := [] }) s)

/-- A frame is left out: counted, event 0x1F3 for the first, and nothing more is recorded up to the next IDR frame (R487). -/
def leaveOut (e reason : Nat) (s : State) : State :=
  let first := (s.strm e).await.isNone
  let s := onStrm e (fun x => { x with await := some (x.await.getD reason), left := x.left + 1 }) (s.count (CEL_RCNT e) 15 0)
  raiseIf first 0x1F3 (at_ e 16 + reason) s

/-! ### Buddy streams, origin's side (R493, R495, R496) -/

/-- Event 0x1F4 (R496). -/
def buddyEvent (host : Bool) (op p e : Nat) (s : State) : State := raiseN 0x1F4 (at_ (b2n host) 31 + at_ op 24 + at_ p 16 + at_ e 8) s

/-- A BUDDY_CTL frame: OP, BID, channel, context, CODEC, MGRP, and the reason of a REFUSE (Table 22.8). -/
def sendCtl (p op bid e ctx codec mgrp reason : Nat) (s : State) : State :=
  let q := nextSeq 11 s
  vSend p (q.2.ownFrame 11 q.1 (toBe (at_ op 28 + at_ bid 24 + at_ e 16 + at_ ctx 12 + at_ codec 8 + mgrp) 4 ++ toBe reason 4)) q.2

/-- The neighbour on a port qualifies as a buddy: observed reachable, a usable medium, enough free wheels (R493). -/
def State.buddyFree (s : State) (p : Nat) : Option Nat :=
  match s.gossipOf (s.swPort p).obs with
  | some g =>
    let w := nth 0 g.2.words 5
    if s.reachable p && g.2.hops == 0 && bit w 31 && decide (s.fld CEL_CFG 23 16 ≤ bits w 15 0) then some (bits w 15 0) else none
  | none => none

/-- The port of choice among those not ruled out: the larger count, CHB on a tie. -/
def State.buddyPort (s : State) (ruled : List Nat) : Option Nat :=
  let f (p : Nat) : Option Nat := if ruled.contains p then none else s.buddyFree p
  match f 0, f 1 with
  | some a, some b => if b < a then some 0 else some 1
  | some _, none => some 0
  | none, some _ => some 1
  | none, none => none

/-- A BUDDY_DATA frame's next chunk goes out while fewer than 16 frames are unacknowledged (R495). The record stream's bytes wait
in `bytes`; 64 trials cover the window. DEDUCED (notes/assumptions/53.md). -/
def buddyPump (e : Nat) : Nat → State → State
  | 0, s => s
  | k + 1, s =>
    match (s.strm e).buddy with
    | none => s
    | some b =>
      if !b.accepted || b.bytes.isEmpty || decide (16 ≤ b.unacked.length) then s
      else
        let q := nth 0 s.cel.tx b.port
        let v := s.ownFrame 10 q (toBe (at_ e 28) 4 ++ List.replicate 12 0 ++ b.bytes.take 1024)
        let s := onCel (fun c => { c with tx := c.tx.set b.port ((q + 1) % 65536) }) s
        let s := onStrm e (fun x => { x with buddy := some { b with bytes := b.bytes.drop 1024, unacked := b.unacked ++ [(v, 1)] } }) s
        buddyPump e k (vSend b.port v s)

/-- Pages of a buddy's record stream join the bytes to be sent: each page's payload, filled up with zeros. -/
def buddyPages (e : Nat) (ps : List CPage) (s : State) : State :=
  let pay (p : CPage) : List Nat := (p.segs.flatMap Seg.bytes) ++ List.replicate (4064 - p.used) 0
  buddyPump e 64 (onStrm e (fun x => { x with buddy := x.buddy.map fun b => { b with bytes := b.bytes ++ ps.flatMap pay } }) s)

/-- A buddy stream ends at the origin (R496): frames are left out with reason 1 up to the next IDR frame. `op` is what ended it. -/
def buddyEnds (e op : Nat) (tell : Bool) (s : State) : State :=
  match (s.strm e).buddy with
  | none => s
  | some b =>
    let s := if tell then sendCtl b.port 4 e e 0 0 0 0 s else s
    let s :=
      if b.closing then onStrm e (fun x => { x with buddy := none }) s
      else
        let n := (s.strm e).held.length + (s.strm e).buf.frames
        let s := onStrm e (fun x => { x with buddy := none, dest := 0, buf := { num := 1 }, held := [] }) s
        if (s.strm e).recording then (List.range n).foldl (fun s _ => leaveOut e 1 s) s else s
    buddyEvent false op b.port e s

/-- A buddy stream that has nothing more to send ends with its CLOSE (R496). -/
def buddyDrained (e : Nat) (s : State) : State :=
  if (s.strm e).buddy.any fun b => b.closing && b.bytes.isEmpty && b.unacked.isEmpty then buddyEnds e 4 true s else s

/-- The stream has no more for its buddy: what is left of its last page is sent, and the CLOSE follows when all is acknowledged, at
once with `now` and while no ACCEPT has come. DEDUCED (notes/assumptions/53.md). -/
def buddyStops (e : Nat) (now : Bool) (s : State) : State :=
  match (s.strm e).buddy with
  | none => s
  | some b =>
    let x := s.strm e
    let s := if b.closing || !b.accepted || x.buf.segs.isEmpty then s else buddyPages e [{ x.buf with last := true }] s
    let s := onStrm e (fun x => { x with
      buddy := x.buddy.map fun b => { b with closing := true }, dest := if 3 ≤ x.dest then 0 else x.dest, held := []
      buf := if b.closing then x.buf else { num := 1 } }) s
    if now || !b.accepted then buddyEnds e 4 true s else buddyDrained e s

/-! ### Writing a frame (R486 to R488, R491) -/

/-- Bytes of a share's frames, and bytes that wait to be written. -/
def CelStream.shareBytes (x : CelStream) : Nat :=
  (x.share.map fun i => match i with | .frame c => 32 + c.len | .marker _ _ _ _ => 20).foldl (· + ·) 0 +
    4096 * (x.out.filter fun o => match o.2.2 with | .page _ => true | .close _ _ => false).length + x.buf.used

/-- The destination a stream would write to now (R491): its medium, the other one; 0 when it needs a buddy. -/
def State.bestMedium (s : State) (e : Nat) : Nat :=
  let m := s.fld (CEL_RCFG e) 26 26
  if s.usable m then m + 1 else if s.usable (1 - m) then 2 - m else 0

/-- The pages filled by a record go where the stream writes. -/
def storePages (e : Nat) (ps : List CPage) (buf : CPage) (s : State) : State :=
  match (s.strm e).wheel with
  | some (m, k) => onStrm e (fun x => { x with buf, out := x.out ++ ps.map fun p => (m, k, .page p) }) s
  | none => buddyPages e ps (onStrm e (fun x => { x with buf }) s)

/-- A record is packed into the stream's pages. Word 5 of a page whose FIRST_OFF record is no frame is open. A marker makes its
wheel ALARM, and PROT with PROT_ALARM = 1 (R490). DESIGN CHOICE (notes/assumptions/7.md). -/
def putRec (e : Nat) (r : CRec) (s : State) : State :=
  let d := s.draw
  let x := s.strm e
  let q := r.pack x.buf
  let fix (p : CPage) : CPage := if p.firstOff != 0xFFF && p.fn == r.w1 then { p with fn := d.1 } else p
  if r.ty = 1 then storePages e q.1 q.2 s
  else
    let s := storePages e (q.1.map fix) (fix q.2) d.2
    match r.ty, x.wheel with
    | 2, some (m, k) => onWheel m k (fun w => { w with alarm := true, prot := w.prot || s.flag CEL_CFG 30 }) s
    | 4, some (m, k) => onWheel m k (fun w => { w with gap := true }) s
    | _, _ => s

/-- A wheel that a job has not passed is reused: the job goes on in the oldest wheel that remains (R503). -/
def reuseJump (m k : Nat) (s : State) : State :=
  let s := onCel (fun c =>
    let r := c.ret
    if r.st = 1 ∧ r.med = m ∧ r.wheels.contains k then
      { c with ret := { r with wheels := r.wheels.filter (· != k), page := if r.wheels.head? = some k then 0 else r.page, jumps := r.jumps + 1 } }
    else c) s
  (List.range 8).foldl (fun s j =>
    if s.fld (CEL_NCFG j) 30 30 = m ∧ (nth {} s.cel.jobs j).wheel = some k then
      onCel (fun c => { c with jobs := upd c.jobs j fun x => { x with wheel := none } }) s
    else s) s

/-- A new wheel for a stream, for frames of the given kind; false when the medium has none and is FULL (R488, R489).
DEDUCED (notes/assumptions/53.md). -/
def newWheel (e m : Nat) (c : Coded) (s : State) : Bool × State :=
  match s.nextWheel m with
  | none => (false, setMed m .full s)
  | some k =>
    let w : Wheel := { chan := e, ctx := c.ctx, codec := c.codec, mgrp := c.mgrp, origin := Config.unitId % 2 ^ 64, causes := (s.strm e).causes,
                       openCauses := (s.strm e).causes, hdrFn := c.fn, fn0 := c.fn, fn1 := c.fn, t0 := c.ptpS, t1 := c.ptpS }
    (true, onStrm e (fun x => { x with wheel := some (m, k), dest := m + 1, kind := (c.mgrp, c.ctx, c.codec), buf := { num := 1 } })
      (openWheel m k w (reuseJump m k s)))

/-- The records that go in front of a frame: those owed, and before an IDR frame the gap record (R486, R487, R499).
DEDUCED (notes/assumptions/53.md). -/
def State.leadRecs (s : State) (e : Nat) (c : Coded) : List CRec :=
  let x := s.strm e
  let gap := if c.isIdr then (if x.lost then some 5 else x.await) else none
  x.owed ++ (match gap with
    | some r => [⟨4, word x.left, nth 0 c.desc 2, nth 0 c.desc 3, [.lit (toBe r 4)]⟩]
    | none => [])

/-- The frame's records go into the pages behind those owed, and the wheel's entry follows it. -/
def putFrame (e : Nat) (c : Coded) (s : State) : State :=
  let s := (s.leadRecs e c).foldl (fun s r => putRec e r s) s
  let s := onStrm e (fun x => { x with owed := [], await := none, left := 0, lost := false }) s
  let s := putRec e (frameRec e c) s
  let s := match (s.strm e).wheel with
    | some (m, k) => onWheel m k (fun w => { w with fn1 := c.fn, t1 := c.ptpS, frames := w.frames ++ [((s.strm e).buf.num, c)],
                                                    causes := w.causes ||| (s.strm e).causes }) s
    | none => s
  s.count (CEL_RCNT e) 31 16

/-- Pages a frame's records would take on their own. -/
def framePages (e : Nat) (c : Coded) : Nat := ((frameRec e c).pack { num := 1 }).2.num

/-- A frame is recorded on the stream's destination, or left out whole (R487, R488). -/
def writeFrame (e : Nat) (c : Coded) (s : State) : State :=
  let x := s.strm e
  if x.dest = 0 then leaveOut e 1 s
  else if 1023 < framePages e c then leaveOut e 3 s
  else if s.fld (CEL_RCFG e) 4 0 * 2 ^ 20 < x.shareBytes + 32 + c.len then leaveOut e 2 s
  else if 3 ≤ x.dest then
    if c.isIdr ∧ x.kind ≠ (c.mgrp, c.ctx, c.codec) then leaveOut e 1 (buddyEnds e 4 true s)
    else putFrame e c s
  else
    let m := x.dest - 1
    let last := (s.leadRecs e c ++ [frameRec e c]).foldl (fun b r => (r.pack b).2) x.buf
    if x.wheel.isSome && decide (last.num ≤ 1023) && x.kind == (c.mgrp, c.ctx, c.codec) then putFrame e c s
    else
      let n := newWheel e m c (closeStream e 2 false false s)
      if n.1 then putFrame e c n.2
      else leaveOut e 1 (onStrm e (fun x => { x with dest := 0 }) n.2)

/-- A buddy is asked for (R493): an OPEN on the chosen port; without one the frame is left out. -/
def askBuddy (e : Nat) (ruled : List Nat) (c : Coded) (s : State) : State :=
  let no (s : State) : State :=
    let n := max 1 (s.strm e).held.length
    (List.range n).foldl (fun s _ => leaveOut e 1 s) (onStrm e (fun x => { x with buddy := none, dest := 0, held := [] }) s)
  let s := buddyStops e true s
  if !s.flag CEL_CFG 29 then no s
  else match s.buddyPort ruled with
    | none => no s
    | some p =>
      let s := onStrm e (fun x => { x with
        dest := 0, buddy := some { port := p, ruled := ruled }, kind := (c.mgrp, c.ctx, c.codec)
        held := if x.held.isEmpty then [c] else x.held, buf := { num := 1 } }) s
      buddyEvent false 1 p e (sendCtl p 1 e e c.ctx c.codec c.mgrp 0 s)

/-- The medium an IDR frame would go to has no wheel left for it, and is FULL (R489). -/
def fullSeen (e : Nat) (c : Coded) (s : State) : State :=
  let x := s.strm e
  let best := s.bestMedium e
  let last := (s.leadRecs e c ++ [frameRec e c]).foldl (fun b r => (r.pack b).2) x.buf
  let stays := decide (best = x.dest) && x.wheel.isSome && decide (last.num ≤ 1023) && x.kind == (c.mgrp, c.ctx, c.codec)
  if best = 0 ∨ stays = true ∨ (s.nextWheel (best - 1)).isSome then s else setMed (best - 1) .full s

/-- An IDR frame may change the destination (R491). -/
def idrFrame (e : Nat) (c : Coded) (s : State) : State :=
  let s := fullSeen e c (fullSeen e c s)
  let x := s.strm e
  let best := s.bestMedium e
  if best ≠ 0 then
    let s := if best = x.dest then s
      else onStrm e (fun x => { x with dest := best }) (closeStream e 2 false false
        (buddyStops e false s))
    writeFrame e c s
  else if 3 ≤ x.dest then writeFrame e c s
  else askBuddy e [] c (closeStream e 2 false false (onStrm e (fun x => { x with dest := 0 }) s))

/-- A frame of a recording stream (R486, R487). -/
def recordFrame (e : Nat) (c : Coded) (s : State) : State :=
  let x := s.strm e
  if c.isIdr then
    if x.buddy.isSome && x.dest == 0 then onStrm e (fun x => { x with held := x.held ++ [c] }) s
    else idrFrame e c (onStrm e (fun x => { x with waitIdr := false }) s)
  else if x.waitIdr && x.await.isNone then s
  else if x.buddy.isSome && x.dest == 0 then onStrm e (fun x => { x with held := x.held ++ [c] }) s
  else if x.await.isSome then leaveOut e 1 s
  else writeFrame e c s

/-- PTP ns of an item. -/
def CItem.time : CItem → Nat
  | .frame c => c.ptpS * 1000000000 + c.ptpNs
  | .marker _ _ hi lo => hi.toNat * 1000000000 + lo.toNat

/-- A share keeps what is of the last PRE seconds and fits in STG MiB, the oldest going first (R483).
DEDUCED (notes/assumptions/53.md). -/
def trimShare (e : Nat) (s : State) : State :=
  let pre := s.fld (CEL_RCFG e) 15 8 * 1000000000
  let cap := s.fld (CEL_RCFG e) 4 0 * 2 ^ 20
  let size (i : CItem) : Nat := match i with | .frame c => 32 + c.len | .marker _ _ _ _ => 20
  onStrm e (fun x =>
    let l := x.share.filter fun i => decide (s.ptp ≤ ((i.time + pre : Nat) : Int))
    { x with share := (l.reverse.foldl (fun (a : Nat × List CItem) i =>
        if a.1 + size i ≤ cap then (a.1 + size i, i :: a.2) else (cap + 1, a.2)) (0, [])).2 }) s

/-- A coded frame is copied into the Cellar (R66, R67, R483, R497). -/
def celFrame (e : Nat) (c : Coded) (s : State) : State :=
  if !s.armed e || s.cel.pf || s.dramLost then s
  else if (s.strm e).recording then recordFrame e c s
  else trimShare e (onStrm e (fun x => { x with share := x.share ++ [.frame c] }) s)

/-! ### Causes, starts and stops (R484 to R486) -/

/-- A cause record, and a marker record. -/
def State.causeRec (s : State) (causes : Nat) : CRec := ⟨3, word causes, word s.ptpS, word s.ptpNs, []⟩
def markerRec (src : Nat) (data hi lo : Word) : CRec := ⟨2, word src, hi, lo, [.lit (toBe data.toNat 4)]⟩

/-- A record of a recording stream: written now, or owed until the stream has somewhere to write. -/
def putNow (e : Nat) (r : CRec) (s : State) : State :=
  let x := s.strm e
  if x.wheel.isSome || decide (3 ≤ x.dest) then putRec e r s else onStrm e (fun x => { x with owed := x.owed ++ [r] }) s

/-- A recording starts (R484, R486): the cause, then the share from its newest IDR frame on, with its markers. -/
def startRecording (e causes : Nat) (s : State) : State :=
  let s := trimShare e (buddyStops e true s)
  let items := (s.strm e).share
  let isIdr (i : CItem) : Bool := match i with | .frame c => c.isIdr | .marker _ _ _ _ => false
  let frames := (items.reverse.takeWhile (fun i => !isIdr i)).reverse
  let lead := items.take (items.length - frames.length)
  let idr := lead.getLast?
  let mark (i : CItem) : List CRec := match i with
    | .marker src data hi lo => [markerRec src data hi lo]
    | .frame _ => []
  let s := onStrm e (fun x => { x with
    recording := true, causes, share := [], await := none, left := 0, waitIdr := idr.isNone
    owed := s.causeRec causes :: lead.flatMap mark }) s
  let s := raiseN 0x1F0 (at_ e 16 + causes) s
  match idr with
  | some (.frame c) =>
    frames.foldl (fun s i => match i with
      | .frame c => recordFrame e c s
      | .marker src data hi lo => putNow e (markerRec src data hi lo) s) (idrFrame e c s)
  | _ =>
    let s := onStrm e (fun x => { x with owed := x.owed ++ frames.flatMap mark }) s
    if s.flag (CEL_RCFG e) 25 then requestIdr e s else s

/-- A recording stops and its wheel closes (R484, R488). -/
def stopRecording (e : Nat) (s : State) : State :=
  let x := s.strm e
  if !x.recording then s
  else
    let s := closeStream e 2 false false (buddyStops e false s)
    raiseN 0x1F1 (at_ e 16 + x.causes)
      (onStrm e (fun x => { x with recording := false, dest := 0, held := [], await := none, left := 0, waitIdr := false, owed := [] }) s)

/-- The causes of every stream follow their conditions: starts, cause records; an unarmed stream stops (R484). -/
def celFollow (s : State) : State :=
  (List.range 16).foldl (fun s e =>
    let x := s.strm e
    if !s.armed e then
      onStrm e (fun x => { x with share := [], alarm := false, lost := false }) (stopRecording e s)
    else
      let c := s.celCauses s.uplinkReach e
      if !x.recording then (if c != 0 && !s.cel.pf && !s.dramLost then startRecording e c s else s)
      else if c != x.causes then
        let s := onStrm e (fun x => { x with causes := c }) s
        putNow e (s.causeRec c) s
      else s) s

/-- POST seconds have passed after the last cause (R484). -/
def celRecStop (e : Nat) (s : State) : State := if (s.strm e).recording && (s.strm e).causes == 0 then stopRecording e s else s

/-- A D4 delivery (R140, R485); false says that it counts as LOST. -/
def markerHandoff (d : Delivery) (s : State) : Bool × State :=
  if !s.flag CEL_CFG 31 then (false, s)
  else
    let s := (List.range 16).foldl (fun s e =>
      if !s.armed e then s
      else
        let s := onStrm e (fun x => { x with alarm := true }) s
        if (s.strm e).recording then putNow e (markerRec d.src d.data d.timeHi d.timeLo) s
        else onStrm e (fun x => { x with share := x.share ++ [.marker d.src d.data d.timeHi d.timeLo] }) s) s
    (true, celFollow s)

/-- ALARM_T has passed (R484). -/
def alarmExpiry (s : State) : State :=
  celFollow (onCel (fun c => { c with streams := c.streams.map fun x => { x with alarm := false } }) s)

/-! ### Pages, failures (R478, R488) -/

/-- What a stream has waiting up to and including its next page, and the closes right behind it. -/
def nextOuts : List (Nat × Nat × COut) → List (Nat × Nat × COut) × List (Nat × Nat × COut)
  | [] => ([], [])
  | (m, k, .close st g) :: t => let r := nextOuts t; ((m, k, .close st g) :: r.1, r.2)
  | (m, k, .page p) :: t =>
    let isClose (o : Nat × Nat × COut) : Bool := match o.2.2 with | .close _ _ => true | .page _ => false
    ((m, k, .page p) :: t.takeWhile isClose, t.dropWhile isClose)

/-- A page of stream `e`, or of hosted stream `e − 16`, is written (R488). -/
def pageWritten (e : Nat) (s : State) : State :=
  if e < 16 then
    let r := nextOuts (s.strm e).out
    r.1.foldl (fun s o => writeOut o s) (onStrm e (fun x => { x with out := r.2 }) s)
  else
    match s.cel.hosted[e - 16]? with
    | none => s
    | some h =>
      let r := nextOuts h.out
      r.1.foldl (fun s o => writeOut o s) (onCel (fun c => { c with hosted := upd c.hosted (e - 16) fun h => { h with out := r.2 } }) s)

/-- A medium is lost to its users: streams leave frames out with `reason`, hosted streams on it end, jobs end. -/
def mediumGone (m reason : Nat) (s : State) : State :=
  let s := (List.range 16).foldl (fun s e =>
    let x := s.strm e
    if x.dest = m + 1 ∨ x.out.any (fun o => o.1 == m) then
      let lost := (x.out.map fun o => match o.2.2 with | .page p => p.frames | .close _ _ => 0).foldl (· + ·) 0 + x.buf.frames
      let s := onStrm e (fun x => { x with wheel := none, dest := 0, out := x.out.filter fun o => o.1 != m, buf := { num := 1 } }) s
      if x.recording then (List.range lost).foldl (fun s _ => leaveOut e reason s) s else s
    else s) s
  let gone := s.cel.hosted.filter fun h => h.wheel.1 == m
  let s := gone.foldl (fun s h => buddyEvent true 4 h.port h.chan (sendCtl h.port 4 h.bid h.chan 0 0 0 0 s)) s
  let s := onCel (fun c => { c with hosted := c.hosted.filter fun h => h.wheel.1 != m }) s
  let s := if s.cel.ret.st = 1 ∧ s.cel.ret.med = m then
      raiseN 0x1F6 (at_ 8 24 + at_ 4 16) (onCel (fun c => { c with ret := { c.ret with st := 3, fin := 4, wheels := [] } }) s)
    else s
  (List.range 8).foldl (fun s j =>
    if (nth {} s.cel.jobs j).st = 1 ∧ s.fld (CEL_NCFG j) 30 30 = m then
      raiseN 0x1F6 (at_ j 24 + at_ 4 16) (onCel (fun c => { c with jobs := upd c.jobs j fun x => { x with st := 3, fin := 4 } }) s)
    else s) s

/-- A medium command ends (R478): three that fail in a row make the medium FAILED; a write that fails leaves its stream's frames
out with reason 4 (R487). -/
def mediumCommand (m : Nat) (good write : Bool) (e : Nat) (s : State) : State :=
  if good then onMed m (fun x => { x with fails := 0 }) s
  else
    let s := s.count (CEL_MCNT m) (if write then 31 else 23) (if write then 24 else 16)
    let s := onMed m (fun x => { x with fails := x.fails + 1 }) s
    if 3 ≤ (s.med m).fails then mediumGone m (if write then 4 else 1) (setMed m .failed s)
    else if write ∧ e < 16 ∧ (s.strm e).dest = m + 1 then
      let x := s.strm e
      let lost := (x.out.map fun o => match o.2.2 with | .page p => p.frames | .close _ _ => 0).foldl (· + ·) 0 + x.buf.frames
      let w := x.wheel
      let s := onStrm e (fun x => { x with out := [], buf := { num := 1 }, wheel := none }) s
      let s := match w with | some (m, k) => closeWheel m k 2 false s | none => s
      (List.range (max 1 lost)).foldl (fun s _ => leaveOut e 4 s) s
    else s

/-! ### Media (R478 to R481, R489, R490) -/

/-- A card is inserted or removed (R478, R479). Before start-up step 11 and while the clocks are stopped it is only noted.
DEDUCED (notes/assumptions/53.md). -/
def cardFollow (s : State) : State :=
  if !(s.live || (s.start.phase == .start && decide (11 ≤ s.start.step) && !s.clk.waiting)) then s
  else if s.cel.card then (if (s.med 1).st = .absent then setMed 1 .opening s else s)
  else if (s.med 1).st = .absent then s
  else mediumGone 1 1 (setMed 1 .absent (onMed 1 (fun x => { x with fails := 0 }) s))

/-- Opening ends (R479). Wheels left open are still to be repaired; N_w comes from the capacity. -/
def mediumOpened (m : Nat) (o : MediumOpen) (s : State) : State :=
  if (s.med m).st != .opening then s
  else if !o.good then setMed m .failed s
  else
    let nw := wheelsOf o.capMiB
    let ws := match o.index with
      | none => (s.med m).wheels
      | some l => (l.filter fun p => entryValid p.2 && decide (p.1 < nw)).foldl (fun t p => aput t p.1 (wheelOfEntry p.2)) []
    let ok := match o.label with | some l => l.2 == nw && decide (64 ≤ nw) | none => false
    let s := onMed m (fun x => { x with
      nw := if ok then nw else 0, capMiB := o.capMiB, wrate := o.wrate, wheels := if ok then ws else [], fails := 0
      preEol := if m = 0 then o.preEol else 0, lifeA := if m = 0 then o.lifeA else 0, lifeB := if m = 0 then o.lifeB else 0
      format := match o.label with | some l => l.1 | none => x.format
      wseq := if o.index.isSome then (ws.map fun p => p.2.wseq).foldl max 0 else x.wseq
      lastOpen := if o.index.isSome then
          (ws.foldl (fun (b : Option (Nat × Nat)) p => match b with
            | some q => if q.2 < p.2.wseq then some (p.1, p.2.wseq) else b
            | none => some (p.1, p.2.wseq)) none).map (·.1)
        else x.lastOpen }) s
    let s := setMed m (if !ok then .unformatted else if (s.nextWheel m).isNone then .full else .ready) s
    if m = 0 ∧ 2 ≤ o.preEol ∧ !(s.med 0).eolTold then
      raiseN 0x1F2 (at_ (s.med 0).st.num 24 + at_ 1 16) (onMed 0 (fun x => { x with eolTold := true }) s)
    else s

/-- A stream, a job or a hosted stream uses the medium (R480). -/
def State.medUsed (s : State) (m : Nat) : Bool :=
  s.cel.streams.any (fun x => x.dest == m + 1 || x.out.any fun o => o.1 == m) || s.cel.hosted.any (fun h => h.wheel.1 == m) ||
  (s.cel.ret.st == 1 && s.cel.ret.med == m) || (List.range 8).any fun j => (nth {} s.cel.jobs j).st == 1 && s.fld (CEL_NCFG j) 30 30 == m

/-- The code of FORMAT, EJECT, ATTACH and UNPROT_ALL; a thread starts no long operation (R115, R480). -/
def State.celCmdCode (s : State) (o : Origin) (cmd m : Nat) : Code :=
  let st := (s.med m).st
  match cmd with
  | 1 => chk (isVat o || !(st == .ready || st == .full || st == .unformatted) || s.medUsed m || decide (wheelsOf (s.med m).capMiB < 64)) .eState
  | _ => .ok

/-- The wheel of a hosted stream is closed at its last whole page (R488, R496). -/
def closeHosted (h : Hosted) (st : Nat) (gap pf write : Bool) (s : State) : State :=
  let s := if write then h.out.foldl (fun s o => writeOut o s) s else s
  closeWheel h.wheel.1 h.wheel.2 st gap (onWheel h.wheel.1 h.wheel.2 (fun w => { w with pages := lastPage pf w.pages }) s)

/-- Every hosted stream ends with its wheel's closing and a CLOSE (R496). -/
def hostedEnd (st : Nat) (gap pf write : Bool) (s : State) : State :=
  let s := s.cel.hosted.foldl (fun s h => buddyEvent true 4 h.port h.chan (sendCtl h.port 4 h.bid h.chan 0 0 0 0 (closeHosted h st gap pf write s))) s
  onCel (fun c => { c with hosted := [] }) s

/-- EJECT closes every open wheel on the medium and sets OFF (R481). -/
def eject (m : Nat) (s : State) : State :=
  if (s.med m).st = .absent then s
  else
    let s := (List.range 16).foldl (fun s e =>
      if (s.strm e).dest = m + 1 then flushStream e (closeStream e 2 false false s) else s) s
    let s := (s.cel.hosted.filter fun h => h.wheel.1 == m).foldl (fun s h => closeHosted h 2 false false true s) s
    mediumGone m 1 (setMed m .off s)

def attach (m : Nat) (s : State) : State := if (s.med m).st = .off then setMed m .opening s else s

def unprotAll (m : Nat) (s : State) : State :=
  fullFollow m (onMed m (fun x => { x with wheels := x.wheels.map fun p => (p.1, { p.2 with prot := false }) }) s)

/-- CEL_CMD with its effect; FORMAT starts long operation 4. -/
def celCmd (cmd m : Nat) (s : State) : State :=
  match cmd with
  | 1 => startOp 4 m (onCel (fun c => { c with fmt := some m }) s)
  | 2 => eject m s
  | 3 => attach m s
  | _ => unprotAll m s

/-- The format ends (R480): a new FORMAT_ID, differing from the label's before (DESIGN CHOICE (notes/assumptions/7.md)), and E_STATE where the medium has
gone meanwhile. DEDUCED (notes/assumptions/53.md). -/
def formatDone (s : State) : State :=
  match s.cel.fmt with
  | none => s
  | some m =>
    let st := (s.med m).st
    if !(st == .ready || st == .full || st == .unformatted) then endOp .eState (onCel (fun c => { c with fmt := none }) s)
    else
    let d := s.draw
    let f := if d.1.toNat = (s.med m).format then (d.1.toNat + 1) % 2 ^ 32 else d.1.toNat
    let s := onMed m (fun x => { x with
      format := f, nw := wheelsOf x.capMiB, wheels := [], lastOpen := none, wseq := 0, fmtUnit := Config.unitId % 2 ^ 64
      fmtHi := word s.ptpS, fmtLo := word s.ptpNs }) d.2
    endOp .ok (setMed m .ready (onCel (fun c => { c with fmt := none }) s))

/-- PROTECT and UNPROTECT (R490). -/
def protect (m k : Nat) (b : Bool) (s : State) : State :=
  fullFollow m (if ((s.med m).wheels.lookup k).isSome then onWheel m k (fun w => { w with prot := b }) s else s)

/-! ### Buddy frames (R494 to R496) -/

/-- The bytes of a hosted stream's pages: each 4064 bytes make a page; FIRST_OFF is found at the first record that begins. -/
def firstRecord (b : List Nat) : Nat → Nat → Nat × Nat
  | 0, _ => (0xFFF, 0)
  | k + 1, o =>
    let w := be b o 4
    if 4064 < o + 16 ∨ w / 2 ^ 28 = 0 then (0xFFF, 0)
    else if w / 2 ^ 27 % 2 = 1 then (o, be b (o + 4) 4)
    else firstRecord b k (o + 16 + (w % 8192 + 3) / 4 * 4)

/-- The records that begin or go on in a page's payload: type, FIRST, and words 1 and 2 of the header. -/
def pageRecs (b : List Nat) : Nat → Nat → List (Nat × Bool × Nat × Nat)
  | 0, _ => []
  | k + 1, o =>
    let w := be b o 4
    if 4064 < o + 16 ∨ w / 2 ^ 28 = 0 then []
    else (w / 2 ^ 28, w / 2 ^ 27 % 2 == 1, be b (o + 4) 4, be b (o + 8) 4) :: pageRecs b k (o + 16 + (w % 8192 + 3) / 4 * 4)

/-- What a page's records tell of their wheel (Table 22.4, R490): first and last frame, ALARM, PROT and GAP. -/
def hostedEntry (protAlarm fresh : Bool) (rs : List (Nat × Bool × Nat × Nat)) (w : Wheel) : Wheel :=
  let fr := rs.filter fun r => r.1 == 1 && r.2.1
  let w := match fr.head?, fresh with
    | some r, true => { w with fn0 := r.2.2.1, t0 := r.2.2.2 }
    | _, _ => w
  let w := match fr.getLast? with
    | some r => { w with fn1 := r.2.2.1, t1 := r.2.2.2 }
    | none => w
  let mark := rs.any fun r => r.1 == 2
  { w with alarm := w.alarm || mark, prot := w.prot || (mark && protAlarm), gap := w.gap || rs.any fun r => r.1 == 4 }

/-- A hosted stream ends: its wheel is closed at its last whole page (R496). -/
def hostEnds (i op : Nat) (tell : Bool) (s : State) : State :=
  match s.cel.hosted[i]? with
  | none => s
  | some h =>
    let s := closeHosted h 2 false false true s
    let s := onCel (fun c => { c with hosted := c.hosted.eraseIdx i }) s
    let s := if tell then sendCtl h.port 4 h.bid h.chan 0 0 0 0 s else s
    buddyEvent true op h.port h.chan s

/-- A received chunk joins a hosted stream; full pages wait to be written, in a new wheel after page 1023, and the stream ends where
there is none (R494).
DEDUCED (notes/assumptions/53.md). -/
def hostBytesIn (i : Nat) (data : List Nat) (s : State) : State :=
  match s.cel.hosted[i]? with
  | none => s
  | some h =>
    let b := h.bytes ++ data
    if b.length < 4064 then onCel (fun c => { c with hosted := upd c.hosted i fun h => { h with bytes := b } }) s
    else
      let f := firstRecord b 300 0
      let m := h.wheel.1
      let rs := pageRecs b 300 0
      let lastOut : List (Nat × Nat × COut) := match h.out.reverse with
        | (m', k', .page p) :: t => t.reverse ++ [(m', k', .page { p with last := true })]
        | _ => h.out
      let room : Option (State × Hosted) :=
        if h.num ≤ 1023 then some (s, h)
        else (s.nextWheel m).map fun k =>
          let w := (s.med m).wheel h.wheel.2
          let s := if h.out.isEmpty then onWheel m h.wheel.2 (fun w => { w with pages := lastPage false w.pages }) s else s
          (openWheel m k { w with pages := [], frames := [], npages := 0, prot := false, alarm := false, gap := false, hdrFn := w.fn1,
                                  fn0 := 0, fn1 := 0, t0 := 0, t1 := 0 } (reuseJump m k s),
           { h with out := lastOut ++ [(m, h.wheel.2, .close 2 false)], wheel := (m, k), num := 1, fresh := true })
      match room with
      | none => hostEnds i 4 true (setMed m .full s)
      | some (s, h) =>
        let p : CPage := { num := h.num, segs := [.lit (b.take 4064)], firstOff := f.1, fn := word f.2 }
        let s := onWheel m h.wheel.2 (hostedEntry (s.flag CEL_CFG 30) h.fresh rs) s
        onCel (fun c => { c with hosted := upd c.hosted i fun _ =>
          { h with bytes := b.drop 4064, num := h.num + 1, fresh := h.fresh && !(rs.any fun r => r.1 == 1 && r.2.1)
                   out := h.out ++ [(m, h.wheel.2, .page p)] } }) s

/-- An OPEN is judged and answered (R494). The first frame number that the hosted wheel's header states is a free value: no frame has come.
DESIGN CHOICE (notes/assumptions/7.md). -/
def buddyOpen (p : Nat) (v : VFrame) (s : State) : State :=
  let w := word (be v.pl 0 4)
  let bid := bits w 27 24
  let chan := bits w 19 16
  let mx := s.fld CEL_CFG 27 26
  let m := if s.usable 0 ∧ (!s.usable 1 ∨ s.freeWheels 1 ≤ s.freeWheels 0) then 0 else 1
  let reason := if mx = 0 then 4 else if mx ≤ s.cel.hosted.length then 3 else if !s.usable m then 1
    else if s.freeWheels m < s.fld CEL_CFG 23 16 then 2 else 0
  let refuse (r : Nat) (s : State) : State :=
    buddyEvent true 3 p chan (sendCtl p 3 bid chan 0 0 0 r (s.count CEL_BCNT 31 16))
  if reason ≠ 0 then refuse reason s
  else match s.nextWheel m with
    | none => refuse 2 (setMed m .full s)
    | some k =>
      let d := s.draw
      let s := d.2
      let x : Wheel := { hosted := true, hdrFn := d.1.toNat, chan, ctx := bits w 14 12, codec := bits w 10 8, mgrp := bits w 3 0, origin := v.origin }
      let s := openWheel m k x (reuseJump m k s)
      let s := onCel (fun c => { c with
        hosted := c.hosted ++ [{ port := p, origin := v.origin, bid, chan, wheel := (m, k) }]
        rx := if c.hosted.any fun h => h.port == p then c.rx else c.rx.set p (none, []) }) s
      buddyEvent true 1 p chan (sendCtl p 2 bid chan (bits w 14 12) (bits w 10 8) (bits w 3 0) 0 s)

/-- The frames held for an answer are recorded now that the buddy has accepted. -/
def buddyAccepted (e p : Nat) (s : State) : State :=
  match (s.strm e).buddy with
  | none => s
  | some b =>
    if b.port != p || b.accepted then s
    else
      let held := (s.strm e).held
      let s := onStrm e (fun x => { x with dest := 3 + p, buddy := some { b with accepted := true }, held := [] }) s
      let s := buddyEvent false 2 p e s
      held.foldl (fun s c => writeFrame e c s) s

/-- An answer that rules a port out: the other is tried (R493). -/
def buddyRefused (e p : Nat) (s : State) : State :=
  match (s.strm e).buddy with
  | none => s
  | some b =>
    if b.port != p || b.accepted then s
    else match (s.strm e).held with
      | c :: _ => askBuddy e (p :: b.ruled) c s
      | [] => onStrm e (fun x => { x with buddy := none }) s

/-- A BUDDY_CTL frame (R493, R494, R496). -/
def buddyCtl (p : Nat) (v : VFrame) (s : State) : State :=
  let w := word (be v.pl 0 4)
  let bid := bits w 27 24
  match bits w 31 28 with
  | 1 => buddyOpen p v s
  | 2 => buddyAccepted bid p s
  | 3 => buddyRefused bid p (buddyEvent false 3 p bid s)
  | 4 =>
    match (List.range s.cel.hosted.length).find? fun i =>
        (s.cel.hosted[i]?).any fun h => h.port == p && h.bid == bid && h.origin == v.origin with
    | some i => hostEnds i 4 false s
    | none => if (s.strm bid).buddy.any fun b => b.port == p then buddyEnds bid 4 false s else s
  | _ => s

/-- Frames in SEQ order are written to their hosted stream; those that come early are kept, at most 16 (R495). -/
def buddyDrain (p : Nat) : Nat → State → State
  | 0, s => s
  | k + 1, s =>
    let rx := nth (none, []) s.cel.rx p
    match rx.1 with
    | none => s
    | some q => match rx.2.find? (·.1 == q) with
      | none => s
      | some (_, v) =>
        let s := onCel (fun c => { c with rx := c.rx.set p (some ((q + 1) % 65536), rx.2.filter (·.1 != q)) }) s
        let bid := be v.pl 0 4 / 2 ^ 28
        let s := match (List.range s.cel.hosted.length).find? fun i =>
            (s.cel.hosted[i]?).any fun h => h.port == p && h.bid == bid && h.origin == v.origin with
          | some i => hostBytesIn i (v.pl.drop 16) s
          | none => s
        buddyDrain p k s

/-- A BUDDY_DATA frame is acknowledged and written (R495). -/
def buddyData (p : Nat) (v : VFrame) (s : State) : State :=
  if s.cel.pf || !s.cel.hosted.any fun h => h.port == p && h.origin == v.origin then s
  else
    let rx := nth (none, []) s.cel.rx p
    let q := rx.1.getD v.seq
    let ahead := (v.seq + 65536 - q) % 65536
    if 32768 ≤ ahead then hopAckFor p v s
    else if rx.2.length < 16 || ahead = 0 then
      let s := onCel (fun c => { c with rx := c.rx.set p (some q, rx.2.filter (·.1 != v.seq) ++ [(v.seq, v)]) }) s
      buddyDrain p 32 (hopAckFor p v s)
    else s

/-- A HOP_ACK for a BUDDY_DATA frame frees its place in the window (R495). -/
def buddyAcked (p : Nat) (v : VFrame) (s : State) : State :=
  if be v.pl 8 4 / 2 ^ 28 != 10 || be v.pl 0 8 != Config.unitId % 2 ^ 64 then s
  else
    let seq := be v.pl 8 4 % 65536
    (List.range 16).foldl (fun s e =>
      match (s.strm e).buddy with
      | none => s
      | some b => if b.port = p ∧ b.unacked.any (fun u => u.1.seq == seq) then
          buddyDrained e (buddyPump e 64 (onStrm e (fun x => { x with buddy := some { b with unacked := b.unacked.filter fun u => u.1.seq != seq } }) s))
        else s) s

/-- An OPEN has had no answer within 10 ms (R493). -/
def buddyOpenTimeout (e : Nat) (s : State) : State :=
  match (s.strm e).buddy with
  | some b => if b.accepted then s else buddyRefused e b.port s
  | none => s

/-- The oldest unacknowledged frame of a stream is repeated after 2 ms, for at most 8 attempts (R495). -/
def buddyRetry (e : Nat) (s : State) : State :=
  match (s.strm e).buddy with
  | some b => match b.unacked with
    | (v, n) :: t =>
      let s := velvaErr b.port 0 8 s
      if 8 ≤ n then buddyEnds e 5 true (s.count CEL_BCNT 15 0)
      else if (s.strm e).buddy.isNone then s
      else vSend b.port v (onStrm e (fun x => { x with buddy := some { b with unacked := (v, n + 1) :: t } }) s)
    | [] => s
  | none => s

/-- Buddy streams on a port end when its neighbour is no longer observed reachable (R496).
DEDUCED (notes/assumptions/63.md). -/
def buddyPortLost (p : Nat) (s : State) : State :=
  let s := (List.range 16).foldl (fun s e => if (s.strm e).buddy.any fun b => b.port == p then buddyEnds e 6 false s else s) s
  (List.range 3).reverse.foldl (fun s i => if (s.cel.hosted[i]?).any fun h => h.port == p then hostEnds i 6 false s else s) s

/-- What follows a change of the chain ports: buddy streams end where reachability ended. -/
def buddyFollow (before : State) (s : State) : State :=
  [0, 1].foldl (fun s p => if before.reachable p && !s.reachable p then buddyPortLost p s else s) s

/-! ### Retrieval (R501, R503) -/

/-- A wheel that can be retrieved: closed in any way. -/
def Wheel.closed (w : Wheel) : Bool := decide (2 ≤ w.st)

/-- The wheels of a retrieval in order (R501). DEDUCED (notes/assumptions/53.md). -/
def State.retWheels (s : State) : List Nat :=
  let x := s.med (s.fld CEL_RSEL 31 31)
  let a := s.fld CEL_RFROM 31 0
  let b := s.fld CEL_RTO 31 0
  if s.flag CEL_RSEL 30 then
    (x.wheels.filter fun p => p.2.closed && p.2.chan == s.fld CEL_RSEL 19 16 && decide (p.2.t0 ≤ b) && decide (a ≤ p.2.t1)).map (·.1)
  else (x.wheels.filter fun p => p.2.closed && decide (a ≤ p.1) && decide (p.1 ≤ b)).map (·.1)

def onRet (f : RetJob → RetJob) (s : State) : State := onCel (fun c => { c with ret := f c.ret }) s

def retStart (s : State) : State :=
  onRet (fun r => { st := 1, med := s.fld CEL_RSEL 31 31, wheels := s.retWheels, jumps := r.jumps }) s

/-- The job ends; the held page stays, the other buffers of a STOP are emptied. -/
def retEnd (fin : Nat) (s : State) : State :=
  raiseN 0x1F6 (at_ 8 24 + at_ fin 16) (onRet (fun r => { r with st := 3, fin, wheels := [] }) s)

def retStop (s : State) : State :=
  if s.cel.ret.st = 1 then retEnd 2 { s with cp := { s.cp with pages := s.cp.pages.take 1 } } else s

/-- A medium page is read into a free buffer; the end of the range ends the job (R501). -/
def pageFilled (s : State) : State :=
  let r := s.cel.ret
  if r.st ≠ 1 ∨ s.cel.pf then s
  else match r.wheels with
    | [] => retEnd 1 s
    | k :: t =>
      if 4 ≤ s.cp.pages.length then s
      else
        let w := (s.med r.med).wheel k
        let q := r.pseq + 1
        let s := { s with cp := { s.cp with pages := s.cp.pages ++ [⟨s.pageWords r.med k r.page, q⟩] } }
        let done := decide (w.npages ≤ r.page)
        let s := onRet (fun r => { r with pseq := q, stallTold := false, wheels := if done then t else r.wheels, page := if done then 0 else r.page + 1 }) s
        if done && t.isEmpty then retEnd 1 s else s

/-- All four buffers have stayed filled for RSTALL_T (R501). -/
def retStall (s : State) : State :=
  if s.cel.ret.st = 1 ∧ 4 ≤ s.cp.pages.length ∧ !s.cel.ret.stallTold then raiseN 0x1F5 0 (onRet (fun r => { r with stallTold := true }) s)
  else s

/-! ### Network jobs (R502) -/

def onJob (j : Nat) (f : NetJob → NetJob) (s : State) : State := onCel (fun c => { c with jobs := upd c.jobs j f }) s

/-- The session a job sends to. -/
def State.jobSes (s : State) (j : Nat) : Nat := s.fld (CEL_NCFG j) 11 0

/-- The frames of a wheel whose pages have all been written. -/
def Wheel.written (w : Wheel) : List Coded := (w.frames.filter fun f => decide (f.1 ≤ w.pages.length)).map (·.2)

/-- A wheel that some stream is writing. -/
def State.wheelBusy (s : State) (m k : Nat) : Bool :=
  s.cel.streams.any (fun x => x.wheel == some (m, k) || x.out.any fun o => o.1 == m && o.2.1 == k) || s.cel.hosted.any fun h => h.wheel == (m, k)

/-- The wheels of a job's channel on its medium in the order of their opening; one left open is first repaired (R498).
DEDUCED (notes/assumptions/53.md). -/
def State.jobWheels (s : State) (j : Nat) : List (Nat × Wheel) :=
  let l := (s.med (s.fld (CEL_NCFG j) 30 30)).wheels.filter fun p =>
    (p.2.closed || (p.2.st == 1 && s.wheelBusy (s.fld (CEL_NCFG j) 30 30) p.1)) && !p.2.hosted && p.2.chan == s.fld (CEL_NCFG j) 19 16
  l.foldl (fun t p => (t.takeWhile fun q => decide (q.2.wseq < p.2.wseq)) ++ p :: t.dropWhile fun q => decide (q.2.wseq < p.2.wseq)) []

/-- The frame the job offers next: the first at its start, the one after the last offered later. -/
def State.jobNext (s : State) (j : Nat) : Option (Nat × Nat × Coded) :=
  let x := nth {} s.cel.jobs j
  let ws := s.jobWheels j
  let all := ws.flatMap fun p => (List.range p.2.written.length).filterMap fun i => (p.2.written[i]?).map fun c => (p.1, i, c)
  if !x.begun then
    let from_ := s.fld (CEL_NFROM j) 31 0
    match (all.filter fun f => f.2.2.isIdr && decide (f.2.2.ptpS ≤ from_)).getLast? with
    | some f => some f
    | none => all.find? fun f => f.2.2.isIdr
  else match x.wheel with
    | none => all.find? fun f => f.2.2.isIdr
    | some k =>
      let rest := ws.dropWhile fun p => p.1 != k
      match rest with
      | [] => all.find? fun f => f.2.2.isIdr
      | p :: t => match p.2.written[x.pos]? with
        | some c => some (p.1, x.pos, c)
        | none => (t.flatMap fun p => (List.range p.2.written.length).filterMap fun i => (p.2.written[i]?).map fun c => (p.1, i, c)).head?

def jobEnd (j fin : Nat) (s : State) : State :=
  raiseN 0x1F6 (at_ j 24 + at_ fin 16) (onJob j (fun x => { x with st := 3, fin }) s)

/-- Jobs offer a frame as soon as their session's queue is empty (R502). -/
def jobFollow (j : Nat) (s : State) : State :=
  if (nth {} s.cel.jobs j).st ≠ 1 ∨ s.cel.pf ∨ !(s.ses (s.jobSes j)).queue.isEmpty then s
  else match s.jobNext j with
    | none => if s.flag (CEL_NCFG j) 29 then s else jobEnd j 1 s
    | some (k, i, c) =>
      if !s.flag (CEL_NCFG j) 29 && decide (s.fld (CEL_NTO j) 31 0 < c.ptpS) then jobEnd j 1 s
      else offerCellar (s.jobSes j) c (onJob j (fun x => { x with begun := true, wheel := some k, pos := i + 1, fnum := c.fn }) s)

def jobsFollow (s : State) : State := (List.range 8).foldl (fun s j => jobFollow j s) s

/-- The code of a network job's command (R502). -/
def State.jobCode (s : State) (j cmd : Nat) : Code :=
  let n := s.jobSes j
  let x := s.ses n
  if cmd != 1 then .ok
  else if !s.flag (TEN_CFG x.tenant) 31 then .eCtx
  else chk ((nth {} s.cel.jobs j).st == 1 || x.src != 1 || !(x.st == .waitIdr || x.st == .sending) ||
    (List.range 8).any fun i => i != j && (nth {} s.cel.jobs i).st == 1 && s.jobSes i == n) .eState

def jobStart (j : Nat) (s : State) : State := jobFollow j (onJob j (fun _ => { st := 1 }) s)
def jobStop (j : Nat) (s : State) : State := if (nth {} s.cel.jobs j).st = 1 then jobEnd j 2 s else s

/-! ### Power, DRAM, Rind (R497 to R500) -/

/-- POWER_FAIL asserts: no new frame is taken and retrieval stops reading (R497). -/
def celPowerFail (s : State) : State := onCel (fun c => { c with pf := true }) s

/-- Closing completes: `n` pages were written in the time; every open wheel closes with STATE 3 (R497). -/
def celPfClose (n : Nat) (s : State) : State :=
  if !s.cel.pf then s
  else
    let wait := (s.cel.streams.map fun x => (x.out.filter fun o => match o.2.2 with | .page _ => true | .close _ _ => false).length).foldl (· + ·) 0 +
      (s.cel.hosted.map fun h => h.out.length).foldl (· + ·) 0
    let n := min n wait
    let r := (List.range 16).foldl (fun (a : Nat × State) e =>
      (List.range (a.2.strm e).out.length).foldl (fun (a : Nat × State) _ =>
        if a.1 = 0 then a else (a.1 - 1, pageWritten e a.2)) a) (n, s)
    let s := r.2
    let opened := (s.cel.streams.filter fun x => x.wheel.isSome).length + s.cel.hosted.length
    let s := (List.range 16).foldl (fun s e =>
      let x := s.strm e
      let s := onStrm e (fun x => { x with out := [] }) s
      let s := if x.wheel.isSome then flushStream e (closeStream e 3 false true s) else s
      onStrm e (fun x => { x with waitIdr := true, dest := 0, held := [] }) (buddyStops e true s)) s
    let s := hostedEnd 3 false true true s
    raiseN 0x1F7 (at_ 1 31 + at_ (min 31 opened) 16 + sat 65535 (4 * n)) (onCel (fun c => { c with pf := false }) s)

/-- Every open wheel is closed with a state, its waiting pages written or lost, and recording goes on at the next IDR frame. -/
def celCloseAll (st : Nat) (gap write : Bool) (s : State) : State :=
  let s := (List.range 16).foldl (fun s e =>
    let x := s.strm e
    let s := if write then s else onStrm e (fun x => { x with out := [], buf := { num := 1 } }) s
    let s := if x.wheel.isSome then flushStream e (closeStream e st gap false s) else s
    onStrm e (fun x => { x with waitIdr := x.recording, dest := 0, held := [] }) (buddyStops e true s)) s
  hostedEnd st gap false write s

/-- A resumption in place: open wheels close with STATE 4 at the last page written, and what the shares hold of frames that the safe
state broke is left out (R66, R498). -/
def celResume (s : State) : State :=
  let s := celCloseAll 4 true false s
  onCel (fun c => { c with streams := c.streams.map fun x =>
    { x with share := x.share.filter fun i => match i with | .frame _ => false | .marker _ _ _ _ => true } }) s

/-- DRAM_LOST sets (R499). -/
def celDramLost (s : State) : State :=
  let s := celCloseAll 2 true false s
  let s := onCel (fun c => { c with streams := c.streams.map fun x => { x with share := [], lost := true } }) s
  (List.range 8).foldl (fun s j => if (nth {} s.cel.jobs j).st = 1 then jobEnd j 3 s else s) s

/-- A wheel left open by a reset is scanned: `good` pages are valid (R498). DEDUCED (notes/assumptions/53.md). -/
def wheelRepair (m good : Nat) (s : State) : State :=
  match (s.med m).wheels.find? fun p => p.2.st == 1 && !s.wheelBusy m p.1 with
  | none => s
  | some (k, w) =>
    let n := if w.foreign then min 1023 good else min good w.pages.length
    fullFollow m ((onWheel m k (fun w => { w with st := 4, npages := n, pages := w.pages.take n }) s).count (CEL_MCNT m) 15 0)

/-- A reset (Table 4.5): staging is discarded, the media keep what they hold. -/
def celReset (s : State) : State :=
  { s with cel := { card := s.cel.card, media := s.cel.media.map fun x => { x with st := .absent, fails := 0, eolTold := false } } }

/-! ### Registers (Table 22.9) -/

/-- The live words of page 0x13. -/
def celView (a : Nat) (s : State) : Option Word :=
  let c := s.cel
  let busyRec := (List.range 16).foldl (fun v e => v + at_ (b2n (s.strm e).recording) e) 0
  if CEL_RCFG 0 ≤ a ∧ a < CEL_RCFG 16 ∧ (a - CEL_RCFG 0) % 0x10 = 4 then
    let x := s.strm ((a - CEL_RCFG 0) / 0x10)
    some (word (at_ x.dest 28 + at_ x.causes 24 + (match x.wheel with | some w => w.2 | none => 0)))
  else if CEL_NCFG 0 ≤ a ∧ a < CEL_NCFG 8 ∧ (a - CEL_NCFG 0) % 0x20 = 0x10 then
    let x := nth {} c.jobs ((a - CEL_NCFG 0) / 0x20)
    some (word (at_ x.st 28 + at_ x.fin 24 + x.fnum % 2 ^ 24))
  else if CEL_BHOST_LO 0 ≤ a ∧ a < CEL_BHOST_LO 3 then
    let o := match c.hosted[(a - CEL_BHOST_LO 0) / 8]? with | some h => h.origin | none => 0
    some (word (if (a - CEL_BHOST_LO 0) % 8 = 0 then o else o / 2 ^ 32))
  else
    let st (m : Nat) : Word := let x := s.med m
      word (at_ x.st.num 28 + at_ x.preEol 24 + at_ x.lifeA 20 + at_ x.lifeB 16 + at_ (sat 255 x.wrate) 8)
    let paused := c.ret.st == 1 && (decide (4 ≤ s.cp.pages.length) || c.pf)
    [(CEL_STAT, word (at_ (b2n s.start.hostLost) 31 + at_ (b2n (!s.uplinkReach)) 30 + at_ (b2n c.pf) 29 + at_ c.hosted.length 24 + busyRec)),
     (CEL_MSTAT 0, st 0), (CEL_MSTAT 1, st 1), (CEL_MNW 0, word (s.med 0).nw), (CEL_MNW 1, word (s.med 1).nw),
     (CEL_MFREE 0, word (s.freeWheels 0)), (CEL_MFREE 1, word (s.freeWheels 1)),
     (CEL_RSTAT, word (at_ (if paused then 2 else c.ret.st) 28 + at_ c.ret.fin 24 + sat 65535 c.ret.jumps))].lookup a

/-- The sum of STG over the streams that would be armed with word `v` at `a` exceeds 30 MiB (R483). -/
def stgFull (a : Nat) (v : Word) (s : State) : Bool :=
  let rd (x : Nat) : Word := if x = a then v else s.reg x
  bit (rd CEL_CFG) 31 && decide (30 < ((List.range 16).map fun e =>
    if bit (rd (CEL_RCFG e)) 31 then bits (rd (CEL_RCFG e)) 4 0 else 0).foldl (· + ·) 0)

/-- The writes of page 0x13 (R115, R480, R481, R483, R490, R501, R502). -/
def celWrite (o : Origin) (a : Nat) (v : Word) (s : State) : Option WriteRule :=
  if CEL_RCFG 0 ≤ a ∧ a < CEL_RCFG 16 ∧ (a - CEL_RCFG 0) % 0x10 = 0 then
    some { pre := chk (s.strm ((a - CEL_RCFG 0) / 0x10)).recording .eState, post := chk (stgFull a v s) .eFull, app := celFollow }
  else if CEL_NCFG 0 ≤ a ∧ a < CEL_NCFG 8 then
    let j := (a - CEL_NCFG 0) / 0x20
    match (a - CEL_NCFG 0) % 0x20 with
    | 0x00 => some { pre := chk ((nth {} s.cel.jobs j).st == 1) .eState }
    | 0x0C => some { pre := s.jobCode j (bits v 31 28), app := if bits v 31 28 = 1 then jobStart j else jobStop j }
    | _ => none
  else [
    (CEL_CFG, ({ post := chk (stgFull a v s) .eFull, app := fun t => celFollow (fullFollow 1 (fullFollow 0 t)) } : WriteRule)),
    (CEL_CMD, { pre := s.celCmdCode o (bits v 31 28) (bits v 0 0), app := celCmd (bits v 31 28) (bits v 0 0) }),
    (CEL_WCMD, { bad := decide ((s.med (bits v 24 24)).nw ≤ bits v 16 0), app := protect (bits v 24 24) (bits v 16 0) (bits v 31 28 == 1) }),
    (CEL_RSEL, { pre := chk (s.cel.ret.st == 1) .eState }),
    (CEL_RCMD, { pre := chk (bits v 31 28 == 1 && (s.cel.ret.st == 1 ||
                   !((s.med (s.fld CEL_RSEL 31 31)).st == .ready || (s.med (s.fld CEL_RSEL 31 31)).st == .full))) .eState,
                 app := if bits v 31 28 = 1 then retStart else retStop })].lookup a

end Sys2Proof.Machine
end

