-- ==== Sys2Proof/Machine/BlkHeat.lean ====
section
/-! DEFINITION. The heat model, the throttle request and enforced Eaves, and the record of a thermal cut (chapter 19). -/

namespace Sys2Proof.Machine

/-- The heat model changed. -/
def onHeat (f : Heat → Heat) (s : State) : State := { s with heat := f s.heat }

/-- A node's temperature as reported: 1/256 cK rounded half away from zero to cK (R401).
DEDUCED (notes/assumptions/44.md). -/
def Heat.nodeCk (h : Heat) (i : Nat) : Int := roundHalfAway (nth 0 h.nodes i) 256

/-- The hottest node, the lowest of equals, and T_HOT. -/
def Heat.hot (h : Heat) : Nat × Int :=
  (List.range 6).foldl (fun b i => if b.2 < h.nodeCk i then (i, h.nodeCk i) else b) (0, h.nodeCk 0)

/-- A temperature as 16 bits. -/
def ck16 (t : Int) : Nat := (clampI 0 0xFFFF t).toNat

/-- T_NOW (R211): the package node, or the diode while an input is broken; and whether it is the diode. -/
def State.tNow (s : State) : Nat × Bool :=
  if s.heat.broken = 0 then (ck16 (s.heat.nodeCk 4), false) else (ck16 (s.heat.td.getD 0), true)

/-- T of the DRAM node (TBL_DRAM.DRIFT_K). -/
def State.dramCk (s : State) : Nat := ck16 (s.heat.nodeCk 2)

/-! ### Inputs (R404 to R406) -/

/-- AGE of the ambient report in ticks and in 100 ms; it runs with the clocks after hand-over (R97, R403, R404). -/
def State.ambTicks (s : State) : Nat := if s.handedOver then s.upTicks - s.heat.ambAt + s.heat.ambMore else 0
def State.ambAge (s : State) : Nat := sat 0xFFFF (s.ambTicks / (100 * msTicks))

/-- The ambient report is older than 10 s (R15, R404). -/
def State.ambStale (s : State) : Bool := decide (10000 * msTicks < s.ambTicks)

/-- The diode temperature of a code (R405). -/
def diodeCk (code : Nat) : Int := (Config.diodeZero : Int) + roundHalfAway ((code : Int) * Config.diodeSlope) (2 ^ 13)

/-- The broken inputs of Table 19.2; bit 10 is the disagreement. -/
def State.brokenNow (s : State) : Nat :=
  (List.range 8).foldl (fun v n =>
      let m := nth {} s.pwr.mons n
      v + at_ (b2n (m.oor || m.stuck || s.isStale (16 + n))) n) 0 +
    at_ (b2n s.ambStale) 8 + at_ (b2n (s.isStale 26)) 9 + at_ (b2n s.heat.dis) 10

/-- HEAT_BROKEN follows its conditions after hand-over: event 0x026 at each bit that sets, 0x027 when the last clears (R406). -/
def heatFollow (s : State) : State :=
  let new := if s.handedOver then s.brokenNow else 0
  let old := s.heat.broken
  let s := onHeat (fun h => { h with broken := new }) s
  let s := (List.range 11).foldl (fun s k => raiseIf (new / 2 ^ k % 2 == 1 && old / 2 ^ k % 2 == 0) 0x026 new s) s
  raiseIf (new == 0 && old != 0) 0x027 0 s

/-- The ambient temperature the model uses (R401, R406). -/
def State.ambCk (s : State) : Nat :=
  if s.heat.broken / 2 ^ 8 % 2 = 1 then s.fld HEAT_CFG 31 16 else s.fld HEAT_AMB 15 0

/-- The latest usable HKIN26 result gives T_D while the input is not stale (R405, Table 19.2). -/
def diodeFollow (s : State) : State :=
  match s.hkLast 26 with
  | some l => if s.isStale 26 then s else onHeat (fun h => { h with td := some (diodeCk l.code) }) s
  | none => s

/-- Every node takes the diode temperature of a fresh conversion (R403). -/
def nodesFromDiode (s : State) : State :=
  match s.heat.td with
  | some t => onHeat (fun h => { h with nodes := List.replicate 6 (t * 256), fresh := false }) s
  | none => s

/-- T_D follows, and gives the nodes their values when no conversion has since the reset (R403). -/
def diodeFresh (s : State) : State :=
  let s := diodeFollow s
  if s.heat.fresh then nodesFromDiode s else s

/-- The fresh conversion of HKIN26 on HKA (R403): repeated later when it carries OVR, SUSPECT or DIAG. -/
def freshDiode (raw : Int) (s : State) : State :=
  let x := hkResult (s.trim 0) raw
  if x.2 || decide (0 < (s.conv 0).suspect) || s.injected 26 then s
  else nodesFromDiode (diodeFollow (hkFeed 26 x.1 false false s))

/-- A disagreement is judged at an update (R405): ten consecutive ones set it and a hundred clear it; event 0x029. -/
def judgeDisagreement (s : State) : State :=
  match s.heat.td with
  | none => s
  | some t =>
    if s.isStale 26 then s
    else
      let diff := s.heat.nodeCk 4 - t
      let th := s.fld HEAT_CFG 15 8 * 10
      let s := onHeat (fun h =>
        let run := if (if h.dis then decide ((diff.natAbs : Int) ≤ (th : Int) - 300) else decide (th < diff.natAbs)) then h.disRun + 1
          else 0
        if run = (if h.dis then 100 else 10) then { h with dis := !h.dis, disRun := 0 } else { h with disRun := run }) s
      s

/-! ### The network (R401, Table 19.1) -/

/-- The rail powers of Table 19.1 in 0.01 mW, with the substitutes of Table 19.2. -/
def State.railPow (s : State) : List Nat :=
  (List.range 8).map fun n =>
    100 * (if s.heat.broken / 2 ^ n % 2 = 1 then railFullScale n else (nth {} s.pwr.mons n).pMw)

/-- The power inputs of the six nodes in 0.01 mW; BOARD's share of the losses is rounded half away from zero.
DEDUCED (notes/assumptions/44.md). -/
def State.nodePow (s : State) : List Nat :=
  let m (n : Nat) : Nat := nth 0 s.railPow n
  let loss := (roundHalfAway (((s.fld HEAT_CFG 7 0 * s.railPow.foldl (· + ·) 0 : Nat) : Int)) 100).toNat
  [m 0, m 1, m 3 + m 4, m 5 + m 6, m 2, m 7 + loss]

/-- One update of every node from the values of the previous one; `dt` is in units of 0.1 ms (R401). -/
def advance (dt : Nat) (s : State) : State :=
  let t (i : Nat) : Int := nth 0 s.heat.nodes i
  let g (e : Nat) : Int := ((s.fld (HEAT_G e) 15 0 : Nat) : Int)
  let amb : Int := ((256 * s.ambCk : Nat) : Int)
  let into (i : Nat) : Int := g i * (t 4 - t i)
  let flow : List Int := [into 0, into 1, into 2, into 3,
    g 4 * (t 5 - t 4) - (into 0 + into 1 + into 2 + into 3), g 4 * (t 4 - t 5) + g 5 * (amb - t 5)]
  let pow := s.nodePow
  let next (i : Nat) : Int :=
    t i + roundHalfAway ((dt : Int) * (256 * ((nth 0 pow i : Nat) : Int) + nth 0 flow i)) (10000 * s.fld (HEAT_C i) 15 0)
  onHeat (fun h => { h with nodes := (List.range 6).map next, pow := pow }) s

/-! ### WARN, ASK, FAST (R402, R407, R408) -/

/-- The node and T_HOT as event data. -/
def Heat.hotData (h : Heat) : Nat := at_ h.hot.1 24 + ck16 h.hot.2

/-- HYST in cK. -/
def State.hyst (s : State) : Int := ((10 * s.fld HEAT_TH2 15 8 : Nat) : Int)

def judgeWarn (s : State) : State :=
  let w : Int := ((s.fld HEAT_TH 31 16 : Nat) : Int)
  if !s.heat.warn && decide (w ≤ s.heat.hot.2) then raiseN 0x020 s.heat.hotData (onHeat (fun h => { h with warn := true }) s)
  else if s.heat.warn && decide (s.heat.hot.2 < w - s.hyst) then
    raiseN 0x021 s.heat.hotData (onHeat (fun h => { h with warn := false }) s)
  else s

/-- The throttle request; a broken input decides its reason (R408). The reason of a clearing is open.
DESIGN CHOICE (notes/assumptions/7.md), DEDUCED (notes/assumptions/44.md). -/
def judgeAsk (s : State) : State :=
  let a : Int := ((s.fld HEAT_TH 15 0 : Nat) : Int)
  if !s.heat.ask && (decide (a ≤ s.heat.hot.2) || s.heat.broken != 0) then
    raiseN 0x022 (at_ (if s.heat.broken = 0 then 1 else 2) 28 + s.heat.hotData)
      ((onHeat (fun h => { h with ask := true }) s).count HEAT_CNT 31 16)
  else if s.heat.ask && decide (s.heat.hot.2 < a - s.hyst) && s.heat.broken == 0 then
    let p := s.draw
    raiseN 0x023 (at_ (bits p.1 31 28) 28 + s.heat.hotData) (onHeat (fun h => { h with ask := false }) p.2)
  else s

/-- The rate of the next update (R402). -/
def judgeFast (s : State) : State :=
  let f := decide (((s.fld HEAT_TH 31 16 : Nat) : Int) - 1000 ≤ s.heat.hot.2)
  if f = s.heat.fast then s else raiseN 0x028 (b2n f) (onHeat (fun h => { h with fast := f }) s)

/-- Enforced Eaves begins (R409). -/
def enforceEaves (s : State) : State :=
  if s.heat.ask && !s.heat.enforced && s.live && s.handedOver then
    raiseN 0x024 (ck16 s.heat.hot.2) ((onHeat (fun h => { h with enforced := true }) s).count HEAT_CNT 15 0)
  else s

/-- Enforced Eaves ends (R410). -/
def releaseEnforced (s : State) : State :=
  if s.heat.enforced && !s.heat.ask && decide (s.heat.hot.2 < ((s.fld HEAT_TH 31 16 : Nat) : Int) - s.hyst) && s.live then
    raiseN 0x025 (ck16 s.heat.hot.2) (onHeat (fun h => { h with enforced := false }) s)
  else s

/-- AGE of the ambient report has come to exceed 10 s (R15, R404): the time up to then has passed. DESIGN CHOICE (notes/assumptions/2.md). -/
def ambientStale (s : State) : State :=
  if s.live && s.handedOver then
    heatFollow (onHeat (fun h => { h with ambMore := max h.ambMore (10000 * msTicks + 1 - (s.upTicks - h.ambAt)) }) s)
  else s

/-! ### The thermal cut (R411 to R416) -/

/-- The trigger of a cut and T_TRIG, when one is decided now (R411): a node, or 6 for the diode. -/
def State.cutDecided (s : State) : Option (Nat × Int) :=
  let c : Int := ((s.fld HEAT_TH2 31 16 : Nat) : Int)
  if s.handedOver && decide (c ≤ s.heat.hot.2) then some s.heat.hot
  else match s.heat.td with
    | some t => if !s.isStale 26 && decide (c ≤ t) then some (6, t) else none
    | none => none

/-- A heat-model update (R401 to R408). Before hand-over the model does not run; from the end of step 3 T_D is followed for
the judgement of R411. While a fresh conversion is due, the update is that conversion. -/
def heatUpdate (raw : Int) (s : State) : State :=
  if s.start.phase == .start then (if 3 < s.start.step then diodeFresh s else s)
  else if !s.live then s
  else if s.heat.fresh then freshDiode raw s
  else
    let was := s.heat.dis
    let s := judgeDisagreement (diodeFollow (advance (if s.heat.fast then 1 else 10) (heatFollow s)))
    let s := raiseIf (s.heat.dis && !was) 0x029 (toBits 16 (s.heat.nodeCk 4 - s.heat.td.getD 0)) s
    judgeFast (judgeAsk (judgeWarn (heatFollow s)))

/-- `2 · atanh(a / b)` in units of 2^-80 for 0 ≤ 3·a ≤ b: the series to 30 terms. -/
def atanh2 (a b : Nat) : Nat :=
  ((List.range 30).foldl (fun (acc : Nat × Nat) i =>
      (acc.1 + 2 * acc.2 / (2 * i + 1), acc.2 * a * a / (b * b))) (0, a * 2 ^ 80 / b)).1

/-- ln(p / q) in units of 2^-80 for p ≥ q > 0. -/
def lnRatio (p q : Nat) : Nat :=
  let k := Nat.log2 (p / q)
  k * atanh2 1 3 + atanh2 (p - q * 2 ^ k) (p + q * 2 ^ k)

/-- The cool-down time t_cd in seconds (R415). DEDUCED (notes/assumptions/44.md). -/
def coolTime (cuts : Nat) (s : State) : Nat :=
  let mn := s.fld HEAT_HOLD 31 16
  let dt : Int := nth 0 s.heat.nodes 5 - ((256 * s.ambCk : Nat) : Int)
  let k := s.fld HEAT_HOLD 15 8 * 10 * 256
  let t := if dt ≤ k then mn
    else max mn (ceilDiv (s.fld (HEAT_C 5) 15 0 * lnRatio dt.toNat k) (s.fld (HEAT_G 5) 15 0 * 2 ^ 80))
  max 60 (min 3600 (t * 2 ^ (cuts - 1)))

/-- CUTS, this cut included (R415). DEDUCED (notes/assumptions/44.md). -/
def State.cutsNow (s : State) : Nat :=
  match s.heat.hoAt with
  | some t => if s.start.cause = 5 ∧ s.time - t < 3600 * 1000 * msTicks then sat 255 (s.heat.cuts + 1) else 1
  | none => 1

/-- The sector whose erase is under way, by byte address: the fault ring, the start-journal copy, a cut slot (Table 9.13). -/
def State.erasing (s : State) : Option Nat :=
  match s.nor.ringErase with
  | some k => some (4096 * k)
  | none =>
    if s.nor.startErase then some (0x42000 + 4096 * s.nor.eraseSector)
    else match s.heat.eraseSlots with
      | b :: _ => if s.handedOver then some (0x40000 + 4096 * b2n b) else none
      | [] => none

/-- Table 19.5 without the CRC. `prog`: a page program was in flight; `us`: the time to the start of the record program. -/
def cutWords (trig : Nat × Int) (prog : Bool) (us : Nat) (s : State) : List Word :=
  let cuts := s.cutsNow
  let t (i : Nat) : Nat := ck16 (s.heat.nodeCk i)
  let act := match prog, s.erasing with
    | false, none => 0
    | true, none => 1
    | false, some _ => 2
    | true, some _ => 3
  [0x43555431, word s.nor.ringSeq,
   word (at_ trig.1 28 + at_ act 26 + at_ (b2n (s.heat.broken != 0)) 24 + ck16 trig.2),
   word (at_ (t 0) 16 + t 1), word (at_ (t 2) 16 + t 3), word (at_ (t 4) 16 + t 5),
   word (at_ s.ambCk 16 + ck16 (s.heat.td.getD 0)), word (at_ s.heat.broken 16 + coolTime cuts s),
   word (s.erasing.getD 0xFFFFFFFF), word s.ptpS, word s.ptpNs, word s.uptimeS,
   word (at_ cuts 24 + s.start.cause), word (sat 0xFFFF us), 0]

/-- Steps 2 to 4 of Table 19.3: the record goes into the island and, when a slot is erased and the program succeeds, into
the NOR (R413). `use`: the NOR is in use at this start (NOR_NONE clear). DEDUCED (notes/assumptions/44.md). -/
def recordCut (trig : Nat × Int) (prog : Bool) (us : Nat) (ok use : Bool) (s : State) : State :=
  let ws := cutWords trig prog us s
  let full := ws ++ [word (crc16 ws)]
  let free := s.heat.slotA.isNone || s.heat.slotB.isNone
  let kept := ok && use && free
  let l (k : Nat) : Word := nth 0 ws k
  let put : Option (List Word) := some (if ok then full else [])
  let h := { s.heat with
    cool := bits (l 7) 15 0, cuts := s.cutsNow, dirty := s.erasing, lcutNew := true,
    lcut := [l 1, if kept then l 2 else putBits (l 2) 25 25 1, l 7, l 8],
    slotA := if use && s.heat.slotA.isNone then put else s.heat.slotA,
    slotB := if use && !s.heat.slotA.isNone && s.heat.slotB.isNone then put else s.heat.slotB }
  { s with heat := h, nor := { s.nor with ringSeq := (s.nor.ringSeq + 1) % 2 ^ 32 } }

/-- A valid record: MAGIC and CRC are correct (R414). -/
def cutValid (r : Option (List Word)) : Option (List Word) :=
  match r with
  | some ws => if nth 0 ws 0 = 0x43555431 ∧ bits (nth 0 ws 15) 15 0 = crc16 (ws.take 15) then some ws else none
  | none => none

/-- A sequence number is later, modulo 2^32 within half the range (R414). -/
def later (a b : Word) : Bool := let d := (a - b).toNat; decide (0 < d ∧ d < 2 ^ 31)

/-- The end of step 7: the newest record, in a slot or in the island, is reported as event 0x02A; its slot is erased after
hand-over, and the dirty sector again before its owner uses it (R414). Any other slot found not erased is erased too (R539).
DESIGN CHOICE (notes/assumptions/60.md). -/
def cutReport (norUsed : Bool) (s : State) : State :=
  let a := if norUsed then cutValid s.heat.slotA else none
  let b := if norUsed then cutValid s.heat.slotB else none
  let newest : Option (Bool × List Word) := match a, b with
    | some x, some y => if later (nth 0 y 1) (nth 0 x 1) then some (true, y) else some (false, x)
    | some x, none => some (false, x)
    | none, some y => some (true, y)
    | none, none => none
  let data (w : Word) : Nat := at_ (bits w 31 25) 25 + bits w 15 0
  let island := s.heat.lcutNew && (match newest with
    | some p => later (nth 0 s.heat.lcut 0) (nth 0 p.2 1)
    | none => true)
  let s := if island then raiseN 0x02A (data (nth 0 s.heat.lcut 1)) s
    else match newest with
      | some p => raiseN 0x02A (data (nth 0 p.2 2)) s
      | none => s
  let used : List Bool := (if s.heat.slotA.isSome then [false] else []) ++ (if s.heat.slotB.isSome then [true] else [])
  onHeat (fun h => { h with lcutNew := false, dirty := none, eraseSlots := if norUsed then used else [] }) s

/-- The background erase of a cut slot completes (R414, R539). -/
def cutErase (s : State) : State :=
  onHeat (fun h => match h.eraseSlots with
    | true :: t => { h with slotB := none, eraseSlots := t }
    | false :: t => { h with slotA := none, eraseSlots := t }
    | [] => h) s

/-! ### Life cycle -/

/-- Hand-over (R97, R401, R403). -/
def heatHandOver (s : State) : State :=
  onHeat (fun h => { h with fresh := true, ambAt := s.upTicks, ambMore := 0, hoAt := some s.time }) s

/-- A wake from Rind (R97, R403). -/
def heatWake (s : State) : State := onHeat (fun h => { h with fresh := true, ambAt := s.upTicks, ambMore := 0 }) s

/-- A reset (Table 4.5, R417): the island keeps the cut record and CUTS but at a power-on reset. -/
def heatReset (powerOn : Bool) (s : State) : State :=
  let k := s.heat
  let h : Heat := { slotA := k.slotA, slotB := k.slotB, dirty := k.dirty }
  { s with heat := if powerOn then h else { h with lcut := k.lcut, lcutNew := k.lcutNew, cuts := k.cuts } }

/-! ### Registers (Table 19.4) -/

/-- The live words of page 0x10. -/
def heatView (a : Nat) (s : State) : Option Word :=
  let h := s.heat
  if HEAT_NODE 0 ≤ a ∧ a < HEAT_NODE 6 then
    let i := (a - HEAT_NODE 0) / 4
    some (word (at_ (ck16 (h.nodeCk i)) 16 + sat 0xFFFF (roundHalfAway ((nth 0 h.pow i : Nat) : Int) 1000).toNat))
  else if HEAT_LCUT 0 ≤ a ∧ a < HEAT_LCUT 4 then some (nth 0 h.lcut ((a - HEAT_LCUT 0) / 4))
  else [
    (HEAT_STAT, word (at_ (b2n h.fast) 31 + at_ (b2n h.warn) 30 + at_ (b2n h.ask) 29 + at_ (b2n h.enforced) 28 + h.hotData)),
    (HEAT_AMB, putBits (s.reg HEAT_AMB) 31 16 s.ambAge),
    (HEAT_BROKEN, word h.broken),
    (HEAT_DIODE, match h.td with
      | some t => word (at_ (ck16 t) 16 + toBits 16 (h.nodeCk 4 - t))
      | none => 0),
    (HEAT_DCAL, word (at_ (Config.diodeZero % 65536) 16 + toBits 16 Config.diodeSlope))].lookup a

/-- The bound of R418 with a written coefficient: Σ G over each node's edges at most 250 · C. -/
def coefficientsBad (a v : Nat) (s : State) : Bool :=
  let rd (x : Nat) : Nat := if x = a then v else s.fld x 15 0
  let g (e : Nat) : Nat := rd (HEAT_G e)
  let sums := [g 0, g 1, g 2, g 3, g 0 + g 1 + g 2 + g 3 + g 4, g 4 + g 5]
  (List.range 6).any fun i => decide (250 * rd (HEAT_C i) < nth 0 sums i)

/-- The thresholds' order (R419). -/
def thresholdsBad (th th2 : Word) : Bool :=
  let w := bits th 31 16
  let k := bits th 15 0
  let c := bits th2 31 16
  !(decide (33315 ≤ w) && decide (w + 200 ≤ k) && decide (k + 500 ≤ c) && decide (c ≤ 42315))

/-- The writes of the HEAT_ registers (R404, R418, R419). -/
def heatWrite (a : Nat) (v : Word) (s : State) : Option WriteRule :=
  if (HEAT_C 0 ≤ a ∧ a < HEAT_C 6) ∨ (HEAT_G 0 ≤ a ∧ a < HEAT_G 6) then some { bad := coefficientsBad a (bits v 15 0) s }
  else [
    (HEAT_AMB, ({ bad := decide (bits v 15 0 < 23315 ∨ 38315 < bits v 15 0),
                  app := fun t => heatFollow (onHeat (fun h => { h with ambAt := t.upTicks, ambMore := 0 }) t) } : WriteRule)),
    (HEAT_TH, { bad := thresholdsBad v (s.reg HEAT_TH2) }),
    (HEAT_TH2, { bad := thresholdsBad (s.reg HEAT_TH) v })].lookup a

end Sys2Proof.Machine
end

