-- ==== Sys2Proof/Machine/BlkUart.lean ====
section
/-! DEFINITION. The serial ports U0 to U3 (spec/23_serial_ports.md) and the report line of drain D6 (R139). -/

namespace Sys2Proof.Machine

/-- A UART, and the state with one changed. -/
def State.ser (s : State) (u : Nat) : Uart := s.uart.getD u {}
def onSer (u : Nat) (f : Uart → Uart) (s : State) : State := { s with uart := upd s.uart u f }

/-- Fields of the UART's configuration register. -/
def State.serEn (s : State) (u : Nat) : Bool := s.flag (UART_CFG u) 31
def State.serRxlvl (s : State) (u : Nat) : Nat := (s.ser u).rx.length

/-- The configuration word that the transmitter follows: the one it started its character with until that is over (R505). -/
def State.serCfg (s : State) (u : Nat) : Word :=
  match (s.ser u).tx with
  | some c => c.2
  | none => s.reg (UART_CFG u)

/-- DE is asserted (R512). -/
def State.serDe (s : State) (u : Nat) : Bool :=
  s.live && (match bits (s.serCfg u) 29 28 with
    | 1 => s.serEn u
    | 2 => (s.ser u).de
    | _ => false)

/-- The level of pin UuDE: DEPOL = 1 makes it active-low (R512). -/
def State.serDePin (s : State) (u : Nat) : Bool := s.serDe u != bit (s.serCfg u) 27

/-- A kind of Table 23.2 occurs: its bit is set, and the source is raised when its enable bit is set (R516). -/
def serEventData (u kind data : Nat) (s : State) : State :=
  let s := s.setFld (UART_EVT u) (kind - 1) (kind - 1) 1
  raiseIf (s.flag (UART_IEN u) (kind - 1)) (0x1F8 + u) (kind * 2 ^ 28 + data) s

/-- The same with DATA in the common layout: RXLVL and a 16-bit value. -/
def serEvent (u kind value : Nat) (s : State) : State := serEventData u kind (s.serRxlvl u * 2 ^ 16 + value % 2 ^ 16) s

/-! ### Transmitter -/

/-- The report line uses this UART (R139). -/
def State.serLine (s : State) (u : Nat) : Bool := s.flag GUT_D6CFG 3 && s.fld GUT_D6CFG 1 0 == u

/-- The next character starts, if there is one and nothing holds it (R505, R511 to R513): a character that finds DE deasserted
waits for the turnaround when HDX is 1. -/
def serStart (u : Nat) (s : State) : State :=
  let x := s.ser u
  let cfg := s.reg (UART_CFG u)
  match x.tx, x.txq with
  | none, c :: t =>
    if !s.live || !bit cfg 31 then s
    else if bit cfg 25 && !s.serDe u && !x.quiet && s.fld (UART_DE u) 7 0 != 0 then onSer u (fun x => { x with wait := true }) s
    else onSer u (fun x => { x with tx := some (c, cfg), txq := t, wait := false, de := x.de || bits cfg 29 28 == 2 }) s
  | _, _ => s

/-- Characters join the transmit FIFO (R511). -/
def serPush (u : Nat) (cs : List Nat) (s : State) : State :=
  serStart u (onSer u (fun x => { x with txq := x.txq ++ cs }) s)

/-- A character of a report line is over; with the last of its characters the line is delivered (R139, R517). -/
def serLineStep (u : Nat) (s : State) : State :=
  match (s.ser u).line with
  | 0 => s
  | k + 1 =>
    let s := onSer u (fun x => { x with line := k }) s
    if k = 0 then s.count (GUT_DRAIN 6) 31 16 else s

/-- The rest of a report line is discarded: a delivery lost (R139, R518, UART_nCTL). DEDUCED (notes/assumptions/54.md). -/
def serLineCut (u : Nat) (s : State) : State :=
  if 0 < (s.ser u).line ∧ !(s.ser u).txq.isEmpty then (onSer u (fun x => { x with line := 0 }) s).count (GUT_DRAIN 6) 15 8 else s

/-- The last stop bit of the character being sent ends (R512, Table 23.2 kind 7).
DEDUCED (notes/assumptions/54.md). -/
def serSent (u : Nat) (s : State) : State :=
  let x := s.ser u
  if x.tx.isNone || !s.live then s
  else
    let s := serStart u (serLineStep u (onSer u (fun x => { x with tx := none }) s))
    if x.txq.isEmpty then serEvent u 7 0 s else s

/-- HOLD ticks have passed with the transmit FIFO empty: DE deasserts (R512). -/
def serHoldEnd (u : Nat) (s : State) : State :=
  let x := s.ser u
  if x.de && x.tx.isNone && x.txq.isEmpty && s.live then onSer u (fun x => { x with de := false }) s else s

/-- The receiver has been idle for TURN bit times: a waiting character may start (R513). -/
def serTurnEnd (u : Nat) (s : State) : State := serStart u (onSer u (fun x => { x with quiet := true }) s)

/-- The transmit FIFO is emptied; a character in progress completes (UART_nCTL). -/
def serTxFlush (u : Nat) (s : State) : State := onSer u (fun x => { x with txq := [], wait := false }) (serLineCut u s)

/-! ### Receiver -/

/-- The majority of three samples, given as a number of three bits (R506). -/
def maj3 (n : Nat) : Nat := if 2 ≤ n % 2 + n / 2 % 2 + n / 4 % 2 then 1 else 0

/-- The three samples do not all agree (R507). -/
def mixed3 (n : Nat) : Bool := n % 8 != 0 && n % 8 != 7

/-- The number of bits the receiver samples: start, data, parity if any, first stop bit (R506). -/
def serBits (cfg : Word) : Nat := 2 + (if bit cfg 24 then 7 else 8) + b2n (bits cfg 22 21 != 0)

/-- A character as sampled, bit by bit: its data, and whether it is noisy, of wrong parity, without stop bit, a break. -/
structure SerChar where
  data : Nat
  noise : Bool
  parity : Bool
  frame : Bool
  brk : Bool
  deriving DecidableEq, Repr

/-- The character that the samples of its bits make (R506 to R508); none when the start bit's majority is 1, or the samples are
not those of one character of this format. DEDUCED (notes/assumptions/54.md). -/
def serDecode (cfg : Word) (samples : List Nat) : Option SerChar :=
  let m := samples.map maj3
  let nd := if bit cfg 24 then 7 else 8
  if samples.length != serBits cfg || m.getD 0 1 != 0 then none
  else
    let ds := (m.drop 1).take nd
    let data := ds.foldr (fun b n => 2 * n + b) 0
    let ones := ds.foldl (· + ·) 0
    let par := bits cfg 22 21
    let want := if par = 1 then ones % 2 else (ones + 1) % 2
    let stop := m.getD (samples.length - 1) 1
    let brk := m.all (· == 0)
    some { data := data, noise := samples.any mixed3, parity := par != 0 && m.getD (1 + nd) 0 != want,
           frame := stop == 0 && !brk, brk := brk }

/-- A completed character is stored, or dropped on a full FIFO (R507 to R509).
DEDUCED (notes/assumptions/54.md). -/
def serStore (u : Nat) (c : SerChar) (s : State) : State :=
  let x := s.ser u
  let s := onSer u (fun x => { x with quiet := false, idleTold := false }) s
  let s :=
    if x.rx.length ≥ 64 then
      let s := (onSer u (fun x => { x with drops := true }) s).count (UART_CNT u) 7 0
      serEvent u 4 (s.fld (UART_CNT u) 7 0) s
    else
      let w := word (2 ^ 31 + b2n x.drops * 4096 + b2n c.brk * 2048 + b2n c.frame * 1024 + b2n c.parity * 512
        + b2n c.noise * 256 + c.data)
      let s := onSer u (fun x => { x with rx := x.rx ++ [w], drops := false }) s
      let s := ((s.count (UART_CNT u) 31 24 (b2n c.noise)).count (UART_CNT u) 23 16 (b2n c.frame)).count (UART_CNT u) 15 8
        (b2n c.parity)
      if s.serRxlvl u = s.fld (UART_IEN u) 22 16 then serEvent u 1 0 s else s
  if c.brk then serEvent u 3 0 s else s

/-- A character is received, as the samples of its bits. While bit-rate measurement is armed the receiver stores none (R514);
with ECHO = 1 it detects no start while DE is asserted (R512). DEDUCED (notes/assumptions/54.md). -/
def serReceive (u : Nat) (samples : List Nat) (s : State) : State :=
  if !s.live || !s.serEn u || s.flag (UART_ABR u) 31 || (s.flag (UART_CFG u) 26 && s.serDe u) then s
  else match serDecode (s.reg (UART_CFG u)) samples with
    | none => s
    | some c => serStore u c s

/-- RXD has been 1 for IDLE_T bit times after the last stop bit (R515). -/
def serIdle (u : Nat) (s : State) : State :=
  if !s.live || !s.serEn u || s.fld (UART_CFG u) 15 8 == 0 || (s.ser u).idleTold then s
  else serEvent u 2 0 (onSer u (fun x => { x with idleTold := true }) s)

/-- The oldest entry of the receive FIFO, or a word with VALID = 0 (R510). -/
def State.serFront (s : State) (u : Nat) : Word := (s.ser u).rx.headD 0

/-- `n` entries leave the receive FIFO (R510). -/
def serPop (u n : Nat) (s : State) : State := onSer u (fun x => { x with rx := x.rx.drop n }) s

/-- The words of a bulk read of UART_nRXW: entries in order, then words with VALID = 0 (R510). -/
def State.serWindow (s : State) (u n : Nat) : List Word := (List.range n).map fun i => (s.ser u).rx.getD i 0

/-! ### Bit-rate measurement (R514) -/

/-- Bit `i` of the frame of a character: the start bit, then the data bits from d0. -/
def abrBit (c i : Nat) : Nat := if i = 0 then 0 else c / 2 ^ (i - 1) % 2

/-- P: the largest bit index at which the frame of the character falls from 1 to 0; 0 if there is none.
DEDUCED (notes/assumptions/54.md). -/
def abrP (cfg : Word) (c : Nat) : Nat :=
  (List.range (if bit cfg 24 then 7 else 8)).foldl (fun p k =>
    if abrBit c (k + 1) = 0 && abrBit c k = 1 then k + 1 else p) 0

/-- The measurement ends: `t` network clocks between the edges, and the samples of the character at the rate DIV′. -/
def serMeasured (u t : Nat) (samples : List Nat) (s : State) : State :=
  if !s.live || !s.serEn u || !s.flag (UART_ABR u) 31 then s
  else
    let cfg := s.reg (UART_CFG u)
    let ch := s.fld (UART_ABR u) 7 0
    let p := abrP cfg ch
    let div := if p = 0 then 0 else (2 * (16 * t) + p) / (2 * p)
    let good := decide (667 ≤ div) && decide (div ≤ 6666667) &&
      (match serDecode cfg samples with
       | some c => c.data == ch && !c.noise && !c.parity && !c.frame && !c.brk
       | none => false)
    if good then
      serEventData u 5 (div % 2 ^ 23) ((s.setFld (UART_ABR u) 31 31 0).setFld (UART_DIV u) 22 0 div)
    else serEvent u 6 (sat 0xFFFF t) s

/-! ### Safe state, Rind, the report line -/

/-- The safe state cuts off the character being sent; both FIFOs keep their contents (R517). -/
def serSafe (s : State) : State :=
  let s := (List.range 4).foldl (fun s u => if (s.ser u).tx.isSome then serLineStep u s else s) s
  { s with uart := s.uart.map fun x => { x with tx := none, wait := false, de := false } }

/-- At resumption each transmitter continues with its next character (R517). -/
def serResume (s : State) : State := (List.range 4).foldl (fun s u => serStart u s) s

/-- An accepted RIND_REQ: the rest of every transmit FIFO is discarded and counted (R518). -/
def serRindReq (s : State) : State :=
  (List.range 4).foldl (fun s u => onSer u (fun x => { x with txq := [], wait := false, de := x.de && x.tx.isSome })
    ((serLineCut u s).count (UART_CNT2 u) 7 0 (s.ser u).txq.length)) s

/-- In Rind TXD is high and DE deasserted; the character in progress has ended (R518). -/
def serRind (s : State) : State := serSafe (serRindReq s)

/-- This UART's start bit woke the engine (R518). -/
def serWoke (u : Nat) (s : State) : State := serEvent u 8 0 s

/-- Work that keeps the UART clock running. -/
def State.serBusy (s : State) : Bool := (List.range 4).any fun u => s.serEn u

/-- The character of a hex digit, upper case. -/
def hexChar (n : Nat) : Nat := if n < 10 then 48 + n else 55 + n

/-- `k` hex digits of a number, most significant first. -/
def hexDigits (k n : Nat) : List Nat := (List.range k).map fun i => hexChar (n / 16 ^ (k - 1 - i) % 16)

/-- The 20 characters of a report line (chapter 06, "Journal and report line"). -/
def reportLine (d : Delivery) : List Nat :=
  [0x23, 0x45, 0x2C] ++ hexDigits 3 d.src ++ [0x2C] ++ hexDigits 8 d.data.toNat ++ [0x2C] ++ hexDigits 2 d.supp ++ [0x0D, 0x0A]

/-- The oldest D6 delivery is sent as one line: only with the report line and its UART enabled, the transmit FIFO empty and no
character being sent; its characters go through the transmitter as any others. Deliveries queued when the report line is switched
off stay queued (R139, R511). DEDUCED (notes/assumptions/54.md). -/
def serReport (s : State) : State :=
  let u := s.fld GUT_D6CFG 1 0
  let x := s.ser u
  match s.gut.d6 with
  | d :: t =>
    if s.live && s.flag GUT_D6CFG 3 && s.serEn u && x.txq.isEmpty && x.tx.isNone then
      let cs := reportLine d
      serPush u cs (onSer u (fun x => { x with line := cs.length }) { s with gut := { s.gut with d6 := t } })
    else s
  | [] => s

/-! ### Registers -/

/-- The read-only view of a UART register at offset `o` of its block (Table 23.3).
DEDUCED (notes/assumptions/54.md). -/
def serView (u o : Nat) (s : State) : Option Word :=
  let x := s.ser u
  match o with
  | 0x10 => some (word (x.rx.length * 2 ^ 24 + x.txq.length * 2 ^ 16 + b2n (x.tx.isSome || x.wait) * 4 + b2n (s.serDe u) * 2
      + b2n (s.flag (UART_ABR u) 31)))
  | 0x1C => some (s.serFront u)
  | _ => none

/-- The checks that a transmit write meets before its range checks (R511). -/
def serTxPre (u : Nat) (s : State) : Code := firstCode [chk (!s.serEn u) .eCtx, chk (s.serLine u) .eState]

/-- The transmit FIFO lacks room for `n` characters (R511). -/
def serTxFull (u n : Nat) (s : State) : Bool := decide ((s.ser u).txq.length + n > 64)

/-- UART_nCTL: RXFLUSH and TXFLUSH. -/
def serCtl (u : Nat) (rx tx : Bool) (s : State) : State :=
  let s := if rx then onSer u (fun x => { x with rx := [] }) s else s
  if tx then serTxFlush u s else s

/-- The write rule of a UART register (Table 23.3). -/
def serWrite (u o : Nat) (v : Word) (s : State) : Option WriteRule :=
  match o with
  | 0x00 => some { app := serStart u }
  | 0x04 => some { pre := chk (s.flag (UART_ABR u) 31) .eState }
  | 0x0C => some { bad := bit v 31 && decide (abrP (s.reg (UART_CFG u)) (bits v 7 0) < 4) }
  | 0x24 => some { pre := serTxPre u s, post := chk (serTxFull u 1 s) .eFull, store := false, app := serPush u [bits v 7 0] }
  | 0x34 => some { store := false, app := serCtl u (bit v 1) (bit v 0) }
  | _ => none

end Sys2Proof.Machine
end

