-- ==== Sys2Proof/Machine/Pipeline.lean ====
section
/-! DEFINITION. The way of a frame: its start, lines and end at intake (chapter 13), its runs (chapter 08), and its DONE point,
where denoise, correction, render, record, outputs and analysis take it (chapters 14 to 18). -/

namespace Sys2Proof.Machine

/-! ### Changes of context state -/

/-- What follows a change of context states: a context that became ON from OFF starts afresh (R301, R314, R335, R381); one
that left ON withdraws DUE (R316). -/
def ctxFollow (before s : State) : State :=
  gridsIdle ((List.range 8).foldl (fun s c =>
    let was := (before.ctx c).st
    let now := (s.ctx c).st
    if was = .off ∧ now = .on then
      let s := refAwaited c (agcRestart c (dnrForget c s))
      if (s.anaOf c).st = .off then s else modelStart c 3 s
    else if was = .on ∧ now ≠ .on ∧ s.source c < 4 then dueWithdrawn (s.source c) s
    else s) s)

/-! ### Breaking (R66, R269, R362) -/

/-- A frame breaks: its record, the encoder and the press let go of it, and it leaves the pipeline. `ends`: its END point occurs
now. -/
def breakFrame (c fn reason : Nat) (ends : Bool) (s : State) : State :=
  match s.frame? c fn with
  | none => s
  | some f =>
    let s := writeRing c fn (brokenRecord c f reason) s
    let s := match f.head with | some n => pressFrameBroke n fn s | none => s
    let s := onEgr (fun g => { g with hostSkip := g.hostSkip.filter fun p => !(p.2 == fn && f.ports.contains p.1) }) s
    let before := s
    let s := if ends then pointAt c 1 fn s else s
    ctxFollow before (portsDrained (removeFrame c fn (encBreak c fn s)))

/-- At the END point of a frame with repairs: they are counted, event k = 1 (R268). -/
def repairsTold (n : Nat) (r : RxFrame) (s : State) : State :=
  if r.repairs = 0 then s
  else raiseN (0x081 + 8 * n) (at_ (sat 255 r.repairs) 24 + r.fn % 2 ^ 24) (s.count (INT_HERR n) 23 16 r.repairs)

/-- A frame of head `n` breaks with a reason of Table 13.4: counted, event k = 0; only the first reason counts. -/
def breakRx (n reason : Nat) (ends : Bool) (s : State) : State :=
  match (s.head n).rx, s.ctxOfHead n with
  | some r, some c =>
    if !r.accepted || r.broken then s
    else
      let s := onHead n (fun h => { h with rx := some { r with broken := true } }) s
      let s := raiseN (0x080 + 8 * n) (at_ reason 28 + r.fn % 2 ^ 24) ((breakFrame c r.fn reason ends s).count (INT_HERR n) 31 24)
      if ends then repairsTold n r s else s
  | _, _ => s

/-- The frames past their DONE point of which a consumer has not yet sent everything, as (context, frame number): in the encoder, in
the rings and queues of egress, on the way to the host, and in the Cellar's shares and unwritten pages (R66).
DEDUCED (notes/assumptions/34.md). -/
def State.unsent (s : State) : List (Nat × Nat) :=
  let coded (c : Coded) : Nat × Nat := (c.ctx, c.fn)
  let chans := s.out.chans.flatMap fun x => x.jobs.map (fun j => (j.ctx, j.fn)) ++ x.ring.map coded
  let cel := s.cel.streams.flatMap fun x =>
    let segs := x.buf.segs ++ x.out.flatMap fun o => match o.2.2 with | .page p => p.segs | .close _ _ => []
    let ids := segs.filterMap fun g => match g with | .coded _ id _ _ => some id | .lit _ => none
    let rec_ := match x.wheel with
      | some (m, k) => ((((s.med m).wheels.lookup k).getD {}).frames.map (·.2)).filter fun c => ids.contains c.id
      | none => []
    (x.share.filterMap fun i => match i with | .frame c => some (coded c) | .marker _ _ _ _ => none) ++ (x.held ++ rec_).map coded
  chans ++ (s.egr.host.map fun h => (h.ctx, h.fn)) ++ cel

/-- The record of a frame past its DONE point takes the broken mark and reason 0xF, with zero from word 32 on (R66, R375). -/
def markBroken (c fn : Nat) (s : State) : State :=
  match s.tbl.rings.lookup (64 * c + fn % 64) with
  | some l =>
    if nth 0 l 0 = word fn then
      writeRing c fn (putBits (nth 0 l 1) 31 27 0x1F :: (l.drop 2).take 30) s
    else s
  | none => s

/-- The frames past their DONE point that the safe state breaks (R66). -/
def breakUnsent (s : State) : State := s.unsent.foldl (fun s p => markBroken p.1 p.2 s) s

/-- Every frame in the pipeline is broken by the safe state (R66). DEDUCED (notes/assumptions/34.md). -/
def breakAll (s : State) : State :=
  (List.range 8).foldl (fun s c => (s.ctx c).frames.foldl (fun s f => breakFrame c f.fn 0xF false s) s)
    { s with int := { s.int with heads := s.int.heads.map fun h => { h with rx := none },
                                 gens := s.int.gens.map fun g => { g with rx := none } } }

/-- The frame in progress of a head that is disabled (R274): broken with reason 7. -/
def cutHead (n : Nat) (s : State) : State := breakRx n 7 true s

/-! ### Runs (R175, R176) -/

/-- The pipeline starts a run when it can; with a frame's first run the frame takes its mapping and overlay buffer (R338, R348),
and the analysis is looked at (R379). -/
def pipeGo (s : State) : State :=
  let t := startRun s
  if s.sch.run.isSome then s
  else match t.sch.run with
    | some r =>
      if r.idx = 0 then anaBegin r.ctx r.fn (renderFirstRun r.ctx r.fn t) else t
    | none => t

/-! ### Frame starts (R270, R271) -/

/-- The tables that a frame's settings name (Table 9.6). -/
def Frame.tables (f : Frame) (c : Nat) : List Nat :=
  let raw := f.kind == 0
  let nuc := f.cw (NUC_CFG c)
  let col := f.cw (RND_COL c)
  ((if raw then bits nuc 7 0 :: (if bit nuc 30 then [bits nuc 15 8] else []) else []) ++
    [bits (f.cw (RND_PAL c)) 7 0, bits (f.cw (RND_PAL c)) 15 8, bits col 23 16, bits col 15 8, bits col 7 0].filter (· != 0) ++
    (if bit col 31 then [0x30] else [])).filter fun n => tableType n != 0

/-- A commit applies at this accepted frame start (R170, R171). -/
def commitApply (c fn : Nat) (s : State) : State :=
  if (s.ctx c).armed then
    let t := rndApplied c fn s (onCtx c (fun x => { x with armed := false }) (applyRegs (s.commitRegs c) s))
    pointAt c 3 fn (t.count (INT_CNT c) 15 0)
  else s

/-- The START of an accepted frame: commits, tables, publishes and ports take effect, and the frame takes the values in force
with it. `line` and `fper` are the times measured at intake. DESIGN CHOICE (notes/assumptions/43.md). -/
def acceptFrame (c fn w h kind : Nat) (head : Option Nat) (inPress : Bool) (line fper : Nat) (s : State) : State :=
  let x := s.ctx c
  let s := if x.w ≠ w ∨ x.h ≠ h then agcRestart c (onNuc c (fun z => { z with epochs := [] }) s) else s
  let s := gridsAtStart c fn (portsBegin c (commitApply c fn s))
  let s := ctxMoved c (onCtx c (fun x => { x with w, h, line, fper }) s)
  let s := onNuc c (fun z => match z.bNext with
    | some b => { z with b := if bit (s.cw (NUC_CFG c)) 29 then b else 0, bNext := none }
    | none => if bit (s.cw (NUC_CFG c)) 29 then z else { z with b := 0 }) s
  let hd := match head with | some n => s.head n | none => {}
  let p := match head with | some n => s.pressOf n | none => {}
  let f : Frame := {
    fn, w, h, kind, shingle := s.shingleOf c, hs := s.hsOf c, bank := s.inForce, tabs := s.tbl.tabs, head
    stampS := s.ptpS, stampNs := s.ptpNs, ts := hd.ts, tsOk := hd.tsOk, rate := hd.rate, rateOk := hd.rateOk, tf := hd.tf,
    tfOk := hd.tfOk, press := inPress, sun := inPress && (p.st == .sun || p.st == .probe), pst := p.st.num, pres := p.res,
    nucB := (s.nucOf c).b, ports := s.portsOn c, masks := s.masksNow }
  let f := renderStart c f s
  let prev := (s.ctx c).frames
  let s := hostStart c fn f.ports s
  let s := if kind = 0 ∧ !inPress then dnrStart c f prev s else s
  measureSched (onCtx c (fun x => { x with frames := x.frames ++ [f] }) s)

/-- A frame start of context `c` with its number already advanced to `fn` (R271): the START point, the press of head `n` (R314,
R317 to R319, R323), the judgement of R180, and acceptance. `open_`: the source's own conditions for acceptance hold. The answer
says whether the frame is accepted. DEDUCED (notes/assumptions/36.md). -/
def frameStart (c fn w h kind : Nat) (head : Option Nat) (open_ : Bool) (line fper : Nat) (s : State) : Bool × State :=
  let on := (s.ctx c).st == .on
  let can := on && open_ && s.start.phase == .up && !s.dramLost && !s.tbl.draining
  let thermal := match head with | some n => if n < 4 then some n else none | none => none
  let exempt := match thermal with
    | some n => ((s.pressOf n).active && (s.blindEnds n).isNone) || s.shutterRuns n
    | none => false
  let skip := can && s.skips c exempt
  let acc := can && !skip
  let s := portsReleased c (pointAt c 0 fn s)
  let r := match thermal with | some n => pressBlindStart n acc s | none => (s, false)
  let s := match thermal with
    | some n =>
      let s := if (s.ctx c).st = .off then r.1 else trimsAtStart r.2 n (biasAtStart r.2 n r.1)
      let s := captureStart n fn (acc && (s.head n).tsOk) s
      if (s.ctx c).st = .off then s else dnrPressStart c fn r.2 s
    | none => r.1
  let s := if acc then acceptFrame c fn w h kind head r.2 line fper s else if skip then skipFrame c fn s else s
  let s := match thermal with | some n => sunRetryStart n (pressCriteria n c fn s) | none => s
  (acc, s)

/-- A packet on a VC that no enabled head uses is discarded and counted (R266, R277). DEDUCED (notes/assumptions/55.md). -/
def unmappedPacket (vc : Nat) (s : State) : State :=
  let s := (List.range 6).foldl (fun s n =>
    if !s.headEn n && s.fld (INT_HCFG n) 27 24 == vc then onHead n (fun h => { h with stray := some s.time }) s else s)
    { s with int := { s.int with unmapped := s.int.unmapped + 1 } }
  if s.int.vcSeen.contains vc then s
  else raiseN 0x0B8 vc { s with int := { s.int with vcSeen := vc :: s.int.vcSeen } }

/-- The packet's VC as the receiver decodes it: without the VC extension only two bits are (R274).
DEDUCED (notes/assumptions/55.md). -/
def State.vcOf (s : State) (vc : Nat) : Nat := if s.flag INT_LINK 27 then vc % 16 else vc % 4

/-- The packet can be read: its header is valid or corrected, and high-speed data is accepted. -/
def readable (e : PacketErr) (s : State) : Bool := s.rxOn && e != .eccUnc && e != .sot

/-- A frame-start packet (R269 to R271, R276). -/
def headStart (p : StartPacket) (e : PacketErr) (s : State) : State :=
  if !s.live then s
  else
    let s := packetSeen e s
    if !readable e s then s
    else match s.headOfVc (s.vcOf p.vc) with
      | none => unmappedPacket (s.vcOf p.vc) s
      | some n =>
        let s := onHead n (fun h => { h with rx := none }) (breakRx n 6 true s)
        let hd := s.head n
        let s := onHead n (fun h => { h with obs := if h.obs = .streaming then .streaming else .resync }) s
        let hd1 := learnWrap hd p.f
        let step := frameStep (s.flag (INT_HCFG n) 21) { hd with fnMax := hd1.fnMax } p.f
        let s := onHead n (fun h => { h with fnMax := hd1.fnMax, fHigh := hd1.fHigh, fLast := hd1.fLast, stampS := s.ptpS,
                                             stampNs := s.ptpNs }) s
        let s := if 1 < step then raiseN (0x086 + 8 * n) ((step - 1) % 2 ^ 16) (s.count (INT_HERR n) 15 0 (step - 1)) else s
        let s := latchTelemetry n s
        let g := s.headGeom n
        let resync := (s.head n).obs == .resync
        let r := match s.ctxOfHead n with
          | none => ((false, s), 0)
          | some c =>
            let fn := ((s.ctx c).fnum + step) % 2 ^ 32
            let s := onCtx c (fun x => { x with fnum := fn }) s
            (frameStart c fn g.1 g.2 (s.headKind n) (some n) (!resync) p.line p.fper s, fn)
        disFollow n (pipeGo (onHead n (fun h => { h with rx := some { fn := r.2, started := true, accepted := r.1.1, resync, w := g.1, h := g.2 } })
          r.1.2))

/-! ### Lines (R266 to R269) -/

/-- `k` lines of the frame of head `n` are lost from slot `y` on: line 0 breaks the frame, others are repaired from the line
above. DEDUCED (notes/assumptions/55.md). -/
def linesLost (n k y : Nat) (s : State) : State :=
  if k = 0 then s
  else match (s.head n).rx, s.ctxOfHead n with
    | some r, some c =>
      if !r.accepted || r.broken then s
      else if y = 0 then breakRx n 2 false s
      else
        let s := onFrame c r.fn (fun f =>
          { f.addRows (List.replicate k (f.rows.getLast?.getD [])) s.time with repairs := f.repairs + k }) s
        let reps := r.repairs + k
        let s := onHead n (fun h => { h with rx := some { r with repairs := reps } }) s
        if s.fld (INT_HCFG n) 15 12 < reps then breakRx n 1 false s else s
    | _, _ => s

/-- The slot of a line is taken: the lines that are missing before it are accounted for, and an overflow is told once a frame
(R268, R291). -/
def lineSeen (n : Nat) (p : LinePacket) (r : RxFrame) (s : State) : State :=
  let s := linesLost n (min p.y r.h - r.next) r.next s
  raiseIf (p.err == .overflow && !((s.head n).rx.getD r).ovf) 0x0B9 0 (onHead n (fun h => { h with
    rx := h.rx.map fun r => { r with next := p.y + 1, w := if r.resync && p.y == 0 then p.px.length else r.w
                                     ovf := r.ovf || p.err == .overflow } }) s)

/-- A line in its slot: one too many breaks the frame, one with a CRC error or an overflow is lost, one of another length breaks the
frame, any other enters the pipeline (R268, R269). -/
def lineSlot (n : Nat) (p : LinePacket) (s : State) : State :=
  match (s.head n).rx with
  | none => s
  | some r =>
    if !r.accepted || r.broken then s
    else if r.h ≤ p.y then breakRx n 4 false s
    else if p.err == .crc || p.err == .overflow then pipeGo (linesLost n 1 p.y s)
    else if p.px.length ≠ r.w then breakRx n 3 false s
    else match s.ctxOfHead n with
      | some c => pipeGo (onFrame c r.fn (fun f => f.addRows [p.px] s.time) s)
      | none => s

/-- A long packet on an enabled head's VC: an image line, or a packet of another data type.
DEDUCED (notes/assumptions/55.md). -/
def headLine (p : LinePacket) (s : State) : State :=
  if !s.live then s
  else
    let s := packetSeen p.err s
    if !readable p.err s then s
    else match s.headOfVc (s.vcOf p.vc) with
      | none => unmappedPacket (s.vcOf p.vc) s
      | some n =>
        if p.kind ≠ s.headKind n then
          breakRx n 9 false (raiseN 0x0B7 (at_ (s.vcOf p.vc) 8 + [0x2D, 0x2B, 0x2C].getD p.kind (p.kind % 64)) s)
        else match (s.head n).rx with
          | none => s
          | some r =>
            if p.y < r.next then s else lineSlot n p (lineSeen n p r s)

/-! ### Frame ends (R268, R269, R276) -/

/-- The END point of an accepted frame, unbroken and with all its lines. -/
def frameEnds (c fn : Nat) (s : State) : State :=
  pipeGo (pointAt c 1 fn (onFrame c fn (fun f => { f with ended := true, endAt := s.time }) s))

/-- A frame-end packet after `y` line slots. -/
def headEnd (vc : Nat) (e : PacketErr) (y : Nat) (s : State) : State :=
  if !s.live then s
  else
    let s := packetSeen e s
    if !readable e s then s
    else match s.headOfVc (s.vcOf vc) with
      | none => unmappedPacket (s.vcOf vc) s
      | some n => match (s.head n).rx with
        | none => s
        | some r =>
          let slots := max y r.next
          let s := if r.accepted && !r.broken then
              (if slots < r.h then breakRx n 5 false s else linesLost n (r.h - r.next) r.next s)
            else s
          let r := (s.head n).rx.getD r
          let s := onHead n (fun h => { h with rx := none }) s
          let s := if r.resync then resyncEnds n r.w slots s else s
          match s.ctxOfHead n with
          | none => s
          | some c => repairsTold n r (if r.accepted && !r.broken then frameEnds c r.fn s else pointAt c 1 r.fn s)

/-- Head `n` has fallen silent: its frame breaks for reason 7, it becomes IDLE, and event k = 2 carries the last frame number
of its context (R275). -/
def headSilent (n : Nat) (s : State) : State :=
  let s := breakRx n 7 true s
  let last := match s.ctxOfHead n with | some c => (s.ctx c).fnum | none => 0
  let s := onHead n (fun h => { h with obs := .idle, rx := none, fLast := none, mismatch := none }) s
  raiseN (0x082 + 8 * n) last s

/-- An enabled head has delivered no valid packet for LOSS_T (R275, R325). DEDUCED (notes/assumptions/55.md). -/
def headLost (n : Nat) (s : State) : State :=
  if !s.live || !s.headEn n || !((s.head n).obs == .resync || (s.head n).obs == .streaming) then s
  else
    let s := headSilent n s
    if n < 4 then pressAbort n 4 s else s

/-! ### Generators of C6 and C7 (R288) -/

/-- A generated frame starts. -/
def genStart (g : Nat) (s : State) : State :=
  let c := 6 + g
  if !s.live || (s.gen g).rx.isSome || s.source c != 6 then s
  else
    let cfg := s.reg (INT_XCFG g)
    let w := s.fld (INT_XGEOM g) 31 16
    let h := s.fld (INT_XGEOM g) 15 0
    let fn := ((s.ctx c).fnum + 1) % 2 ^ 32
    let s := onCtx c (fun x => { x with fnum := fn }) s
    let r := frameStart c fn w h (bits cfg 27 26) none true (s.fld (INT_XTIME g) 31 16) (s.fld (INT_XTIME g) 15 0) s
    pipeGo (onGen g (fun x => { x with rx := some { fn, started := true, accepted := r.1, resync := false, w, h } }) r.2)

/-- The generator delivers its next line, and with its last the END point. -/
def genLineDone (g : Nat) (s : State) : State :=
  let c := 6 + g
  match (s.gen g).rx with
  | none => s
  | some r =>
    if !s.live then s
    else
      let row := s.genLine g r.fn r.next
      let s := if r.accepted then onFrame c r.fn (fun f => f.addRows [row] s.time) s else s
      if r.next + 1 < r.h then pipeGo (onGen g (fun x => { x with rx := some { r with next := r.next + 1 } }) s)
      else
        let s := onGen g (fun x => { x with rx := none }) s
        if r.accepted then frameEnds c r.fn s else pointAt c 1 r.fn s

/-! ### The DONE point -/

/-- The facts of the frame's tables (R194): neutral content was used; the NUC bank's size differs. -/
def tableFacts (c : Nat) (f : Frame) : Bool × Bool :=
  ((f.tables c).any (fun n => (activeIn f.tabs n).isNone),
   f.kind == 0 && (match f.nucBank c with | some b => b.w != f.w || b.h != f.h | none => false))

/-- The picture that port `p` delivers: to the host stream (R471) or to analysis (R378); the encoder has taken its stripes.
DESIGN CHOICE (notes/assumptions/40.md). -/
def deliver (c p : Nat) (f : Frame) (n : NucOut) (r : RndOut) (s : State) : State :=
  let s := portFrame c p f s
  if (f.noDeliv c p).isSome then s
  else
    let k := f.portCfg p
    let img := portImage f p n r
    match s.portDest p with
    | 2 =>
      let two := k.fmt == 3 || k.fmt == 4 || k.fmt == 5
      let d := if two then s.draw else (0, s)
      hostOffer { port := p, ctx := c, fmt := k.fmt, synth := f.press, sun := f.sun, fn := f.fn, w := k.wo, h := k.ho,
                  bytes := hostBytes k.fmt (bit d.1 0) (portSamples k img) } d.2
    | 3 => anaDeliver c p f img s
    | _ => s

/-- A frame reaches DONE. DESIGN CHOICE (notes/assumptions/43.md). -/
def frameDone (c : Nat) (f : Frame) (s : State) : State :=
  let st := (s.dnrOf c).st
  let d := dnrDone c f s
  let n := nucFrame c f st d.1
  let s := d.2.2
  let ks := if f.kind = 0 then satPixels d.1 else []
  let hot := hotBlocks f.w f.h ks
  let s := onNuc c (fun z => { z with
    bypass := n.bypass, synth := n.synth, radClamp := n.radClamp, tsOld := n.tsOld, sat := n.sat, hotBlk := hot,
    epochs := if f.kind = 0 then addEpoch f.fn ks z.epochs else z.epochs }) s
  let facts := tableFacts c f
  let s := if facts.1 then s.setFld TBL_STAT (8 + c) (8 + c) 1 else s
  let s := if facts.2 then s.setFld TBL_STAT c c 1 else s
  let r := renderDone c f n s
  let s := writeRing c f.fn (statsRecord c f n d.2.1 r.1 ⟨facts.1, facts.2, hot, f.nucB⟩) r.2
  let s := f.ports.foldl (fun s p => deliver c p f n r.1 s) s
  let s := pointAt c 2 f.fn s
  let s := match f.head with
    | some m => if m < 4 then sunGuard m c f hot (pressCapture m c f d.1 s) else s
    | none => s
  let before := s
  ctxFollow before (portsDrained (removeFrame c f.fn s))

/-- The pipeline's run ends (R176, R184); in frame mode the whole frame is shingle 0 (Table 7.3, WSHG).
DESIGN CHOICE (notes/assumptions/43.md). -/
def runEnd (s : State) : State :=
  match s.sch.run with
  | none => s
  | some r =>
    if !s.live then s
    else
      let s := { s with sch := { s.sch with run := none } }
      match s.frame? r.ctx r.fn with
      | none => pipeGo s
      | some f =>
        let s := onFrame r.ctx r.fn (fun f => { f with runsDone := f.runsDone + 1 }) (recordLatency r.ctx (f.latency r.idx s.time) s)
        let s := shingleEnd r.ctx r.fn r.idx s
        let s := encAdvance r.ctx f (if f.shingle then min f.h ((r.idx + 1) * f.hs) else f.h) s
        pipeGo (if f.runs ≤ r.idx + 1 then frameDone r.ctx { f with runsDone := f.runsDone + 1 } s else s)

/-- A stripe is coded; a completed frame is offered to sessions and the Cellar (R368, R463, R483). -/
def stripeDone (len : Nat) (nals : List Nat) (s : State) : State :=
  if !s.serves then s
  else
    let r := encStripe len nals s
    let s := match r.1 with
      | none => r.2
      | some (e, c) => celFrame e c (offerFrame e c r.2)
    portsDrained (encGo s)

/-- Steps 2 and 3 of a RETRAIN (R198): when no frame is left in the pipeline, or after 2 ms, when those that are left break, the others
stop at the DRAM. -/
def retrainFollow (s : State) : State :=
  if !s.tbl.draining || s.tbl.suspended || !s.live then s
  else
    let late := match s.cp.op with | some o => decide (o.since + 2 * msTicks ≤ s.time) | none => true
    if late || s.sch.ctxs.all (fun x => x.frames.isEmpty) then
      let t := breakAll s
      { t with tbl := { t.tbl with suspended := true } }
    else s

end Sys2Proof.Machine
end

