-- ==== Sys2Proof/Machine/Pins.lean ====
section
/-! DEFINITION. The output pins that the state fixes (Table 24.4), and the end of every command. -/

namespace Sys2Proof.Machine

/-- The output pins that the state fixes (Table 24.4). -/
def pinsOf (s : State) : Pins where
  irqAN := s.irqHigh 0 s.gut.pulseA.isSome
  irqBN := s.irqHigh 1 s.gut.pulseB.isSome
  powerFailN := !s.pwr.powerFail
  heater := s.pwr.htrOn && s.htrAllowed
  headSupply := s.pwr.hsupOn && !s.inRind && s.start.phase != .cold
  hbus := s.pwr.busUp && !s.pwr.hbusFold
  v33Out := decide (s.pwr.pg / 128 % 2 = 1)
  hpTx := s.swUp
  de := (List.range 4).map s.serDePin
  bridges := (List.range 4).map s.drive
  chargeMw := s.chargeMw
  chargeUw := s.chargeUw
  bleedUw := s.bleedUw
  bias := (List.range 4).map fun n => (s.biasOut n, s.trim (3 + n))
  iref := (List.range 4).map fun n => (s.irefOut n, s.trim (7 + n))

/-- The pins follow the state. DESIGN CHOICE (notes/assumptions/18.md). -/
def settle (s : State) : State := { s with pins := pinsOf s }

/-- The end of every command: a next state whose pins follow it. DESIGN CHOICE (notes/assumptions/18.md). -/
def done (s : State) : Host.Outcome State Fault Refusal := .next (settle s)

end Sys2Proof.Machine
end

