-- ==== Sys2Proof/Machine/System.lean ====
section
/-! DEFINITION. What concerns every block at once: the safe state and the resumption after it (chapter 03), start-up, resets,
hand-over and Rind (chapter 04), the thermal cut (chapter 19), and what follows a change of state. -/

namespace Sys2Proof.Machine

/-! ### What follows a change -/

/-- The blocks that look at the state of others look at it again after a change from `before`. -/
def followUp (before s : State) : State :=
  let s := heatFollow (heaterFollow before (pressFollow before (ctxFollow before s)))
  let s := jobsFollow (celFollow (buddyFollow before (velvaFollow before (cardFollow s))))
  let s := (List.range 6).foldl (fun s n => disFollow n s) (retireAll (encGo (encLoad s)))
  wakeEvents s

/-- Every context. -/
def onEach (n : Nat) (f : Nat → State → State) (s : State) : State := (List.range n).foldl (fun s c => f c s) s

/-- A model that runs is started afresh. -/
def modelsStart (reason : Nat) (s : State) : State :=
  onEach 8 (fun c s => if (s.anaOf c).st = .off then s else modelStart c reason s) s

/-! ### Clock gates (R69, Table 3.12) -/

/-- The blocks whose clock runs because they have work. DEDUCED (notes/assumptions/32.md). -/
def State.gates (s : State) : Nat :=
  let fr := s.sch.ctxs.any fun x => !x.frames.isEmpty
  let bits : List Bool := [
    s.int.heads.any (fun h => h.rx.isSome) || s.int.gens.any (fun g => g.rx.isSome), fr, fr, fr,
    (List.range 16).any fun e => !(s.enc e).jobs.isEmpty,
    s.ana.any fun a => a.job.isSome,
    s.vat.threads.any fun t => t.state == .running,
    s.opOnPage 0x05,
    s.hk.convs.any fun c => c.run.isSome || c.ripening || c.urgent.isSome,
    s.act.chans.any fun c => c.st != .idle,
    s.sw.ports.any fun p => p.tx.isSome,
    s.egr.sessions.any (fun p => !p.2.queue.isEmpty) || !s.egr.host.isEmpty,
    s.cel.streams.any (fun x => !x.out.isEmpty) || s.cel.ret.st == 1,
    s.serBusy,
    !s.captures.isEmpty || !s.gut.d3.isEmpty || !s.gut.d4.isEmpty || !s.gut.d5.isEmpty || !s.gut.d6.isEmpty,
    false]
  (List.range 16).foldl (fun n k => n + b2n (nth false bits k) * 2 ^ k) 0

/-! ### The safe state (R59 to R61, R66, Table 3.2) -/

/-- Every output goes to its safe state: frames in flight break, presses and profiles end, transmissions stop.
DEDUCED (notes/assumptions/25.md). -/
def safeState (s : State) : State :=
  let s := pressAbortAll (breakAll (breakUnsent (portsHeld s)))
  let s := pressFollow s (actSafe s)
  let s := serSafe (encDrop (hkAbandon (i2cAbandon s)))
  swDown (ptpStops (cutOnTime s))

/-- DRAM_LOST sets with all that it takes (R60, R67, R201, R301, R310, R325, R381, R499).
DEDUCED (notes/assumptions/26.md). -/
def dramLostAll (s : State) : State :=
  let s := celDramLost (rndDiscard (ringsLost (nucLost (tablesLost (setDramLost s)))))
  encForceIdr (modelsStart 4 (onEach 8 dnrForget (egrCleared s)))

/-- The engine waits for its clock: the safe state is forced and the domains stop.
DEDUCED (notes/assumptions/25.md). -/
def beginWait (abrupt : Bool) (s : State) : State :=
  let t := if s.clk.waiting then s else safeState { s with clk := { s.clk with waiting := true } }
  { t with clk := { t.clk with waiting := true, abrupt := abrupt || s.clk.abrupt, selfRefresh := !abrupt, seqOnRc := true
                               pllLock := false, retraining := false, lost := s.stopped && s.clk.lost } }

/-- The DRAM runs, and a loss takes what it holds: from step 5 on, in a hold when it has been trained at this start (R57, R60).
DEDUCED (notes/assumptions/26.md). -/
def State.dramRuns (s : State) : Bool :=
  s.start.phase != .start || (decide (5 ≤ s.start.step) && (s.start.step != 15 || s.start.dramUp))

/-- An abrupt loss (R60): no self-refresh, DRAM_LOST. DEDUCED (notes/assumptions/26.md). -/
def abruptLoss (s : State) : State :=
  let s := (beginWait true s).count CLK_CNT 23 16
  if s.dramRuns then dramLostAll s else s

/-- A PLL loss is noted: PLL_LOSS_SEEN, its instant, its event (R58, R65). DEDUCED (notes/assumptions/26.md). -/
def pllLost (s : State) : State :=
  let s := s.setFld CLK_FLAGS 2 2 1
  raiseN 0x00C 0 { s with clk := { s.clk with lost := true, losses := s.lossesWith } }

/-- A PLL loss is declared (R58, R60, R74). `refreshed`: after a slip warning whose self-refresh entry was complete; else the loss
is abrupt. -/
def pllLoss (refreshed : Bool) (s : State) : State :=
  pllLost (if s.stopped && s.clk.selfRefresh && refreshed then s else abruptLoss s)

/-- An alignment point samples the Eaves condition and applies its divisors (R53, R91).
DEDUCED (notes/assumptions/32.md). -/
def eavesSample (s : State) : State :=
  let w := s.eavesWanted s.heat.enforced
  if w = s.clk.eaves then s
  else
    let s := rateChanges s
    raiseN (if w then 0x01A else 0x01B) 0 { s with clk := { s.clk with eaves := w } }

/-- Steps 5 to 11 of Table 3.3: the engine goes on where it stopped.
DEDUCED (notes/assumptions/25.md), DEDUCED (notes/assumptions/26.md). -/
def resumeGo (before s : State) : State :=
  let s := { s with clk := { s.clk with waiting := false, abrupt := false, selfRefresh := false, retraining := false, lost := false, slipWarn := false } }
  let s := if s.handedOver then eavesSample s else s
  let s := if s.start.phase = .start then raiseN 0x00E 0 s else releaseHeld [(0x00E, 0)] s
  let s := serResume (egrResume (velvaResume (ptpResumes s)))
  let s := encForceIdr (agesRestart (celResume s))
  let s := { s with int := { s.int with heads := s.int.heads.map fun h => { h with fLast := none } } }
  pipeGo (heaterFollow before s)

/-- The PLL has relocked in time (R64): the engine resumes in place. After an abrupt loss its domains run again, in the divisors of
the current Eaves condition, and the DRAM is trained first (Table 3.3, steps 3 and 4). -/
def relocked (lockTime : Nat) (s : State) : State :=
  let s1 := { s with clk := { s.clk with pllLock := true, seqOnRc := false, lockTime } }
  if s.clk.abrupt && s.dramRuns then
    let s2 := { s1 with clk := { s1.clk with retraining := true } }
    if s2.handedOver then eavesSample s2 else s2
  else resumeGo s s1

/-! ### Resets (R76 to R81, Tables 4.2 and 4.5) -/

/-- The first present trigger in the order of R79. DEDUCED (notes/assumptions/28.md). -/
def causeOf (seen : Nat) : Nat := (([0, 1, 5, 6, 2, 3, 4].filter fun k => seen / 2 ^ k % 2 == 1).head?).getD 0

/-- The step at which a kind starts (Table 4.2). -/
def startStepOf (k : Nat) : Nat := if k = 0 ∨ k = 1 ∨ k = 5 then 1 else if k = 6 then 2 else 4

/-- The lowest step of the present kinds. -/
def firstStep (seen : Nat) : Nat :=
  (List.range 7).foldl (fun m k => if seen / 2 ^ k % 2 = 1 then min m (startStepOf k) else m) 13

/-- A start that has not reached step 4 yet: it is in its first steps or in the hold of step 1, RESET_N holds it, or a trigger that
starts at step 4 came within the last 1 µs (R79). DEDUCED (notes/assumptions/28.md). -/
def State.early (s : State) : Bool :=
  s.start.phase == .start && (decide (s.start.step < 4) || s.start.step1Hold ||
    (s.start.step == 4 && (s.start.resetLow || decide (s.time ≤ s.start.releasedAt + 25))))

/-- The events that a reset of kind `c` leaves held for its start: those of the clock before a clock-fail recovery (R62, R65), and the
ends of profiles and of queued I2C commands (R261, R286). DEDUCED (notes/assumptions/84.md). -/
def resetHeld (c : Nat) (s : State) : List (Nat × Word) :=
  (if c = 6 then s.gut.held.filter fun q => decide (0x00B ≤ q.1 ∧ q.1 ≤ 0x012) else []) ++
  (if c = 0 then [] else s.gut.held.filter (fun q => decide (0x1B0 ≤ q.1 ∧ q.1 ≤ 0x1B3) || q.1 == 0x0BA) ++
    actResetEvents s ++ i2cResetEvents s)

/-- Table 4.5 for the kind `c`: the state with which a start begins, before the start's own fields are set.
DESIGN CHOICE (notes/assumptions/31.md). -/
def retain (c : Nat) (s : State) : State :=
  let rails := !(c == 0 || c == 1 || c == 5)
  let island := c != 0
  let p := s.pwr
  let k := s.clk
  let power : Power := {
    acValid := p.acValid, poeValid := p.poeValid, powerFail := rails && p.powerFail, busGood := p.busGood
    busUp := p.busUp, reqClass := p.reqClass, grantClass := p.grantClass, pseType := p.pseType
    classEvents := p.classEvents, limBefore := p.limBefore, hbusFold := p.hbusFold
    pg := if rails then p.pg else 0, hsupOn := rails && p.railsGood }
  let lfo := c != 0 && c != 1
  let clock : Clock := {
    xoOk := rails && k.xoOk, xoAmp := if rails then k.xoAmp else 0, pllLock := rails && c != 6 && k.pllLock
    lockTime := if rails then k.lockTime else 0, dramDiv3 := rails && k.dramDiv3, selfRefresh := rails && (if c == 6 || s.clk.waiting then k.selfRefresh else s.dramRuns)
    seqOnRc := rails == false || c == 6, lfValid := lfo && k.lfValid, lfFail := lfo && k.lfFail
    lfErr := if lfo then k.lfErr else 0, lfCounting := lfo && k.lfCounting
    lfdly := if lfo then k.lfdly else Config.lfdlyStrap % 4 }
  let clear : State := { s with
    regs := if c = 6 then memPut resetWord (memPut resetWord [] CLK_FLAGS (s.reg CLK_FLAGS)) CLK_CNT (s.reg CLK_CNT) else []
    inForce := [], upTicks := 0, ptpS := 0, ptpNs := 0, busData := [], busCode := .ok
    gut := { held := resetHeld c s }
    pwr := power, clk := clock, cp := {}, vat := { slotA := s.vat.slotA, slotB := s.vat.slotB }, sch := {}, int := { i2c := if island then i2cReset s else [] }, hk := {}
    act := {}, dnr := List.replicate 8 {}, nuc := {}, rnd := {}, out := {}, ana := List.replicate 8 {}
    uart := List.replicate 4 {} }
  let t := if rails then tablesReset { clear with tbl := { clear.tbl with rings := [], trainCk := s.tbl.trainCk } } else { clear with tbl := {} }
  let t := if rails then trimsKept t else trimsLost t
  celReset (egrReset (velvaReset (heatReset (!island) t)))

/-- A reset by the triggers `seen` (one bit for each code of Table 4.2). DEDUCED (notes/assumptions/28.md). -/
def reset (seen : Nat) (s : State) : State :=
  let all := (if s.early then s.start.seen else 0) ||| seen ||| s.start.trig
  let c := causeOf all
  let step := if s.inRind then 1 else firstStep all
  let b := s.start
  let t := retain c s
  let st : Start := if c = 0 then { journal := [] } else
    { journal := b.journal, fallback := b.fallback, inEffect := b.fallback, attempts := b.attempts, dramStored := b.dramStored, jLost := b.jLost }
  let t : State := { t with
    nor := s.norAbandoned
    start := { st with
      phase := .start, step, cause := c, seen := all, releasedAt := s.time, resetLow := b.resetLow
      trimsOk := decide (2 ≤ c ∧ c ≠ 5), wdDue := s.hbArmed && b.hostLost && s.flag START_HB 16 } }
  newEntry false c step t

/-- A trigger that a start in its first steps, a clock wait without a crystal or a cool-down only records (R65, R79, R416).
DEDUCED (notes/assumptions/28.md). -/
def recordTrigger (k : Nat) (s : State) : State :=
  if s.early then
    let seen := s.start.seen ||| 2 ^ k
    { s with start := { s.start with seen, cause := causeOf seen } }
  else { s with start := { s.start with trig := s.start.trig ||| 2 ^ k } }

/-- A RESET_N, watchdog or soft reset trigger (R65, R78, R80, R416). DEDUCED (notes/assumptions/28.md). -/
def resetTrigger (k : Nat) (s : State) : State :=
  match s.start.phase with
  | .cold => s
  | .cut => recordTrigger k s
  | _ =>
    if s.stopped then
      if s.clk.xoFailed then recordTrigger k s else reset (2 ^ 6 ||| 2 ^ k) s
    else if s.early then recordTrigger k s
    else reset (2 ^ k) s

/-- A clock-fail recovery reset (R65). -/
def clockRecovery (s : State) : State := reset (2 ^ 6) s

/-- A brownout reset (R33); during a cool-down it is only recorded. DEDUCED (notes/assumptions/28.md). -/
def brownout (s : State) : State :=
  match s.start.phase with
  | .cold => s
  | .cut => recordTrigger 1 { s with pwr := { s.pwr with busGood := false, busUp := false } }
  | _ => reset (2 ^ 1) { s with pwr := { s.pwr with busGood := false, busUp := false } }

/-! ### Start-up (R75, R86 to R89, Tables 4.1 and 4.3) -/

/-- A fallback bit is used: event 0x014, once for each start. DEDUCED (notes/assumptions/24.md). -/
def useFallback (s : State) : State :=
  if s.start.fbUsed then s else raiseN 0x014 0 { s with start := { s.start with fbUsed := true } }

/-- A device fails and is left out: event 0x013 and its fallback bit; the step completes. -/
def deviceOut (fb : Nat) (s : State) : State := raiseN 0x013 0 (addFallback fb s)

/-- The engine holds (R87, R88). -/
def holdStart (s : State) : State := setStep 15 s

/-- An internal retry from a step (R87, Table 4.3). DEDUCED (notes/assumptions/29.md). -/
def retryFrom (step : Nat) (s : State) : State :=
  setStep step (newEntry true s.start.cause step { s with start := { s.start with retry := true } })

/-- Step 13 begins, or a pending HOST_GO hands over at once (R83, R85): `ho` is the host hand-over.
DEDUCED (notes/assumptions/24.md). -/
def enterHandOver (ho : State → State) (s : State) : State :=
  let s := setStep 13 s
  if s.start.goPending then ho s
  else if s.fld START_HOSTWAIT 15 0 = 0 then raiseN 0x017 0 { s with start := { s.start with noStandalone := true } } else s

/-- The words of the image that step 8 passed. -/
def State.step8Image (s : State) : Option (Nat → Word) :=
  match s.vat.step8 with
  | some 2 => s.vat.slotA.map slotWord
  | some _ => s.vat.slotB.map slotWord
  | none => none

/-- Step 10 begins: the image's addresses replace the defaults (R287). -/
def enterHeads (s : State) : State :=
  let s := setStep 10 s
  match s.step8Image with
  | none => s
  | some g =>
    let adr (n : Nat) : Nat := if n < 4 then bits (g 6) (31 - 8 * n) (24 - 8 * n) else bits (g 7) (31 - 8 * (n - 4)) (24 - 8 * (n - 4))
    onEach 6 (fun n s => if adr n = 0 then s else s.setFld (INT_HCFG n) 6 0 (adr n)) s

/-- Steps 8 and 9 after step 7: step 8 is left out without the NOR or by its fallback bit. -/
def enterRecipe (s : State) : State :=
  if !s.start.norOpen then setStep 9 s
  else if s.inEffect 13 then setStep 9 (markStep 8 3 (useFallback s)) else setStep 8 s

/-- The NOR copy joins the journal at step 7, where the retained journal has been lost since the last time (R89, R98).
DEDUCED (notes/assumptions/28.md). -/
def mergeCopy (n : NorJournal) (s : State) : State :=
  let s := { s with start := { s.start with norSeq := n.seq, norValid := true } }
  if !s.start.jLost then s
  else
    let es := s.start.journal
    let num := es.zipIdx.map fun p => { p.1 with seq := (n.seq + es.length - p.2) % 65536 }
    let s := addFallback (n.fallback &&& 0x3E3F) { s with start := { s.start with journal := (num ++ n.entries).take 8 } }
    { s with start := { s.start with inEffect := s.start.inEffect ||| (n.fallback &&& 0x0E3F) } }

/-- Step 7 ends, with the NOR in use or not (R98, R414). The copy of step 7 is written as the journal stands now.
DEDUCED (notes/assumptions/30.md). -/
def norOpened (ok : Bool) (s : State) : State :=
  let s := { s with start := { s.start with norOpen := ok } }
  if ok then
    let s := { s with nor := s.nor.scan }
    let s := match s.nor.latest with
      | some n => mergeCopy n s
      | none => s
    enterRecipe (cutReport true { s with start := { s.start with jLost := false, norWrites := [norCopy s] } })
  else enterRecipe (cutReport false s)

/-- Step 7 begins; with NOR_NONE in effect steps 7 and 8 are skipped. -/
def enterNor (s : State) : State :=
  let s := setStep 7 s
  if s.inEffect 12 then norOpened false (markStep 8 3 (markStep 7 3 (useFallback s))) else s

/-- The training paths of step 5 (R87): 0 full, 1 stored values, 2 the ÷3 divisor, 3 self-refresh exit.
DEDUCED (notes/assumptions/29.md). -/
def State.dramPaths (s : State) : List Nat :=
  let p := if s.start.dramExit then 3 else if s.inEffect 7 then 2 else if s.inEffect 6 && s.start.dramStored then 1 else 0
  p :: (if s.start.dramStored then [1] else []) ++ [2]

/-- The retained journal is lost, and with it the rest of its class in Table 4.5: fallback state, attempt counts and stored training
values; the entry of this start is the only one left (R95). -/
def journalLost (s : State) : State :=
  { s with start := { s.start with
    journal := (s.start.journal.take 1).map fun e => { e with seq := 1, fallback := 0, attempts := 0 }
    fallback := 0, inEffect := 0, attempts := List.replicate 16 0, dramStored := false, dramPath := min s.start.dramPath 1, jLost := true } }

/-- Step 4 ends (R75, R95): `dram`, `trims` and `journal` say that the check words are right; a step that runs out of its time finds
none of them right. In an internal retry the path of step 5 stays.
DEDUCED (notes/assumptions/9.md), DEDUCED (notes/assumptions/10.md). -/
def retentionChecked (late dram trims journal : Bool) (s : State) : State :=
  let c := s.start.cause
  let kept := decide (2 ≤ c ∧ c ≠ 5)
  let ld := kept && (late || !dram) && !s.dramLost
  let lt := s.start.trimsOk && (late || !trims || s.trm.crc != s.trm.crcNow)
  let lj := c != 0 && (late || !journal)
  let s := if ld then setDramLost (tablesLost s) else s
  let s := if lt then let u := trimsDropped s; { u with start := { u.start with trimsOk := false } } else s
  let s := if lj then journalLost s else s
  let s := if s.start.retry then s else { s with start := { s.start with dramPath := 0, dramExit := kept && !s.dramLost } }
  let s := raiseIf (ld || lt || lj) 0x01D 0 s
  setStep 5 (if late || ld || lt || lj then markStep 4 3 (failStep 4 s) else passStep 4 1 s)

/-- Step 5's training path ends (R87). DEDUCED (notes/assumptions/9.md), DEDUCED (notes/assumptions/29.md). -/
def dramTrained (ok : Bool) (s : State) : State :=
  let ps := s.dramPaths
  let p := nth 0 ps s.start.dramPath
  let first := s.start.dramPath == 0
  if ok then
    let via := first && (p == 1 || p == 2)
    let s := if via then useFallback s else s
    let s := { s with
      start := { s.start with dramStored := s.start.dramStored || p != 3, dramUp := true }
      clk := { s.clk with dramDiv3 := if p = 3 then s.clk.dramDiv3 else p == 2, selfRefresh := false, bgTrain := false }
      tbl := { s.tbl with trainCk := if p = 3 then s.tbl.trainCk else s.dramCk } }
    let s := if p = 1 then addFallback 0x40 s else if p = 2 then addFallback 0x80 s else s
    setStep 6 (passStep 5 (if via || !first then 3 else 1) s)
  else
    let s := failStep 5 s
    let s := if p = 3 then setDramLost (tablesLost s) else s
    let s := { s with start := { s.start with dramPath := s.start.dramPath + 1 } }
    if s.start.dramPath < ps.length then retryFrom 4 s else holdStart s

/-- Step 6 fails (Table 4.3, R88): one internal retry, then a hold. DEDUCED (notes/assumptions/29.md). -/
def sramFailed (s : State) : State :=
  let s := failStep 6 s
  if s.start.sramRetried then holdStart s
  else retryFrom 6 { s with start := { s.start with sramRetried := true } }

/-- Step 9 ends; `bad` says which PHYs failed: bit 0 CHA, bit 1 CHB.
DEDUCED (notes/assumptions/9.md), DEDUCED (notes/assumptions/10.md). -/
def physReady (bad : Nat) (s : State) : State :=
  let one (k : Nat) (s : State) : State :=
    let off (s : State) : State := { s with start := { s.start with phyOff := s.start.phyOff ||| 2 ^ k } }
    if s.inEffect (9 + k) then off (useFallback s)
    else if bad / 2 ^ k % 2 = 1 then off (deviceOut (2 ^ (9 + k)) s) else s
  let s := one 1 (one 0 s)
  enterHeads (passStep 9 (if s.start.phyOff = 0 then 1 else 3) s)

/-- Step 11 begins: the media open (R479, R537). -/
def enterStorage (s : State) : State :=
  let s := setStep 11 s
  let s := if !Config.emmcFitted then s else if s.inEffect 11 then useFallback s else setMed 0 .opening s
  if s.cel.card then setMed 1 .opening s else s

/-- Step 10 ends (R287): `answered` and `started` by head.
DEDUCED (notes/assumptions/9.md), DEDUCED (notes/assumptions/10.md). -/
def headsProbed (answered started : Nat) (s : State) : State :=
  let map := match s.step8Image with | some g => bits (g 5) 5 0 | none => 0x3F
  let one (n : Nat) (s : State) : State :=
    let has (m : Nat) : Bool := m / 2 ^ n % 2 == 1
    if !has map then s
    else if s.inEffect n then useFallback s
    else if !has answered then s
    else
      let s := onHead n (fun h => { h with linked := true }) s
      if has started then onHead n (fun h => { h with obs := .resync }) (s.setFld (INT_HCFG n) 31 31 1)
      else deviceOut (2 ^ n) s
  let out (n : Nat) : Bool := map / 2 ^ n % 2 == 1 && (s.inEffect n || (answered / 2 ^ n % 2 == 1 && started / 2 ^ n % 2 == 0))
  let t := onEach 6 one s
  enterStorage (passStep 10 (if (List.range 6).any out then 3 else 1) t)

/-- Step 11 ends; `bad` says which media failed: bit 0 eMMC, bit 1 microSD.
DEDUCED (notes/assumptions/9.md), DEDUCED (notes/assumptions/10.md). -/
def storageReady (bad : Nat) (s : State) : State :=
  let e := bad % 2 == 1 && Config.emmcFitted && !s.inEffect 11
  let c := bad / 2 % 2 == 1 && s.cel.card
  let skip := Config.emmcFitted && s.inEffect 11
  let s := if e then setMed 0 .failed (deviceOut (2 ^ 11) s) else s
  let s := if c then raiseN 0x013 0 (setMed 1 .failed s) else s
  setStep 12 (passStep 11 (if e || c || skip then 3 else 1) s)

/-- The source of step 12 that comes next (R205): 1 a held record, 2 retained trims, 3 the calibration. -/
def State.trimSource (s : State) : Nat := if s.trm.pendRestore then 1 else if s.start.trimsOk then 2 else 3

/-- The spot check agrees: every measured result within four times the jump limit of the trim in place. -/
def spotAgrees (ms : List TrimMeas) (place : Nat → Word) : Bool :=
  ms.all fun m => withinJump 4 m.item.val (place m.item.val) m.gain m.offset

/-- The spot check of step 12 ends (R205): `ho` is the host hand-over. DEDUCED (notes/assumptions/33.md). -/
def spotChecked (ms : List TrimMeas) (ho : State → State) (s : State) : State :=
  let idle := s.chanIdle
  match s.trimSource with
  | 1 =>
    let l := s.trm.held.getD []
    let s := { s with trm := { s.trm with held := none, pendRestore := false } }
    if spotAgrees ms (fun i => nth 0 l (6 + i)) then
      let s := raiseN 0x1A4 0 (applyRecord idle l s)
      enterHandOver ho (passStep 12 1 { s with trm := { s.trm with src := 2 } })
    else raiseN 0x1A5 1 { s with start := { s.start with trimsOk := false } }
  | 2 =>
    if spotAgrees ms s.trim then enterHandOver ho (passStep 12 1 { s with trm := { s.trm with src := 3 } })
    else raiseN 0x1A5 1 { trimsDropped s with start := { s.start with trimsOk := false } }
  | _ => s

/-- Step 12 falls back to the initial calibration: neither a held record nor retained trims are left to try. -/
def trimSourceCal (s : State) : State :=
  { s with trm := { s.trm with held := none, pendRestore := false }, start := { s.start with trimsOk := false } }

/-- The initial calibration of step 12 ends (R206). DEDUCED (notes/assumptions/10.md). -/
def calibrated (ms : List TrimMeas) (ho : State → State) (s : State) : State :=
  let good (i : Nat) : Option TrimMeas := ms.find? fun m => m.item.val == i && plausible i m.gain m.offset
  let bad := (List.range 16).filter fun i => (good i).isNone
  if !bad.isEmpty && !s.start.calRepeat then
    markStep 12 3 (failStep 12 { s with start := { s.start with calRepeat := true } })
  else
    let s := onEach 16 (fun i s => match good i with
      | some m => setNominal i false (trimNow i (trimWord m.gain m.offset) s)
      | none => raiseN 0x1A3 i (setNominal i true (trimNow i 0x40000000 s))) s
    let t := s.tNow.1
    let s := raiseN 0x1A0 t (onTrims (fun x => { x with tFull := t, src := if bad.length = 16 then 0 else 1 }) s)
    let r := if s.start.calRepeat then 3 else 1
    enterHandOver ho (if r = 1 then passStep 12 1 s else markStep 12 3 s)

/-! ### Hand-over (R84, R85, R99) -/

/-- What a hand-over does to the Vat and to the governed loads, whose timers start now (R49): 1 to the host, 2 standalone with the
recipe of step 8.
DESIGN CHOICE (notes/assumptions/59.md). -/
def handOverLoads (kind : Nat) (s : State) : State :=
  let s := raiseN (0x014 + kind) 0 s
  let s := match kind, s.step8Image with
    | 2, some g => onThread 0 (fun th => th.begin (g 4).toNat) (installImage g (s.vat.step8.getD 0) s)
    | _, _ => clearVat s
  let s := if s.pwr.avail < 1600 then forceEaves (shedBoost (shedHeat s)) else s
  { s with pwr := { s.pwr with overSince := s.time, eavesSince := s.time } }

/-- Step 13 ends: the journal entry and its NOR copy, the start's fields, and the unit is up. The age of the last kick counts from here
where none has been accepted.
DEDUCED (notes/assumptions/30.md), DESIGN CHOICE (notes/assumptions/75.md). -/
def handOverNoted (kind : Nat) (s : State) : State :=
  let ms := s.startMs
  let dur := (s.time - s.start.entryAt) / msTicks
  let s := onEntry (fun e => { e with durMs := dur, handover := kind }) (markStep 13 1 s)
  let copies := if s.start.norOpen then s.start.norWrites ++ [norCopy s] else []
  { s with start := { s.start with phase := .up, step := 14, goPending := false, handover := kind, tFrozen := some ms
                                   kickAt := some (s.start.kickAt.getD s.time), norWrites := copies } }

/-- The engine hands over: the held events are released, 0x01F last with DATA 0, and the blocks begin their work.
DEDUCED (notes/assumptions/24.md), DESIGN CHOICE (notes/assumptions/86.md). -/
def handOver (kind : Nat) (s : State) : State :=
  followUp s (agesRestart (refAwaitedAll (heatHandOver
    (releaseHeld [(0x01F, 0)] (handOverNoted kind (handOverLoads kind s))))))

/-! ### Rind (R92 to R94) -/

/-- The code of RIND_REQ (R92). -/
def State.rindCode (s : State) : Code :=
  chk (!s.clk.lfValid || s.pwr.powerFail || s.fld START_WAKE 6 0 == 0 || s.start.phase != .up || s.cp.op.isSome ||
    s.vat.storeBusy) .eState

/-- Entry into Rind begins: no new frame is accepted, hold phases end, FIFOs are discarded, presses abort. -/
def rindBegin (s : State) : State :=
  let s := { s with start := { s.start with phase := .entering } }
  let t := actRind (pressAbortAll s)
  serRindReq (pressFollow s t)

/-- Steps 1 and 2 of the entry are over. -/
def State.rindReady (s : State) : Bool :=
  s.start.phase == .entering && !s.clk.waiting && s.sch.ctxs.all (fun x => x.frames.isEmpty) && s.act.chans.all fun c => c.st != .run

/-- The entry completes: open wheels close, the DRAM goes to self-refresh and the rails to their Rind levels (R42, R92).
DESIGN CHOICE (notes/assumptions/31.md). -/
def rindEnter (s : State) : State :=
  let s := celCloseAll 2 false true s
  let s := onCel (fun c => { c with streams := c.streams.map fun x => { x with share := [] } }) s
  let s := hkAbandon (i2cAbandon (encDrop (ringsLost (cutOnTime s))))
  let s := serRind (swOff (ptpStops s))
  let s := rndDiscard { s with tbl := { s.tbl with rings := [] } }
  { s with
    pwr := { s.pwr with pg := s.pwr.pg - s.pwr.pg % 4 - s.pwr.pg / 32 % 2 * 32, hsupOn := false }
    clk := { s.clk with xoOk := false, pllLock := false, selfRefresh := true }
    start := { s.start with phase := .rind } }

/-- The wake's last steps (R93, R94): event 0x01C with the source in LAST_SRC. -/
def wakeTold (src : Nat) (s : State) : State :=
  let s := if 3 ≤ src then serWoke (src - 3) s else s
  raiseN 0x01C 0 { s with start := { s.start with phase := .up, lastWake := 2 ^ src } }

/-- A wake source fires in Rind: the rails come up, and step 2 begins (R93, steps 1 and 2).
DESIGN CHOICE (notes/assumptions/31.md). -/
def rindWake (src : Nat) (s : State) : State :=
  { s with pwr := { s.pwr with pg := 255 }, start := { s.start with phase := .waking, wakeStep := 2, wakeSrc := src, waitRetry := false } }

/-- The clocks are back: the events of the wake are released, and DRAM, head supply and threads come back (R93, steps 3 to 6).
DESIGN CHOICE (notes/assumptions/31.md). -/
def rindUp (before : State) : State :=
  let s := { before with
    clk := { before.clk with selfRefresh := false }
    start := { before.start with phase := .up, kickAt := some before.time }
    gut := { before.gut with wakeHold := true } }
  let s := modelsStart 2 (onEach 8 dnrForget (encForceIdr (hsupFollow (releaseHeld [] s))))
  let s := egrResume (velvaResume (ptpResumes s))
  let s := agesRestart (heatWake s)
  let s := { s with int := { s.int with heads := s.int.heads.map fun h => { h with fLast := none } } }
  followUp before (heaterFollow before (eavesSample (wakeTold before.start.wakeSrc s)))

/-- A wake source fires during the entry: it is cancelled (R94). DESIGN CHOICE (notes/assumptions/31.md). -/
def rindCancel (src : Nat) (before : State) : State :=
  followUp before (heaterFollow before (wakeTold src before))

/-- A source of START_WAKE fires (R93, R94).
DEDUCED (notes/assumptions/13.md), DESIGN CHOICE (notes/assumptions/31.md). -/
def wakeSource (src : Nat) (s : State) : State :=
  if !s.flag START_WAKE src then s
  else match s.start.phase with
    | .rind => rindWake src s
    | .entering => rindCancel src s
    | _ => s

/-! ### Thermal cut (R411 to R413) -/

/-- A thermal cut, if one is decided now: outputs safe, the record made, the rails removed.
DEDUCED (notes/assumptions/44.md), DEDUCED (notes/assumptions/45.md). -/
def cutNow (m : HeatMeas) (s : State) : State :=
  match s.cutDecided with
  | none => s
  | some t =>
    let s := recordCut t m.prog m.us m.programmed s.start.norOpen (norCut m.prog (safeState s))
    { s with
      vat := if s.vat.storeBusy then { s.vat with storeBusy := false } else s.vat
      pwr := { s.pwr with pg := 0, hsupOn := false }
      clk := { s.clk with xoOk := false, pllLock := false }
      start := { s.start with phase := .cut, trig := 0 } }

/-- An event that other blocks may follow. -/
def happens (f : State → State) (s : State) : Host.Outcome State Fault Refusal := done (followUp s (f s))

end Sys2Proof.Machine
end

