-- ==== Sys2Proof/Machine/Flags.lean ====
section
/-! DEFINITION. The flags the engine shows with every transaction: the status word (R106, Table 5.4). -/

namespace Sys2Proof.Machine

/-! ### Status (Table 5.4) -/

/-- The fields of the status word that ID_STATUS shows too. DEDUCED (notes/assumptions/11.md). -/
def State.statusNat (s : State) : Nat :=
  let c := s.cp
  let wait := s.clk.waiting || s.inRind || s.start.step == 15
  0xA0000000 + b2n c.op.isSome * 2 ^ 27 + at_ (match c.op with | some o => o.id | none => c.lastOp) 24 +
    at_ (sat 4 c.pages.length) 9 + b2n wait * 256 + b2n (s.anyPresented 0) * 128 + b2n (s.anyPresented 1) * 64 +
    b2n s.clk.eaves * 16 + s.start.step % 16

/-- The status word of a transaction. -/
def State.statusWord (s : State) : Word :=
  word (s.statusNat + at_ s.cp.lastCode 16 + at_ s.cp.lastTag 12 + b2n s.cp.newStart * 32)

end Sys2Proof.Machine
end

