-- ==== Sys2Proof/Machine/Bus.lean ====
section
/-! DEFINITION. The register bus: what a read of any register returns and clears, how a write is judged and applied (R2 to R12,
R147, R148), the registers of the start-up, gutter, identity, control-port and key blocks, and the transfer windows. -/

namespace Sys2Proof.Machine

/-! ### Views of the blocks without a file of their own -/

/-- Page 0x00 (Table 5.8). -/
def idView (a : Nat) (s : State) : Option Word :=
  [ (ID_UNIT_LO, word Config.unitId), (ID_UNIT_HI, word (Config.unitId / 2 ^ 32)), (ID_STATUS, word s.statusNat),
    (ID_UPTIME, word s.uptimeS)].lookup a

/-- A vector word (Table 6.6). -/
def State.vector (s : State) (d : Nat) : Word :=
  match s.topPresented d with
  | none => 0
  | some n => word (2 ^ 31 + at_ n 16 + at_ (s.src n).vecSupp 8 + (s.src n).vecMerged)

/-- A word of the fault-journal ring. -/
def State.ringWord (s : State) (slot w : Nat) : Word := memGet zeroes s.nor.ring (slot % 8192 * 8 + w)

/-- A ring slot holds a valid record: its CRC is that of its words, and it is not blank. -/
def State.ringValid (s : State) (slot : Nat) : Bool :=
  let ws := (List.range 7).map (s.ringWord slot)
  s.ringWord slot 7 == word (crc16 ws) && !s.nor.ringBad.contains (slot % 8192)

/-- The word of GUT_JDATAw: the slot counted back from that of the latest record; one without a valid record reads as zero. -/
def State.jData (s : State) (w : Nat) : Word :=
  let slot := (s.nor.ringLast + 8192 - s.fld GUT_JSEL 12 0) % 8192
  if s.ringValid slot then s.ringWord slot w else 0

/-- The depth a drain shows (GUT_DRAINd.DEPTH). -/
def State.drainDepth (s : State) (d : Nat) : Nat :=
  match d with
  | 3 => s.gut.d3.length | 4 => s.gut.d4.length | 5 => s.gut.d5.length | 6 => s.gut.d6.length
  | 7 => 0
  | _ => ((List.range 512).filter fun n => s.presented n d).length

/-- The live words of page 0x03 (Tables 6.4 to 6.7). -/
def gutView (a : Nat) (s : State) : Option Word :=
  if GUT_DRAIN 0 ≤ a ∧ a < GUT_DRAIN 8 then some (putBits (s.reg a) 7 0 (sat 255 (s.drainDepth ((a - GUT_DRAIN 0) / 4))))
  else if GUT_JDATA 0 ≤ a ∧ a < GUT_JDATA 8 then some (s.jData ((a - GUT_JDATA 0) / 4))
  else
    [ (GUT_PINSTAT, word (b2n (!s.irqHigh 1 s.gut.pulseB.isSome) * 2 + b2n (!s.irqHigh 0 s.gut.pulseA.isSome))),
      (GUT_BACKLOG, putBits (s.reg GUT_BACKLOG) 9 0 (sat 1023 s.captures.length)),
      (GUT_VEC_A, s.vector 0), (GUT_VEC_B, s.vector 1),
      (GUT_JSTAT, word (b2n s.norNone * 2 ^ 31 + b2n s.gut.jFail * 2 ^ 30 + s.nor.ringCount))].lookup a

/-- Page 0x15 (Tables 5.9 to 5.12). -/
def cpView (a : Nat) (s : State) : Option Word :=
  let c := s.cp
  if KEY_FILL 0 ≤ a ∧ a < KEY_FILL 16 then
    let n := (a - KEY_FILL 0) / 4
    some (word ((List.range 32).foldl (fun m b => m + b2n (s.keyHeld (32 * n + b)) * 2 ^ b) 0))
  else
    [ (CP_OPRES, word (at_ c.opCode 24 + at_ c.opResId 16 + c.opMs)),
      (CP_PAGE, word (match c.pages with | [] => 0 | p :: _ => at_ (p.pseq % 65536) 16 + 2 ^ 15 + c.pageNext)),
      (KEY_STAT, word (at_ c.keyLast 24 + c.keys.length))].lookup a

/-! ### Reading -/

/-- The state as its own registers show it during an access: a thread that makes it is Waiting on the bus (Table 7.10).
DEDUCED (notes/assumptions/22.md). -/
def State.atBus (o : Origin) (s : State) : State :=
  match o with
  | .host => s
  | .vat t => onThread t.val (fun th => { th with state := .waiting, wait := some .bus, pc := th.pc + 1 }) s

/-- What a read of a register returns before its access codes are looked at.
DESIGN CHOICE (notes/assumptions/61.md). -/
def State.rawWord (o : Origin) (a : Nat) (s : State) : Word :=
  let v : Option Word := match a / 0x10000 with
    | 0x00 => idView a s
    | 0x01 => clkView a s.gates s
    | 0x02 => (pwrView a s).orElse fun _ => startView a s.heat.enforced s
    | 0x03 => gutView a s
    | 0x04 => vatView a (s.atBus o)
    | 0x05 => tblView a s.dramCk s
    | 0x06 => refView a s.tNow.1 s.tNow.2 s
    | 0x07 => hkView a s
    | 0x08 => actView a s
    | 0x09 => (ctxView a s).orElse fun _ => intakeView (masterOf o) a s
    | 0x0A => dnrView a s
    | 0x0B => nucView a s
    | 0x0C => rndView a s
    | 0x0D => outView a s
    | 0x0E => encView a s
    | 0x0F => anaView a s
    | 0x10 => heatView a s
    | 0x11 => (swView a s).orElse fun _ => vlvView a s
    | 0x12 => egrView a s
    | 0x13 => celView a s
    | 0x14 => serView ((a - 0x140000) / 0x40) ((a - 0x140000) % 0x40) s
    | 0x15 => cpView a s
    | _ => none
  v.getD (s.reg a)

/-- WO fields read as zero (Table 0.3), and so do reserved bits (R4). -/
def Reg.readable (r : Reg) (w : Word) : Word :=
  r.flds.foldl (fun n f => if f.acc = .wo then n else putBits n f.hi f.lo (bits w f.hi f.lo)) 0

/-- The engine's own part of an access: a Vat access to the page of a running long operation is busy (R115). -/
def State.pageBusy (o : Origin) (a : Nat) (s : State) : Bool := isVat o && s.opOnPage (a / 0x10000)

/-- The code of a single read (R2, R3, R8, R110, R147). -/
def State.readCode (o : Origin) (a : Nat) (s : State) : Code :=
  match regAt a with
  | none => firstCode [chk (s.pageBusy o a) .eBusy, chk (a % 4 != 0) .eAlign, .eAddr]
  | some r => firstCode [chk (s.pageBusy o a) .eBusy, chk (a % 4 != 0) .eAlign, chk (r.win == .read) .eLen]

/-- The word of a single read that its code allows; 0 otherwise. DESIGN CHOICE (notes/assumptions/61.md). -/
def State.readWord (o : Origin) (a : Nat) (s : State) : Word :=
  match regAt a with
  | some r => if s.readCode o a = .ok then r.readable (s.rawWord o a) else 0
  | none => 0

/-- A vector read acknowledges the source it returned when that is not latched (R128, R136). -/
def vectorTaken (d : Nat) (s : State) : State :=
  match s.topPresented d with
  | some n => if s.srcLatch n then s else acknowledge [n] s
  | none => s

/-- The present value of what a PEAK register follows (R11); none for every other register. -/
def State.peakOf (s : State) (a : Nat) : Option Nat :=
  if a = GUT_BACKLOG then some (sat 1023 s.captures.length)
  else if INT_LAT 0 ≤ a ∧ a < INT_SCHED + 0x200 ∧ (a - INT_LAT 0) % 0x20 = 0 then
    some (nth 0 s.sch.lastLat ((a - INT_LAT 0) / 0x20))
  else if a = TBL_BW then some (s.fld TBL_BW 15 0)
  else if ENC_LAT 0 ≤ a ∧ a < ENC_LOAD ∧ (a - ENC_LAT 0) % 0x40 = 0 then some (s.enc ((a - ENC_LAT 0) / 0x40)).lat
  else none

/-- RC fields fall to zero, PEAK fields to the present value of what they follow (R11). -/
def rcZero (a : Nat) (r : Reg) (s : State) : State :=
  let now := (s.peakOf a).getD 0
  s.setReg a (r.flds.foldl (fun w f => if f.acc = .rc then putBits w f.hi f.lo now else w) (s.reg a))

/-- What an accepted read of a register clears, takes or latches (R11, R128, R285, R425, R510, Table 13.5). -/
def readTakes (o : Origin) (a : Nat) (s : State) : State :=
  match regAt a with
  | none => s
  | some r =>
    let s := if r.flds.any (fun f => f.acc == .rc) then rcZero a r s else s
    if a = GUT_VEC_A then vectorTaken 0 s
    else if a = GUT_VEC_B then vectorTaken 1 s
    else if a = INT_I2CRES then i2cTake (masterOf o) s
    else if a = SW_PTP_LO then s.setReg SW_PTP_HI (word s.ptpS)
    else if a = CP_ERRCNT then { s with cp := { s.cp with errs := 0, errRaised := false } }
    else if a / 0x10000 = 0x14 ∧ a % 0x40 = 0x1C then serPop ((a - 0x140000) / 0x40) 1 s
    else if INT_HCFG 0 ≤ a ∧ a < INT_HCFG 6 ∧ (a - INT_HCFG 0) % 0x40 = 0x14 then
      let n := (a - INT_HCFG 0) / 0x40
      s.setReg (INT_HSTAMP_HI n) (word (s.head n).stampS)
    else s

/-- A register that the view gives no value: the load of the store over the last 1 ms (TBL_BW.NOW), and the highest load since the
last read, which is at least NOW and what PEAK took at its clear; nothing else fixes them.
DESIGN CHOICE (notes/assumptions/7.md). -/
def drawn (a : Nat) (s : State) : State :=
  if a = TBL_BW then
    let (v, t) := s.draw
    t.setReg TBL_BW (word (at_ (max (s.fld TBL_BW 31 16) (max (bits v 31 16) (bits v 15 0))) 16 + bits v 15 0))
  else s

/-! ### Writes of the blocks without a file of their own -/

/-- HOST_WAIT is set to 0 while step 13 waits: there is no standalone hand-over any more (R85). -/
def hostWaitOff (s : State) : State :=
  if s.start.phase = .start ∧ s.start.step = 13 ∧ s.fld START_HOSTWAIT 15 0 = 0 ∧ !s.start.noStandalone then
    raiseN 0x017 0 { s with start := { s.start with noStandalone := true } }
  else s

/-- START_CTL, START_HOSTWAIT, START_FALLBACK, START_STATE and START_KICK (R81, R83, R85, R89 to R92). -/
def startWrite (o : Origin) (a : Nat) (v : Word) (s : State) : Option WriteRule :=
  let key := bits v 31 16
  let soft := key == 0x50F7
  [ (START_CTL, { pre := chk (!soft && bit v 0 && s.handedOver) .eState, bad := key != 0 && !soft, store := false
                  app := fun t => if soft then resetTrigger 4 t
                    else if !bit v 0 then t
                    else if t.start.step = 13 then handOver 1 t
                    else { t with start := { t.start with goPending := true } } }),
    (START_HOSTWAIT, { app := hostWaitOff }),
    (START_FALLBACK, { store := false, app := fun t => setFallback (t.start.fallback - (t.start.fallback &&& v.toNat)) t }),
    (START_STATE, { pre := if bit v 0 then s.rindCode else .ok, app := fun t => if bit v 0 then rindBegin t else t }),
    (START_KICK, ({ pre := chk (isVat o) .eState, bad := bits v 7 0 != (s.fld START_KICK 7 0 + 1) % 256
                    app := fun t =>
                      raiseIf t.start.hostLost 0x019 0 { t with start := { t.start with kickAt := some t.time, hostLost := false } }
                  } : WriteRule))].lookup a

/-- The checks and effects of the writes of page 0x03 (R127, R128, R130, R133, R139). -/
def gutWrite (a : Nat) (v : Word) (s : State) : Option WriteRule :=
  if GUT_SRC 0 ≤ a ∧ a < GUT_SRC 512 then
    let n := (a - GUT_SRC 0) / 4
    let levels := b2n (bit v 24) + b2n (bit v 25) + b2n (bit v 26)
    let fixed := fixedRoute n
    some { bad := (!bit v 22 && decide (1 < levels)) || bits v 31 24 &&& fixed != fixed
           app := fun t =>
             let t := if bits v 11 8 = s.srcStorm n then t else t.setSrc n { t.src n with tokens := 4 }
             wakeEvents (countPresented n s t) }
  else if GUT_PEND 0 ≤ a ∧ a < GUT_PEND 16 then
    let m := (a - GUT_PEND 0) / 4
    some { app := rearm (((List.range 32).filter fun b => bit v b && s.pend (32 * m + b)).map fun b => 32 * m + b) s }
  else if a = GUT_D6CFG then
    some { pre := chk (s.flag GUT_D6CFG 3 && bits v 1 0 != s.fld GUT_D6CFG 1 0) .eState }
  else none

/-- A key slot changes: its index record is emptied (R469). -/
def setKey (n : Nat) (k : Option Key) (s : State) : State :=
  indexEmpty n { s with cp := { s.cp with keys := match k with | some x => aput s.cp.keys n x | none => adel s.cp.keys n } }

/-- The key words an algorithm stages, salt included (R118). DEDUCED (notes/assumptions/57.md). -/
def keyLen : Nat → Nat
  | 1 => 7 | 2 => 11 | _ => 0

/-- The writes of page 0x15 (R118 to R121). The operand of a key import is kept as slot + 512 · algorithm.
DEDUCED (notes/assumptions/57.md). -/
def keyWrite (o : Origin) (a : Nat) (v : Word) (s : State) : Option WriteRule :=
  let lock := s.flag KEY_LOCK 0
  let pre (l : Bool) : Code := firstCode [chk l .eLock, chk (isVat o) .eState]
  let alg := bits v 29 28
  let n := s.cp.stage.length
  let imp := bits v 31 30 == 1
  [ (KEY_KCV, { pre := pre lock, store := false, app := fun t => { t with cp := { t.cp with kcv := bits v 23 0 } } }),
    (KEY_CMD, { pre := firstCode [pre lock, chk (imp && n == 0) .eState, chk (imp && keyLen alg != 0 && n != keyLen alg) .eLen]
                bad := if imp then keyLen alg == 0 else alg != 0
                store := false
                app := if imp then startOp 5 (bits v 8 0 + 512 * alg)
                  else fun t => let u := setKey (bits v 8 0) none t; { u with cp := { u.cp with keyLast := 0 } } }),
    (KEY_LOCK, ({ pre := pre (lock && !bit v 0), app := raiseIf (bit v 0 && !lock) 0x1FF 0 } : WriteRule))].lookup a

/-! ### Writing -/

/-- A write of INT_CnXCMD: PLAY starts a replay frame (R288). -/
def playWrite (a : Nat) (v : Word) (s : State) : Option WriteRule :=
  if INT_XCFG 0 ≤ a ∧ a < INT_XCFG 2 ∧ a % 0x10 = 0xC then
    let g := (a - INT_XCFG 0) / 0x10
    some { pre := chk (bit v 0 && (s.fld (INT_XCFG g) 29 28 != 1 || (s.gen g).rx.isSome)) .eState
           app := if bit v 0 then genStart g else id }
  else none

/-- The owning block's part of a write; none where the register has no rule beyond the general ones. -/
def blockRule (o : Origin) (a : Nat) (v : Word) (s : State) : Option WriteRule :=
  match a / 0x10000 with
  | 0x01 => (clkWrite a v s).map fun w => { w with app := fun t => dramLostCleared s (w.app t) }
  | 0x02 => (pwrWrite a v s).orElse fun _ => startWrite o a v s
  | 0x03 => gutWrite a v s
  | 0x04 => vatWrite o a v s
  | 0x05 => (tblWrite o s.pressNow a v s).map fun w =>
    if a = TBL_CMD ∧ bits v 31 28 = 2 then { w with app := fun t => nucSwapped (bits v 7 0) (w.app t) } else w
  | 0x06 => refWrite s.chanIdle a v s
  | 0x07 => hkWrite s.pressNow s.runsProfile a v s
  | 0x08 => (actWrite a v s).map fun w =>
    if a = ACT_CMD ∧ bits v 31 28 = 1 then { w with app := fun t => pressFired (bits v 17 16) (bits v 15 11) (w.app t) } else w
  | 0x09 => ((ctxWrite a v s).orElse fun _ => intakeWrite o cutHead a v s).orElse fun _ => playWrite a v s
  | 0x0B => nucWrite o a v s
  | 0x0C => rndWrite a v s
  | 0x0D => outWrite a v s
  | 0x0E => encWrite a v s
  | 0x0F => anaWrite a v s
  | 0x10 => heatWrite a v s
  | 0x11 => (swWrite a v s).orElse fun _ => vlvWrite a v s
  | 0x12 => egrWrite a v s
  | 0x13 => celWrite o a v s
  | 0x14 => serWrite ((a - 0x140000) / 0x40) ((a - 0x140000) % 0x40) v s
  | 0x15 => keyWrite o a v s
  | _ => none

/-- The rule of a write, the general one where the block adds nothing. DEDUCED (notes/assumptions/16.md). -/
def writeRule (o : Origin) (a : Nat) (v : Word) (s : State) : WriteRule := (blockRule o a v s).getD {}

/-- A code that ranks before E_STATE (R8); the E_CRC of a staged image or record does not. -/
def Code.early : Code → Bool
  | .eSeal | .eBusy | .eAlign | .eAddr | .eRo | .eLock | .eCtx => true
  | _ => false

/-- The place of a code in the order of R8, E_CRC being that of the transaction; OK comes last. -/
def Code.rank : Code → Nat
  | .eSeal => 0 | .eCrc => 1 | .eBusy => 2 | .eAlign => 3 | .eAddr => 4 | .eRo => 5 | .eLock => 6 | .eCtx => 7 | .eState => 8
  | .eLen => 9 | .eRange => 10 | .eFull => 11 | .eAuth => 12 | .ok => 13

/-- The code of two that R8 returns. -/
def Code.first (c d : Code) : Code := if d.rank < c.rank then d else c

/-- Writes from the acceptance of RIND_REQ until Rind is reached (R92). DEDUCED (notes/assumptions/17.md). -/
def State.closing (s : State) : Bool := s.start.phase == .entering

/-- The code of a single write in the order of R8 (R2 to R5, R92, R110, R115, R147).
DEDUCED (notes/assumptions/17.md). -/
def State.writeCode (o : Origin) (a : Nat) (v : Word) (s : State) : Code :=
  match regAt a with
  | none => firstCode [chk (s.pageBusy o a) .eBusy, chk (a % 4 != 0) .eAlign, .eAddr]
  | some r =>
    let w := writeRule o a v s
    firstCode [
      chk (s.pageBusy o a) .eBusy, chk (a % 4 != 0) .eAlign,
      chk (r.win != .write && r.readOnly) .eRo, if w.pre.early then w.pre else .ok, chk s.closing .eState,
      chk (isVat o && a == KEY_STAGE) .eState, chk (r.win == .write) .eLen,
      w.pre, chk (r.reservedSet v || r.outOfRange v || w.bad) .eRange, w.post]

/-- The effect of a single write: the fields are stored and the block acts, or, rejected, nothing changes but what the block's
rule keeps (R6, R7). -/
def busWrite (o : Origin) (a : Nat) (v : Word) (s : State) : Code × State :=
  let c := s.writeCode o a v
  match regAt a with
  | none => (c, s)
  | some r =>
    let w := writeRule o a v s
    if c = .ok then (c, followUp s (applyWrite r a v w s))
    else if (w.pre = c ∨ c = .eRange) ∧ !s.closing then (c, w.rej s) else (c, s)

/-- A single read: its code, its word, and the state after what it takes. -/
def busRead (o : Origin) (a : Nat) (s : State) : Code × Word × State :=
  let c := s.readCode o a
  if c = .ok then
    let s := drawn a s
    (c, s.readWord o a, readTakes o a s)
  else (c, 0, s)

/-! ### Windows (R110) -/

/-- Consecutive words of a window with a word selector: they wrap with it. DEDUCED (notes/assumptions/14.md). -/
def wrapWords (n from_ size : Nat) (f : Nat → Word) : List Word := (List.range n).map fun i => f ((from_ + i) % size)

/-- A bulk read of `n` words of a read window: its code and words (R107). DEDUCED (notes/assumptions/14.md). -/
def State.windowRead (a n : Nat) (s : State) : Code × List Word :=
  if a = VAT_PREAD then
    (.ok, wrapWords n (s.fld VAT_PADDR 13 0) 16384 fun i => memGet zeroes s.vat.pm i)
  else if a = TBL_RDATA then s.tblRead n
  else if a = REF_SAVE then if n = 24 then (.ok, s.trimRecord) else (.eLen, [])
  else if a = OUT_KDATA then (.ok, wrapWords n (s.fld OUT_KSEL 7 0) 256 s.kData)
  else if a = ANA_TDATA then s.trackRead n
  else if a = SW_TSDATA then (.ok, (List.range n).map fun i => s.sw.fifo.getD i 0)
  else if a = VLV_RCDATA then (.ok, wrapWords n (s.fld VLV_RCSEL 9 0) 1024 s.rcData)
  else if a = VLV_GDATA then (.ok, wrapWords n (s.fld VLV_GSEL 11 0) 4096 s.gData)
  else if a = VLV_ADATA then (.ok, wrapWords n (s.fld VLV_ASEL 6 0) 128 s.aData)
  else if a = SES_RDATA then
    let w := s.fld SES_RADDR 5 0
    if 40 < w + n then (.eLen, []) else (.ok, (List.range n).map fun i => (s.ses (s.fld SES_SEL 11 0)).word (w + i))
  else if a / 0x10000 = 0x14 then if 64 < n then (.eLen, []) else (.ok, s.serWindow ((a - 0x140000) / 0x40) n)
  else (.eAddr, [])

/-- A selector moves on by the words read. DEDUCED (notes/assumptions/14.md). -/
def stepSel (a hi n : Nat) (s : State) : State := s.setFld a hi 0 (s.fld a hi 0 + n)

/-- What a bulk read of a window moves or takes: `n` words were asked for, `k` of them clocked out in full.
DEDUCED (notes/assumptions/14.md). -/
def windowTakes (a n k : Nat) (s : State) : State :=
  if a = VAT_PREAD then stepSel VAT_PADDR 13 k s
  else if a = TBL_RDATA then stepSel TBL_RADDR 21 n s
  else if a = OUT_KDATA then stepSel OUT_KSEL 7 k s
  else if a = ANA_TDATA then stepSel ANA_TADDR 8 n s
  else if a = SW_TSDATA then tsTake k s
  else if a = VLV_RCDATA then stepSel VLV_RCSEL 9 k s
  else if a = VLV_GDATA then stepSel VLV_GSEL 11 k s
  else if a = VLV_ADATA then stepSel VLV_ASEL 6 k s
  else if a / 0x10000 = 0x14 then serPop ((a - 0x140000) / 0x40) k s
  else s

/-- The code of a bulk write of words to a write window (R118, R121, R163, R188, R215, R289, R462, R511).
DEDUCED (notes/assumptions/15.md), DEDUCED (notes/assumptions/17.md). -/
def State.windowCode (a : Nat) (ws : List Word) (s : State) : Code :=
  let n := ws.length
  if a = VAT_LOAD then
    firstCode [chk s.closing .eState, chk s.vat.storeBusy .eState, chk (decide (20528 < s.fld VAT_LADDR 14 0 + n)) .eLen]
  else if a = TBL_LOAD then firstCode [chk s.closing .eState, tblLoadCode n s]
  else if a = REF_LOAD then chk s.closing .eState
  else if a = INT_XLOAD then firstCode [chk s.closing .eState, s.xloadCode n]
  else if a = SES_STAGE then firstCode [chk s.closing .eState, chk (n != 24) .eLen]
  else if a = KEY_STAGE then
    firstCode [chk (s.flag KEY_LOCK 0) .eLock, chk s.closing .eState, chk (n != 7 && n != 11) .eLen]
  else if a / 0x10000 = 0x14 then
    let u := (a - 0x140000) / 0x40
    firstCode [if (serTxPre u s).early then serTxPre u s else .ok, chk s.closing .eState, serTxPre u s, chk (decide (64 < n)) .eLen,
      chk (ws.any fun w => w.toNat != bits w 7 0) .eRange, chk (serTxFull u n s) .eFull]
  else .eAddr

/-- The effect of an accepted bulk write. -/
def windowWrite (a : Nat) (ws : List Word) (s : State) : State :=
  if a = VAT_LOAD then loadImageWords ws s
  else if a = TBL_LOAD then tblLoad ws s
  else if a = REF_LOAD then { s with trm := { s.trm with load := some ws } }
  else if a = INT_XLOAD then xload ws s
  else if a = SES_STAGE then onEgr (fun e => { e with stage := some ws }) s
  else if a = KEY_STAGE then { s with cp := { s.cp with stage := ws } }
  else if a / 0x10000 = 0x14 then serPush ((a - 0x140000) / 0x40) (ws.map fun w => bits w 7 0) s
  else s

/-! ### Accesses as rows -/

/-- The control port is powered: not in Cold, nor with the rails removed by a thermal cut.
DEDUCED (notes/assumptions/45.md). -/
def State.portOn (s : State) : Bool := s.start.phase != .cold && s.start.phase != .cut

/-- The engine waits for its clock, is in Rind or wakes from it (R117). -/
def State.portWaits (s : State) : Bool := s.clk.waiting || s.inRind

/-- Pages that the port serves before hand-over: none until the end of step 7, then 0x00, 0x02 and 0x06 (R82), and the same
during a hold (R88), but not in the hold of step 1, whose rails are off. DEDUCED (notes/assumptions/11.md). -/
def State.pageShut (page : Nat) (s : State) : Bool :=
  s.start.phase == .start && (decide (s.start.step < 8) || s.start.step1Hold || !(page == 0 || page == 2 || page == 6))

/-- A transaction other than STATUS on page `page` is refused as busy (R82, R113, R117).
DEDUCED (notes/assumptions/12.md). -/
def State.refused (page : Nat) (s : State) : Bool := s.portWaits || s.pageShut page || s.cp.op.isSome

/-- The host has made a complete transaction (R83). -/
def hostSeen (s : State) : State := { s with start := { s.start with hostPresent := true } }

/-- An access by `o` as the register bus carries it: the host's through the port, by a complete transaction, a thread's while it
can issue.
DEDUCED (notes/assumptions/11.md), DESIGN CHOICE (notes/assumptions/19.md). -/
def access (o : Origin) (page : Nat) (f : State → State) (s : State) : State :=
  match o with
  | .host => if !s.portOn then s else hostSeen (if s.refused page then { s with busCode := .eBusy, busData := [] } else f s)
  | .vat t => if s.runs t.val then f s else s

/-- A register write: the write is made and the bus's answer kept. DESIGN CHOICE (notes/assumptions/19.md). -/
def regWrite (o : Origin) (a : Nat) (v : Word) (s : State) : State :=
  access o (a / 0x10000) (fun s => let r := busWrite o a v s; { r.2 with busCode := r.1, busData := [] }) s

/-- A register read. DESIGN CHOICE (notes/assumptions/19.md). -/
def regRead (o : Origin) (a : Nat) (s : State) : State :=
  access o (a / 0x10000) (fun s => let r := busRead o a s; { r.2.2 with busCode := r.1, busData := [r.2.1] }) s

/-- The code of a length outside the limits of Table 5.5. -/
def lenCode (mx n : Nat) : Code := chk (n == 0 || decide (mx < n)) .eLen

/-- The code of a bulk write of words to a window, its length limited as in Table 5.5. -/
def State.winWriteCode (a : Nat) (ws : List Word) (s : State) : Code := (lenCode 4096 ws.length).first (s.windowCode a ws)

/-- The code and words of a bulk read of `n` words of a window, its length limited as in Table 5.5. -/
def State.winReadAnswer (a n : Nat) (s : State) : Code × List Word :=
  let r := s.windowRead a (min n 257)
  let c := (lenCode 256 n).first r.1
  (c, if c = .ok then r.2 else [])

/-- A bulk write of a window by the host, its length limited as in Table 5.5.
DESIGN CHOICE (notes/assumptions/19.md). -/
def winWrite (a : Nat) (ws : List Word) (s : State) : State :=
  access .host (a / 0x10000) (fun s =>
    let c := s.winWriteCode a ws
    { (if c = .ok then followUp s (windowWrite a ws s) else s) with busCode := c, busData := [] }) s

/-- A bulk read of `n` words of a window by the host, clocked out in full.
DESIGN CHOICE (notes/assumptions/19.md). -/
def winRead (a n : Nat) (s : State) : State :=
  access .host (a / 0x10000) (fun s =>
    let r := s.winReadAnswer a n
    { (if r.1 = .ok then windowTakes a n n s else s) with busCode := r.1, busData := r.2 }) s

end Sys2Proof.Machine
end

