-- ==== Sys2Proof/Machine/Port.lean ====
section
/-! DEFINITION. The control port (chapter 05): transactions as the host clocks them, their codes and the words the engine
returns, error counting, retrieval pages, and the key import. One low period of CP_CS_N is one command; `clocks` is the number
of its CP_SCLK cycles. -/

namespace Sys2Proof.Machine

/-- A header word (Table 5.1). -/
def cpHeader (op : Nat) (tag : BitVec 4) (addr : BitVec 24) : Word := word (at_ op 28 + at_ tag.toNat 24 + addr.toNat)

/-- An ended transaction's code is counted; the threshold of R122 is judged. -/
def portCount (c : Code) (s : State) : State :=
  let s := match c with
    | .eCrc => s.count CP_ERRCNT 31 24
    | .eSeal => s.count CP_ERRCNT 23 16
    | .eLen => s.count CP_ERRCNT 15 8
    | .eBusy => s.count CP_ERRCNT 7 0
    | _ => s
  if c = .eCrc ∨ c = .eSeal then
    let n := s.cp.errs + 1
    let s := { s with cp := { s.cp with errs := n } }
    if !s.cp.errRaised && decide (s.fld CP_CFG 7 0 ≤ n) then
      raiseN 0x1FD 0 { s with cp := { s.cp with errRaised := true } }
    else s
  else s

/-- A transaction ends with a code (R83, R109, R116, R122): `full` says that it was complete.
DEDUCED (notes/assumptions/13.md). -/
def txEnd (c : Code) (tag : Nat) (full : Bool) (miso : List Word) (s : State) : State :=
  let s := portCount c s
  { s with
    cp := { s.cp with lastCode := c.num, lastTag := tag, newStart := s.cp.newStart && !full, miso }
    start := { s.start with hostPresent := s.start.hostPresent || full }
    busCode := c }

/-- A transaction ends before its header has come in full: one whose OP is known to be that of a write, a bulk write or a page
release with E_SEAL, that of a read with E_LEN, or the code that every transaction has now; `c` is that of the OP, OK where it has
none. The TAG counts as 0 until it is in (R104, R105, R109). DEDUCED (notes/assumptions/13.md). -/
def headerCut (c block : Code) (clocks tag : Nat) (s : State) : State :=
  if clocks < 4 ∨ c = .ok then { s with cp := { s.cp with miso := [] } }
  else txEnd (c.first block) (if 8 ≤ clocks then tag else 0) false [] s

/-- A transaction: `cut` is the code with which its OP ends when its header is cut short, `st` the status word of its snapshot.
A transaction whose CP_CS_N fall is an enabled wake source wakes the engine from Rind, and `f` is told to end with E_STATE; one
that cancels the entry into Rind goes on as any other (R93, R94, R117). DEDUCED (notes/assumptions/13.md). -/
def transact (cut : Code) (clocks tag : Nat) (f : Code → Word → State → State) (s : State) : State :=
  if !s.portOn then s
  else
    let st := s.statusWord
    let woke := s.flag START_WAKE 2 && s.start.phase == .rind
    let t := if s.flag START_WAKE 2 then wakeSource 2 s else s
    let block : Code := if woke then .eState else .ok
    if clocks < 32 then headerCut cut (if woke then .eState else chk s.portWaits .eBusy) clocks tag t
    else f block st t

/-- The code of a transaction on page `p` that none of its own checks has part in: E_STATE when it wakes the engine, E_BUSY. -/
def State.blocked (s : State) (block : Code) (p : Nat) : Code := if block = .ok then chk (s.refused p) .eBusy else block

/-- The words that `clocks` cycles carry: those given, then zeros. DEDUCED (notes/assumptions/13.md). -/
def clocked (clocks : Nat) (ws : List Word) : List Word := (List.range (clocks / 32)).map fun k => ws.getD k 0

/-- STATUS (R104): complete after 32 clocks, with LAST_TAG 0 in the next status word.
DEDUCED (notes/assumptions/13.md). -/
def cpStatus (clocks : Nat) (s : State) : State :=
  transact .ok clocks 0 (fun block st s => txEnd block 0 true (clocked clocks [st]) { s with busData := [] }) s

/-- A reserved OP (R104). -/
def cpReserved (tag : BitVec 4) (addr : BitVec 24) (clocks : Nat) (s : State) : State :=
  transact .ok clocks tag.toNat (fun block st s =>
    txEnd (firstCode [s.blocked block (addr.toNat / 0x10000), .eAddr]) tag.toNat true (clocked clocks [st]) { s with busData := [] }) s

/-- READ (R107 to R109). -/
def cpRead (tag : BitVec 4) (addr : BitVec 24) (clocks : Nat) (s : State) : State :=
  transact .eLen clocks tag.toNat (fun block st s =>
    let a := addr.toNat
    let c0 := s.blocked block (a / 0x10000)
    let r := if c0 = .ok then busRead .host a s else (c0, (0 : Word), s)
    let t := if r.1 = .ok ∧ 96 ≤ clocks then r.2.2 else s
    let trailer := word (at_ r.1.num 24 + crc16 [cpHeader 1 tag addr, r.2.1])
    let full := decide (128 ≤ clocks)
    txEnd (if full then r.1 else r.1.first .eLen) tag.toNat full (clocked clocks [st, 0, r.2.1, trailer])
      { t with busData := [r.2.1] }) s

/-- WRITE (R105 to R107). A soft reset abandons the transaction that commands it (R116). -/
def cpWrite (tag : BitVec 4) (addr : BitVec 24) (data crc : Word) (clocks : Nat) (s : State) : State :=
  transact .eSeal clocks tag.toNat (fun block st s =>
    let a := addr.toNat
    let full := decide (104 ≤ clocks)
    let c0 := firstCode [chk (!full) .eSeal, chk (crc != crcWord [cpHeader 2 tag addr, data]) .eCrc, s.blocked block (a / 0x10000)]
    if c0 = .ok then
      let r := busWrite .host a data s
      if r.1 = .ok ∧ a = START_CTL ∧ bits data 31 16 = 0x50F7 then r.2
      else txEnd r.1 tag.toNat true (clocked clocks [st]) { r.2 with busData := [] }
    else txEnd c0 tag.toNat full (clocked clocks [st]) { s with busData := [] }) s

/-- The check of the whole range of a BULK READ, and its words (R107, R110). No page has registers at all of its 16 384 words, so a
longer range fails as one of that length does. -/
def State.bulkRead (a n : Nat) (s : State) : Code × List Word :=
  if a % 4 ≠ 0 then (.eAlign, [])
  else match regAt a with
    | none => (.eAddr, [])
    | some r =>
      if r.win = .read then s.winReadAnswer a n
      else
        let cs := (List.range (min n 16384)).map fun k => s.readCode .host (a + 4 * k)
        let c := (lenCode 256 n).first (cs.foldl Code.first .ok)
        (c, if c = .ok then (List.range n).map fun k => s.readWord .host (a + 4 * k) else [])

/-- What a BULK READ takes when `k` of its words were clocked out in full (R108). -/
def bulkTakes (a n k : Nat) (s : State) : State :=
  match regAt a with
  | none => s
  | some r => if r.win = .read then windowTakes a n k s
    else (List.range k).foldl (fun s i => readTakes .host (a + 4 * i) s) s

/-- The data words in answer to a request for `n`: zeros unless the code is OK, no more than `clocks` cycles carry. -/
def dataWords (c : Code) (clocks n : Nat) (ws : List Word) : List Word :=
  if c = .ok then ws else List.replicate (min n (clocks / 32)) 0

/-- How many of `n` data words `clocks` cycles carry, behind status, zero and turnaround. -/
def delivered (clocks n : Nat) : Nat := min n (clocks / 32 - 3)

/-- BULK READ (R107 to R110). -/
def cpBulkRead (tag : BitVec 4) (addr : BitVec 24) (len : Word) (clocks : Nat) (s : State) : State :=
  transact .eLen clocks tag.toNat (fun block st s =>
    let a := addr.toNat
    let n := len.toNat
    let c0 := s.blocked block (a / 0x10000)
    let s := if c0 == .ok && decide (a ≤ TBL_BW ∧ TBL_BW < a + 4 * min n 256) then drawn TBL_BW s else s
    let r := if c0 = .ok then s.bulkRead a n else (c0, [])
    let ws := dataWords r.1 clocks n r.2
    let t := if r.1 = .ok ∧ 96 ≤ clocks then bulkTakes a n (delivered clocks n) s else s
    let trailer := word (at_ r.1.num 24 + crc16 (cpHeader 3 tag addr :: len :: ws))
    let full := decide (32 * (n + 4) ≤ clocks)
    txEnd (if full then r.1 else r.1.first .eLen) tag.toNat full (clocked clocks ([st, 0, 0] ++ ws ++ [trailer]))
      { t with busData := ws }) s

/-- BULK WRITE (R105, R106, R110): `words` follow the length word, the CRC word behind the N-th. -/
def cpBulkWrite (tag : BitVec 4) (addr : BitVec 24) (len : Word) (words : List Word) (clocks : Nat) (s : State) : State :=
  transact .eSeal clocks tag.toNat (fun block st s =>
    let a := addr.toNat
    let n := len.toNat
    let ws := if n ≤ 4096 then (List.range n).map (fun k => words.getD k 0) else words.take n
    let full := decide (32 * (n + 3) + 8 ≤ clocks)
    let isWin := match regAt a with | some r => r.win == .write | none => false
    let c := firstCode [chk (!full) .eSeal, chk (words.getD n 0 != crcWord (cpHeader 4 tag addr :: len :: ws)) .eCrc,
      s.blocked block (a / 0x10000), chk (a % 4 != 0) .eAlign, chk (!isWin) .eAddr, (lenCode 4096 n).first (s.windowCode a ws)]
    let t := if c = .ok then followUp s (windowWrite a ws s) else s
    txEnd c tag.toNat full (clocked clocks [st]) { t with busData := [] }) s

/-- The held page is freed; the next filled buffer becomes the held page (R111). -/
def pageFreed (s : State) : State := { s with cp := { s.cp with pages := s.cp.pages.tail, pageNext := 0 } }

/-- The words of the held page. -/
def State.heldWords (s : State) : List Word := match s.cp.pages with | p :: _ => p.words | [] => []

/-- PAGE READ (R109 to R111). Page transfers count as accesses to the Cellar's page in R82. Where ADDR[23:10] is not zero, N is judged
with the rest of ADDR.
DEDUCED (notes/assumptions/12.md), DESIGN CHOICE (notes/assumptions/76.md). -/
def cpPageRead (tag : BitVec 4) (addr : BitVec 24) (len : Word) (clocks : Nat) (s : State) : State :=
  transact .eLen clocks tag.toNat (fun block st s =>
    let n := len.toNat
    let a := addr.toNat
    let c := firstCode [s.blocked block 0x13, chk s.cp.pages.isEmpty .eState,
      chk (n == 0 || decide (1024 < a % 1024 + n)) .eLen, chk (decide (1024 ≤ a)) .eRange]
    let page := s.heldWords
    let ws := dataWords c clocks n ((List.range (min n 1024)).map fun k => page.getD (a + k) 0)
    let k := delivered clocks n
    let full := decide (32 * (n + 4) ≤ clocks)
    let t := if c = .ok ∧ 0 < k then { s with cp := { s.cp with pageNext := a + k } } else s
    let t := if c = .ok ∧ full ∧ a + n = 1024 then pageFreed t else t
    let trailer := word (at_ c.num 24 + crc16 (cpHeader 5 tag addr :: len :: ws))
    txEnd (if full then c else c.first .eLen) tag.toNat full (clocked clocks ([st, 0, 0] ++ ws ++ [trailer]))
      { t with busData := ws }) s

/-- PAGE RELEASE (R92, R105, R111). DEDUCED (notes/assumptions/12.md). -/
def cpPageRelease (tag : BitVec 4) (addr : BitVec 24) (crc : Word) (clocks : Nat) (s : State) : State :=
  transact .eSeal clocks tag.toNat (fun block st s =>
    let full := decide (72 ≤ clocks)
    let c := firstCode [chk (!full) .eSeal, chk (crc != crcWord [cpHeader 6 tag addr]) .eCrc, s.blocked block 0x13,
      chk (s.closing || s.cp.pages.isEmpty) .eState]
    let t := if c = .ok then pageFreed s else s
    txEnd c tag.toNat full (clocked clocks [st]) { t with busData := [] }) s

/-- The key import ends (R118): the check value decides, and the staging is zeroed. -/
def keyImported (s : State) : State :=
  match s.cp.op with
  | none => s
  | some o =>
    if o.id ≠ 5 then s
    else
      let alg := o.arg / 512
      let n := keyLen alg - 3
      let ok := keyCheckValue (s.cp.stage.take n) == s.cp.kcv
      let t := if ok then setKey (o.arg % 512) (some ⟨alg, s.cp.stage⟩) s else raiseN 0x1FE 0 s
      let c : Code := if ok then .ok else .eAuth
      followUp s (endOp c { t with cp := { t.cp with stage := [], kcv := 0, keyLast := c.num } })

end Sys2Proof.Machine
end

