-- ==== Sys2Proof/Machine/CmdPower.lean ====
section
/-! DEFINITION. The commands of power entry (chapter 02, R525) and the three general register commands (chapter 00). -/

namespace Sys2Proof.Machine

/-! ### Register accesses -/

/-- A write of a register that has no row of its own (R7). -/
def execRegisterWrite (o : Origin) (a : BitVec 24) (v : Word) (s : State) : Host.Outcome State Fault Refusal :=
  done (regWrite o a.toNat v s)

/-- A write to a register with W1C bits (R12). -/
def execW1cWrite (o : Origin) (a : BitVec 24) (v : Word) (s : State) : Host.Outcome State Fault Refusal :=
  done (regWrite o a.toNat v s)

/-- A read of a register with RC fields (R11). -/
def execRcRead (o : Origin) (a : BitVec 24) (s : State) : Host.Outcome State Fault Refusal := done (regRead o a.toNat s)

/-! ### Inputs -/

/-- An input changes by `f`: what follows for the source and POWER_FAIL, the Cellar, and the other blocks. In Cold the power
entry only notes it. -/
def inputEvent (f : Power → Power) (s : State) : State :=
  let t := { s with pwr := f s.pwr }
  if s.start.phase == .cold then t
  else
    let t := inputsChanged s t
    let t := if t.pwr.powerFail && !s.pwr.powerFail then celPowerFail t else t
    followUp s t

/-- A valid input appears: the bus is up; a hold in step 1 ends when there was none (Table 4.3).
DEDUCED (notes/assumptions/28.md). -/
def inputAppears (f : Power → Power) (s : State) : State :=
  let none_ := !s.pwr.acValid && !s.pwr.poeValid
  let t := inputEvent (fun p => { f p with busUp := true, busGood := true }) s
  if none_ && s.start.step1Hold then
    setStep 1 { t with start := { t.start with step1Hold := false, step1Fails := 0, waitRetry := false } }
  else t

/-- AC becomes valid (R26, R28). -/
def execAcInputValid (s : State) : Host.Outcome State Fault Refusal :=
  done (if s.pwr.acValid then s else inputAppears (fun p => { p with acValid := true }) s)

/-- AC becomes invalid (R26, R28, R30). -/
def execAcInputInvalid (s : State) : Host.Outcome State Fault Refusal :=
  done (if !s.pwr.acValid then s else inputEvent (fun p => { p with acValid := false }) s)

/-- PoE becomes valid with the class and type the PSE gave (R26, R34); the straps are read during classification, so each
power-up has its own value. -/
def execPoeInputValid (cls : PoeClass) (type events : Nat) (s : State) : Host.Outcome State Fault Refusal :=
  done (if s.pwr.poeValid ∨ cls.granted = 0 ∨ 8 < cls.granted then s
    else inputAppears (fun p => { p with poeValid := true, reqClass := cls.strap.val + 1, grantClass := cls.granted
                                         pseType := type % 8, classEvents := events % 8 }) s)

/-- PoE becomes invalid (R26). -/
def execPoeInputInvalid (s : State) : Host.Outcome State Fault Refusal :=
  done (if !s.pwr.poeValid then s else inputEvent (fun p => { p with poeValid := false }) s)

/-- The bus falls below 10.2 V (R33). -/
def execBrownout (s : State) : Host.Outcome State Fault Refusal := done (brownout s)

/-- The always-on supply comes up after Cold (R76). -/
def execPowerOnReset (s : State) : Host.Outcome State Fault Refusal :=
  done (if s.start.phase = .cold then reset 1 s else s)

/-- The always-on supply is lost (R96, R416): only the NOR and the media keep what they hold; a program
in flight is abandoned. -/
def execAlwaysOnSupplyLost (s : State) : Host.Outcome State Fault Refusal :=
  let t := retain 0 s
  let start : Start := { phase := .cold, journal := [], seen := 0, resetLow := s.start.resetLow }
  done { t with start, nor := s.norAbandoned, pwr := { t.pwr with busUp := false, busGood := false, powerFail := false } }

/-! ### Governor -/

/-- Housekeeping conversions are under way: from the end of step 3, with the engine not waiting for its clock (R49, R238).
DESIGN CHOICE (notes/assumptions/18.md). -/
def State.measures (s : State) : Bool :=
  !s.clk.waiting && (s.start.phase == .up || s.start.phase == .entering ||
    (s.start.phase == .start && decide (4 ≤ s.start.step) && !s.start.step1Hold))

/-- BUS_P takes its new value, that of the samples in the state, and is compared with the effective limit (R36). -/
def execBusPUpdate (_ : Held) (s : State) : Host.Outcome State Fault Refusal :=
  done (if s.measures then judgeOver { s with pwr := { s.pwr with busP := s.busAverage } } else s)

/-- The excess has lasted T_HEAT (R36). -/
def execPwrShedHeat (s : State) : Host.Outcome State Fault Refusal :=
  done (if s.govRuns then heaterFollow s (shedHeat s) else s)

/-- The excess has lasted T_BOOST (R36). -/
def execPwrShedBoost (s : State) : Host.Outcome State Fault Refusal := done (if s.govRuns then shedBoost s else s)

/-- The excess has lasted T_EAVES (R36). -/
def execPwrEavesForced (s : State) : Host.Outcome State Fault Refusal := done (if s.govRuns then forceEaves s else s)

/-- The charger's test has held for 5.0 s (R37). -/
def execBoostReadmit (s : State) : Host.Outcome State Fault Refusal :=
  done (if s.pwr.boostLim && s.boostFits && s.handedOver && !s.pwr.powerFail then
    { s with pwr := { s.pwr with boostLim := false } } else s)

/-- The heater's test has held for 5.0 s (R37). -/
def execHeaterReadmit (s : State) : Host.Outcome State Fault Refusal :=
  done (if s.pwr.heatShed && !s.pwr.boostLim && s.heaterFits && s.handedOver && !s.pwr.powerFail then
    heaterFollow s { s with pwr := { s.pwr with heatShed := false } } else s)

/-- A write of PWR_GOV (R36). -/
def execPwrGovWrite (o : Origin) (v : Word) (s : State) : Host.Outcome State Fault Refusal := done (regWrite o PWR_GOV v s)

/-- A write of PWR_CLR.EAVES_REL (R38). -/
def execEavesRel (o : Origin) (s : State) : Host.Outcome State Fault Refusal := done (regWrite o PWR_CLR 1 s)

/-! ### Heater, head supply, rails, HBUS -/

/-- A write of PWR_CLR.HTR_OC_CLR (R44). -/
def execHtrOcClr (o : Origin) (s : State) : Host.Outcome State Fault Refusal := done (regWrite o PWR_CLR 2 s)

/-- A write of PWR_CLR.HSUP_OC_CLR (R45). -/
def execHsupOcClr (o : Origin) (s : State) : Host.Outcome State Fault Refusal := done (regWrite o PWR_CLR 4 s)

/-- A write of PWR_HTR (R44). -/
def execPwrHtrWrite (o : Origin) (v : Word) (s : State) : Host.Outcome State Fault Refusal := done (regWrite o PWR_HTR v s)

/-- A heater period starts (R44). -/
def execHeaterPeriod (s : State) : Host.Outcome State Fault Refusal :=
  done (if s.htrAllowed then startHeaterPeriod s else s)

/-- The heater on-time of DUTY ms ends (R44); the state holds what HKIN15 measured in it. -/
def execHeaterOnTimeEnd (_ : Held) (s : State) : Host.Outcome State Fault Refusal := done (endOnTime s.pwr.htrDuty s)

/-- The heater current exceeds 2.6 A for 100 µs, and so has reached 0.10 A in this on-time (R44). -/
def execPwrHtrOc (s : State) : Host.Outcome State Fault Refusal :=
  done (if s.pwr.htrOn && s.htrAllowed then
    let t := cutOnTime { s with pwr := { s.pwr with htrSeen := true, htrReached := true } }
    raiseN 0x008 0 { t with pwr := { t.pwr with htrOc := true } }
  else s)

/-- The head-supply current exceeds 0.50 A for 1 ms (R45). -/
def execPwrHsupOc (s : State) : Host.Outcome State Fault Refusal :=
  done (if s.pwr.hsupOn then raiseN 0x00A 0 { s with pwr := { s.pwr with hsupOc := true, hsupOn := false } } else s)

/-- Rails whose loss of power-good counts: all after step 1; in Rind those that stay at their full level (R40, R42).
DEDUCED (notes/assumptions/63.md). -/
def State.railWatched (s : State) (n : Nat) : Bool :=
  match s.start.phase with
  | .start => decide (1 < s.start.step) && !s.start.step1Hold
  | .up | .entering | .waking => true
  | .rind => [3, 4, 6, 7].contains n
  | _ => false

/-- A rail loses power-good (R40). -/
def execRailPgLoss (rail : Fin 8) (s : State) : Host.Outcome State Fault Refusal :=
  done (if s.railWatched rail.val then
    let t := reset 2 s
    { t with pwr := { t.pwr with railFault := true, faultRail := rail.val } } else s)

/-- The HBUS limiter folds back (R525). -/
def execHbusOverload (s : State) : Host.Outcome State Fault Refusal :=
  done (if s.pwr.busUp then { s with pwr := { s.pwr with hbusFold := true } } else s)

/-- The folded-back limiter retries (R525): `cleared` says that the overload is gone. -/
def execHbusRetry (cleared : Bool) (s : State) : Host.Outcome State Fault Refusal :=
  done (if s.pwr.hbusFold && cleared then { s with pwr := { s.pwr with hbusFold := false } } else s)

end Sys2Proof.Machine
end

