-- ==== Sys2Proof/Machine/CmdAct.lean ====
section
/-! DEFINITION. The commands of the actuator drivers (chapter 12). -/

namespace Sys2Proof.Machine

/-! ### ACT_CMD and configuration (R250, R253, R259, R260) -/

def execActCmdFire (o : Origin) (ch : Fin 4) (prof : Fin 32) (s : State) : Host.Outcome State Fault Refusal :=
  done (regWrite o ACT_CMD (word (at_ 1 28 + at_ ch.val 16 + at_ prof.val 11)) s)

def execActCmdStop (o : Origin) (ch : Fin 4) (s : State) : Host.Outcome State Fault Refusal :=
  done (regWrite o ACT_CMD (word (at_ 2 28 + at_ ch.val 16)) s)

def execActCmdClear (o : Origin) (ch : Fin 4) (s : State) : Host.Outcome State Fault Refusal :=
  done (regWrite o ACT_CMD (word (at_ 3 28 + at_ ch.val 16)) s)

/-- A write of ACT_PAIR (R259). -/
def execActPairWrite (o : Origin) (v : Word) (s : State) : Host.Outcome State Fault Refusal := done (regWrite o ACT_PAIR v s)

/-- A write of a channel's configuration, or of ACT_PWM when no channel is named (R260). -/
def execActCfgWrite (o : Origin) (ch : Option (Fin 4)) (v : Word) (s : State) : Host.Outcome State Fault Refusal :=
  done (regWrite o (match ch with | some n => ACT_CHCFG n.val | none => ACT_PWM) v s)

/-! ### PWM periods, faults, boost -/

/-- A PWM period of channel `ch` starts (R245 to R248). -/
def execPwmPeriodStart (ch : Fin 4) (s : State) : Host.Outcome State Fault Refusal := happens (pwmPeriod ch.val) s

/-- The on-time of a period ends (R245). -/
def execPwmOffEdge (ch : Fin 4) (s : State) : Host.Outcome State Fault Refusal := done (pwmOff ch.val s)

/-- DECAY has lasted 50 ms (R254). -/
def execActDecayTo (ch : Fin 4) (s : State) : Host.Outcome State Fault Refusal := happens (decayTimeout ch.val) s

/-- The over-current comparator of bridge `ch` trips (R255). -/
def execActOc (ch : Fin 4) (s : State) : Host.Outcome State Fault Refusal := happens (actOverCurrent ch.val) s

/-- VBST is `mv`: above VSET + 3.0 V the clamp conducts, else it does not (R243). DEDUCED (notes/assumptions/79.md). -/
def execActClamp (mv : Nat) (s : State) : Host.Outcome State Fault Refusal := done (if s.portOn then vbstSeen mv s else s)

/-- VBST reaches VSET, or falls below it (R242). DEDUCED (notes/assumptions/79.md). -/
def execChargerAtVset (reached : Bool) (s : State) : Host.Outcome State Fault Refusal :=
  done (if s.portOn then vbstSeen (if reached then max s.act.vbst s.vsetMv else min s.act.vbst (s.vsetMv - 1)) s else s)

end Sys2Proof.Machine
end

