-- ==== Sys2Proof/Machine/CmdTables.lean ====
section
/-! DEFINITION. The commands of the table store (chapter 09). -/

namespace Sys2Proof.Machine

/-- A write of TBL_LSEL (R187). -/
def execStagingOpen (o : Origin) (n : BitVec 8) (s : State) : Host.Outcome State Fault Refusal :=
  done (regWrite o TBL_LSEL (word n.toNat) s)

/-- A bulk write of TBL_LOAD (R188). -/
def execTblLoadWrite (ws : List Word) (s : State) : Host.Outcome State Fault Refusal := done (winWrite TBL_LOAD ws s)

/-- TBL_CMD LOAD (R189). -/
def execLoad (o : Origin) (s : State) : Host.Outcome State Fault Refusal := done (regWrite o TBL_CMD (word (at_ 1 28)) s)

/-- A long operation `id` ends with what `f` makes of the state. -/
def opEnds (id : Nat) (f : State → Code × State) (s : State) : State :=
  match s.cp.op with
  | some op => if s.live && op.id == id then (let r := f s; followUp s (endOp r.1 r.2)) else s
  | none => s

/-- The check of a staged table ends (R189). -/
def execTableLoadDone (s : State) : Host.Outcome State Fault Refusal := done (opEnds 1 loadDone s)

/-- TBL_CMD SWAP of table `n` (R191). -/
def execSwap (o : Origin) (n : BitVec 8) (s : State) : Host.Outcome State Fault Refusal :=
  done (regWrite o TBL_CMD (word (at_ 2 28 + n.toNat)) s)

/-- TBL_CMD DISCARD (R190). -/
def execDiscard (o : Origin) (s : State) : Host.Outcome State Fault Refusal := done (regWrite o TBL_CMD (word (at_ 4 28)) s)

/-- TBL_CMD RETRAIN (R198). -/
def execRetrain (o : Origin) (s : State) : Host.Outcome State Fault Refusal := done (regWrite o TBL_CMD (word (at_ 3 28)) s)

/-- RETRAIN ends (R198): frames still in the pipeline are broken; a failed training loses the DRAM and goes on in the
background. DEDUCED (notes/assumptions/34.md). -/
def retrained (ok : Bool) (s : State) : Code × State :=
  let s := breakAll s
  let s := { s with tbl := { s.tbl with draining := false, suspended := false, retrains := s.tbl.retrains + 1 } }
  if ok then (.ok, { s with tbl := { s.tbl with trainCk := s.dramCk } })
  else (.eState, (dramLostAll s).mapClk fun c => { c with bgTrain := true })

/-- The retraining on command ends (R198). -/
def execRetrainDone (ok : Bool) (s : State) : Host.Outcome State Fault Refusal := done (opEnds 3 (retrained ok) s)

/-- A bulk read of `n` words of TBL_RDATA (R196). -/
def execTableRead (n : Nat) (s : State) : Host.Outcome State Fault Refusal := done (winRead TBL_RDATA n s)

end Sys2Proof.Machine
end

