-- ==== Sys2Proof/Machine/CmdCellar.lean ====
section
/-! DEFINITION. The commands of the Cellar (chapter 22), but the buddy frames (CmdVelva). -/

namespace Sys2Proof.Machine

/-! ### Media -/

/-- A microSD card is inserted (R479). A card that replaces another is read when it is opened. -/
def execCardInsert (s : State) : Host.Outcome State Fault Refusal := happens (onCel fun c => { c with card := true }) s

/-- The microSD card is removed (R478). -/
def execCardRemove (s : State) : Host.Outcome State Fault Refusal := happens (onCel fun c => { c with card := false }) s

/-- The opening of medium `m` ends (R479). -/
def execMediumOpenDone (m : Fin 2) (o : MediumOpen) (s : State) : Host.Outcome State Fault Refusal :=
  happens (fun s => if s.clk.waiting || s.inRind then s else mediumOpened m.val o s) s

/-- A command of medium `m` ends, after its retry (R478): a write of stream `e` (16: of no stream) or another command.
DESIGN CHOICE (notes/assumptions/60.md). -/
def execMediumCommandDone (m : Fin 2) (good write : Bool) (e : Fin 17) (s : State) : Host.Outcome State Fault Refusal :=
  happens (fun s =>
    let st := (s.med m.val).st
    if s.live && (st == .opening || st == .ready || st == .full || st == .unformatted) then mediumCommand m.val good write e.val s else s) s

/-- The word of CEL_CMD. -/
def celWord (cmd : Nat) (m : Fin 2) : Word := word (at_ cmd 28 + m.val)

/-- CEL_CMD FORMAT (R480). -/
def execFormat (o : Origin) (m : Fin 2) (s : State) : Host.Outcome State Fault Refusal := done (regWrite o CEL_CMD (celWord 1 m) s)

/-- The format ends (R480). -/
def execCellarFormatDone (s : State) : Host.Outcome State Fault Refusal :=
  happens (fun s => if s.live then formatDone s else s) s

/-- CEL_CMD EJECT (R481). -/
def execEject (o : Origin) (m : Fin 2) (s : State) : Host.Outcome State Fault Refusal := done (regWrite o CEL_CMD (celWord 2 m) s)

/-- CEL_CMD ATTACH (R479). -/
def execAttach (o : Origin) (m : Fin 2) (s : State) : Host.Outcome State Fault Refusal := done (regWrite o CEL_CMD (celWord 3 m) s)

/-- CEL_CMD UNPROT_ALL (R490). -/
def execUnprotAll (o : Origin) (m : Fin 2) (s : State) : Host.Outcome State Fault Refusal := done (regWrite o CEL_CMD (celWord 4 m) s)

/-- The word of CEL_WCMD. -/
def wheelWord (cmd : Nat) (m : Fin 2) (w : BitVec 17) : Word := word (at_ cmd 28 + at_ m.val 24 + w.toNat)

/-- CEL_WCMD PROTECT (R490). -/
def execProtect (o : Origin) (m : Fin 2) (w : BitVec 17) (s : State) : Host.Outcome State Fault Refusal :=
  done (regWrite o CEL_WCMD (wheelWord 1 m w) s)

/-- CEL_WCMD UNPROTECT (R490). -/
def execUnprotect (o : Origin) (m : Fin 2) (w : BitVec 17) (s : State) : Host.Outcome State Fault Refusal :=
  done (regWrite o CEL_WCMD (wheelWord 2 m w) s)

/-! ### Recording -/

/-- ALARM_T has passed since the last D4 delivery (R484). -/
def execAlarmTimeExpiry (s : State) : Host.Outcome State Fault Refusal := happens (fun s => if s.live then alarmExpiry s else s) s

/-- POST seconds have passed after the last cause of stream `e` (R484). -/
def execCelRecStop (e : Fin 16) (s : State) : Host.Outcome State Fault Refusal :=
  happens (fun s => if s.live then celRecStop e.val s else s) s

/-- The next data page of stream `e`, or of hosted stream `e − 16`, is written (R488). -/
def execPageWritten (e : Fin 19) (s : State) : Host.Outcome State Fault Refusal :=
  happens (fun s => if s.serves then pageWritten e.val s else s) s

/-- A buddy's OPEN has waited 10 ms (R493). -/
def execBuddyOpenTimeout (e : Fin 16) (s : State) : Host.Outcome State Fault Refusal :=
  happens (fun s => if s.live then buddyOpenTimeout e.val s else s) s

/-- The oldest unacknowledged BUDDY_DATA frame of stream `e` has waited 2 ms (R495). -/
def execBuddyRetry (e : Fin 16) (s : State) : Host.Outcome State Fault Refusal :=
  happens (fun s => if s.live then buddyRetry e.val s else s) s

/-- The closing at a power failure completes, `n` pages written in its time (R497). -/
def execCelPfClose (n : Nat) (s : State) : Host.Outcome State Fault Refusal :=
  happens (fun s => if s.live then celPfClose n s else s) s

/-- A wheel left open on medium `m` is scanned: `good` pages are valid (R498). -/
def execWheelRepairDone (m : Fin 2) (good : Nat) (s : State) : Host.Outcome State Fault Refusal :=
  happens (fun s => if s.live && ((s.med m.val).st == .ready || (s.med m.val).st == .full) then wheelRepair m.val good s else s) s

/-! ### Retrieval -/

/-- CEL_RCMD START (R501). -/
def execRetStart (o : Origin) (s : State) : Host.Outcome State Fault Refusal := done (regWrite o CEL_RCMD (word (at_ 1 28)) s)

/-- CEL_RCMD STOP (R501). -/
def execRetStop (o : Origin) (s : State) : Host.Outcome State Fault Refusal := done (regWrite o CEL_RCMD (word (at_ 2 28)) s)

/-- The next page is read into a free buffer (R501). -/
def execRetrievalPageFilled (s : State) : Host.Outcome State Fault Refusal := happens (fun s => if s.serves then pageFilled s else s) s

/-- All buffers have stayed filled for RSTALL_T (R501). -/
def execCelRetStall (s : State) : Host.Outcome State Fault Refusal := happens (fun s => if s.live then retStall s else s) s

/-- CEL_NjCMD START (R502). -/
def execJobStart (o : Origin) (j : Fin 8) (s : State) : Host.Outcome State Fault Refusal :=
  done (regWrite o (CEL_NCMD j.val) (word (at_ 1 28)) s)

/-- CEL_NjCMD STOP (R502). -/
def execJobStop (o : Origin) (j : Fin 8) (s : State) : Host.Outcome State Fault Refusal :=
  done (regWrite o (CEL_NCMD j.val) (word (at_ 2 28)) s)

end Sys2Proof.Machine
end

