-- ==== Sys2Proof/Machine/CmdClock.lean ====
section
/-! DEFINITION. The commands of the clock tree (chapter 03). -/

namespace Sys2Proof.Machine

/-- The PLL is in use: from the end of step 3 on, outside Rind. -/
def State.pllUsed (s : State) : Bool :=
  s.start.phase == .up || s.start.phase == .entering ||
    (s.start.phase == .start && decide (4 ≤ s.start.step) && !s.start.step1Hold)

/-- The phase error leaves ±150 ps (R58, R59). -/
def execClkSlipWarn (s : State) : Host.Outcome State Fault Refusal :=
  done (if s.pllUsed && !s.stopped then
    let s := (beginWait false s).setFld CLK_FLAGS 1 1 1
    raiseN 0x00B 0 ((s.count CLK_CNT 31 24).mapClk fun c => { c with slipWarn := true }) else s)

/-- A PLL loss is declared (R58, R60), in a wait too (R74); `inRefresh`: the DRAM's self-refresh entry was complete. -/
def execClkPllLoss (inRefresh : Bool) (s : State) : Host.Outcome State Fault Refusal :=
  done (if s.pllUsed then pllLoss inRefresh s else s)

/-- A crystal failure is declared (R57, R58, R60). In step 3, of a start or of a wake, it fails the step, which goes on from step 2.
DEDUCED (notes/assumptions/26.md). -/
def execClkXoFail (s : State) : Host.Outcome State Fault Refusal :=
  let seen (s : State) : State := raiseN 0x00D 0 ((s.setFld CLK_FLAGS 3 3 1).count CLK_CNT 15 8)
  done (if s.pllUsed && !s.clk.xoFailed then
      seen ((pllLoss false s).mapClk fun c => { c with xoFailed := true, xoOk := false, xoAmp := 0 })
    else if s.start.phase == .start && s.start.step == 3 then
      setStep 2 (failStep 3 ((seen s).mapClk fun c => { c with xoOk := false, xoAmp := 0 }))
    else if s.start.phase == .waking && s.start.wakeStep == 3 then
      setWake 2 (failStep 3 ((seen s).mapClk fun c => { c with xoOk := false, xoAmp := 0 }))
    else s)

/-- The PLL has relocked within RELOCK_MAX (R64), but for the loss limit (R65).
DEDUCED (notes/assumptions/27.md). -/
def execPllRelock (lockTime : Nat) (s : State) : Host.Outcome State Fault Refusal :=
  done (if s.clk.waiting && !s.clk.xoFailed && !s.clk.retraining then
    if s.clk.lost && decide (s.fld CLK_CFG 7 4 < s.clk.losses.length) then
      clockRecovery (raiseN 0x012 0 (s.setFld CLK_FLAGS 6 6 1))
    else if s.start.trig ≠ 0 then clockRecovery s
    else followUp s (relocked lockTime s)
  else s)

/-- The PLL has not relocked within RELOCK_MAX (R65). -/
def execRelockTimeout (s : State) : Host.Outcome State Fault Refusal :=
  done (if s.clk.waiting && !s.clk.xoFailed && !s.clk.retraining then clockRecovery s else s)

/-- A failed crystal meets R55 again (R65). -/
def execClockFailRecovery (s : State) : Host.Outcome State Fault Refusal :=
  done (if s.clk.waiting && s.clk.xoFailed then clockRecovery s else s)

/-- The sampled Eaves condition has changed at an alignment point (R53, R91). -/
def execEavesDivisorChange (s : State) : Host.Outcome State Fault Refusal :=
  done (if s.live then followUp s (eavesSample s) else s)

/-- A mux switch has found no outgoing edge (R68). -/
def execClkSwForced (s : State) : Host.Outcome State Fault Refusal :=
  done (if s.portOn && !s.inRind then swForced s else s)

/-- A write of 1 to CLK_FLAGS.DRAM_LOST (R67). -/
def execDramLostClear (o : Origin) (s : State) : Host.Outcome State Fault Refusal := done (regWrite o CLK_FLAGS 0x20 s)

/-- The LFDLY delay expires (R70). -/
def execLfoMeasureStart (s : State) : Host.Outcome State Fault Refusal :=
  done (if s.start.phase != .cold && !s.clk.lfValid && !s.clk.lfFail then s.mapClk fun c => { c with lfCounting := true } else s)

/-- The 1024 LFO cycles are counted (R70): `err` is the deviation in units of 100 ppm. -/
def execLfoMeasureDone (err : Int) (s : State) : Host.Outcome State Fault Refusal :=
  done (if s.clk.lfCounting then lfoMeasured err s else s)

/-- The LFO cycles were not counted in time (R70). -/
def execLfoMeasureTimeout (s : State) : Host.Outcome State Fault Refusal :=
  done (if s.clk.lfCounting then
    raiseN 0x011 0 (s.mapClk fun c => { c with lfCounting := false, lfValid := false, lfFail := true }) else s)

/-- The measurement is repeated after a failure (R70). -/
def execLfoRemeasure (s : State) : Host.Outcome State Fault Refusal :=
  done (if s.start.phase != .cold && s.clk.lfFail then s.mapClk fun c => { c with lfCounting := true } else s)

/-- DRAM retraining after an abrupt loss, or the background training after a failed RETRAIN, completes (R64, R67, R198). -/
def execDramRetrainingDone (s : State) : Host.Outcome State Fault Refusal :=
  let t := { s with tbl := { s.tbl with trainCk := s.dramCk }, clk := { s.clk with bgTrain := false } }
  done (if s.clk.waiting && s.clk.retraining then followUp s (resumeGo s t)
    else if s.clk.bgTrain && !s.clk.waiting then t else s)

end Sys2Proof.Machine
end

