-- ==== Sys2Proof/Machine/CmdEgress.lean ====
section
/-! DEFINITION. The commands of tenants, sessions and egress (chapter 21). -/

namespace Sys2Proof.Machine

/-- A write of TEN_MPUB (R459). -/
def execTenMpub (o : Origin) (v : Word) (s : State) : Host.Outcome State Fault Refusal := done (regWrite o TEN_MPUBR v s)

/-- A bulk write of SES_STAGE (R462). -/
def execSesStageWrite (ws : List Word) (s : State) : Host.Outcome State Fault Refusal := done (winWrite SES_STAGE ws s)

/-- SES_CMD WRITE for the session in SES_SEL (R462). -/
def execSesWrite (o : Origin) (s : State) : Host.Outcome State Fault Refusal := done (regWrite o SES_CMD (word (at_ 1 28)) s)

/-- SES_CMD ON (R462). -/
def execSesOn (o : Origin) (s : State) : Host.Outcome State Fault Refusal := done (regWrite o SES_CMD (word (at_ 2 28)) s)

/-- SES_CMD OFF (R462). -/
def execSesOff (o : Origin) (s : State) : Host.Outcome State Fault Refusal := done (regWrite o SES_CMD (word (at_ 3 28)) s)

/-- SES_CMD CLEAR (R462). -/
def execSesClear (o : Origin) (s : State) : Host.Outcome State Fault Refusal := done (regWrite o SES_CMD (word (at_ 4 28)) s)

/-- The next packet leaves: of the host stream when `hp` (R471), else by the scheduler (R472). Each frame that the index record
withholds takes a session out, so the search for a packet ends within their number.
DESIGN CHOICE (notes/assumptions/60.md). -/
def execPacketSend (hp : Bool) (s : State) : Host.Outcome State Fault Refusal :=
  happens (fun s => if hp then hostPacket s else sendPacket (s.egr.sessions.length + 1) s) s

/-- The 100 ms tick (R473). -/
def execEgressTick (s : State) : Host.Outcome State Fault Refusal := happens egressTick s

/-- The oldest queued frame of session `n` has waited QWAIT (R475). -/
def execSesStall (n : Fin 4096) (s : State) : Host.Outcome State Fault Refusal :=
  happens (fun s => if s.live then sesStall n.val s else s) s

end Sys2Proof.Machine
end

