-- ==== Sys2Proof/Machine/CmdGutter.lean ====
section
/-! DEFINITION. The commands of the gutter (chapter 06). -/

namespace Sys2Proof.Machine

/-- The dispatcher takes one capture (R124, R126); a thread in its event wait takes what is presented to it (R137). -/
def execDispatch (s : State) : Host.Outcome State Fault Refusal :=
  done (if !s.live then s
    else match s.nextCapture with
      | some (n, c) => wakeEvents (dispatchCapture n c s)
      | none => s)

/-- A read of GUT_VEC_A, or with `b` of GUT_VEC_B (R128, R136). -/
def execVectorRead (o : Origin) (b : Bool) (s : State) : Host.Outcome State Fault Refusal :=
  done (regRead o (if b then GUT_VEC_B else GUT_VEC_A) s)

/-- A write of GUT_PENDm (R128). -/
def execPendClear (o : Origin) (m : Fin 16) (v : Word) (s : State) : Host.Outcome State Fault Refusal :=
  done (regWrite o (GUT_PEND m.val) v s)

/-- A write of GUT_SRCn (R127, R128, R130, R133). -/
def execGutSrcWrite (o : Origin) (n : Fin 512) (v : Word) (s : State) : Host.Outcome State Fault Refusal :=
  done (regWrite o (GUT_SRC n.val) v s)

/-- A token joins the bucket of source `n`, or is taken at once: by an occurrence suppressed in this same cycle, which no longer
counts as suppressed, else by a summary of what was suppressed. The dispatch carries SUPP and clears it (R126, R130).
DEDUCED (notes/assumptions/70.md). -/
def stormRefill (n : Nat) (s : State) : State :=
  let x := s.src n
  if s.srcStorm n = 0 ∨ 4 ≤ x.tokens then s
  else if x.supp = 0 then s.setSrc n { x with tokens := x.tokens + 1 }
  else if x.suppAt = some s.time then capture n x.lastData 0 (s.setSrc n { x with supp := x.supp - 1, suppAt := none })
  else capture n x.lastData 0 (s.setSrc n { x with sumAt := some s.time })

/-- The refill period of a source's storm limiter ends (R130). -/
def execStormRefill (n : Fin 512) (s : State) : Host.Outcome State Fault Refusal :=
  done (if s.live then stormRefill n.val s else s)

/-- A re-arm pulse ends (R134): of two the one that began first. -/
def execIrqPulseEnd (s : State) : Host.Outcome State Fault Refusal := done { s with gut := s.gut.pulseEnded }

/-- A D5 record has been programmed into the NOR fault journal, or its write has failed (R138). -/
def execJournalRecordWritten (ok : Bool) (s : State) : Host.Outcome State Fault Refusal :=
  done (if s.live then journalWritten ok s else s)

/-- A D6 delivery is sent as a report line (R139). -/
def execReportLine (s : State) : Host.Outcome State Fault Refusal := done (serReport s)

/-- A hand-off of the oldest delivery of drain `d` ends: it counts as delivered, or as lost (R140). -/
def handedOff (d : Nat) (r : Bool × State) : State :=
  if r.1 then r.2.count (GUT_DRAIN d) 31 16 else r.2.count (GUT_DRAIN d) 15 8

/-- The Velva engine takes a D3 delivery (R140, R437). -/
def execAlarmHandoff (s : State) : Host.Outcome State Fault Refusal :=
  done (match s.gut.d3 with
    | d :: t => if s.live then handedOff 3 (alarmHandoff d { s with gut := { s.gut with d3 := t } }) else s
    | [] => s)

/-- The Cellar takes a D4 delivery (R140, R485). -/
def execMarkerHandoff (s : State) : Host.Outcome State Fault Refusal :=
  done (match s.gut.d4 with
    | d :: t => if s.live then handedOff 4 (markerHandoff d { s with gut := { s.gut with d4 := t } }) else s
    | [] => s)

end Sys2Proof.Machine
end

