-- ==== Sys2Proof/Machine/CmdHeat.lean ====
section
/-! DEFINITION. The commands of the heat model and the thermal cut (chapter 19). -/

namespace Sys2Proof.Machine

/-- A heat-model update is due (R401, R402): the nodes advance, WARN, ASK and the cut are judged. -/
def execHeatUpdate (m : HeatMeas) (s : State) : Host.Outcome State Fault Refusal :=
  done (if s.measures then followUp s (cutNow m (heatUpdate m.diode s)) else s)

/-- A write of HEAT_AMB (R404). -/
def execHeatAmbWrite (o : Origin) (v : Word) (s : State) : Host.Outcome State Fault Refusal := done (regWrite o HEAT_AMB v s)

/-- The ambient report is older than 10 s (R404). -/
def execAmbientStale (s : State) : Host.Outcome State Fault Refusal := happens ambientStale s

/-- ASK has held for GRACE (R409). -/
def execHeatEnforce (s : State) : Host.Outcome State Fault Refusal := happens enforceEaves s

/-- T_HOT has stayed low for ENF_HOLD (R410). -/
def execHeatRelease (s : State) : Host.Outcome State Fault Refusal := happens releaseEnforced s

/-- The cool-down has ended (R416): the LFO counts it only while LF_VALID is 1. -/
def execThermalRestart (s : State) : Host.Outcome State Fault Refusal :=
  done (if s.start.phase == .cut && s.clk.lfValid then reset (2 ^ 5) s else s)

end Sys2Proof.Machine
end

