-- ==== Sys2Proof/Machine/CmdHk.lean ====
section
/-! DEFINITION. The commands of the housekeeping converters (chapter 11). -/

namespace Sys2Proof.Machine

/-- A press of some head is in progress. -/
def State.anyPress (s : State) : Bool := (List.range 4).any s.pressNow

/-- A write of HK_TRIGCMD (R226). -/
def execHkTrigcmd (o : Origin) (mask : BitVec 3) (s : State) : Host.Outcome State Fault Refusal :=
  done (regWrite o HK_TRIGCMD (word mask.toNat) s)

/-- The period timer of converter `j` expires (R223). -/
def execHkPeriodTimer (j : Fin 3) (s : State) : Host.Outcome State Fault Refusal := done (hkTimer j.val s)

/-- The trigger delay of converter `j` ends (R222, R227). -/
def execHkRunStart (j : Fin 3) (s : State) : Host.Outcome State Fault Refusal :=
  done (if s.live then hkRunStart s.anyPress j.val s else s)

/-- A conversion ends on converter `j` (R230). -/
def execConversionComplete (j : Fin 3) (m : ConvMeas) (s : State) : Host.Outcome State Fault Refusal :=
  done (if s.live then followUp s (pressFires s (conversionComplete j.val m s)) else s)

/-- The urgent request of channel `ch` in this PWM period (R229, R246). -/
def execUrgentRequest (ch : Fin 4) (s : State) : Host.Outcome State Fault Refusal :=
  done (if s.live then issueUrgent ch.val s else s)

/-- An input's age exceeds its limit (R236). -/
def execHkStale (n : Fin 32) (s : State) : Host.Outcome State Fault Refusal := happens (hkGoesStale n.val) s

/-- The word of HK_DIAG. -/
def diagWord (en : Bool) (n : Fin 32) (code : BitVec 10) : Word := word (at_ (b2n en) 31 + at_ n.val 16 + code.toNat)

/-- A write of HK_DIAG with EN = 1 (R234). -/
def execHkDiagStart (o : Origin) (n : Fin 32) (code : BitVec 10) (s : State) : Host.Outcome State Fault Refusal :=
  done (regWrite o HK_DIAG (diagWord true n code) s)

/-- A write of HK_DIAG with EN = 0 (R235). -/
def execHkDiagStop (o : Origin) (n : Fin 32) (code : BitVec 10) (s : State) : Host.Outcome State Fault Refusal :=
  done (regWrite o HK_DIAG (diagWord false n code) s)

/-- The injection has lasted 100 ms (R235). -/
def execHkDiagEnd (s : State) : Host.Outcome State Fault Refusal := done (if s.live then diagEnds 2 s else s)

/-- A write of HK_xTRIG, or with `per` of HK_xPER (R227, R239). -/
def execHkTrigWrite (o : Origin) (j : Fin 3) (per : Bool) (v : Word) (s : State) : Host.Outcome State Fault Refusal :=
  done (regWrite o (if per then HK_PER j.val else HK_TRIG j.val) v s)

/-- The start-up sequence of every 1 ms (R238): its 13 raw values feed their consumers, and a thermal cut is judged on T_D
(R411). -/
def execStartupSeqTrigger (raws : List Int) (m : HeatMeas) (s : State) : Host.Outcome State Fault Refusal :=
  done (if s.start.phase == .start && s.measures then followUp s (cutNow m (diodeFresh (hkStartup raws s))) else s)

/-- The ripening slot of an idle converter comes (R208, R228). -/
def execRipeningSlot (j : Fin 3) (s : State) : Host.Outcome State Fault Refusal := done (ripeningSlot j.val s)

end Sys2Proof.Machine
end

