-- ==== Sys2Proof/Machine/CmdIntake.lean ====
section
/-! DEFINITION. The commands of sensor intake and of the contexts (chapters 08 and 13). -/

namespace Sys2Proof.Machine

/-! ### Packets -/

/-- A frame-start packet (R270, R271, R276). -/
def execFrameStart (p : StartPacket) (e : PacketErr) (s : State) : Host.Outcome State Fault Refusal := happens (headStart p e) s

/-- A line packet (R266 to R269). -/
def execImageLine (p : LinePacket) (s : State) : Host.Outcome State Fault Refusal := happens (headLine p) s

/-- A frame-end packet after `y` line slots (R268, R269, R276). -/
def execFrameEnd (vc : Nat) (e : PacketErr) (y : Nat) (s : State) : Host.Outcome State Fault Refusal := happens (headEnd vc e y) s

/-- Data types that are handled or silently discarded (R266): frame and line start and end, generic short packets, embedded
data. -/
def quietType (dt : Nat) : Bool := decide (dt ≤ 3) || (decide (0x08 ≤ dt) && decide (dt ≤ 0x0F)) || dt == 0x12

/-- A packet of data type `dt` that is no image line (R266). DEDUCED (notes/assumptions/55.md). -/
def otherPacket (vc dt : Nat) (e : PacketErr) (s : State) : State :=
  if !s.live then s
  else
    let s := packetSeen e s
    let vc := s.vcOf vc
    if !readable e s then s
    else match s.headOfVc vc with
      | none => unmappedPacket vc s
      | some n =>
        if quietType dt || dt == [0x2D, 0x2B, 0x2C].getD (s.headKind n) 0 then s else raiseN 0x0B7 (at_ vc 8 + dt) s

/-- A packet of an unsupported data type on the VC of an enabled head (R266). -/
def execIntDtUnknown (vc : Nat) (dt : BitVec 6) (e : PacketErr) (s : State) : Host.Outcome State Fault Refusal :=
  happens (otherPacket vc dt.toNat e) s

/-- A packet on a VC that no enabled head uses (R266, R277). -/
def strayPacket (vc : Nat) (e : PacketErr) (s : State) : State :=
  if !s.live then s
  else
    let s := packetSeen e s
    let vc := s.vcOf vc
    if readable e s && (s.headOfVc vc).isNone then unmappedPacket vc s else s

/-- A packet on a VC that no enabled head uses (R266). -/
def execIntVcUnmapped (vc : Nat) (e : PacketErr) (s : State) : Host.Outcome State Fault Refusal := happens (strayPacket vc e) s

/-- An initial skew calibration sequence (R265). -/
def execDeskewSequence (s : State) : Host.Outcome State Fault Refusal := done (if s.live then deskewSeen s else s)

/-- LOSS_T has passed without a valid packet from head `n` (R275). -/
def execIntHeadLost (n : Fin 6) (s : State) : Host.Outcome State Fault Refusal := happens (headLost n.val) s

/-- 200 ms have passed without a packet while a head is enabled (R278). -/
def execIntLinkDown (s : State) : Host.Outcome State Fault Refusal :=
  done (if s.live && (List.range 6).any s.headEn then linkDown s else s)

/-- A disagreement of head `n` has lasted DIS_T (R277). -/
def execIntHeadDisagree (n : Fin 6) (s : State) : Host.Outcome State Fault Refusal := done (headDisagrees n.val s)

/-- The substrate sample of every 62.5 ms (R281). -/
def execTelemetrySample (s : State) : Host.Outcome State Fault Refusal := done (sampleSubstrate s)

/-! ### Contexts -/

/-- A write of INT_CnCTL with EN = 1 and PRIO (R173). -/
def execContextEnable (o : Origin) (c : Fin 8) (prio : BitVec 3) (s : State) : Host.Outcome State Fault Refusal :=
  done (regWrite o (INT_CTL c.val) (word (256 + prio.toNat)) s)

/-- A write of INT_CnCTL with EN = 0 and PRIO (R173). -/
def execContextDisable (o : Origin) (c : Fin 8) (prio : BitVec 3) (s : State) : Host.Outcome State Fault Refusal :=
  done (regWrite o (INT_CTL c.val) (word prio.toNat) s)

/-- A write of INT_COMMIT (R170, R172). -/
def execIntCommitWrite (o : Origin) (v : Word) (s : State) : Host.Outcome State Fault Refusal :=
  done (regWrite o INT_COMMIT v s)

/-- The pipeline's run ends (R176, R184); its latency counts from the arrival that the state holds. -/
def execRunEnd (_ : Held) (s : State) : Host.Outcome State Fault Refusal := happens runEnd s

/-! ### Registers of intake -/

/-- A write of INT_HnCFG (R274). -/
def execIntHncfgWrite (o : Origin) (n : Fin 6) (v : Word) (s : State) : Host.Outcome State Fault Refusal :=
  done (regWrite o (INT_HCFG n.val) v s)

/-- A write of INT_LINK (R278). -/
def execIntLinkWrite (o : Origin) (v : Word) (s : State) : Host.Outcome State Fault Refusal := done (regWrite o INT_LINK v s)

/-- A write of INT_MAP (R273). -/
def execIntMapWrite (o : Origin) (v : Word) (s : State) : Host.Outcome State Fault Refusal := done (regWrite o INT_MAP v s)

/-- A write of INT_HnBIAS, or with `iref` of INT_HnIREF (R282, R283). -/
def execBiasWrite (o : Origin) (n : Fin 4) (iref : Bool) (v : Word) (s : State) : Host.Outcome State Fault Refusal :=
  done (regWrite o (if iref then INT_HIREF n.val else INT_HBIAS n.val) v s)

/-! ### Head I2C -/

/-- A write of INT_I2CCMD (R285). -/
def execI2cPush (o : Origin) (v : Word) (s : State) : Host.Outcome State Fault Refusal := done (regWrite o INT_I2CCMD v s)

/-- The I2C command in progress ends with a status and the data read (R286). -/
def execI2cCommandDone (st : Fin 5) (rd : Word) (s : State) : Host.Outcome State Fault Refusal :=
  done (if s.live then i2cDone st.val rd s else s)

/-- A read of INT_I2CRES (R285). -/
def execI2cResultRead (o : Origin) (s : State) : Host.Outcome State Fault Refusal := done (regRead o INT_I2CRES s)

/-! ### Generators -/

/-- PLAY of the generator of context 6 + g (R288). -/
def execPlay (o : Origin) (g : Fin 2) (s : State) : Host.Outcome State Fault Refusal := done (regWrite o (INT_XCMD g.val) 1 s)

/-- The pattern generator's frame period ends (R288). -/
def execGeneratorFrame (g : Fin 2) (s : State) : Host.Outcome State Fault Refusal :=
  happens (fun s => if s.fld (INT_XCFG g.val) 29 28 = 2 then genStart g.val s else s) s

/-- The generator delivers its next line (R288). -/
def execGeneratorLine (g : Fin 2) (s : State) : Host.Outcome State Fault Refusal := happens (genLineDone g.val) s

/-- A bulk write of INT_XLOAD (R289). -/
def execXloadWrite (ws : List Word) (s : State) : Host.Outcome State Fault Refusal := done (winWrite INT_XLOAD ws s)

end Sys2Proof.Machine
end

