-- ==== Sys2Proof/Machine/CmdPort.lean ====
section
/-! DEFINITION. The commands of the control port and of the key store (chapter 05). -/

namespace Sys2Proof.Machine

/-! ### Transactions -/

/-- STATUS (R104): 32 clocks return the status word; further ones return zero. -/
def execStatus (clocks : Nat) (s : State) : Host.Outcome State Fault Refusal := done (cpStatus clocks s)

/-- READ (R107 to R109). -/
def execRead (tag : BitVec 4) (addr : BitVec 24) (clocks : Nat) (s : State) : Host.Outcome State Fault Refusal :=
  done (cpRead tag addr clocks s)

/-- WRITE (R105 to R107). -/
def execWrite (tag : BitVec 4) (addr : BitVec 24) (data crc : Word) (clocks : Nat) (s : State) :
    Host.Outcome State Fault Refusal :=
  done (cpWrite tag addr data crc clocks s)

/-- BULK READ (R107 to R110). -/
def execBulkRead (tag : BitVec 4) (addr : BitVec 24) (len : Word) (clocks : Nat) (s : State) :
    Host.Outcome State Fault Refusal :=
  done (cpBulkRead tag addr len clocks s)

/-- BULK WRITE (R105, R106, R110). -/
def execBulkWrite (tag : BitVec 4) (addr : BitVec 24) (len : Word) (words : List Word) (clocks : Nat) (s : State) :
    Host.Outcome State Fault Refusal :=
  done (cpBulkWrite tag addr len words clocks s)

/-- PAGE READ (R109 to R111). -/
def execPageRead (tag : BitVec 4) (addr : BitVec 24) (len : Word) (clocks : Nat) (s : State) :
    Host.Outcome State Fault Refusal :=
  done (cpPageRead tag addr len clocks s)

/-- PAGE RELEASE (R105, R111). -/
def execPageRelease (tag : BitVec 4) (addr : BitVec 24) (crc : Word) (clocks : Nat) (s : State) :
    Host.Outcome State Fault Refusal :=
  done (cpPageRelease tag addr crc clocks s)

/-- A header with a reserved OP (R104); every reserved value has one effect. -/
def execReservedOp (_op tag : BitVec 4) (addr : BitVec 24) (clocks : Nat) (s : State) : Host.Outcome State Fault Refusal :=
  done (cpReserved tag addr clocks s)

/-! ### Keys -/

/-- A bulk write of KEY_STAGE (R118). -/
def execKeyStageWrite (ws : List Word) (s : State) : Host.Outcome State Fault Refusal := done (winWrite KEY_STAGE ws s)

/-- KEY_CMD with OP = import for a slot and an algorithm (R118). -/
def execKeyImport (o : Origin) (slot : Fin 512) (alg : Fin 4) (s : State) : Host.Outcome State Fault Refusal :=
  done (regWrite o KEY_CMD (word (at_ 1 30 + at_ alg.val 28 + slot.val)) s)

/-- A key import ends (R118). -/
def execKeyImportDone (s : State) : Host.Outcome State Fault Refusal := done (if s.live then keyImported s else s)

/-- KEY_CMD with OP = clear for a slot (R120). -/
def execKeyClear (o : Origin) (slot : Fin 512) (s : State) : Host.Outcome State Fault Refusal :=
  done (regWrite o KEY_CMD (word (at_ 2 30 + slot.val)) s)

/-- KEY_LOCK.LOCK is written 1 (R121). -/
def execKeyLockSet (o : Origin) (s : State) : Host.Outcome State Fault Refusal := done (regWrite o KEY_LOCK 1 s)

end Sys2Proof.Machine
end

