-- ==== Sys2Proof/Machine/CmdPress.lean ====
section
/-! DEFINITION. The commands of the press (chapter 15). -/

namespace Sys2Proof.Machine

/-- A write of PRS_GOn with GO = 1 (R317). -/
def execPrsGo (o : Origin) (n : Fin 4) (s : State) : Host.Outcome State Fault Refusal := done (regWrite o (PRS_GOR n.val) 1 s)

/-- SUN_T · 2^m s have passed (R313). -/
def execSunTimer (n : Fin 4) (s : State) : Host.Outcome State Fault Refusal :=
  done (if s.live then followUp s (sunWaitEnds n.val s) else s)

/-- PRS_CMDn CAPTURE (R328). -/
def execCapture (o : Origin) (n : Fin 4) (s : State) : Host.Outcome State Fault Refusal :=
  done (regWrite o (PRS_CMD n.val) (word (at_ 1 28)) s)

/-- No GO has been accepted within 1.5 s of a capture on command (R328). -/
def execPressCaptureTimeout (s : State) : Host.Outcome State Fault Refusal :=
  done (if s.live then followUp s (captureTimeout s) else s)

/-- PRS_CMDn CANCEL (R316). -/
def execCancel (o : Origin) (n : Fin 4) (s : State) : Host.Outcome State Fault Refusal :=
  done (regWrite o (PRS_CMD n.val) (word (at_ 2 28)) s)

/-- PRS_CMDn SUN_REL (R313). -/
def execSunRel (o : Origin) (n : Fin 4) (s : State) : Host.Outcome State Fault Refusal :=
  done (regWrite o (PRS_CMD n.val) (word (at_ 3 28)) s)

/-- PRS_CMDn FORGET (R326). -/
def execForget (o : Origin) (n : Fin 4) (s : State) : Host.Outcome State Fault Refusal :=
  done (regWrite o (PRS_CMD n.val) (word (at_ 4 28)) s)

end Sys2Proof.Machine
end

