-- ==== Sys2Proof/Machine/CmdRef.lean ====
section
/-! DEFINITION. The commands of the references and trims (chapter 10). -/

namespace Sys2Proof.Machine

/-! ### The reference fault (R204) -/

/-- The reference condition has been wrong for 1 ms. DEDUCED (notes/assumptions/33.md). -/
def execTrimRefFault (s : State) : Host.Outcome State Fault Refusal := done (if s.measures then refFaultSet s else s)

/-- The fault has been absent for 100 ms. DEDUCED (notes/assumptions/33.md). -/
def execRefFaultClear (s : State) : Host.Outcome State Fault Refusal := done (if s.measures && s.trm.refBad.isNone then refFaultClear s else s)

/-! ### Rounds and full runs (R209, R210, R218) -/

/-- A ripening round completes with its measurements, in index order. -/
def execRipeningRound (ms : List TrimMeas) (s : State) : Host.Outcome State Fault Refusal :=
  done (ripeningRound s.chanIdle ms s)

/-- The TRIM_DT test of every 100 ms. -/
def execTrimDtTest (s : State) : Host.Outcome State Fault Refusal := done (trimDtTest s.tNow.1 s)

/-- A full run ends with its measurements. -/
def execTrimFullDone (ms : List TrimMeas) (s : State) : Host.Outcome State Fault Refusal :=
  done (if s.live then fullDone s.chanIdle s.tNow.1 ms s else s)

/-- An item has not been refreshed for 60 s. -/
def execTrimStale (item : Fin 16) (s : State) : Host.Outcome State Fault Refusal :=
  let k := item.val
  done (if s.live && s.trm.stale / 2 ^ k % 2 == 0 then
    raiseN 0x1A7 k { s with trm := { s.trm with stale := s.trm.stale + 2 ^ k } } else s)

/-! ### REF_CMD (R215, R217) -/

def execFull (o : Origin) (s : State) : Host.Outcome State Fault Refusal := done (regWrite o REF_CMD (word (at_ 1 28)) s)
def execApply (o : Origin) (s : State) : Host.Outcome State Fault Refusal := done (regWrite o REF_CMD (word (at_ 2 28)) s)
def execNominal (o : Origin) (s : State) : Host.Outcome State Fault Refusal := done (regWrite o REF_CMD (word (at_ 3 28)) s)
def execAbort (o : Origin) (s : State) : Host.Outcome State Fault Refusal := done (regWrite o REF_CMD (word (at_ 4 28)) s)

/-! ### Trim words and records (R213, R215, R216) -/

/-- A write of REF_TRIMn. -/
def execRefTrimWrite (o : Origin) (item : Fin 16) (v : Word) (s : State) : Host.Outcome State Fault Refusal :=
  done (regWrite o (REF_TRIM item.val) v s)

/-- A bulk write of REF_LOAD. -/
def execRefLoadWrite (ws : List Word) (s : State) : Host.Outcome State Fault Refusal := done (winWrite REF_LOAD ws s)

/-- The 24-word bulk read of REF_SAVE. -/
def execRefSaveRead (s : State) : Host.Outcome State Fault Refusal := done (winRead REF_SAVE 24 s)

end Sys2Proof.Machine
end

