-- ==== Sys2Proof/Machine/CmdStart.lean ====
section
/-! DEFINITION. The commands of start-up, resets, hand-over and Rind (chapter 04), and of the NOR's background work (R98, R539). -/

namespace Sys2Proof.Machine

/-- The start sequencer works on step `n`: not held, not waiting for its clock or for a retry, and RESET_N is high (R80).
DESIGN CHOICE (notes/assumptions/18.md). -/
def State.atStep (s : State) (n : Nat) : Bool :=
  s.start.phase == .start && s.start.step == n && !s.start.waitRetry && !s.start.step1Hold && !s.clk.waiting && !s.start.resetLow

/-- A wake from Rind works on step `n` (R93). -/
def State.atWake (s : State) (n : Nat) : Bool := s.start.phase == .waking && s.start.wakeStep == n && !s.start.waitRetry

/-- A failed step waits for its retry (Table 4.3, steps 1 to 3). -/
def awaitRetry (s : State) : State := { s with start := { s.start with waitRetry := true } }

/-- Step 1 ends: every condition of R39 is met, or a rail has failed (R40, Table 4.3). -/
def execSupplyQualify (failed : Option (Fin 8)) (s : State) : Host.Outcome State Fault Refusal :=
  done (if !s.atStep 1 then s
    else match failed with
    | none =>
      if (s.pwr.acValid || s.pwr.poeValid) && decide (800 ≤ s.pwr.avail) then
        setStep 2 (hsupFollow (passStep 1 1 { s with
          pwr := { s.pwr with pg := 255, busGood := true, busUp := true }, start := { s.start with step1Fails := 0 } }))
      else s
    | some r =>
      let t := failStep 1 { s with pwr := { s.pwr with pg := 0, railFault := true, faultRail := r.val, hsupOn := false } }
      let n := t.start.step1Fails + 1
      let t := { t with start := { t.start with step1Fails := n, waitRetry := decide (n < 3), step1Hold := decide (3 ≤ n) } }
      if 3 ≤ n then holdStart t else t)

/-- Step 2 completes, at a start or at a wake (R55, R93): `amp` is the amplitude in 10 mV. -/
def execCrystalStart (amp : Nat) (s : State) : Host.Outcome State Fault Refusal :=
  let t := s.mapClk fun c => { c with xoOk := true, xoAmp := amp, xoFailed := false }
  done (if s.atStep 2 then setStep 3 (passStep 2 1 t) else if s.atWake 2 then setWake 3 t else s)

/-- Step 3 completes, at a start or at a wake (R56, R93): the lock time in 0.1 µs as CLK_PLL gives it, and the phase error. -/
def execPllLock (lockTime : Nat) (phErr : Int) (s : State) : Host.Outcome State Fault Refusal :=
  let t := s.mapClk fun c => { c with pllLock := true, lockTime, phErr, seqOnRc := false }
  done (if s.atStep 3 then setStep 4 (passStep 3 1 t) else if s.atWake 3 then rindUp t else s)

/-- A training path of step 5 ends (R87). -/
def execDramTrainingDone (ok : Bool) (s : State) : Host.Outcome State Fault Refusal :=
  done (if s.atStep 5 then dramTrained ok s else s)

/-- The check of step 8 ends (R167, Table 4.3). DEDUCED (notes/assumptions/9.md). -/
def recipeChecked (s : State) : State :=
  match s.step8Slot with
  | some k => setStep 9 (passStep 8 1 { s with vat := { s.vat with step8 := some k } })
  | none => setStep 9 (addFallback 0x2000 (failStep 8 s))

/-- A later step completes its work (R75, Table 4.1). The operand says what steps 4 and 10 find.
DEDUCED (notes/assumptions/9.md). -/
def execStartStepDone (r : StepReport) (s : State) : Host.Outcome State Fault Refusal :=
  done (if !s.atStep s.start.step then s
    else match s.start.step, r with
    | 4, .checks dram trims journal => retentionChecked false dram trims journal s
    | 6, .work => enterNor (passStep 6 1 s)
    | 7, .work => norOpened true (passStep 7 1 s)
    | 8, .work => recipeChecked s
    | 9, .work => physReady 0 s
    | 10, .heads answered started => headsProbed answered started s
    | 11, .work => storageReady 0 s
    | _, _ => s)

/-- A step fails (R86, Table 4.3). `bad` names the devices that failed: PHYs in step 9, heads in step 10 of those `answered`,
media in step 11. Steps 2 and 3 fail at a wake too (R93). In step 12 it is the time of a check or calibration that runs out.
DEDUCED (notes/assumptions/9.md). -/
def execStartStepFail (bad answered : Nat) (s : State) : Host.Outcome State Fault Refusal :=
  done (if s.atWake s.start.wakeStep then awaitRetry (failStep s.start.wakeStep s)
    else if !s.atStep s.start.step then s
    else match s.start.step with
    | 2 => awaitRetry (failStep 2 s)
    | 3 => awaitRetry (failStep 3 s)
    | 4 => retentionChecked true false false false s
    | 5 => dramTrained false s
    | 6 => sramFailed s
    | 7 => norOpened false (addFallback 0x1000 (failStep 7 s))
    | 8 => setStep 9 (addFallback 0x2000 (failStep 8 s))
    | 9 => physReady bad s
    | 10 => headsProbed answered (answered - (answered &&& bad)) s
    | 11 => storageReady bad s
    | 12 => calibrated [] (handOver 1) (trimSourceCal s)
    | _ => s)

/-- A failed step 1, 2 or 3 is tried again (Table 4.3). -/
def execStepRetry (s : State) : Host.Outcome State Fault Refusal :=
  done (if s.start.waitRetry then { s with start := { s.start with waitRetry := false } } else s)

/-- The spot check of step 12 ends (R205). -/
def execSpotCheckDone (ms : List TrimMeas) (s : State) : Host.Outcome State Fault Refusal :=
  done (if s.atStep 12 then spotChecked ms (handOver 1) s else s)

/-- The initial calibration of step 12 ends (R206). -/
def execInitialCalibrationDone (ms : List TrimMeas) (s : State) : Host.Outcome State Fault Refusal :=
  done (if s.atStep 12 && s.trimSource == 3 then calibrated ms (handOver 1) s else s)

/-! ### Hand-over and resets -/

/-- A write of START_CTL.HOST_GO (R83, R84). -/
def execHostGo (o : Origin) (s : State) : Host.Outcome State Fault Refusal := done (regWrite o START_CTL 1 s)

/-- A command that writes HOST_GO = 1 without the key of a soft reset. -/
def isHostGo : Instr → Bool
  | .hostGo _ => true
  | .registerWrite _ a v => a.toNat == START_CTL && v == 1
  | .write _ a v _ _ => a.toNat == START_CTL && v == 1
  | _ => false

/-- HOST_WAIT runs out (R85). A HOST_GO that waits behind this command comes in the same instant, and wins (R83).
DEDUCED (notes/assumptions/24.md). -/
def execHostWaitExpiry (s : State) : Host.Outcome State Fault Refusal :=
  done (if s.atStep 13 && s.fld START_HOSTWAIT 15 0 != 0 && !s.start.noStandalone && !(s.pending.head?.any isHostGo) then
    if s.vat.step8.isSome then handOver 2 s
    else raiseN 0x017 0 { s with start := { s.start with noStandalone := true } }
  else s)

/-- A write of the key to START_CTL (R81). -/
def execSoftReset (o : Origin) (s : State) : Host.Outcome State Fault Refusal := done (regWrite o START_CTL 0x50F70000 s)

/-- A low pulse on RESET_N is recognised (R80); it ends a hold in step 1, whose start is tried again. DEDUCED (notes/assumptions/28.md). -/
def execResetNLow (s : State) : Host.Outcome State Fault Refusal :=
  let t := resetTrigger 2 s
  let t := { t with start := { t.start with resetLow := true } }
  done (if t.start.step1Hold then
    setStep 1 { t with start := { t.start with step1Hold := false, step1Fails := 0, waitRetry := false } } else t)

/-- RESET_N rises (R80). The reset of a start that RESET_N has held at the step it began at is released now.
DEDUCED (notes/assumptions/28.md). -/
def execResetNRise (s : State) : Host.Outcome State Fault Refusal :=
  let held := s.start.resetLow && s.start.phase == .start && s.start.seen / 4 % 2 == 1 && s.start.step == firstStep s.start.seen
  let t := if held then { s with start := { s.start with releasedAt := s.time, entryAt := s.time } } else s
  done { t with start := { t.start with resetLow := false } }

/-- A write of START_KICK (R90). -/
def execStartKick (o : Origin) (v : Word) (s : State) : Host.Outcome State Fault Refusal := done (regWrite o START_KICK v s)

/-- HB_T passes without an accepted kick (R90). -/
def execHbHostLost (s : State) : Host.Outcome State Fault Refusal :=
  done (if s.hbArmed && !s.start.hostLost then
    followUp s (raiseN 0x018 0 { s with start := { s.start with hostLost := true } }) else s)

/-- RST_T passes too (R90); beside another trigger it is recorded in the start that this one began (R79). -/
def execWatchdogReset (s : State) : Host.Outcome State Fault Refusal :=
  done (if s.hbArmed && s.start.hostLost && s.flag START_HB 16 || s.start.wdDue && s.early then resetTrigger 3 s else s)

/-! ### Rind -/

/-- A write of START_STATE.RIND_REQ (R92), EAVES_HOST as it stands. -/
def execRindReq (o : Origin) (s : State) : Host.Outcome State Fault Refusal :=
  done (regWrite o START_STATE (putBits (s.reg START_STATE) 0 0 1) s)

/-- The entry into Rind completes (R92). -/
def execRindEntryComplete (s : State) : Host.Outcome State Fault Refusal := done (if s.rindReady then rindEnter s else s)

/-- A wake source other than the timer fires (R93, R94): 0 WAKE_N, 2 CP_CS_N, 3 to 6 a start bit on an enabled UART. -/
def execRindWake (src : Fin 7) (s : State) : Host.Outcome State Fault Refusal :=
  done (if src.val = 1 ∨ (3 ≤ src.val ∧ s.serEn (src.val - 3) = false) then s else wakeSource src.val s)

/-- START_RIND_T expires (R93). -/
def execRindTimerExpiry (s : State) : Host.Outcome State Fault Refusal :=
  done (if s.fld START_RIND_T 19 0 = 0 then s else wakeSource 1 s)

/-! ### NOR -/

/-- A NOR copy of the start journal is programmed, or fails (R98). DEDUCED (notes/assumptions/30.md). -/
def execJournalCopyWritten (ok : Bool) (s : State) : Host.Outcome State Fault Refusal := done (copyWritten ok s)

/-- The sector of the fault ring that waits for its erase is erased: its records are gone.
DEDUCED (notes/assumptions/30.md). -/
def ringErased (s : State) : State :=
  match s.nor.ringErase with
  | none => s
  | some k =>
    let gone := ((List.range 128).filter fun i => s.ringValid (128 * k + i)).length
    { s with nor := { s.nor with
      ring := s.nor.ring.filter fun p => p.1 / 1024 != k, ringBad := s.nor.ringBad.filter fun i => i / 128 != k
      ringCount := s.nor.ringCount - gone, ringErase := none } }

/-- A background sector erase completes (R539): 0 in the fault ring, 1 in the start-journal region, 2 of a cut slot, after hand-over.
DESIGN CHOICE (notes/assumptions/60.md). -/
def execNorEraseDone (which : Fin 3) (s : State) : Host.Outcome State Fault Refusal :=
  done (if !s.portOn then s
    else match which with
    | 0 => ringErased s
    | 1 => { s with nor := s.nor.startErased }
    | 2 => if s.handedOver then cutErase s else s)

end Sys2Proof.Machine
end

