-- ==== Sys2Proof/Machine/CmdUart.lean ====
section
/-! DEFINITION. The commands of the serial ports (chapter 23). -/

namespace Sys2Proof.Machine

/-- A character has been received on UART `u`: the three samples of each of its bits, each as a number of three bits (R506, R507). -/
def execCharacterReceived (u : Fin 4) (samples : List Nat) (s : State) : Host.Outcome State Fault Refusal :=
  done (serReceive u.val samples s)

/-- A read of UART_nRX (R510). -/
def execUartRxRead (o : Origin) (u : Fin 4) (s : State) : Host.Outcome State Fault Refusal := done (regRead o (UART_RX u.val) s)

/-- A bulk read of `n` words of UART_nRXW (R510). -/
def execUartRxwRead (u : Fin 4) (n : Nat) (s : State) : Host.Outcome State Fault Refusal := done (winRead (UART_RXW u.val) n s)

/-- A write of UART_nTX (R511). -/
def execUartTxWrite (o : Origin) (u : Fin 4) (v : Word) (s : State) : Host.Outcome State Fault Refusal :=
  done (regWrite o (UART_TX u.val) v s)

/-- A bulk write of UART_nTXW (R511). -/
def execUartTxwWrite (u : Fin 4) (ws : List Word) (s : State) : Host.Outcome State Fault Refusal :=
  done (winWrite (UART_TXW u.val) ws s)

/-- The last stop bit of the character being sent ends (R512). -/
def execCharacterSent (u : Fin 4) (s : State) : Host.Outcome State Fault Refusal := done (if s.live then serSent u.val s else s)

/-- HOLD ticks have passed (R512). -/
def execDeHoldEnd (u : Fin 4) (s : State) : Host.Outcome State Fault Refusal := done (if s.live then serHoldEnd u.val s else s)

/-- The receiver is idle and TURN bit times have passed (R513). -/
def execTurnEnd (u : Fin 4) (s : State) : Host.Outcome State Fault Refusal := done (if s.live then serTurnEnd u.val s else s)

/-- A write of UART_nABR (R514). -/
def execAbrArm (o : Origin) (u : Fin 4) (v : Word) (s : State) : Host.Outcome State Fault Refusal :=
  done (regWrite o (UART_ABR u.val) v s)

/-- A bit-rate measurement ends (R514): the samples of the character decoded at DIV′, and T in network clocks. -/
def execAutoBaudDone (u : Fin 4) (samples : List Nat) (t : Nat) (s : State) : Host.Outcome State Fault Refusal :=
  done (serMeasured u.val t samples s)

/-- RXD has been idle for IDLE_T bit times (R515). -/
def execIdleTimeout (u : Fin 4) (s : State) : Host.Outcome State Fault Refusal := done (serIdle u.val s)

/-- UART_nCTL RXFLUSH. -/
def execRxflush (o : Origin) (u : Fin 4) (s : State) : Host.Outcome State Fault Refusal := done (regWrite o (UART_CTL u.val) 2 s)

/-- UART_nCTL TXFLUSH. -/
def execTxflush (o : Origin) (u : Fin 4) (s : State) : Host.Outcome State Fault Refusal := done (regWrite o (UART_CTL u.val) 1 s)

end Sys2Proof.Machine
end

