-- ==== Sys2Proof/Machine/CmdVat.lean ====
section
/-! DEFINITION. The instructions of the Vat (Table 7.3) as commands: one command is one instruction that thread `t` issues at its
PC. Last, the instruction that program memory holds there (R144, R146), which the engine's own clock issues. -/

namespace Sys2Proof.Machine

/-! ### Arithmetic and logic (Table 7.3) -/

/-- The signed comparison of two words. -/
def sltW (a b : Word) : Bool := a.slt b

/-- A truth value as a word. -/
def flagW (b : Bool) : Word := if b then 1 else 0

/-- The high 32 bits of the signed product. -/
def mulhW (a b : Word) : Word := wordOfInt (a.toInt * b.toInt / 2 ^ 32)

/-- The shift amount of a register: its bits [4:0]. -/
def shamt (b : Word) : Nat := b.toNat % 32

def vAdd (t rd ra rb : Nat) : State → State := vAlu t rd ra rb fun a b => a + b
def vSub (t rd ra rb : Nat) : State → State := vAlu t rd ra rb fun a b => a - b
def vAnd (t rd ra rb : Nat) : State → State := vAlu t rd ra rb fun a b => a &&& b
def vOr (t rd ra rb : Nat) : State → State := vAlu t rd ra rb fun a b => a ||| b
def vXor (t rd ra rb : Nat) : State → State := vAlu t rd ra rb fun a b => a ^^^ b
def vSll (t rd ra rb : Nat) : State → State := vAlu t rd ra rb fun a b => a <<< shamt b
def vSrl (t rd ra rb : Nat) : State → State := vAlu t rd ra rb fun a b => a >>> shamt b
def vSra (t rd ra rb : Nat) : State → State := vAlu t rd ra rb fun a b => a.sshiftRight (shamt b)
def vSlt (t rd ra rb : Nat) : State → State := vAlu t rd ra rb fun a b => flagW (sltW a b)
def vSltu (t rd ra rb : Nat) : State → State := vAlu t rd ra rb fun a b => flagW (a.ult b)
def vMin (t rd ra rb : Nat) : State → State := vAlu t rd ra rb fun a b => if sltW b a then b else a
def vMax (t rd ra rb : Nat) : State → State := vAlu t rd ra rb fun a b => if sltW a b then b else a
def vMul (t rd ra rb : Nat) : State → State := vAlu t rd ra rb fun a b => a * b
def vMulh (t rd ra rb : Nat) : State → State := vAlu t rd ra rb mulhW
def vAddi (t rd ra : Nat) (imm : BitVec 18) : State → State := vImm t rd ra (imm.signExtend 32) fun a b => a + b
def vAndi (t rd ra : Nat) (imm : BitVec 18) : State → State := vImm t rd ra (imm.zeroExtend 32) fun a b => a &&& b
def vOri (t rd ra : Nat) (imm : BitVec 18) : State → State := vImm t rd ra (imm.zeroExtend 32) fun a b => a ||| b
def vXori (t rd ra : Nat) (imm : BitVec 18) : State → State := vImm t rd ra (imm.zeroExtend 32) fun a b => a ^^^ b
def vSlli (t rd ra : Nat) (imm : BitVec 18) : State → State := vShift t rd ra imm fun a n => a <<< n
def vSrli (t rd ra : Nat) (imm : BitVec 18) : State → State := vShift t rd ra imm fun a n => a >>> n
def vSrai (t rd ra : Nat) (imm : BitVec 18) : State → State := vShift t rd ra imm fun a n => a.sshiftRight n
def vSlti (t rd ra : Nat) (imm : BitVec 18) : State → State :=
  vImm t rd ra (imm.signExtend 32) fun a b => flagW (sltW a b)
def vLui (t rd : Nat) (imm : BitVec 22) : State → State := vSet t rd fun _ => imm.zeroExtend 32 <<< 10

/-! ### Data memory (R149) -/

/-- The byte address of LD and ST. -/
def ldAddr (t ra : Nat) (imm : BitVec 18) (s : State) : Word := s.vreg t ra + imm.signExtend 32

def vLd (t rd ra : Nat) (imm : BitVec 18) : State → State :=
  vMem t (ldAddr t ra imm) fun w s => setV t rd (s.dmem w) s
def vSt (t rd ra : Nat) (imm : BitVec 18) : State → State :=
  vMem t (ldAddr t ra imm) fun w s => setDm w (s.vreg t rd) s

/-- An atomic access: rd takes the old word, the memory `f` of it and rb. -/
def vAmo (t rd ra rb : Nat) (f : Word → Word → Word) : State → State :=
  vMem t (fun s => s.vreg t ra) fun w s => setV t rd (s.dmem w) (setDm w (f (s.dmem w) (s.vreg t rb)) s)
def vAmoadd (t rd ra rb : Nat) : State → State := vAmo t rd ra rb fun old b => old + b
def vAmoswap (t rd ra rb : Nat) : State → State := vAmo t rd ra rb fun _ b => b

/-! ### Control (R157 to R159) -/

/-- HALT: the thread is Halted with its PC at the next instruction; event k = 1.
DEDUCED (notes/assumptions/21.md). -/
def vHalt (t : Nat) : State → State :=
  vInstr t true false fun s =>
    let pc := (s.thread t).pc
    raiseN (0x041 + 8 * t) pc
      (onThread t (fun th => { th with state := .halted, pc := pc + 1, wait := none, stepping := false, yieldFor := [] }) s)

def vBreak (t : Nat) : State → State := vInstr t true false (vTrap t 6)

/-- RTT: back to EPC + 1; outside a handler it traps ILLEGAL (R158). DEDUCED (notes/assumptions/21.md). -/
def vRtt (t : Nat) : State → State :=
  vInstr t true false fun s =>
    let th := s.thread t
    if !th.inTrap then vTrap t 1 s
    else if s.codeWords ≤ th.epc + 1 then vTrap t 2 s
    else vGo t (th.epc + 1) (onThread t (fun th => { th with inTrap := false }) s)

def vBeq (t ra rb : Nat) (off : BitVec 18) : State → State := vBranch t ra rb off fun a b => a == b
def vBne (t ra rb : Nat) (off : BitVec 18) : State → State := vBranch t ra rb off fun a b => a != b
def vBlt (t ra rb : Nat) (off : BitVec 18) : State → State := vBranch t ra rb off sltW
def vBge (t ra rb : Nat) (off : BitVec 18) : State → State := vBranch t ra rb off fun a b => !sltW a b
def vBltu (t ra rb : Nat) (off : BitVec 18) : State → State := vBranch t ra rb off fun a b => a.ult b
def vBgeu (t ra rb : Nat) (off : BitVec 18) : State → State := vBranch t ra rb off fun a b => !a.ult b
def vBcode (t : Nat) (off : BitVec 18) : State → State := vBranchIf t off fun s => (s.thread t).lastCode != 0

/-- A jump that links: beyond the code it traps PC_RANGE and writes nothing (Table 7.5). -/
def vLink (t rd target : Nat) (s : State) : State :=
  if s.codeWords ≤ target then vTrap t 2 s else vGo t target (setV t rd (word ((s.thread t).pc + 1)) s)

def vJal (t rd : Nat) (target : BitVec 14) : State → State := vInstr t true false (vLink t rd target.toNat)
def vJalr (t rd ra : Nat) : State → State := vInstr t true false fun s => vLink t rd (s.vreg t ra).toNat s

/-- The code of SPAWN (R157). -/
def State.spawnCode (s : State) (t u : Nat) (pc : Word) : Code :=
  let st := (s.thread u).state
  firstCode [chk (u == t || !(st == .stopped || st == .halted)) .eState, chk (decide (s.codeWords ≤ pc.toNat)) .eRange]

def vSpawn (t u ra rb : Nat) : State → State :=
  vInstr t true true fun s =>
    let pc := s.vreg t ra
    let v1 := s.vreg t rb
    let c := s.spawnCode t u pc
    vCode t c (if c = .ok then onThread u (fun th => th.begin pc.toNat) (setV u 1 v1 s) else s)

/-- YIELD: every other eligible thread issues first (R144). -/
def vYield (t : Nat) : State → State :=
  vInstr t true true fun s =>
    let others := (List.range 8).filter fun u => u != t && s.eligible u
    vNext t (onThread t (fun th => { th with yieldFor := others }) s)

/-- CSEL: the current context, C0 to C7. -/
def vCsel (t ctx : Nat) : State → State :=
  vInstr t (decide (ctx < 8)) true fun s => vNext t (onThread t (fun th => { th with ctx }) s)

def vCode_ (t rd : Nat) : State → State := vSet t rd fun s => word (s.thread t).lastCode

/-- RDT (Table 7.4). -/
def vRdt (t rd sel : Nat) : State → State :=
  vInstr t true true fun s =>
    match sel with
    | 0 => vNext t (setV t rd (word s.ptpNs) (onThread t (fun th => { th with ptpHi := word s.ptpS }) s))
    | 1 => vNext t (setV t rd (s.thread t).ptpHi s)
    | 2 => vNext t (setV t rd (word s.upTicks) s)
    | _ => vNext t (setV t rd (word t) s)

/-- EMIT n (R156, Table 7.11). -/
def vEmit (t n ra : Nat) : State → State :=
  vInstr t (decide (n < 5)) true fun s => vNext t (raise (0x043 + 8 * t + n) (s.vreg t ra) s)

/-! ### The register bus (R147, R148) -/

/-- A read whose word goes to rd through `f`; with a code other than OK rd is unchanged. -/
def vFetch (t rd a : Nat) (f : Word → Word) (s : State) : State :=
  if h : t < 8 then
    let u := regRead (.vat ⟨t, h⟩) a s
    vCode t u.busCode (if u.busCode = .ok then setV t rd (f (nth 0 u.busData 0)) u else u)
  else s

/-- A write; where it resets the engine, the thread has nothing left to do. DEDUCED (notes/assumptions/23.md). -/
def vStore (t a : Nat) (v : Word) (s : State) : State :=
  if h : t < 8 then
    let u := regWrite (.vat ⟨t, h⟩) a v s
    if u.runs t then vCode t u.busCode u else u
  else s

/-- The byte address of a page and a word offset. -/
def busAddr (page off : Nat) : Nat := page * 0x10000 + off * 4

def vGet (t rd page off : Nat) : State → State := vInstr t true true (vFetch t rd (busAddr page off) id)
def vPut (t rd page off : Nat) : State → State :=
  vInstr t true true fun s => vStore t (busAddr page off) (s.vreg t rd) s
def vGetr (t rd ra : Nat) : State → State :=
  vInstr t true true fun s => vFetch t rd ((s.vreg t ra).toNat % 2 ^ 24) id s
def vPutr (t rd ra : Nat) : State → State :=
  vInstr t true true fun s => vStore t ((s.vreg t ra).toNat % 2 ^ 24) (s.vreg t rd) s

/-- An instruction with a context field; on a context that is not enabled it returns E_CTX (R151), after `off`. -/
def vOnCtx (t ctx : Nat) (legal : Bool) (f : Nat → State → State) (off : Nat → State → State := fun _ s => s) : State → State :=
  vInstr t (legal && decide (ctx < 9)) true fun s =>
    let c := (s.ctxOf t ctx).getD 0
    if s.ctxEnabled c then f c s else vCode t .eCtx (off c s)

def vFnum (t rd ctx : Nat) : State → State := vOnCtx t ctx true fun c => vFetch t rd (INT_FNUM c) id

/-- ANAQ (R151, R400). -/
def vAnaq (t rd ctx sel : Nat) : State → State :=
  vOnCtx t ctx (decide (sel < 3)) fun c s =>
    if !s.flag (ANA_CTL c) 31 then vCode t .eCtx s
    else match sel with
      | 0 => vFetch t rd (ANA_STAT c) (fun w => word (bits w 22 16)) s
      | 1 => vFetch t rd (ANA_OCC c) id s
      | _ => vFetch t rd (ANA_LOIT c) id s

/-- COMMIT: a write of INT_COMMIT (R170, R172). -/
def vCommit (t ctx : Nat) : State → State :=
  vInstr t (decide (ctx < 9)) true fun s => vStore t INT_COMMIT (word (2 ^ (s.ctxOf t ctx).getD 0)) s

def vFire (t ch prof : Nat) : State → State :=
  vInstr t true true (vStore t ACT_CMD (word (at_ 1 28 + at_ ch 16 + at_ prof 11)))
def vHkt (t mask : Nat) : State → State := vInstr t true true (vStore t HK_TRIGCMD (word mask))
def vBank (t tbl : Nat) : State → State := vInstr t true true (vStore t TBL_CMD (word (at_ 2 28 + tbl)))

/-! ### Waits (R151 to R155) -/

/-- WFRM: the sticky form returns at once with the latest frame when its count is not zero; every WFRM that returns, with E_CTX too,
sets its count to 0 (R152). -/
def vWfrm (t rd ctx pt : Nat) (sticky : Bool) : State → State :=
  vOnCtx t ctx true (fun c s =>
    let k := 4 * c + pt
    let n := (s.thread t).count k
    if sticky && n.1 != 0 then
      let s := raiseIf (decide (2 ≤ n.1)) (0x042 + 8 * t) (at_ 2 28 + (n.1 - 1)) s
      vCode t .ok (setV t rd (word n.2) (clearCount t k s))
    else vWait t (.frame rd c pt) s) (fun c => clearCount t (4 * c + pt))

def vWshg (t rd ctx : Nat) : State → State := vOnCtx t ctx true fun c => vWait t (.shingle rd c)

/-- WEVT: a source presented to the thread's D2 is taken at once; else the thread waits, with a time-out unless rb is 0. -/
def vWevt (t rd ra rb : Nat) : State → State :=
  vInstr t true true fun s =>
    match s.d2Source t with
    | some n => takeEvent t rd ra n s
    | none =>
      let n := (s.vreg t rb).toNat
      vWait t (.event rd ra (if n = 0 then none else some (s.upTicks + n))) s

/-- TSET: the timer armed with ra ticks; 0 disarms it (R154). -/
def vTset (t ra : Nat) (periodic : Bool) : State → State :=
  vInstr t true true fun s =>
    let n := (s.vreg t ra).toNat
    vNext t (onThread t (fun th => { th with period := n, periodic, expiry := s.upTicks + n, missed := 0 }) s)

/-- WTIM (R154). -/
def vWtim (t rd : Nat) : State → State :=
  vInstr t true true fun s =>
    let th := s.thread t
    if th.period = 0 then vCode t .eState s
    else if th.missed = 0 then vWait t (.timer rd) s
    else if th.periodic then timerReturn t rd (th.missed - 1) (onThread t (fun th => { th with missed := 0 }) s)
    else timerReturn t rd 0 (onThread t (fun th => { th with missed := 0, period := 0 }) s)

/-! ### The commands -/

section
variable (t : Fin 8) (rd ra rb : Fin 16) (imm off : BitVec 18)

def execAdd (s : State) : Host.Outcome State Fault Refusal := done (vAdd t.val rd.val ra.val rb.val s)
def execSub (s : State) : Host.Outcome State Fault Refusal := done (vSub t.val rd.val ra.val rb.val s)
def execAnd (s : State) : Host.Outcome State Fault Refusal := done (vAnd t.val rd.val ra.val rb.val s)
def execOr (s : State) : Host.Outcome State Fault Refusal := done (vOr t.val rd.val ra.val rb.val s)
def execXor (s : State) : Host.Outcome State Fault Refusal := done (vXor t.val rd.val ra.val rb.val s)
def execSll (s : State) : Host.Outcome State Fault Refusal := done (vSll t.val rd.val ra.val rb.val s)
def execSrl (s : State) : Host.Outcome State Fault Refusal := done (vSrl t.val rd.val ra.val rb.val s)
def execSra (s : State) : Host.Outcome State Fault Refusal := done (vSra t.val rd.val ra.val rb.val s)
def execSlt (s : State) : Host.Outcome State Fault Refusal := done (vSlt t.val rd.val ra.val rb.val s)
def execSltu (s : State) : Host.Outcome State Fault Refusal := done (vSltu t.val rd.val ra.val rb.val s)
def execMin (s : State) : Host.Outcome State Fault Refusal := done (vMin t.val rd.val ra.val rb.val s)
def execMax (s : State) : Host.Outcome State Fault Refusal := done (vMax t.val rd.val ra.val rb.val s)
def execMul (s : State) : Host.Outcome State Fault Refusal := done (vMul t.val rd.val ra.val rb.val s)
def execMulh (s : State) : Host.Outcome State Fault Refusal := done (vMulh t.val rd.val ra.val rb.val s)
def execAddi (s : State) : Host.Outcome State Fault Refusal := done (vAddi t.val rd.val ra.val imm s)
def execAndi (s : State) : Host.Outcome State Fault Refusal := done (vAndi t.val rd.val ra.val imm s)
def execOri (s : State) : Host.Outcome State Fault Refusal := done (vOri t.val rd.val ra.val imm s)
def execXori (s : State) : Host.Outcome State Fault Refusal := done (vXori t.val rd.val ra.val imm s)
def execSlli (s : State) : Host.Outcome State Fault Refusal := done (vSlli t.val rd.val ra.val imm s)
def execSrli (s : State) : Host.Outcome State Fault Refusal := done (vSrli t.val rd.val ra.val imm s)
def execSrai (s : State) : Host.Outcome State Fault Refusal := done (vSrai t.val rd.val ra.val imm s)
def execSlti (s : State) : Host.Outcome State Fault Refusal := done (vSlti t.val rd.val ra.val imm s)
def execLui (imm22 : BitVec 22) (s : State) : Host.Outcome State Fault Refusal := done (vLui t.val rd.val imm22 s)
def execLd (s : State) : Host.Outcome State Fault Refusal := done (vLd t.val rd.val ra.val imm s)
def execSt (s : State) : Host.Outcome State Fault Refusal := done (vSt t.val rd.val ra.val imm s)
def execAmoadd (s : State) : Host.Outcome State Fault Refusal := done (vAmoadd t.val rd.val ra.val rb.val s)
def execAmoswap (s : State) : Host.Outcome State Fault Refusal := done (vAmoswap t.val rd.val ra.val rb.val s)
def execHalt (s : State) : Host.Outcome State Fault Refusal := done (vHalt t.val s)
def execBreak (s : State) : Host.Outcome State Fault Refusal := done (vBreak t.val s)
def execRtt (s : State) : Host.Outcome State Fault Refusal := done (vRtt t.val s)
def execBeq (s : State) : Host.Outcome State Fault Refusal := done (vBeq t.val ra.val rb.val off s)
def execBne (s : State) : Host.Outcome State Fault Refusal := done (vBne t.val ra.val rb.val off s)
def execBlt (s : State) : Host.Outcome State Fault Refusal := done (vBlt t.val ra.val rb.val off s)
def execBge (s : State) : Host.Outcome State Fault Refusal := done (vBge t.val ra.val rb.val off s)
def execBltu (s : State) : Host.Outcome State Fault Refusal := done (vBltu t.val ra.val rb.val off s)
def execBgeu (s : State) : Host.Outcome State Fault Refusal := done (vBgeu t.val ra.val rb.val off s)
def execJal (target : BitVec 14) (s : State) : Host.Outcome State Fault Refusal := done (vJal t.val rd.val target s)
def execJalr (s : State) : Host.Outcome State Fault Refusal := done (vJalr t.val rd.val ra.val s)
def execBcode (s : State) : Host.Outcome State Fault Refusal := done (vBcode t.val off s)
def execSpawn (u : Fin 8) (s : State) : Host.Outcome State Fault Refusal := done (vSpawn t.val u.val ra.val rb.val s)
def execFnum (ctx : Fin 16) (s : State) : Host.Outcome State Fault Refusal := done (vFnum t.val rd.val ctx.val s)
def execRdt (sel : Fin 4) (s : State) : Host.Outcome State Fault Refusal := done (vRdt t.val rd.val sel.val s)
def execGet (page : BitVec 8) (word14 : BitVec 14) (s : State) : Host.Outcome State Fault Refusal :=
  done (vGet t.val rd.val page.toNat word14.toNat s)
def execPut (page : BitVec 8) (word14 : BitVec 14) (s : State) : Host.Outcome State Fault Refusal :=
  done (vPut t.val rd.val page.toNat word14.toNat s)
def execGetr (s : State) : Host.Outcome State Fault Refusal := done (vGetr t.val rd.val ra.val s)
def execPutr (s : State) : Host.Outcome State Fault Refusal := done (vPutr t.val rd.val ra.val s)
def execCode (s : State) : Host.Outcome State Fault Refusal := done (vCode_ t.val rd.val s)
def execWfrm (ctx : Fin 16) (pt : Fin 4) (sticky : Bool) (s : State) : Host.Outcome State Fault Refusal :=
  done (vWfrm t.val rd.val ctx.val pt.val sticky s)
def execWshg (ctx : Fin 16) (s : State) : Host.Outcome State Fault Refusal := done (vWshg t.val rd.val ctx.val s)
def execWevt (s : State) : Host.Outcome State Fault Refusal := done (vWevt t.val rd.val ra.val rb.val s)
def execTset (periodic : Bool) (s : State) : Host.Outcome State Fault Refusal := done (vTset t.val ra.val periodic s)
def execWtim (s : State) : Host.Outcome State Fault Refusal := done (vWtim t.val rd.val s)
def execYield (s : State) : Host.Outcome State Fault Refusal := done (vYield t.val s)
def execCsel (ctx : Fin 16) (s : State) : Host.Outcome State Fault Refusal := done (vCsel t.val ctx.val s)
def execCommit (ctx : Fin 16) (s : State) : Host.Outcome State Fault Refusal := done (vCommit t.val ctx.val s)
def execFire (ch : Fin 4) (prof : Fin 32) (s : State) : Host.Outcome State Fault Refusal :=
  done (vFire t.val ch.val prof.val s)
def execHkt (mask : BitVec 3) (s : State) : Host.Outcome State Fault Refusal := done (vHkt t.val mask.toNat s)
def execBank (tbl : BitVec 8) (s : State) : Host.Outcome State Fault Refusal := done (vBank t.val tbl.toNat s)
def execAnaq (ctx : Fin 16) (sel : Fin 4) (s : State) : Host.Outcome State Fault Refusal :=
  done (vAnaq t.val rd.val ctx.val sel.val s)
def execEmit (n : Fin 8) (s : State) : Host.Outcome State Fault Refusal := done (vEmit t.val n.val ra.val s)

/-- The time-out of an event wait expires (R153): a source presented by then is taken, else rd is 0. -/
def execWevtTimeout (s : State) : Host.Outcome State Fault Refusal :=
  done (if !s.live then s
    else match (s.thread t.val).wait with
      | some (.event rd ra (some _)) =>
        match s.d2Source t.val with
        | some n => takeEvent t.val rd ra n s
        | none => vNext t.val (setV t.val rd 0 s)
      | _ => s)

/-- A thread timer expires (R154, R155). -/
def execThreadTimerExpiry (s : State) : Host.Outcome State Fault Refusal :=
  done (if s.live then timerExpire t.val s else s)

end

/-! ### Instructions from program memory (R144, R146) -/

/-- The bits of an instruction word that its opcode reserves (Tables 7.2 and 7.3); all of them for a reserved opcode.
DEDUCED (notes/assumptions/21.md). -/
def vReserved (op : Nat) : Nat :=
  if (1 ≤ op ∧ op ≤ 0x0E) ∨ op = 0x1B ∨ op = 0x1C ∨ op = 0x33 then 0x3FFF
  else if (0x10 ≤ op ∧ op ≤ 0x1A) ∨ (0x20 ≤ op ∧ op ≤ 0x25) ∨ op = 0x2C ∨ op = 0x2D then 0
  else if op = 0x1D ∨ op = 0x1E ∨ op = 0x1F ∨ op = 0x36 then 0x3FFFFFF
  else if op = 0x26 then 0x3FC000
  else if op = 0x27 ∨ op = 0x2E ∨ op = 0x2F then 0x3FFFF
  else if op = 0x28 then 0x3FC0000
  else if op = 0x29 then 0x3C007FF
  else if op = 0x2A ∨ op = 0x32 then 0x3C3FFF
  else if op = 0x2B then 0x3FCFFF
  else if op = 0x30 ∨ op = 0x35 then 0x3FFFFF
  else if op = 0x31 then 0x3C07FF
  else if op = 0x34 then 0x3C3DFFF
  else if op = 0x38 ∨ op = 0x39 then 0x3FC3FFF
  else if op = 0x3A then 0x3FC07FF
  else if op = 0x3B then 0x3FC7FFF
  else if op = 0x3C then 0x3FC03FF
  else if op = 0x3D then 0x3C0FFF
  else if op = 0x3E then 0x3C07FFF
  else 0xFFFFFFFF

/-- An instruction that traps ILLEGAL before any effect. DEDUCED (notes/assumptions/21.md). -/
def vIllegal (t : Nat) : State → State := vInstr t false false id

/-- The instruction of opcode `op` with the fields of the word `w` (Table 5.3); an opcode without an instruction traps.
DESIGN CHOICE (notes/assumptions/20.md). -/
def vatOp (t op a b c : Nat) (imm : BitVec 18) (w : Word) : State → State :=
  match op with
  | 0x01 => vAdd t a b c | 0x02 => vSub t a b c | 0x03 => vAnd t a b c | 0x04 => vOr t a b c
  | 0x05 => vXor t a b c | 0x06 => vSll t a b c | 0x07 => vSrl t a b c | 0x08 => vSra t a b c
  | 0x09 => vSlt t a b c | 0x0A => vSltu t a b c | 0x0B => vMin t a b c | 0x0C => vMax t a b c
  | 0x0D => vMul t a b c | 0x0E => vMulh t a b c
  | 0x10 => vAddi t a b imm | 0x11 => vAndi t a b imm | 0x12 => vOri t a b imm | 0x13 => vXori t a b imm
  | 0x14 => vSlli t a b imm | 0x15 => vSrli t a b imm | 0x16 => vSrai t a b imm | 0x17 => vSlti t a b imm
  | 0x18 => vLui t a (BitVec.ofNat 22 w.toNat) | 0x19 => vLd t a b imm | 0x1A => vSt t a b imm
  | 0x1B => vAmoadd t a b c | 0x1C => vAmoswap t a b c
  | 0x1D => vHalt t | 0x1E => vBreak t | 0x1F => vRtt t
  | 0x20 => vBeq t a b imm | 0x21 => vBne t a b imm | 0x22 => vBlt t a b imm | 0x23 => vBge t a b imm
  | 0x24 => vBltu t a b imm | 0x25 => vBgeu t a b imm
  | 0x26 => vJal t a (BitVec.ofNat 14 w.toNat) | 0x27 => vJalr t a b | 0x28 => vBcode t imm
  | 0x29 => vSpawn t (bits w 13 11) b c | 0x2A => vFnum t a c | 0x2B => vRdt t a (bits w 13 12)
  | 0x2C => vGet t a (bits w 21 14) (bits w 13 0) | 0x2D => vPut t a (bits w 21 14) (bits w 13 0)
  | 0x2E => vGetr t a b | 0x2F => vPutr t a b | 0x30 => vCode_ t a
  | 0x31 => vWfrm t a c (bits w 13 12) (bit w 11) | 0x32 => vWshg t a c | 0x33 => vWevt t a b c
  | 0x34 => vTset t b (bit w 13) | 0x35 => vWtim t a | 0x36 => vYield t
  | 0x38 => vCsel t c | 0x39 => vCommit t c | 0x3A => vFire t (bits w 17 16) (bits w 15 11)
  | 0x3B => vHkt t (bits w 17 15) | 0x3C => vBank t (bits w 17 10) | 0x3D => vAnaq t a c (bits w 13 12)
  | 0x3E => vEmit t (bits w 17 15) b
  | _ => vIllegal t

/-- Thread `t` issues the instruction word `w` (Tables 7.2 and 7.3). -/
def vatRun (t : Nat) (w : Word) : State → State :=
  if w.toNat &&& vReserved (bits w 31 26) != 0 then vIllegal t
  else vatOp t (bits w 31 26) (bits w 25 22) (bits w 21 18) (bits w 17 14) (BitVec.ofNat 18 w.toNat) w

/-- The next thread in order issues the instruction at its PC.
DESIGN CHOICE (notes/assumptions/2.md), DESIGN CHOICE (notes/assumptions/20.md). -/
def vatIssue (s : State) : State :=
  match s.nextThread with
  | some t => vatRun t (memGet zeroes s.vat.pm (s.thread t).pc) s
  | none => s

end Sys2Proof.Machine
end

