-- ==== Sys2Proof/Machine/CmdVatHost.lean ====
section
/-! DEFINITION. The commands that act on the Vat from outside: thread control, registers, images and their store (R159 to R168). -/

namespace Sys2Proof.Machine

/-- VAT_TCTL START of thread `t` at `pc` (R159). -/
def execThreadStart (o : Origin) (t : Fin 8) (pc : BitVec 14) (s : State) : Host.Outcome State Fault Refusal :=
  done (regWrite o (VAT_TCTL t.val) (word (at_ 1 28 + pc.toNat)) s)

/-- VAT_TCTL STOP (R161). -/
def execThreadStop (o : Origin) (t : Fin 8) (s : State) : Host.Outcome State Fault Refusal :=
  done (regWrite o (VAT_TCTL t.val) (word (at_ 2 28)) s)

/-- VAT_TCTL RESUME (R159). -/
def execThreadResume (o : Origin) (t : Fin 8) (s : State) : Host.Outcome State Fault Refusal :=
  done (regWrite o (VAT_TCTL t.val) (word (at_ 3 28)) s)

/-- VAT_TCTL STEP (R159). -/
def execThreadStep (o : Origin) (t : Fin 8) (s : State) : Host.Outcome State Fault Refusal :=
  done (regWrite o (VAT_TCTL t.val) (word (at_ 4 28)) s)

/-- A write of a thread register (R162). -/
def execVatRegWrite (o : Origin) (t : Fin 8) (r : Fin 16) (v : Word) (s : State) : Host.Outcome State Fault Refusal :=
  done (regWrite o (VAT_TV t.val r.val) v s)

/-- A bulk write of image words (R163). -/
def execVatLoadWrite (ws : List Word) (s : State) : Host.Outcome State Fault Refusal := done (winWrite VAT_LOAD ws s)

/-- VAT_CMD CHECK of the staging window, or with `nor` of the NOR slot that step 8 would choose (R164). -/
def execCheck (o : Origin) (nor start : Bool) (s : State) : Host.Outcome State Fault Refusal :=
  done (regWrite o VAT_CMD (word (at_ 1 28 + at_ (b2n nor) 1 + b2n start)) s)

/-- Long operation 6 ends with the code of its check (R164, R165). -/
def execRecipeCheckDone (s : State) : Host.Outcome State Fault Refusal :=
  done (match s.cp.op with
    | some op =>
      if s.live && op.id == 6 then
        let r := checkImage (op.arg / 2) (op.arg % 2 == 1) s
        followUp s (endOp r.1 r.2)
      else s
    | none => s)

/-- VAT_CMD STOPALL (R168). -/
def execStopall (o : Origin) (s : State) : Host.Outcome State Fault Refusal :=
  done (regWrite o VAT_CMD (word (at_ 2 28)) s)

/-- VAT_CMD CLEAR (R168). -/
def execClear (o : Origin) (s : State) : Host.Outcome State Fault Refusal :=
  done (regWrite o VAT_CMD (word (at_ 3 28)) s)

/-- VAT_CMD STORE (R166). -/
def execStore (o : Origin) (s : State) : Host.Outcome State Fault Refusal :=
  done (regWrite o VAT_CMD (word (at_ 4 28)) s)

/-- The store of an image ends (R166): the slot it wrote becomes valid, or STORE_FAIL sets. -/
def execImageStoreDone (ok : Bool) (s : State) : Host.Outcome State Fault Refusal :=
  done (if !(s.live && s.vat.storeBusy) then s
    else
      let v := { s.vat with storeBusy := false, storeFail := !ok, storeWords := [] }
      let w := some s.vat.storeWords
      { s with vat := if !ok then v else if v.storeSlot = 2 then { v with slotA := w } else { v with slotB := w } })

end Sys2Proof.Machine
end

