-- ==== Sys2Proof/Machine/CmdVelva.lean ====
section
/-! DEFINITION. The commands of the switch and the Velva chain (chapter 20), buddy frames (chapter 22) among them. -/

namespace Sys2Proof.Machine

/-! ### The switch and its time -/

/-- A Velva frame that port `p` has received, with a right CRC (R431 to R436): it is counted, and its type says the rest. -/
def velvaTake (p : Nat) (v : VFrame) (s : State) : State :=
  let r := velvaArrive p v s
  if !r.1 then r.2
  else match v.ty with
    | 7 => buddyAcked p v (velvaHandle p v r.2)
    | 10 => buddyData p v r.2
    | 11 => buddyCtl p v r.2
    | _ => velvaHandle p v r.2

/-- A frame is received on port `p` (R421); `damaged`: by an FCS or symbol error (R434). -/
def execEthernetFrame (p : Fin 3) (bytes : List Nat) (damaged : Bool) (s : State) : Host.Outcome State Fault Refusal :=
  let f (s : State) : State := match ethernetFrame p.val bytes damaged s with
    | (some v, t) => velvaTake p.val v t
    | (none, t) => t
  happens f s

/-- A write of SW_PTP_SETLO (R425). -/
def execSwPtpSetlo (o : Origin) (v : Word) (s : State) : Host.Outcome State Fault Refusal := done (regWrite o SW_PTP_SETLO v s)

/-- A write of SW_PTP_ADJ (R425). -/
def execSwPtpAdj (o : Origin) (v : Word) (s : State) : Host.Outcome State Fault Refusal := done (regWrite o SW_PTP_ADJ v s)

/-- A read of SW_PTP_LO (R425). -/
def execPtpTimeRead (o : Origin) (s : State) : Host.Outcome State Fault Refusal := done (regRead o SW_PTP_LO s)

/-- The second of P2P mode (R426). -/
def execPdelayReq (s : State) : Host.Outcome State Fault Refusal := happens (fun s => if s.swUp then pdelayReq s else s) s

/-- A link of port `p` comes up (R430). A PHY left out of service has none; 100 Mbit/s needs SPD100 (Table 20.1).
DEDUCED (notes/assumptions/63.md). -/
def execSwLinkUp (p : Fin 3) (g1000 : Bool) (s : State) : Host.Outcome State Fault Refusal :=
  happens (fun s => if s.start.phyOff.testBit p.val || (!g1000 && !s.flag (SW_PCTL p.val) 26) then s else swLinkUp p.val g1000 s) s

/-- The link of port `p` is declared down (R430). -/
def execSwLinkDown (p : Fin 3) (s : State) : Host.Outcome State Fault Refusal := happens (swLinkDown p.val) s

/-! ### Velva frames received -/

/-- A ROLLCALL arrives (R447, R448). -/
def execRollcall (p : Fin 2) (v : VFrame) (s : State) : Host.Outcome State Fault Refusal :=
  happens (velvaTake p.val { v with ty := 1 }) s

/-- An RC_ENTRY arrives (R432, R448). -/
def execRcEntry (p : Fin 2) (v : VFrame) (s : State) : Host.Outcome State Fault Refusal :=
  happens (velvaTake p.val { v with ty := 2 }) s

/-- An RC_END arrives (R448). -/
def execRcEnd (p : Fin 2) (v : VFrame) (s : State) : Host.Outcome State Fault Refusal :=
  happens (velvaTake p.val { v with ty := 3 }) s

/-- A GOSSIP arrives (R429, R449). -/
def execGossip (p : Fin 2) (v : VFrame) (s : State) : Host.Outcome State Fault Refusal :=
  happens (velvaTake p.val { v with ty := 4 }) s

/-- A BEACON arrives (R450). -/
def execBeacon (p : Fin 2) (v : VFrame) (s : State) : Host.Outcome State Fault Refusal :=
  happens (velvaTake p.val { v with ty := 5 }) s

/-- An ALARM arrives (R440). -/
def execAlarm (p : Fin 2) (v : VFrame) (s : State) : Host.Outcome State Fault Refusal :=
  happens (velvaTake p.val { v with ty := 6 }) s

/-- A HOP_ACK arrives (R433, R495). -/
def execHopAck (p : Fin 2) (v : VFrame) (s : State) : Host.Outcome State Fault Refusal :=
  happens (velvaTake p.val { v with ty := 7 }) s

/-- A LINK_EVT arrives (R445). -/
def execLinkEvt (p : Fin 2) (v : VFrame) (s : State) : Host.Outcome State Fault Refusal :=
  happens (velvaTake p.val { v with ty := 8 }) s

/-- A RING_CTL arrives (R444). -/
def execRingCtl (p : Fin 2) (v : VFrame) (s : State) : Host.Outcome State Fault Refusal :=
  happens (velvaTake p.val { v with ty := 9 }) s

/-- A PROBE arrives (R433). -/
def execProbe (p : Fin 2) (v : VFrame) (s : State) : Host.Outcome State Fault Refusal :=
  happens (velvaTake p.val { v with ty := 12 }) s

/-- A BUDDY_CTL arrives (R494). -/
def execBuddyCtl (p : Fin 2) (v : VFrame) (s : State) : Host.Outcome State Fault Refusal :=
  happens (velvaTake p.val { v with ty := 11 }) s

/-- A BUDDY_DATA arrives (R495). -/
def execBuddyData (p : Fin 2) (v : VFrame) (s : State) : Host.Outcome State Fault Refusal :=
  happens (velvaTake p.val { v with ty := 10 }) s

/-! ### Timers -/

/-- The `k`-th attempt under way has waited 2 ms (R433). -/
def execHopAckTimeout (k : Nat) (s : State) : Host.Outcome State Fault Refusal :=
  happens (fun s => if s.swUp then attemptTimeout k s else s) s

/-- The `k`-th alarm that is repeated on an UPLINK port is sent again (R437). -/
def execAlarmResend (k : Nat) (s : State) : Host.Outcome State Fault Refusal :=
  happens (fun s => if s.swUp then alarmResend k s else s) s

/-- The 100 ms of a quarantined port (R436). -/
def execProbeTimer (p : Fin 2) (s : State) : Host.Outcome State Fault Refusal := happens (probeTimer p.val) s

/-- GOSSIP_T has passed (R449). -/
def execGossipTimer (s : State) : Host.Outcome State Fault Refusal := happens sendGossip s

/-- The port a BEACON names: the lowest by which UPLINK_OWN holds (Table 20.4). -/
def State.uplinkPort (s : State) : Nat := b2n !(s.role 0 == 2 && s.portUp 0 && (s.swPort 0).fwd == 0)

/-- The 100 ms of a unit with UPLINK_OWN (R450). DEDUCED (notes/assumptions/64.md). -/
def execBeaconTimer (s : State) : Host.Outcome State Fault Refusal :=
  happens (fun s => if s.vlvEn && s.uplinkOwn then flood 5 (toBe s.uplinkPort 4) s else s) s

/-- No BEACON has come within UPLINK_T (R450). -/
def execVlvUplinkLost (s : State) : Host.Outcome State Fault Refusal :=
  happens (fun s => if s.vlvEn && s.swUp then onVlv (fun x => { x with beacon := false }) s else s) s

/-- A disagreement of kind 1 to 4 has lasted DISAGREE_T (R451): on port `k`, or for kind 3 of gossip index `k`. -/
def execVlvDisagree (kind : Fin 4) (k : Nat) (s : State) : Host.Outcome State Fault Refusal :=
  happens (fun s => if s.swUp then velvaDisagree (kind.val + 1) k s else s) s

/-- No RING_CTL within 2 s (R443). -/
def execVelvaOnlyTimeout (p : Fin 2) (s : State) : Host.Outcome State Fault Refusal :=
  done (if (s.swPort p.val).velvaOnly && s.portUp p.val then raiseN 0x1CD (at_ p.val 24 + 0xF) s else s)

/-- The 50 ms after a LINK_EVT with UP have passed at the head (R443). DEDUCED (notes/assumptions/64.md). -/
def execAutoRollcall (s : State) : Host.Outcome State Fault Refusal :=
  happens (fun s => if s.vlv.autoRc && s.swUp then
      (if s.isHead && s.vlvEn && !s.vlv.rcBusy then startSearch s else onVlv (fun x => { x with autoRc := false }) s)
    else s) s

/-- 600 ms of a search (R448). -/
def execRollcallTimeout (s : State) : Host.Outcome State Fault Refusal :=
  happens (fun s => if s.vlv.rcBusy && s.swUp then rollcallTimeout s else s) s

/-- No frame with HOPS = 0 for three gossip intervals (R452). DEDUCED (notes/assumptions/63.md). -/
def execObservedReachableLost (p : Fin 2) (s : State) : Host.Outcome State Fault Refusal :=
  happens (fun s => if s.swUp && (s.swPort p.val).obsOk then buddyPortLost p.val (onSwPort p.val (fun x => { x with obsOk := false }) s)
    else s) s

/-! ### Register commands -/

/-- VLV_RC_CMD START (R446). -/
def execStart (o : Origin) (s : State) : Host.Outcome State Fault Refusal := done (regWrite o VLV_RC_CMD (word (at_ 1 28)) s)

/-- VLV_RC_CMD ABORT (R446). -/
def execRcAbort (o : Origin) (s : State) : Host.Outcome State Fault Refusal := done (regWrite o VLV_RC_CMD (word (at_ 2 28)) s)

/-- VLV_GCMD FORGET of gossip entry `k` (R449). -/
def execForgetEntry (o : Origin) (k : BitVec 8) (s : State) : Host.Outcome State Fault Refusal :=
  done (regWrite o VLV_GCMD (word (at_ 1 28 + k.toNat)) s)

/-- VLV_GCMD FORGET all (R449). -/
def execForgetAll (o : Origin) (s : State) : Host.Outcome State Fault Refusal := done (regWrite o VLV_GCMD (word (at_ 2 28)) s)

/-- SW_PnCLR.CNT_CLR (R436). -/
def execCntClr (o : Origin) (p : Fin 3) (s : State) : Host.Outcome State Fault Refusal := done (regWrite o (SW_PCLR p.val) 1 s)

end Sys2Proof.Machine
end

