-- ==== Sys2Proof/Machine/CmdVideo.lean ====
section
/-! DEFINITION. The commands of rendering, output ports, the encoder and analysis (chapters 16 to 18). -/

namespace Sys2Proof.Machine

/-- A word with bit 31, the EN bit of several registers, set or cleared. -/
def withEn (en : Bool) (v : Word) : Word := putBits v 31 31 (b2n en)

/-! ### Rendering and output ports -/

/-- A mapping build of context `c` completes (R338). -/
def execAgcBuildDone (c : Fin 8) (s : State) : Host.Outcome State Fault Refusal :=
  done (if s.live then agcBuilt c.val s else s)

/-- A write of RND_WPUB (R350). -/
def execRndWpub (o : Origin) (v : Word) (s : State) : Host.Outcome State Fault Refusal := done (regWrite o RND_WPUBR v s)

/-- A write of OUT_PnCTL with EN = 1 (R352); the other fields as in `v`. -/
def execPortEnable (o : Origin) (p : Fin 8) (v : Word) (s : State) : Host.Outcome State Fault Refusal :=
  done (regWrite o (OUT_CTL p.val) (withEn true v) s)

/-- A write of OUT_PnCTL with EN = 0 (R361). -/
def execPortDisable (o : Origin) (p : Fin 8) (v : Word) (s : State) : Host.Outcome State Fault Refusal :=
  done (regWrite o (OUT_CTL p.val) (withEn false v) s)

/-! ### Encoder -/

/-- The stripe in service is coded with `len` bytes so far for the frame, `nals` being the sizes of its NAL units (R368). -/
def execEncoderStripeDone (len : Nat) (nals : List Nat) (s : State) : Host.Outcome State Fault Refusal :=
  happens (stripeDone len nals) s

/-- ENC_EnCMD.IDR (R367). -/
def execIdr (o : Origin) (e : Fin 16) (s : State) : Host.Outcome State Fault Refusal := done (regWrite o (ENC_CMD e.val) 1 s)

/-- ENC_EnCMD.SNAP (R374). -/
def execSnap (o : Origin) (e : Fin 16) (s : State) : Host.Outcome State Fault Refusal := done (regWrite o (ENC_CMD e.val) 2 s)

/-- A write of ENC_EnRC (R365). -/
def execEncRcWrite (o : Origin) (e : Fin 16) (v : Word) (s : State) : Host.Outcome State Fault Refusal :=
  done (regWrite o (ENC_RC e.val) v s)

/-! ### Analysis -/

/-- The analysis of a frame of context `c` completes (R379). -/
def execAnalysisResult (c : Fin 8) (s : State) : Host.Outcome State Fault Refusal :=
  done (if s.serves then anaResult c.val s else s)

/-- A write of ANA_CnCTL with EN = 1 (R381). -/
def execAnalysisEnable (o : Origin) (c : Fin 8) (v : Word) (s : State) : Host.Outcome State Fault Refusal :=
  done (regWrite o (ANA_CTL c.val) (withEn true v) s)

/-- A write of ANA_CnCTL with EN = 0 (R399). -/
def execAnalysisDisable (o : Origin) (c : Fin 8) (v : Word) (s : State) : Host.Outcome State Fault Refusal :=
  done (regWrite o (ANA_CTL c.val) (withEn false v) s)

/-- ANA_CnPUB HOMOG (R390). -/
def execHomog (o : Origin) (c : Fin 8) (s : State) : Host.Outcome State Fault Refusal := done (regWrite o (ANA_PUB c.val) 1 s)

/-- ANA_CnPUB ZONES (R394). -/
def execZones (o : Origin) (c : Fin 8) (s : State) : Host.Outcome State Fault Refusal := done (regWrite o (ANA_PUB c.val) 2 s)

/-- A bulk read of `n` words of ANA_TDATA (R398). -/
def execTrackRead (n : Nat) (s : State) : Host.Outcome State Fault Refusal := done (winRead ANA_TDATA n s)

end Sys2Proof.Machine
end

