-- ==== Sys2Proof/Machine/Dispatch.lean ====
section
/-! DEFINITION. The dispatch of a command to its meaning: one arm for each constructor of Instr. -/

namespace Sys2Proof.Machine

def exec (i : Instr) (s : State) : Host.Outcome State Fault Refusal :=
  match i with
  | .registerWrite o a v => Sys2Proof.Machine.execRegisterWrite o a v s
  | .w1cWrite o a v => Sys2Proof.Machine.execW1cWrite o a v s
  | .rcRead o a => Sys2Proof.Machine.execRcRead o a s
  | .acInputValid => Sys2Proof.Machine.execAcInputValid s
  | .acInputInvalid => Sys2Proof.Machine.execAcInputInvalid s
  | .poeInputValid cls type events => Sys2Proof.Machine.execPoeInputValid cls type events s
  | .poeInputInvalid => Sys2Proof.Machine.execPoeInputInvalid s
  | .brownout => Sys2Proof.Machine.execBrownout s
  | .powerOnReset => Sys2Proof.Machine.execPowerOnReset s
  | .busPUpdate p => Sys2Proof.Machine.execBusPUpdate p s
  | .pwrShedHeat => Sys2Proof.Machine.execPwrShedHeat s
  | .pwrShedBoost => Sys2Proof.Machine.execPwrShedBoost s
  | .pwrEavesForced => Sys2Proof.Machine.execPwrEavesForced s
  | .boostReadmit => Sys2Proof.Machine.execBoostReadmit s
  | .heaterReadmit => Sys2Proof.Machine.execHeaterReadmit s
  | .pwrGovWrite o v => Sys2Proof.Machine.execPwrGovWrite o v s
  | .eavesRel o => Sys2Proof.Machine.execEavesRel o s
  | .htrOcClr o => Sys2Proof.Machine.execHtrOcClr o s
  | .hsupOcClr o => Sys2Proof.Machine.execHsupOcClr o s
  | .pwrHtrWrite o v => Sys2Proof.Machine.execPwrHtrWrite o v s
  | .heaterPeriod => Sys2Proof.Machine.execHeaterPeriod s
  | .heaterOnTimeEnd m => Sys2Proof.Machine.execHeaterOnTimeEnd m s
  | .pwrHtrOc => Sys2Proof.Machine.execPwrHtrOc s
  | .pwrHsupOc => Sys2Proof.Machine.execPwrHsupOc s
  | .railPgLoss rail => Sys2Proof.Machine.execRailPgLoss rail s
  | .hbusOverload => Sys2Proof.Machine.execHbusOverload s
  | .hbusRetry cleared => Sys2Proof.Machine.execHbusRetry cleared s
  | .clkSlipWarn => Sys2Proof.Machine.execClkSlipWarn s
  | .clkPllLoss inRefresh => Sys2Proof.Machine.execClkPllLoss inRefresh s
  | .clkXoFail => Sys2Proof.Machine.execClkXoFail s
  | .pllRelock lockTime => Sys2Proof.Machine.execPllRelock lockTime s
  | .relockTimeout => Sys2Proof.Machine.execRelockTimeout s
  | .clockFailRecovery => Sys2Proof.Machine.execClockFailRecovery s
  | .eavesDivisorChange => Sys2Proof.Machine.execEavesDivisorChange s
  | .clkSwForced => Sys2Proof.Machine.execClkSwForced s
  | .dramLostClear o => Sys2Proof.Machine.execDramLostClear o s
  | .lfoMeasureStart => Sys2Proof.Machine.execLfoMeasureStart s
  | .lfoMeasureDone err => Sys2Proof.Machine.execLfoMeasureDone err s
  | .lfoMeasureTimeout => Sys2Proof.Machine.execLfoMeasureTimeout s
  | .lfoRemeasure => Sys2Proof.Machine.execLfoRemeasure s
  | .supplyQualify failed => Sys2Proof.Machine.execSupplyQualify failed s
  | .crystalStart amp => Sys2Proof.Machine.execCrystalStart amp s
  | .pllLock lockTime phErr => Sys2Proof.Machine.execPllLock lockTime phErr s
  | .dramTrainingDone ok => Sys2Proof.Machine.execDramTrainingDone ok s
  | .startStepDone r => Sys2Proof.Machine.execStartStepDone r s
  | .startStepFail bad answered => Sys2Proof.Machine.execStartStepFail bad answered s
  | .stepRetry => Sys2Proof.Machine.execStepRetry s
  | .spotCheckDone ms => Sys2Proof.Machine.execSpotCheckDone ms s
  | .initialCalibrationDone ms => Sys2Proof.Machine.execInitialCalibrationDone ms s
  | .hostGo o => Sys2Proof.Machine.execHostGo o s
  | .hostWaitExpiry => Sys2Proof.Machine.execHostWaitExpiry s
  | .softReset o => Sys2Proof.Machine.execSoftReset o s
  | .resetNLow => Sys2Proof.Machine.execResetNLow s
  | .resetNRise => Sys2Proof.Machine.execResetNRise s
  | .startKick o v => Sys2Proof.Machine.execStartKick o v s
  | .hbHostLost => Sys2Proof.Machine.execHbHostLost s
  | .watchdogReset => Sys2Proof.Machine.execWatchdogReset s
  | .rindReq o => Sys2Proof.Machine.execRindReq o s
  | .rindEntryComplete => Sys2Proof.Machine.execRindEntryComplete s
  | .rindWake src => Sys2Proof.Machine.execRindWake src s
  | .rindTimerExpiry => Sys2Proof.Machine.execRindTimerExpiry s
  | .journalCopyWritten ok => Sys2Proof.Machine.execJournalCopyWritten ok s
  | .norEraseDone which => Sys2Proof.Machine.execNorEraseDone which s
  | .status clocks => Sys2Proof.Machine.execStatus clocks s
  | .read tag addr clocks => Sys2Proof.Machine.execRead tag addr clocks s
  | .write tag addr data crc clocks => Sys2Proof.Machine.execWrite tag addr data crc clocks s
  | .bulkRead tag addr len clocks => Sys2Proof.Machine.execBulkRead tag addr len clocks s
  | .bulkWrite tag addr len words clocks => Sys2Proof.Machine.execBulkWrite tag addr len words clocks s
  | .pageRead tag addr len clocks => Sys2Proof.Machine.execPageRead tag addr len clocks s
  | .pageRelease tag addr crc clocks => Sys2Proof.Machine.execPageRelease tag addr crc clocks s
  | .reservedOp op tag addr clocks => Sys2Proof.Machine.execReservedOp op tag addr clocks s
  | .keyStageWrite ws => Sys2Proof.Machine.execKeyStageWrite ws s
  | .keyImport o slot alg => Sys2Proof.Machine.execKeyImport o slot alg s
  | .keyImportDone => Sys2Proof.Machine.execKeyImportDone s
  | .keyClear o slot => Sys2Proof.Machine.execKeyClear o slot s
  | .keyLockSet o => Sys2Proof.Machine.execKeyLockSet o s
  | .dispatch => Sys2Proof.Machine.execDispatch s
  | .vectorRead o b => Sys2Proof.Machine.execVectorRead o b s
  | .pendClear o m v => Sys2Proof.Machine.execPendClear o m v s
  | .gutSrcWrite o n v => Sys2Proof.Machine.execGutSrcWrite o n v s
  | .stormRefill n => Sys2Proof.Machine.execStormRefill n s
  | .irqPulseEnd => Sys2Proof.Machine.execIrqPulseEnd s
  | .journalRecordWritten ok => Sys2Proof.Machine.execJournalRecordWritten ok s
  | .reportLine => Sys2Proof.Machine.execReportLine s
  | .alarmHandoff => Sys2Proof.Machine.execAlarmHandoff s
  | .markerHandoff => Sys2Proof.Machine.execMarkerHandoff s
  | .add t rd ra rb => Sys2Proof.Machine.execAdd t rd ra rb s
  | .sub t rd ra rb => Sys2Proof.Machine.execSub t rd ra rb s
  | .and t rd ra rb => Sys2Proof.Machine.execAnd t rd ra rb s
  | .or t rd ra rb => Sys2Proof.Machine.execOr t rd ra rb s
  | .xor t rd ra rb => Sys2Proof.Machine.execXor t rd ra rb s
  | .sll t rd ra rb => Sys2Proof.Machine.execSll t rd ra rb s
  | .srl t rd ra rb => Sys2Proof.Machine.execSrl t rd ra rb s
  | .sra t rd ra rb => Sys2Proof.Machine.execSra t rd ra rb s
  | .slt t rd ra rb => Sys2Proof.Machine.execSlt t rd ra rb s
  | .sltu t rd ra rb => Sys2Proof.Machine.execSltu t rd ra rb s
  | .min t rd ra rb => Sys2Proof.Machine.execMin t rd ra rb s
  | .max t rd ra rb => Sys2Proof.Machine.execMax t rd ra rb s
  | .mul t rd ra rb => Sys2Proof.Machine.execMul t rd ra rb s
  | .mulh t rd ra rb => Sys2Proof.Machine.execMulh t rd ra rb s
  | .addi t rd ra imm => Sys2Proof.Machine.execAddi t rd ra imm s
  | .andi t rd ra imm => Sys2Proof.Machine.execAndi t rd ra imm s
  | .ori t rd ra imm => Sys2Proof.Machine.execOri t rd ra imm s
  | .xori t rd ra imm => Sys2Proof.Machine.execXori t rd ra imm s
  | .slli t rd ra imm => Sys2Proof.Machine.execSlli t rd ra imm s
  | .srli t rd ra imm => Sys2Proof.Machine.execSrli t rd ra imm s
  | .srai t rd ra imm => Sys2Proof.Machine.execSrai t rd ra imm s
  | .slti t rd ra imm => Sys2Proof.Machine.execSlti t rd ra imm s
  | .lui t rd imm22 => Sys2Proof.Machine.execLui t rd imm22 s
  | .ld t rd ra imm => Sys2Proof.Machine.execLd t rd ra imm s
  | .st t rd ra imm => Sys2Proof.Machine.execSt t rd ra imm s
  | .amoadd t rd ra rb => Sys2Proof.Machine.execAmoadd t rd ra rb s
  | .amoswap t rd ra rb => Sys2Proof.Machine.execAmoswap t rd ra rb s
  | .halt t => Sys2Proof.Machine.execHalt t s
  | .brk t => Sys2Proof.Machine.execBreak t s
  | .rtt t => Sys2Proof.Machine.execRtt t s
  | .beq t ra rb off => Sys2Proof.Machine.execBeq t ra rb off s
  | .bne t ra rb off => Sys2Proof.Machine.execBne t ra rb off s
  | .blt t ra rb off => Sys2Proof.Machine.execBlt t ra rb off s
  | .bge t ra rb off => Sys2Proof.Machine.execBge t ra rb off s
  | .bltu t ra rb off => Sys2Proof.Machine.execBltu t ra rb off s
  | .bgeu t ra rb off => Sys2Proof.Machine.execBgeu t ra rb off s
  | .jal t rd target => Sys2Proof.Machine.execJal t rd target s
  | .jalr t rd ra => Sys2Proof.Machine.execJalr t rd ra s
  | .bcode t off => Sys2Proof.Machine.execBcode t off s
  | .spawn t ra rb u => Sys2Proof.Machine.execSpawn t ra rb u s
  | .fnum t rd ctx => Sys2Proof.Machine.execFnum t rd ctx s
  | .rdt t rd sel => Sys2Proof.Machine.execRdt t rd sel s
  | .get t rd page word14 => Sys2Proof.Machine.execGet t rd page word14 s
  | .put t rd page word14 => Sys2Proof.Machine.execPut t rd page word14 s
  | .getr t rd ra => Sys2Proof.Machine.execGetr t rd ra s
  | .putr t rd ra => Sys2Proof.Machine.execPutr t rd ra s
  | .code t rd => Sys2Proof.Machine.execCode t rd s
  | .wfrm t rd ctx pt sticky => Sys2Proof.Machine.execWfrm t rd ctx pt sticky s
  | .wshg t rd ctx => Sys2Proof.Machine.execWshg t rd ctx s
  | .wevt t rd ra rb => Sys2Proof.Machine.execWevt t rd ra rb s
  | .wevtTimeout t => Sys2Proof.Machine.execWevtTimeout t s
  | .tset t ra periodic => Sys2Proof.Machine.execTset t ra periodic s
  | .wtim t rd => Sys2Proof.Machine.execWtim t rd s
  | .threadTimerExpiry t => Sys2Proof.Machine.execThreadTimerExpiry t s
  | .yield t => Sys2Proof.Machine.execYield t s
  | .csel t ctx => Sys2Proof.Machine.execCsel t ctx s
  | .commit t ctx => Sys2Proof.Machine.execCommit t ctx s
  | .fire t ch prof => Sys2Proof.Machine.execFire t ch prof s
  | .hkt t mask => Sys2Proof.Machine.execHkt t mask s
  | .bank t tbl => Sys2Proof.Machine.execBank t tbl s
  | .anaq t rd ctx sel => Sys2Proof.Machine.execAnaq t rd ctx sel s
  | .emit t ra n => Sys2Proof.Machine.execEmit t ra n s
  | .threadStart o t pc => Sys2Proof.Machine.execThreadStart o t pc s
  | .threadStop o t => Sys2Proof.Machine.execThreadStop o t s
  | .threadResume o t => Sys2Proof.Machine.execThreadResume o t s
  | .threadStep o t => Sys2Proof.Machine.execThreadStep o t s
  | .vatRegWrite o t r v => Sys2Proof.Machine.execVatRegWrite o t r v s
  | .vatLoadWrite ws => Sys2Proof.Machine.execVatLoadWrite ws s
  | .check o nor start => Sys2Proof.Machine.execCheck o nor start s
  | .recipeCheckDone => Sys2Proof.Machine.execRecipeCheckDone s
  | .stopall o => Sys2Proof.Machine.execStopall o s
  | .clear o => Sys2Proof.Machine.execClear o s
  | .store o => Sys2Proof.Machine.execStore o s
  | .imageStoreDone ok => Sys2Proof.Machine.execImageStoreDone ok s
  | .frameStart p e => Sys2Proof.Machine.execFrameStart p e s
  | .imageLine p => Sys2Proof.Machine.execImageLine p s
  | .frameEnd vc e y => Sys2Proof.Machine.execFrameEnd vc e y s
  | .intDtUnknown vc dt e => Sys2Proof.Machine.execIntDtUnknown vc dt e s
  | .intVcUnmapped vc e => Sys2Proof.Machine.execIntVcUnmapped vc e s
  | .deskewSequence => Sys2Proof.Machine.execDeskewSequence s
  | .intHeadLost n => Sys2Proof.Machine.execIntHeadLost n s
  | .intLinkDown => Sys2Proof.Machine.execIntLinkDown s
  | .intHeadDisagree n => Sys2Proof.Machine.execIntHeadDisagree n s
  | .telemetrySample => Sys2Proof.Machine.execTelemetrySample s
  | .contextEnable o c prio => Sys2Proof.Machine.execContextEnable o c prio s
  | .contextDisable o c prio => Sys2Proof.Machine.execContextDisable o c prio s
  | .intCommitWrite o v => Sys2Proof.Machine.execIntCommitWrite o v s
  | .runEnd lat => Sys2Proof.Machine.execRunEnd lat s
  | .intHncfgWrite o n v => Sys2Proof.Machine.execIntHncfgWrite o n v s
  | .intLinkWrite o v => Sys2Proof.Machine.execIntLinkWrite o v s
  | .intMapWrite o v => Sys2Proof.Machine.execIntMapWrite o v s
  | .biasWrite o n iref v => Sys2Proof.Machine.execBiasWrite o n iref v s
  | .i2cPush o v => Sys2Proof.Machine.execI2cPush o v s
  | .i2cCommandDone st rd => Sys2Proof.Machine.execI2cCommandDone st rd s
  | .i2cResultRead o => Sys2Proof.Machine.execI2cResultRead o s
  | .play o g => Sys2Proof.Machine.execPlay o g s
  | .generatorFrame g => Sys2Proof.Machine.execGeneratorFrame g s
  | .xloadWrite ws => Sys2Proof.Machine.execXloadWrite ws s
  | .stagingOpen o n => Sys2Proof.Machine.execStagingOpen o n s
  | .tblLoadWrite ws => Sys2Proof.Machine.execTblLoadWrite ws s
  | .load o => Sys2Proof.Machine.execLoad o s
  | .tableLoadDone => Sys2Proof.Machine.execTableLoadDone s
  | .swap o n => Sys2Proof.Machine.execSwap o n s
  | .discard o => Sys2Proof.Machine.execDiscard o s
  | .retrain o => Sys2Proof.Machine.execRetrain o s
  | .retrainDone ok => Sys2Proof.Machine.execRetrainDone ok s
  | .tableRead n => Sys2Proof.Machine.execTableRead n s
  | .trimRefFault => Sys2Proof.Machine.execTrimRefFault s
  | .refFaultClear => Sys2Proof.Machine.execRefFaultClear s
  | .ripeningRound ms => Sys2Proof.Machine.execRipeningRound ms s
  | .trimDtTest => Sys2Proof.Machine.execTrimDtTest s
  | .trimFullDone ms => Sys2Proof.Machine.execTrimFullDone ms s
  | .trimStale item => Sys2Proof.Machine.execTrimStale item s
  | .full o => Sys2Proof.Machine.execFull o s
  | .apply o => Sys2Proof.Machine.execApply o s
  | .nominal o => Sys2Proof.Machine.execNominal o s
  | .abort o => Sys2Proof.Machine.execAbort o s
  | .refTrimWrite o item v => Sys2Proof.Machine.execRefTrimWrite o item v s
  | .refLoadWrite ws => Sys2Proof.Machine.execRefLoadWrite ws s
  | .refSaveRead => Sys2Proof.Machine.execRefSaveRead s
  | .hkTrigcmd o mask => Sys2Proof.Machine.execHkTrigcmd o mask s
  | .hkPeriodTimer j => Sys2Proof.Machine.execHkPeriodTimer j s
  | .hkRunStart j => Sys2Proof.Machine.execHkRunStart j s
  | .conversionComplete j m => Sys2Proof.Machine.execConversionComplete j m s
  | .urgentRequest ch => Sys2Proof.Machine.execUrgentRequest ch s
  | .hkStale n => Sys2Proof.Machine.execHkStale n s
  | .hkDiagStart o n code => Sys2Proof.Machine.execHkDiagStart o n code s
  | .hkDiagStop o n code => Sys2Proof.Machine.execHkDiagStop o n code s
  | .hkDiagEnd => Sys2Proof.Machine.execHkDiagEnd s
  | .hkTrigWrite o j per v => Sys2Proof.Machine.execHkTrigWrite o j per v s
  | .startupSeqTrigger raws m => Sys2Proof.Machine.execStartupSeqTrigger raws m s
  | .actCmdFire o ch prof => Sys2Proof.Machine.execActCmdFire o ch prof s
  | .actCmdStop o ch => Sys2Proof.Machine.execActCmdStop o ch s
  | .actCmdClear o ch => Sys2Proof.Machine.execActCmdClear o ch s
  | .pwmPeriodStart ch => Sys2Proof.Machine.execPwmPeriodStart ch s
  | .actDecayTo ch => Sys2Proof.Machine.execActDecayTo ch s
  | .actOc ch => Sys2Proof.Machine.execActOc ch s
  | .actClamp mv => Sys2Proof.Machine.execActClamp mv s
  | .actPairWrite o v => Sys2Proof.Machine.execActPairWrite o v s
  | .actCfgWrite o ch v => Sys2Proof.Machine.execActCfgWrite o ch v s
  | .prsGo o n => Sys2Proof.Machine.execPrsGo o n s
  | .sunTimer n => Sys2Proof.Machine.execSunTimer n s
  | .capture o n => Sys2Proof.Machine.execCapture o n s
  | .pressCaptureTimeout => Sys2Proof.Machine.execPressCaptureTimeout s
  | .cancel o n => Sys2Proof.Machine.execCancel o n s
  | .sunRel o n => Sys2Proof.Machine.execSunRel o n s
  | .forget o n => Sys2Proof.Machine.execForget o n s
  | .agcBuildDone c => Sys2Proof.Machine.execAgcBuildDone c s
  | .rndWpub o v => Sys2Proof.Machine.execRndWpub o v s
  | .portEnable o p v => Sys2Proof.Machine.execPortEnable o p v s
  | .portDisable o p v => Sys2Proof.Machine.execPortDisable o p v s
  | .encoderStripeDone len nals => Sys2Proof.Machine.execEncoderStripeDone len nals s
  | .idr o e => Sys2Proof.Machine.execIdr o e s
  | .snap o e => Sys2Proof.Machine.execSnap o e s
  | .encRcWrite o e v => Sys2Proof.Machine.execEncRcWrite o e v s
  | .analysisResult c => Sys2Proof.Machine.execAnalysisResult c s
  | .analysisEnable o c v => Sys2Proof.Machine.execAnalysisEnable o c v s
  | .analysisDisable o c v => Sys2Proof.Machine.execAnalysisDisable o c v s
  | .homog o c => Sys2Proof.Machine.execHomog o c s
  | .zones o c => Sys2Proof.Machine.execZones o c s
  | .trackRead n => Sys2Proof.Machine.execTrackRead n s
  | .heatUpdate m => Sys2Proof.Machine.execHeatUpdate m s
  | .heatAmbWrite o v => Sys2Proof.Machine.execHeatAmbWrite o v s
  | .ambientStale => Sys2Proof.Machine.execAmbientStale s
  | .heatEnforce => Sys2Proof.Machine.execHeatEnforce s
  | .heatRelease => Sys2Proof.Machine.execHeatRelease s
  | .thermalRestart => Sys2Proof.Machine.execThermalRestart s
  | .ethernetFrame p bytes damaged => Sys2Proof.Machine.execEthernetFrame p bytes damaged s
  | .swPtpSetlo o v => Sys2Proof.Machine.execSwPtpSetlo o v s
  | .swPtpAdj o v => Sys2Proof.Machine.execSwPtpAdj o v s
  | .ptpTimeRead o => Sys2Proof.Machine.execPtpTimeRead o s
  | .pdelayReq => Sys2Proof.Machine.execPdelayReq s
  | .swLinkUp p g1000 => Sys2Proof.Machine.execSwLinkUp p g1000 s
  | .swLinkDown p => Sys2Proof.Machine.execSwLinkDown p s
  | .rollcall p v => Sys2Proof.Machine.execRollcall p v s
  | .rcEntry p v => Sys2Proof.Machine.execRcEntry p v s
  | .rcEnd p v => Sys2Proof.Machine.execRcEnd p v s
  | .gossip p v => Sys2Proof.Machine.execGossip p v s
  | .beacon p v => Sys2Proof.Machine.execBeacon p v s
  | .alarm p v => Sys2Proof.Machine.execAlarm p v s
  | .hopAck p v => Sys2Proof.Machine.execHopAck p v s
  | .linkEvt p v => Sys2Proof.Machine.execLinkEvt p v s
  | .ringCtl p v => Sys2Proof.Machine.execRingCtl p v s
  | .probe p v => Sys2Proof.Machine.execProbe p v s
  | .buddyCtl p v => Sys2Proof.Machine.execBuddyCtl p v s
  | .buddyData p v => Sys2Proof.Machine.execBuddyData p v s
  | .hopAckTimeout k => Sys2Proof.Machine.execHopAckTimeout k s
  | .alarmResend k => Sys2Proof.Machine.execAlarmResend k s
  | .probeTimer p => Sys2Proof.Machine.execProbeTimer p s
  | .gossipTimer => Sys2Proof.Machine.execGossipTimer s
  | .beaconTimer => Sys2Proof.Machine.execBeaconTimer s
  | .vlvUplinkLost => Sys2Proof.Machine.execVlvUplinkLost s
  | .vlvDisagree kind k => Sys2Proof.Machine.execVlvDisagree kind k s
  | .velvaOnlyTimeout p => Sys2Proof.Machine.execVelvaOnlyTimeout p s
  | .autoRollcall => Sys2Proof.Machine.execAutoRollcall s
  | .rollcallTimeout => Sys2Proof.Machine.execRollcallTimeout s
  | .start o => Sys2Proof.Machine.execStart o s
  | .rcAbort o => Sys2Proof.Machine.execRcAbort o s
  | .forgetEntry o k => Sys2Proof.Machine.execForgetEntry o k s
  | .forgetAll o => Sys2Proof.Machine.execForgetAll o s
  | .cntClr o p => Sys2Proof.Machine.execCntClr o p s
  | .tenMpub o v => Sys2Proof.Machine.execTenMpub o v s
  | .sesStageWrite ws => Sys2Proof.Machine.execSesStageWrite ws s
  | .sesWrite o => Sys2Proof.Machine.execSesWrite o s
  | .sesOn o => Sys2Proof.Machine.execSesOn o s
  | .sesOff o => Sys2Proof.Machine.execSesOff o s
  | .sesClear o => Sys2Proof.Machine.execSesClear o s
  | .packetSend hp => Sys2Proof.Machine.execPacketSend hp s
  | .egressTick => Sys2Proof.Machine.execEgressTick s
  | .sesStall n => Sys2Proof.Machine.execSesStall n s
  | .cardInsert => Sys2Proof.Machine.execCardInsert s
  | .cardRemove => Sys2Proof.Machine.execCardRemove s
  | .mediumOpenDone m o => Sys2Proof.Machine.execMediumOpenDone m o s
  | .mediumCommandDone m good write e => Sys2Proof.Machine.execMediumCommandDone m good write e s
  | .format o m => Sys2Proof.Machine.execFormat o m s
  | .cellarFormatDone => Sys2Proof.Machine.execCellarFormatDone s
  | .eject o m => Sys2Proof.Machine.execEject o m s
  | .attach o m => Sys2Proof.Machine.execAttach o m s
  | .unprotAll o m => Sys2Proof.Machine.execUnprotAll o m s
  | .protect o m w => Sys2Proof.Machine.execProtect o m w s
  | .unprotect o m w => Sys2Proof.Machine.execUnprotect o m w s
  | .alarmTimeExpiry => Sys2Proof.Machine.execAlarmTimeExpiry s
  | .celRecStop e => Sys2Proof.Machine.execCelRecStop e s
  | .pageWritten e => Sys2Proof.Machine.execPageWritten e s
  | .buddyOpenTimeout e => Sys2Proof.Machine.execBuddyOpenTimeout e s
  | .buddyRetry e => Sys2Proof.Machine.execBuddyRetry e s
  | .celPfClose n => Sys2Proof.Machine.execCelPfClose n s
  | .wheelRepairDone m good => Sys2Proof.Machine.execWheelRepairDone m good s
  | .retStart o => Sys2Proof.Machine.execRetStart o s
  | .retStop o => Sys2Proof.Machine.execRetStop o s
  | .retrievalPageFilled => Sys2Proof.Machine.execRetrievalPageFilled s
  | .celRetStall => Sys2Proof.Machine.execCelRetStall s
  | .jobStart o j => Sys2Proof.Machine.execJobStart o j s
  | .jobStop o j => Sys2Proof.Machine.execJobStop o j s
  | .characterReceived u samples => Sys2Proof.Machine.execCharacterReceived u samples s
  | .uartRxRead o u => Sys2Proof.Machine.execUartRxRead o u s
  | .uartRxwRead u n => Sys2Proof.Machine.execUartRxwRead u n s
  | .uartTxWrite o u v => Sys2Proof.Machine.execUartTxWrite o u v s
  | .uartTxwWrite u ws => Sys2Proof.Machine.execUartTxwWrite u ws s
  | .characterSent u => Sys2Proof.Machine.execCharacterSent u s
  | .deHoldEnd u => Sys2Proof.Machine.execDeHoldEnd u s
  | .turnEnd u => Sys2Proof.Machine.execTurnEnd u s
  | .abrArm o u v => Sys2Proof.Machine.execAbrArm o u v s
  | .autoBaudDone u samples t => Sys2Proof.Machine.execAutoBaudDone u samples t s
  | .idleTimeout u => Sys2Proof.Machine.execIdleTimeout u s
  | .rxflush o u => Sys2Proof.Machine.execRxflush o u s
  | .txflush o u => Sys2Proof.Machine.execTxflush o u s
  | .generatorLine g => Sys2Proof.Machine.execGeneratorLine g s
  | .pwmOffEdge ch => Sys2Proof.Machine.execPwmOffEdge ch s
  | .ripeningSlot j => Sys2Proof.Machine.execRipeningSlot j s
  | .dramRetrainingDone => Sys2Proof.Machine.execDramRetrainingDone s
  | .observedReachableLost p => Sys2Proof.Machine.execObservedReachableLost p s
  | .alwaysOnSupplyLost => Sys2Proof.Machine.execAlwaysOnSupplyLost s
  | .chargerAtVset reached => Sys2Proof.Machine.execChargerAtVset reached s

end Sys2Proof.Machine
end

