-- ==== Sys2Proof/Machine/Tick.lean ====
section
/-! DEFINITION. What happens with time while no command waits (DESIGN CHOICE, notes/assumptions/2.md): one tick of the peripheral
clock, 40 ns. -/

namespace Sys2Proof.Machine

/-- The root clock feeds the domains: after start-up step 3, not while they are stopped by a clock failure, nor in Rind (R49, R63, R69,
Table 3.3 step 3).
DESIGN CHOICE (notes/assumptions/2.md). -/
def State.clocksRun (s : State) : Bool :=
  !s.stopped && (s.start.phase == .up || s.start.phase == .entering ||
    (s.start.phase == .start && decide (4 ≤ s.start.step) && !s.start.step1Hold))

/-- What a running clock does in a tick: uptime and the PTP counter advance, the ports transmit, one Vat thread issues, publishes
that wait for no context apply. DESIGN CHOICE (notes/assumptions/2.md). -/
def clockTick (s : State) : State :=
  let s := ptpTick { s with upTicks := s.upTicks + 1 }
  gridsIdle (vatIssue (txTick 2 (txTick 1 (txTick 0 (retrainFollow s)))))

/-- A tick: time passes; what runs on the root clock follows. DESIGN CHOICE (notes/assumptions/2.md). -/
def tick (s : State) : State :=
  let s := { s with time := s.time + 1 }
  if s.clocksRun then clockTick s else s

/-- The block idles for a tick. DESIGN CHOICE (notes/assumptions/2.md). -/
def idle (s : State) : Host.Outcome State Fault Refusal := done (tick s)

end Sys2Proof.Machine
end

