-- ==== Sys2Proof/Safety.lean ====
section
/-! DEFINITION. The terms the claims are stated in: a consistent state, an access that the bus carries, and the state after
an event or an accepted access. -/

namespace Sys2Proof.Machine

/-- The pins show what the state makes of them (Table 24.4). -/
def State.PinsFollow (s : State) : Prop := s.pins = pinsOf s

/-- The register bus carries an access by `o` to the page: the host's when the control port is powered and does not refuse
the page (R82, R88, R113, R117), a thread's when the thread can issue an instruction (R144, R147). -/
def May (o : Origin) (page : Nat) (s : State) : Prop :=
  match o with
  | .host => s.portOn = true ∧ s.refused page = false
  | .vat t => s.runs t.val = true

/-- A write by `o` to the page meets none of the checks that hold for every register: the bus carries it, a Vat access finds
no long operation on the page (R115), and Rind is not being entered (R92). -/
def Open (o : Origin) (page : Nat) (s : State) : Prop :=
  May o page s ∧ (isVat o = true → s.opOnPage page = false) ∧ s.closing = false

/-- The state after an event that leaves `x`: the blocks that follow it have followed, and the pins show it. -/
def after (s x : State) : State := settle (followUp s x)

/-- What an access by `o` leaves besides its effect: the host has made a complete transaction and is present (R83). -/
def seenBy (o : Origin) (s : State) : State :=
  match o with
  | .host => { s with start := { s.start with hostPresent := true } }
  | .vat _ => s

/-- The state after an accepted register write by `o` whose own effect leaves `x`: as after an event, and the bus answered OK. -/
def wrote (o : Origin) (s x : State) : State := settle (seenBy o { followUp s x with busCode := .ok, busData := [] })

/-- The state after an access by `o` that the bus answers with the code `c` and no data, and that changed nothing else. -/
def turnedAway (o : Origin) (c : Code) (s : State) : State := settle (seenBy o { s with busCode := c, busData := [] })

/-- A word that a write to the register `a` may carry: no reserved bit set, every field in its legal range (R4, R6). -/
def Fits (a : Nat) (v : Word) : Prop :=
  ∃ r, regAt a = some r ∧ r.reservedSet v = false ∧ r.outOfRange v = false

/-- The word that the register `a` holds once `v` is written over its content: RW and CW fields take the value, written ones
of W1C fields clear, the others stay (R5, Table 0.3). -/
def State.written (s : State) (a : Nat) (v : Word) : Word :=
  match regAt a with
  | some r => r.merged (s.reg a) v
  | none => s.reg a

/-- What an instruction of a thread leaves as it is: the state without the Vat, the registers and the pins. -/
def State.outside (s : State) : State := { s with regs := [], vat := {}, pins := {} }

/-- Every other thread keeps its registers, its PC and its state. -/
def OthersStay (t : Fin 8) (s s' : State) : Prop :=
  ∀ u : Fin 8, u ≠ t → (∀ r : Fin 16, s'.vreg u r = s.vreg u r) ∧ (s'.thread u).pc = (s.thread u).pc ∧
    (s'.thread u).state = (s.thread u).state

/-- One instruction of thread `t` has gone on at `pc`: nothing outside the Vat and its count of instructions, no other thread
and no code has changed. -/
def WentOn (t : Fin 8) (pc : Nat) (s s' : State) : Prop :=
  s'.outside = s.outside ∧ (∀ a, a ≠ VAT_TCNT t → s'.reg a = s.reg a) ∧ OthersStay t s s' ∧ s'.vat.pm = s.vat.pm ∧
    s'.vat.img = s.vat.img ∧ (s'.thread t).pc = pc ∧ (s'.thread t).wait = none ∧
    (s'.thread t).state = if (s.thread t).stepping then .stopped else .running

/-- Of thread `t`'s registers only `rd` has changed, to `v`; V0 reads as zero always (R143). -/
def Sets (t : Fin 8) (rd : Fin 16) (v : Word) (s s' : State) : Prop :=
  ∀ r : Fin 16, s'.vreg t r = if r = rd ∧ r ≠ 0 then v else s.vreg t r

/-- Thread `t` is eligible (R144), and its next PC lies within the code. -/
def Ready (t : Fin 8) (s : State) : Prop := s.eligible t.val = true ∧ (s.thread t).pc + 1 < s.codeWords

/-- The registers below page 0x03 of a store. -/
def lowRegs (m : Store) : Store := m.filter fun p => decide (p.1 < 0x030000)

/-- A head without its disagreement. -/
def Head.calm (h : Head) : Head := { h with dis := false, disKind := 0 }

/-- What `followUp` leaves as it is: the state without the parts it may change. -/
def State.beyond (s : State) : State := { s with
  regs := lowRegs s.regs, draws := 0, gut := {}, vat := { s.vat with threads := [] }
  pwr := { s.pwr with htrOn := false, htrDuty := 0, htrAt := 0, htrSeen := false, htrReached := false, htrOpen := false }, heat := { s.heat with broken := 0 }
  int := { s.int with heads := s.int.heads.map Head.calm }
  nuc := { s.nuc with press := [] }, tbl := { s.tbl with tabs := [] }, out := { masks := s.out.masks }, rnd := {}
  dnr := [], ana := [], sw := {}, vlv := {}, egr := {}, cel := {} }

end Sys2Proof.Machine
end

