-- ==== Sys2Proof/Certificates/Slice0/Obligations.lean ====
section
/-! DEFINITION. The statements about the model, one per property. -/

open Sys2Proof Sys2Proof.Machine

/-- A step runs the command at the front of the queue. For every command c and every state whose queue is c followed by
rest, the step is exec of c on the state with the queue's rest. The queue is the model's own; its order, first in
first out, is log entry 1. (00_scope.md, 05_control_port.md) -/
def Obligations.StepRunsTheFrontCommand : Prop :=
  ∀ (c : Instr) (rest : List Instr) (s : State), s.pending = c :: rest →
    Sys2Proof.Machine.step s = exec c { s with pending := rest }

/-- A step on an empty queue lets one tick pass. With no command waiting the step answers a next state whose queue is
still empty: while the root clock feeds no domain it is the state with the model's time one tick later and the pins
following, and while it does it is what a tick of the running clock (clockTick) makes of that. The tick in place of
idling is the model's choice (log entry 2). (03_clock_tree.md) -/
def Obligations.EmptyQueueLetsATickPass : Prop :=
  ∀ s : State, s.pending = [] → ∃ t, Sys2Proof.Machine.step s = .next t ∧ t.pending = [] ∧
    (s.clocksRun = false → t = settle { s with time := s.time + 1 }) ∧
    (s.clocksRun = true → t = settle (clockTick { s with time := s.time + 1 }))

/-- After every step the pins show what the state makes of them. Whatever command is in front, or none, if a step answers
a next state then every pin that the engine drives there (interrupts, switches, enables, serial drivers) has the value
that the state gives it by the function pinsOf: no step leaves a switch, a bridge or an interrupt line behind the
state that governs it. Nothing is asked of the state before the step. (02_power_entry.md, 06_gutter.md,
12_actuators.md, 13_sensor_intake.md, 19_heat_model.md, 24_electrical_mechanical.md) -/
def Obligations.EveryStepMakesThePinsFollow : Prop :=
  ∀ s t : State, Sys2Proof.Machine.step s = .next t → t.PinsFollow

/-- No command adds, drops or reorders the commands that wait. For every command c and every state, exec of c answers a
next state whose queue is the queue it was given: a command's effect never reaches the commands that wait behind it,
however far the effect goes (a reset, a transaction, a Vat program's register write). (00_scope.md,
05_control_port.md) -/
def Obligations.NoCommandTouchesTheQueue : Prop :=
  ∀ (c : Instr) (s : State), ∃ t, exec c s = .next t ∧ t.pending = s.pending

/-- The state at reset stands in start-up step 1 after a power-on reset. State.reset is the unit right after a power-on
reset: start-up step 1 with cause and SEEN saying power-on, one journal entry, no command waiting, no register written
(each reads its table's reset value), no valid input, no clock running, every Vat thread Stopped, and the pins as the
state makes them. Where the spec gives no content (NOR, media) the values are the model's (log entries 3 and 4).
(04_starting_and_retention.md, 24_electrical_mechanical.md) -/
def Obligations.ResetStartsAtStepOne : Prop :=
  State.reset.pending = [] ∧ State.reset.start.phase = .start ∧ State.reset.start.step = 1 ∧ State.reset.start.cause = 0 ∧
    State.reset.start.seen = 1 ∧ State.reset.start.journal.length = 1 ∧ State.reset.regs = [] ∧ State.reset.inForce = [] ∧
    State.reset.pwr.acValid = false ∧ State.reset.pwr.poeValid = false ∧ State.reset.clk.pllLock = false ∧
    State.reset.clk.xoOk = false ∧ (∀ t : Fin 8, (State.reset.thread t.val).state = .stopped) ∧ State.reset.PinsFollow

/-- An access to an absent register returns E_ADDR, a misaligned one E_ALIGN. For every access that the bus carries and
that finds its page not busy, by the host or by a thread, write or read: an aligned address without a register returns
E_ADDR and a misaligned address returns E_ALIGN, in both cases changing nothing but the bus's answer (a read returns a
zero word) and, for the host, HOST_PRESENT. No address of the pages 0x16 to 0xFF has a register. (R2, R3) -/
def Obligations.AbsentRegistersAnswerEAddr : Prop :=
  (∀ (o : Origin) (a : BitVec 24) (v : Word) (s : State), May o (a.toNat / 0x10000) s → s.pageBusy o a.toNat = false → regAt a.toNat = none →
    a.toNat % 4 = 0 →
    exec (.registerWrite o a v) s = .next (turnedAway o .eAddr s) ∧
    exec (.rcRead o a) s = .next (settle (seenBy o { s with busCode := .eAddr, busData := [0] }))) ∧
  (∀ (o : Origin) (a : BitVec 24) (v : Word) (s : State), May o (a.toNat / 0x10000) s → s.pageBusy o a.toNat = false → a.toNat % 4 ≠ 0 →
    exec (.registerWrite o a v) s = .next (turnedAway o .eAlign s) ∧
    exec (.rcRead o a) s = .next (settle (seenBy o { s with busCode := .eAlign, busData := [0] }))) ∧
  ∀ a : BitVec 24, 0x160000 ≤ a.toNat → regAt a.toNat = none

/-- Which code a register write returns when several checks fail. At every address, a Vat access to the page of a running
long operation returns E_BUSY before anything else, then a misaligned address E_ALIGN. At a register of the map, one
whose fields are all RO or RC then returns E_RO; with none of these and no check of the register's own, a word that
sets a reserved bit or leaves a field's legal range returns E_RANGE. (00_scope.md) -/
def Obligations.WritesKeepTheOrderOfTheChecks : Prop :=
  (∀ (o : Origin) (a : BitVec 24) (v : Word) (s : State),
    (s.pageBusy o a.toNat = true → s.writeCode o a.toNat v = .eBusy) ∧
    (s.pageBusy o a.toNat = false → a.toNat % 4 ≠ 0 → s.writeCode o a.toNat v = .eAlign)) ∧
  ∀ (o : Origin) (a : BitVec 24) (v : Word) (s : State) (r : Reg), regAt a.toNat = some r → s.pageBusy o a.toNat = false → a.toNat % 4 = 0 →
    (r.win ≠ .write → r.readOnly = true → s.writeCode o a.toNat v = .eRo) ∧
    (r.win ≠ .write → r.readOnly = false → s.closing = false → a.toNat ≠ KEY_STAGE →
      blockRule o a.toNat v s = none → (r.reservedSet v = true ∨ r.outOfRange v = true) → s.writeCode o a.toNat v = .eRange)

/-- A legal write of a register without a row of its own stores its fields and does nothing else. For every register of
the map whose block adds no rule of its own: a write that the bus carries, that sets no reserved bit and keeps every
field's range, answers a next state in which the register holds the written fields (RW and CW the value, W1C bits
written 1 cleared, RO and RC unchanged) and the bus answers OK; the rest is what the blocks that follow any change
make of it. The same holds of the row for a W1C write. (00_scope.md) -/
def Obligations.LegalWritesStoreTheirFields : Prop :=
  ∀ (o : Origin) (a : BitVec 24) (v : Word) (s : State) (r : Reg), regAt a.toNat = some r → Open o (a.toNat / 0x10000) s → a.toNat % 4 = 0 →
    r.win ≠ .write → r.readOnly = false → a.toNat ≠ KEY_STAGE → blockRule o a.toNat v s = none → r.reservedSet v = false →
    r.outOfRange v = false →
    exec (.registerWrite o a v) s = .next (wrote o s (s.setReg a.toNat (s.written a.toNat v))) ∧
    exec (.w1cWrite o a v) s = .next (wrote o s (s.setReg a.toNat (s.written a.toNat v)))

/-- A rejected register write leaves the addressed register and everything it would have started. For every register write
that the bus carries and that is rejected with any code, except at REF_CMD and ACT_CMD, the next state is the state
before but for the bus's answer and, for the host, HOST_PRESENT. At REF_CMD, where APPLY clears the loaded record
whatever its result (R215), and at ACT_CMD, where a refusal for boost is reported (R256), the trims in force and held
and every channel's state are what they were. (R6) -/
def Obligations.RejectedWritesChangeNothing : Prop :=
  ∀ (o : Origin) (a : BitVec 24) (v : Word) (s : State), May o (a.toNat / 0x10000) s → s.writeCode o a.toNat v ≠ .ok →
    (a.toNat ≠ REF_CMD → a.toNat ≠ ACT_CMD → exec (.registerWrite o a v) s = .next (turnedAway o (s.writeCode o a.toNat v) s)) ∧
    ((a.toNat = REF_CMD ∨ a.toNat = ACT_CMD) → ∃ t, exec (.registerWrite o a v) s = .next t ∧ t.busCode = s.writeCode o a.toNat v ∧
      t.trm.vals = s.trm.vals ∧ t.trm.held = s.trm.held ∧ t.act.chans.map (·.st) = s.act.chans.map (·.st))

/-- A read returns the register's word, and reading an RC register clears it. For every read of a register of the map that
the bus carries, aligned, not of a transfer window and its page not busy: the bus answers OK with the register's word,
WO fields and reserved bits zero. Where the register has RC fields and its read latches or takes nothing more, exactly
these fields fall to zero (PEAK fields to the present value of what they follow) and nothing else changes but, for the
host, HOST_PRESENT. The registers whose read takes or latches more (vectors, I2C and UART results, CP_ERRCNT, head
stamps, the PTP time) and TBL_BW are left to statements of their own. (00_scope.md) -/
def Obligations.ReadingAnRcRegisterClearsIt : Prop :=
  ∀ (o : Origin) (a : BitVec 24) (s : State) (r : Reg), regAt a.toNat = some r → May o (a.toNat / 0x10000) s → s.pageBusy o a.toNat = false →
    a.toNat % 4 = 0 → r.win ≠ .read →
    (∃ t, exec (.rcRead o a) s = .next t ∧ t.busCode = .ok ∧ t.busData = [(drawn a.toNat s).readWord o a.toNat]) ∧
    (r.flds.any (fun f => f.acc == .rc) = true → a.toNat ≠ GUT_VEC_A → a.toNat ≠ GUT_VEC_B → a.toNat ≠ INT_I2CRES → a.toNat ≠ CP_ERRCNT →
      a.toNat ≠ SW_PTP_LO → (∀ u : Fin 4, a.toNat ≠ UART_RX u.val) → (∀ n : Fin 6, a.toNat ≠ INT_HSTAMP_LO n.val) → a.toNat ≠ TBL_BW →
      a.toNat / 0x10000 ≠ 0x14 →
      exec (.rcRead o a) s = .next (settle (seenBy o { s.setReg a.toNat (r.flds.foldl (fun w f => if f.acc = .rc then
        putBits w f.hi f.lo ((s.peakOf a.toNat).getD 0) else w) (s.reg a.toNat)) with busCode := .ok, busData := [s.readWord o a.toNat] })))

/-- What a power input that becomes valid or invalid does, PoE and AC alike. AC that becomes valid, and PoE with its
classification (strap value, assigned class 1 to 8, PSE type, class events), outside Cold and with no hold in step 1:
the input is valid and the bus up and good. Without POWER_FAIL a change of the active source raises 0x002 and a risen
limit ends forced Eaves; under POWER_FAIL, POWER_FAIL clears, 0x001 and 0x002 are raised, a limit above the one before
POWER_FAIL ends forced Eaves, and head supply and heater follow. An input that becomes invalid: while the other is
valid, the first of these holds of the new source; when it was the last, the heater's on-time ends, POWER_FAIL sets
with the limit kept and OVER at 0, 0x000 and 0x002 are raised and the Cellar begins to close. In Cold only the input
(with bus up and good) is noted. A report of what holds already changes nothing, and an input that appears during a
hold in step 1 with none valid starts step 1 afresh. (02_power_entry.md, 04_starting_and_retention.md) -/
def Obligations.InputsComeAndGo : Prop :=
  (∀ (s : State) (c : Instr) (p : Power) (cls : PoeClass) (type events : Nat), 1 ≤ cls.granted → cls.granted ≤ 8 →
    ((c = .acInputValid ∧ s.pwr.acValid = false ∧ p = { s.pwr with acValid := true, busUp := true, busGood := true }) ∨
      (c = .poeInputValid cls type events ∧ s.pwr.poeValid = false ∧
        p = { s.pwr with poeValid := true, reqClass := cls.strap.val + 1, grantClass := cls.granted, pseType := type % 8, classEvents := events % 8,
                         busUp := true, busGood := true })) →
    (s.start.phase = .cold → s.start.step1Hold = false → exec c s = .next (settle { s with pwr := p })) ∧
    (s.start.phase ≠ .cold → s.start.step1Hold = false → s.pwr.powerFail = false →
      exec c s = .next (after s (
        let x := raiseIf (p.active != s.pwr.active) 0x002 0 { s with pwr := p }
        if s.effLimit < x.effLimit then { x with pwr := { x.pwr with eavesForced := false } } else x))) ∧
    (s.start.phase ≠ .cold → s.start.step1Hold = false → s.pwr.powerFail = true →
      exec c s = .next (after s (heaterFollow s (hsupFollow (
        let x := raiseN 0x002 0 (raiseN 0x001 0 { s with pwr := { p with powerFail := false } })
        if s.pwr.limBefore < x.effLimit then { x with pwr := { x.pwr with eavesForced := false } } else x))))) ∧
    (s.start.step1Hold = true → s.pwr.acValid = false → s.pwr.poeValid = false → ∃ t, exec c s = .next t ∧ t.start.step1Hold = false ∧
      t.start.step1Fails = 0 ∧ t.start.step = 1 ∧ t.pwr.acValid = p.acValid ∧ t.pwr.poeValid = p.poeValid ∧ t.pwr.busGood = true)) ∧
  (∀ (s : State) (c : Instr) (p : Power),
    ((c = .acInputInvalid ∧ s.pwr.acValid = true ∧ p = { s.pwr with acValid := false }) ∨
      (c = .poeInputInvalid ∧ s.pwr.poeValid = true ∧ p = { s.pwr with poeValid := false })) →
    (s.start.phase = .cold → exec c s = .next (settle { s with pwr := p })) ∧
    (s.start.phase ≠ .cold → p.acValid = true ∨ p.poeValid = true → s.pwr.powerFail = false →
      exec c s = .next (after s (
        let x := raiseIf (p.active != s.pwr.active) 0x002 0 { s with pwr := p }
        if s.effLimit < x.effLimit then { x with pwr := { x.pwr with eavesForced := false } } else x))) ∧
    (s.start.phase ≠ .cold → p.acValid = false → p.poeValid = false → s.pwr.powerFail = false →
      exec c s = .next (after s (celPowerFail (
        let x := cutOnTime { s with pwr := p }
        raiseN 0x002 0 (raiseN 0x000 0 { x with pwr := { x.pwr with powerFail := true, limBefore := s.effLimit, exceeded := false } })))))) ∧
  ∀ (s : State) (cls : PoeClass) (type events : Nat),
    (s.pwr.acValid = true → exec .acInputValid s = .next (settle s)) ∧ (s.pwr.acValid = false → exec .acInputInvalid s = .next (settle s)) ∧
    (s.pwr.poeValid = true → exec (.poeInputValid cls type events) s = .next (settle s)) ∧
    (s.pwr.poeValid = false → exec .poeInputInvalid s = .next (settle s))

/-- The governor's measured power, its three cuts and its two re-admissions. While the unit measures, BUS_P takes the
average of the bus samples of the last 100 ms and OVER is judged on it against the effective limit (set too while
BUS_P is stale, never under POWER_FAIL); an excess that begins takes the present time. While the excess governs, each
cut that is not yet made sets its flag and raises its event: HEAT_SHED with the heater's on-time ended (0x003),
BOOST_LIM (0x004), EAVES_FORCED (0x005). With its headroom after hand-over and without POWER_FAIL the charger is
re-admitted, and then the heater, whose period starts where it becomes allowed. Nothing else changes; without these
conditions nothing does. (02_power_entry.md) -/
def Obligations.GovernorShedsAndReadmits : Prop :=
  (∀ (p : Held) (s : State), s.measures = true → exec (.busPUpdate p) s = .next (settle { s with pwr :=
    let o := !s.pwr.powerFail && (s.pwr.busStale || decide (s.effLimit < s.busAverage))
    let new := o && !s.pwr.exceeded
    { s.pwr with busP := s.busAverage, exceeded := o, overSince := if new then s.time else s.pwr.overSince
                 eavesSince := if new then s.time else s.pwr.eavesSince } })) ∧
  (∀ (p : Held) (s : State), s.measures = false → exec (.busPUpdate p) s = .next (settle s)) ∧
  (∀ s : State, s.govRuns = true → s.pwr.heatShed = false → exec .pwrShedHeat s = .next (settle (heaterFollow s (raiseN 0x003 0
    { cutOnTime s with pwr := { (cutOnTime s).pwr with heatShed := true } })))) ∧
  (∀ s : State, s.govRuns = true → s.pwr.boostLim = false → exec .pwrShedBoost s =
    .next (settle (raiseN 0x004 0 { s with pwr := { s.pwr with boostLim := true } }))) ∧
  (∀ s : State, s.govRuns = true → s.pwr.eavesForced = false → exec .pwrEavesForced s =
    .next (settle (raiseN 0x005 0 { s with pwr := { s.pwr with eavesForced := true } }))) ∧
  (∀ s : State, s.govRuns = false → exec .pwrShedHeat s = .next (settle s) ∧ exec .pwrShedBoost s = .next (settle s) ∧
    exec .pwrEavesForced s = .next (settle s)) ∧
  (∀ s : State, (s.pwr.boostLim = true → s.boostFits = true → s.handedOver = true → s.pwr.powerFail = false →
      exec .boostReadmit s = .next (settle { s with pwr := { s.pwr with boostLim := false } })) ∧
    (s.pwr.boostLim = false ∨ s.boostFits = false ∨ s.handedOver = false ∨ s.pwr.powerFail = true →
      exec .boostReadmit s = .next (settle s))) ∧
  ∀ s : State, (s.pwr.heatShed = true → s.pwr.boostLim = false → s.heaterFits = true → s.handedOver = true →
      s.pwr.powerFail = false →
      exec .heaterReadmit s = .next (settle (heaterFollow s { s with pwr := { s.pwr with heatShed := false } }))) ∧
    (s.pwr.heatShed = false ∨ s.pwr.boostLim = true ∨ s.heaterFits = false ∨ s.handedOver = false ∨ s.pwr.powerFail = true →
      exec .heaterReadmit s = .next (settle s))

/-- The heater's periods and faults, the head supply's fault, the HBUS limiter, a rail lost. A heater period that starts
while the output is allowed ends an on-time still in progress and switches the output on for the duty read then,
unless that is 0. The end of an on-time switches it off; where the duty is at least 10 ms, the current was measured
and HKIN15 is not stale, OPEN takes whether it never reached 0.10 A, with event 0x009 when OPEN sets. An over-current
of an output that is on ends the on-time as one that reached the current, latches OC and raises 0x008; the head supply
goes off, latched, with 0x00A. The HBUS limiter folds back on an overload of a bus that is up, and a retry that finds
it cleared restores it. A watched rail that loses power-good makes a brownout reset with RAIL_FAULT and FAULT_RAIL
set. Where the condition fails, nothing changes. The OPEN rule's two conditions are log entry 71. (02_power_entry.md) -/
def Obligations.HeaterHeadSupplyAndHbus : Prop :=
  (∀ s : State, s.htrAllowed = true → exec .heaterPeriod s = .next (settle { endOnTime s.pwr.htrDuty s with pwr :=
    { (endOnTime s.pwr.htrDuty s).pwr with
      htrDuty := s.fld PWR_HTR 6 0, htrOn := decide (0 < s.fld PWR_HTR 6 0), htrAt := s.time, htrSeen := false, htrReached := false } })) ∧
  (∀ s : State, s.htrAllowed = false → exec .heaterPeriod s = .next (settle s)) ∧
  (∀ (m : Held) (s : State), s.pwr.htrOn = true → s.pwr.htrDuty < 10 ∨ s.pwr.htrSeen = false ∨ s.isStale 15 = true →
    exec (.heaterOnTimeEnd m) s = .next (settle { s with pwr := { s.pwr with htrOn := false } })) ∧
  (∀ (m : Held) (s : State), s.pwr.htrOn = true → 10 ≤ s.pwr.htrDuty → s.pwr.htrSeen = true → s.isStale 15 = false →
    exec (.heaterOnTimeEnd m) s = .next (settle (raiseIf (!s.pwr.htrReached && !s.pwr.htrOpen) 0x009 0
      { s with pwr := { s.pwr with htrOn := false, htrOpen := !s.pwr.htrReached } }))) ∧
  (∀ (m : Held) (s : State), s.pwr.htrOn = false → exec (.heaterOnTimeEnd m) s = .next (settle s)) ∧
  (∀ s : State, s.pwr.htrOn = true → s.htrAllowed = true → exec .pwrHtrOc s = .next (settle (raiseN 0x008 0 (
    let t := cutOnTime { s with pwr := { s.pwr with htrSeen := true, htrReached := true } }
    { t with pwr := { t.pwr with htrOc := true } })))) ∧
  (∀ s : State, s.pwr.htrOn = false ∨ s.htrAllowed = false → exec .pwrHtrOc s = .next (settle s)) ∧
  (∀ s : State, (s.pwr.hsupOn = true → exec .pwrHsupOc s =
      .next (settle (raiseN 0x00A 0 { s with pwr := { s.pwr with hsupOc := true, hsupOn := false } }))) ∧
    (s.pwr.hsupOn = false → exec .pwrHsupOc s = .next (settle s))) ∧
  (∀ s : State, (s.pwr.busUp = true → exec .hbusOverload s = .next (settle { s with pwr := { s.pwr with hbusFold := true } })) ∧
    (s.pwr.busUp = false → exec .hbusOverload s = .next (settle s))) ∧
  (∀ s : State, (s.pwr.hbusFold = true → exec (.hbusRetry true) s = .next (settle { s with pwr := { s.pwr with hbusFold := false } })) ∧
    exec (.hbusRetry false) s = .next (settle s) ∧ (s.pwr.hbusFold = false → exec (.hbusRetry true) s = .next (settle s))) ∧
  ∀ (s : State) (rail : Fin 8), (s.railWatched rail.val = true → exec (.railPgLoss rail) s =
      .next (settle { reset 2 s with pwr := { (reset 2 s).pwr with railFault := true, faultRail := rail.val } })) ∧
    (s.railWatched rail.val = false → exec (.railPgLoss rail) s = .next (settle s))

/-- What a write of the governor's delays, of PWR_CLR and of PWR_HTR does. A write that the bus carries, with legal
fields: PWR_GOV, its delays rising, is stored and applied to the excess in progress (govDelaysApply), and with delays
that do not rise answers E_RANGE. EAVES_REL with a limit of at least 16 W and no power failure ends forced Eaves,
counting T_EAVES from now, and answers E_STATE otherwise. HTR_OC_CLR clears the heater's latch and the heater follows;
HSUP_OC_CLR clears the head supply's latch and the supply follows; PWR_HTR is stored and the heater follows
(heaterFollow: a period begins where the output becomes allowed, an on-time ends where it is no longer).
(02_power_entry.md) -/
def Obligations.PowerRegistersAct : Prop :=
  (∀ (o : Origin) (v : Word) (s : State), Open o 0x02 s → Fits PWR_GOV v →
    (bits v 23 16 < bits v 15 8 → bits v 15 8 < bits v 7 0 * 10 →
      exec (.pwrGovWrite o v) s = .next (wrote o s (govDelaysApply (s.setReg PWR_GOV (s.written PWR_GOV v))))) ∧
    (bits v 15 8 ≤ bits v 23 16 ∨ bits v 7 0 * 10 ≤ bits v 15 8 → exec (.pwrGovWrite o v) s = .next (turnedAway o .eRange s))) ∧
  (∀ (o : Origin) (s : State), Open o 0x02 s →
    (s.pwr.powerFail = false → 1600 ≤ s.effLimit → s.pwr.eavesForced = true → exec (.eavesRel o) s = .next (wrote o s
      { s.setReg PWR_CLR (s.written PWR_CLR 1) with pwr := { s.pwr with eavesForced := false, eavesSince := s.time } })) ∧
    (s.pwr.powerFail = false → 1600 ≤ s.effLimit → s.pwr.eavesForced = false →
      exec (.eavesRel o) s = .next (wrote o s (s.setReg PWR_CLR (s.written PWR_CLR 1)))) ∧
    (s.pwr.powerFail = true ∨ s.effLimit < 1600 → exec (.eavesRel o) s = .next (turnedAway o .eState s))) ∧
  (∀ (o : Origin) (s : State), Open o 0x02 s → exec (.htrOcClr o) s = .next (wrote o s (heaterFollow s
    { s.setReg PWR_CLR (s.written PWR_CLR 2) with pwr := { s.pwr with htrOc := false } }))) ∧
  (∀ (o : Origin) (s : State), Open o 0x02 s → exec (.hsupOcClr o) s = .next (wrote o s (hsupFollow
    { s.setReg PWR_CLR (s.written PWR_CLR 4) with pwr := { s.pwr with hsupOc := false } }))) ∧
  ∀ (o : Origin) (v : Word) (s : State), Open o 0x02 s → Fits PWR_HTR v →
    exec (.pwrHtrWrite o v) s = .next (wrote o s (heaterFollow s (s.setReg PWR_HTR (s.written PWR_HTR v))))

/-- A slip warning, a PLL loss and a crystal failure put the unit into its wait for the clock. While the PLL is in use: a
slip warning of a unit that is not stopped begins a wait (beginWait), sets SLIP_SEEN and counts, and raises 0x00B; a
declared PLL loss is noted (pllLost), after an abrupt loss (abruptLoss) unless the unit is stopped with its DRAM in
self-refresh and the entry was complete; a crystal failure is such a loss without self-refresh, sets its flag and
counts, raises 0x00D and leaves the crystal failed and not started. beginWait leaves the unit waiting, with the PLL
unlocked, the sequencer on the RC oscillator and the DRAM in self-refresh unless the loss is abrupt. A crystal failure
in step 3, of a start or of a wake, fails the step and goes on from step 2. A forced mux switch outside Rind sets
SW_FORCED, counts and raises 0x010. Where the condition fails, nothing changes. (03_clock_tree.md) -/
def Obligations.ClockLossesStopTheUnit : Prop :=
  (∀ s : State, s.pllUsed = true → s.stopped = false → exec .clkSlipWarn s = .next (settle (raiseN 0x00B 0
    ((((beginWait false s).setFld CLK_FLAGS 1 1 1).count CLK_CNT 31 24).mapClk fun c => { c with slipWarn := true })))) ∧
  (∀ s : State, s.pllUsed = false ∨ s.stopped = true → exec .clkSlipWarn s = .next (settle s)) ∧
  (∀ (s : State) (refreshed : Bool), s.pllUsed = true → exec (.clkPllLoss refreshed) s =
    .next (settle (pllLost (if s.stopped && s.clk.selfRefresh && refreshed then s else abruptLoss s)))) ∧
  (∀ (s : State) (refreshed : Bool), s.pllUsed = false → exec (.clkPllLoss refreshed) s = .next (settle s)) ∧
  (∀ s : State, s.pllUsed = true → s.clk.xoFailed = false → exec .clkXoFail s = .next (settle (raiseN 0x00D 0
    ((((pllLost (abruptLoss s)).mapClk fun c => { c with xoFailed := true, xoOk := false, xoAmp := 0 }).setFld CLK_FLAGS 3 3 1).count
      CLK_CNT 15 8)))) ∧
  (∀ s : State, s.pllUsed = true → s.clk.xoFailed = true → exec .clkXoFail s = .next (settle s)) ∧
  (∀ (s : State) (abrupt : Bool), (beginWait abrupt s).clk.waiting = true ∧ (beginWait abrupt s).clk.pllLock = false ∧
    (beginWait abrupt s).clk.seqOnRc = true ∧ (beginWait abrupt s).clk.selfRefresh = !abrupt) ∧
  (∀ s : State, s.start.phase = .start → s.start.step = 3 → exec .clkXoFail s = .next (settle (setStep 2 (failStep 3
    ((raiseN 0x00D 0 ((s.setFld CLK_FLAGS 3 3 1).count CLK_CNT 15 8)).mapClk fun c => { c with xoOk := false, xoAmp := 0 }))))) ∧
  (∀ s : State, s.start.phase = .waking → s.start.wakeStep = 3 → exec .clkXoFail s = .next (settle (setWake 2 (failStep 3
    ((raiseN 0x00D 0 ((s.setFld CLK_FLAGS 3 3 1).count CLK_CNT 15 8)).mapClk fun c => { c with xoOk := false, xoAmp := 0 }))))) ∧
  (∀ s : State, s.portOn = true → s.inRind = false → exec .clkSwForced s =
    .next (settle (raiseN 0x010 0 ((s.setFld CLK_FLAGS 4 4 1).count CLK_CNT 7 0)))) ∧
  ∀ s : State, s.portOn = false ∨ s.inRind = true → exec .clkSwForced s = .next (settle s)

/-- How a wait for the clock ends, and what a sampled divisor change does. While the unit waits with its crystal good and
no retraining: a relock within its time resumes it (relocked) when the loss limit is not exceeded and no reset trigger
is recorded; a PLL loss beyond the limit of CLK_CFG sets CLK_FLAGS.6, raises 0x012 and recovers by a clock-fail reset,
and so do a recorded trigger (with its own kind added), a relock time-out, and a failed crystal that starts again.
DRAM retraining that completes in the wait resumes the unit; the background training after a failed RETRAIN ends with
its flag cleared. DRAM_LOST is cleared by a write of 1, from which the flat references are awaited anew
(dramLostCleared), and such a write while training runs answers E_STATE. A sampled change of the Eaves condition is
adopted, the rates change with it and 0x01A or 0x01B is raised; without a change the sample does nothing of its own.
Outside their conditions the events change nothing. (03_clock_tree.md, 04_starting_and_retention.md) -/
def Obligations.ClocksReturn : Prop :=
  (∀ (s : State) (lk : Nat), s.clk.waiting = true → s.clk.xoFailed = false → s.clk.retraining = false →
    ((s.start.trig = 0 → s.clk.lost = false ∨ s.clk.losses.length ≤ s.fld CLK_CFG 7 4 →
      exec (.pllRelock lk) s = .next (after s (relocked lk s))) ∧
    (s.start.trig ≠ 0 → s.clk.lost = false ∨ s.clk.losses.length ≤ s.fld CLK_CFG 7 4 →
      exec (.pllRelock lk) s = .next (settle (reset (2 ^ 6) s))) ∧
    (s.clk.lost = true → s.fld CLK_CFG 7 4 < s.clk.losses.length →
      exec (.pllRelock lk) s = .next (settle (reset (2 ^ 6) (raiseN 0x012 0 (s.setFld CLK_FLAGS 6 6 1))))) ∧
    exec .relockTimeout s = .next (settle (reset (2 ^ 6) s)))) ∧
  (∀ (s : State) (lk : Nat), s.clk.waiting = false ∨ s.clk.xoFailed = true ∨ s.clk.retraining = true →
    exec (.pllRelock lk) s = .next (settle s) ∧ exec .relockTimeout s = .next (settle s)) ∧
  (∀ s : State, (s.clk.waiting = true → s.clk.xoFailed = true → exec .clockFailRecovery s = .next (settle (reset (2 ^ 6) s))) ∧
    (s.clk.waiting = false ∨ s.clk.xoFailed = false → exec .clockFailRecovery s = .next (settle s))) ∧
  (∀ s : State, s.clk.waiting = true → s.clk.retraining = true → exec .dramRetrainingDone s =
    .next (after s (resumeGo s { s with tbl := { s.tbl with trainCk := s.dramCk }, clk := { s.clk with bgTrain := false } }))) ∧
  (∀ s : State, s.clk.waiting = false → s.clk.bgTrain = true → exec .dramRetrainingDone s =
    .next (settle { s with tbl := { s.tbl with trainCk := s.dramCk }, clk := { s.clk with bgTrain := false } })) ∧
  (∀ s : State, s.clk.waiting = false ∨ s.clk.retraining = false → s.clk.waiting = true ∨ s.clk.bgTrain = false →
    exec .dramRetrainingDone s = .next (settle s)) ∧
  (∀ (o : Origin) (s : State), Open o 0x01 s →
    (s.dramLost = false ∨ (s.clk.retraining = false ∧ s.clk.bgTrain = false) →
      exec (.dramLostClear o) s = .next (wrote o s (dramLostCleared s (s.setReg CLK_FLAGS (s.written CLK_FLAGS 0x20))))) ∧
    (s.dramLost = true → s.clk.retraining = true ∨ s.clk.bgTrain = true → exec (.dramLostClear o) s = .next (turnedAway o .eState s))) ∧
  ∀ s : State, (s.live = true → s.eavesWanted s.heat.enforced ≠ s.clk.eaves → exec .eavesDivisorChange s =
      .next (after s (raiseN (if s.eavesWanted s.heat.enforced then 0x01A else 0x01B) 0
        { rateChanges s with clk := { (rateChanges s).clk with eaves := s.eavesWanted s.heat.enforced } }))) ∧
    (s.live = true → s.eavesWanted s.heat.enforced = s.clk.eaves → exec .eavesDivisorChange s = .next (after s s)) ∧
    (s.live = false → exec .eavesDivisorChange s = .next (settle s))

/-- The LFO's measurement starts, ends, times out and is repeated. Outside Cold, with no verdict yet, the count starts;
when it ends the deviation is kept and LF_VALID or LF_FAIL set according to whether it lies within 800 units of 100
ppm, a failure raising 0x011; a count that does not end in time fails and raises 0x011; after a failure the
measurement is repeated. Nothing else changes, and outside its condition each of these events changes nothing.
(03_clock_tree.md) -/
def Obligations.LfoIsMeasured : Prop :=
  (∀ s : State, s.start.phase ≠ .cold → s.clk.lfValid = false → s.clk.lfFail = false →
    exec .lfoMeasureStart s = .next (settle { s with clk := { s.clk with lfCounting := true } })) ∧
  (∀ (s : State) (err : Int), s.clk.lfCounting = true → -800 ≤ err → err ≤ 800 → exec (.lfoMeasureDone err) s =
    .next (settle { s with clk := { s.clk with lfErr := err, lfCounting := false, lfValid := true, lfFail := false } })) ∧
  (∀ (s : State) (err : Int), s.clk.lfCounting = true → (err < -800 ∨ 800 < err) → exec (.lfoMeasureDone err) s =
    .next (settle (raiseN 0x011 0
      { s with clk := { s.clk with lfErr := err, lfCounting := false, lfValid := false, lfFail := true } }))) ∧
  (∀ s : State, s.clk.lfCounting = true → exec .lfoMeasureTimeout s = .next (settle (raiseN 0x011 0
    { s with clk := { s.clk with lfCounting := false, lfValid := false, lfFail := true } }))) ∧
  (∀ s : State, s.start.phase ≠ .cold → s.clk.lfFail = true →
    exec .lfoRemeasure s = .next (settle { s with clk := { s.clk with lfCounting := true } })) ∧
  ∀ (s : State) (err : Int), (s.start.phase = .cold ∨ s.clk.lfValid = true ∨ s.clk.lfFail = true → exec .lfoMeasureStart s = .next (settle s)) ∧
    (s.clk.lfCounting = false → exec (.lfoMeasureDone err) s = .next (settle s) ∧ exec .lfoMeasureTimeout s = .next (settle s)) ∧
    (s.start.phase = .cold ∨ s.clk.lfFail = false → exec .lfoRemeasure s = .next (settle s))

/-- Each start-up step that succeeds records its result and leads to the next. While the sequencer works on the step
(atStep): a valid input with 8 W available ends step 1 with all rails good, the crystal step 2, the PLL's lock step 3,
each leading to the next step; right check words, at the end of a step 4 that lost nothing, lead to step 5 with the
step passed; a training path that works ends step 5 with the DRAM out of self-refresh; steps 6, 7, 9 and 11 end with
their work done, step 8 with the slot whose check passes, or else with its fallback bit, step 10 with the heads that
answered and started; step 12 ends with an agreeing spot check of the retained trims, with a held record whose check
agrees, or with the calibration. A wake from Rind runs steps 2 and 3 in the same way, step 3 leading to the rest of
the wake (rindUp). Without their step these commands change nothing. What the model takes as the results of steps 4, 5
and 8 to 11 is log entry 9. (04_starting_and_retention.md, 02_power_entry.md, 03_clock_tree.md,
10_references_and_ripening.md) -/
def Obligations.StartStepsPass : Prop :=
  (∀ s : State, s.atStep 1 = true → (s.pwr.acValid = true ∨ s.pwr.poeValid = true) → 800 ≤ s.pwr.avail →
    exec (.supplyQualify none) s = .next (settle (setStep 2 (hsupFollow (passStep 1 1 { s with
      pwr := { s.pwr with pg := 255, busGood := true, busUp := true }, start := { s.start with step1Fails := 0 } }))))) ∧
  (∀ s : State, s.atStep 1 = true → (s.pwr.acValid = false ∧ s.pwr.poeValid = false) ∨ s.pwr.avail < 800 →
    exec (.supplyQualify none) s = .next (settle s)) ∧
  (∀ (s : State) (amp : Nat), s.atStep 2 = true → exec (.crystalStart amp) s = .next (settle (setStep 3 (passStep 2 1
    { s with clk := { s.clk with xoOk := true, xoAmp := amp, xoFailed := false } })))) ∧
  (∀ (s : State) (lk : Nat) (ph : Int), s.atStep 3 = true → exec (.pllLock lk ph) s = .next (settle (setStep 4 (passStep 3 1
    { s with clk := { s.clk with pllLock := true, lockTime := lk, phErr := ph, seqOnRc := false } })))) ∧
  (∀ (s : State) (amp : Nat), s.atWake 2 = true → exec (.crystalStart amp) s = .next (settle (setWake 3
    { s with clk := { s.clk with xoOk := true, xoAmp := amp, xoFailed := false } }))) ∧
  (∀ (s : State) (lk : Nat) (ph : Int), s.atWake 3 = true → exec (.pllLock lk ph) s = .next (settle (rindUp
    { s with clk := { s.clk with pllLock := true, lockTime := lk, phErr := ph, seqOnRc := false } }))) ∧
  (∀ s : State, s.atStep 4 = true → (s.start.trimsOk = true → s.trm.crc = s.trm.crcNow) →
    exec (.startStepDone (.checks true true true)) s = .next (settle (setStep 5 (passStep 4 1
      (if s.start.retry then s else { s with start := { s.start with
        dramPath := 0, dramExit := decide (2 ≤ s.start.cause ∧ s.start.cause ≠ 5) && !s.dramLost } }))))) ∧
  (∀ s : State, s.atStep 5 = true → exec (.dramTrainingDone true) s = .next (settle (dramTrained true s)) ∧
    (dramTrained true s).start.step = 6 ∧ (dramTrained true s).clk.selfRefresh = false) ∧
  (∀ s : State, s.atStep 6 = true → exec (.startStepDone .work) s = .next (settle (enterNor (passStep 6 1 s)))) ∧
  (∀ s : State, s.atStep 7 = true → exec (.startStepDone .work) s = .next (settle (norOpened true (passStep 7 1 s)))) ∧
  (∀ s : State, s.atStep 8 = true → exec (.startStepDone .work) s = .next (settle (match s.step8Slot with
    | some k => setStep 9 (passStep 8 1 { s with vat := { s.vat with step8 := some k } })
    | none => setStep 9 (addFallback 0x2000 (failStep 8 s))))) ∧
  (∀ s : State, s.atStep 9 = true → exec (.startStepDone .work) s = .next (settle (physReady 0 s))) ∧
  (∀ (s : State) (a b : BitVec 6), s.atStep 10 = true →
    exec (.startStepDone (.heads a.toNat b.toNat)) s = .next (settle (headsProbed a.toNat b.toNat s))) ∧
  (∀ s : State, s.atStep 11 = true → exec (.startStepDone .work) s = .next (settle (storageReady 0 s))) ∧
  (∀ (s : State) (ms : List TrimMeas), s.atStep 12 = true → s.trimSource = 2 → spotAgrees ms s.trim = true →
    exec (.spotCheckDone ms) s = .next (settle (enterHandOver (handOver 1)
      (passStep 12 1 { s with trm := { s.trm with src := 3 } })))) ∧
  (∀ (s : State) (ms : List TrimMeas) (l : List Word), s.atStep 12 = true → s.trimSource = 1 → s.trm.held = some l →
    spotAgrees ms (fun i => nth 0 l (6 + i)) = true → ∃ t, exec (.spotCheckDone ms) s = .next (settle (enterHandOver (handOver 1)
      (passStep 12 1 { t with trm := { t.trm with src := 2 } }))) ∧
      t = raiseN 0x1A4 0 (applyRecord s.chanIdle l { s with trm := { s.trm with held := none, pendRestore := false } })) ∧
  (∀ (s : State) (ms : List TrimMeas), s.atStep 12 = true → s.trimSource = 3 →
    exec (.initialCalibrationDone ms) s = .next (settle (calibrated ms (handOver 1) s))) ∧
  ∀ (s : State) (amp lk : Nat) (ph : Int) (ok : Bool) (ms : List TrimMeas) (r : StepReport) (f : Option (Fin 8)),
    (s.atStep 1 = false → exec (.supplyQualify f) s = .next (settle s)) ∧
    (s.atStep 2 = false → s.atWake 2 = false → exec (.crystalStart amp) s = .next (settle s)) ∧
    (s.atStep 3 = false → s.atWake 3 = false → exec (.pllLock lk ph) s = .next (settle s)) ∧
    (s.atStep 5 = false → exec (.dramTrainingDone ok) s = .next (settle s)) ∧
    (s.atStep s.start.step = false → exec (.startStepDone r) s = .next (settle s)) ∧
    (s.atStep 12 = false → exec (.spotCheckDone ms) s = .next (settle s) ∧ exec (.initialCalibrationDone ms) s = .next (settle s))

/-- What a failed start-up step leads to. A failed step 1 shows its rail, drops power-good and the head supply and is
counted; it waits for its retry, and the third failure holds the start. A failed step 2 or 3, of a start or of a wake,
is recorded and waits for its retry. A failed training path goes on with the next path by an internal retry from step
4, the last one holds; a failed step 6 is retried once, then holds; a failed step 7 or 8 sets its fallback bit and
goes on; the failed devices of steps 9, 10 and 11 are left out (physReady, headsProbed, storageReady). A disagreeing
spot check of the retained trims drops them, raises 0x1A5 with DATA 1 and stays in step 12. A first calibration that
lacks a plausible result for an item repeats step 12. A start that waits is tried again by the retry, which changes
nothing for one that does not wait. (04_starting_and_retention.md, 02_power_entry.md, 10_references_and_ripening.md) -/
def Obligations.FailedStepsFallBack : Prop :=
  (∀ (s : State) (r : Fin 8), s.atStep 1 = true → ∃ t, exec (.supplyQualify (some r)) s = .next t ∧ t.pwr.railFault = true ∧
    t.pwr.faultRail = r.val ∧ t.pwr.pg = 0 ∧ t.pwr.hsupOn = false ∧ t.start.step1Fails = s.start.step1Fails + 1 ∧
    (s.start.step1Fails < 2 → t.start.waitRetry = true ∧ t.start.step = 1) ∧ (2 ≤ s.start.step1Fails → t.start.step1Hold = true ∧ t.start.step = 15)) ∧
  (∀ (s : State) (b a : Nat), (s.atStep 2 = true ∨ s.atStep 3 = true) → exec (.startStepFail b a) s = .next (settle
    { failStep s.start.step s with start := { (failStep s.start.step s).start with waitRetry := true } })) ∧
  (∀ (s : State) (b a : Nat), s.atWake s.start.wakeStep = true → exec (.startStepFail b a) s = .next (settle
    { failStep s.start.wakeStep s with start := { (failStep s.start.wakeStep s).start with waitRetry := true } })) ∧
  (∀ s : State, (s.start.waitRetry = true →
      exec .stepRetry s = .next (settle { s with start := { s.start with waitRetry := false } })) ∧
    (s.start.waitRetry = false → exec .stepRetry s = .next (settle s))) ∧
  (∀ s : State, s.atStep 5 = true → ∃ t, exec (.dramTrainingDone false) s = .next t ∧ t.start.dramPath = s.start.dramPath + 1 ∧
    (s.start.dramPath + 1 < s.dramPaths.length → t.start.step = 4 ∧ t.start.retry = true) ∧
    (s.dramPaths.length ≤ s.start.dramPath + 1 → t.start.step = 15)) ∧
  (∀ (s : State) (b a : Nat), s.atStep 6 = true → ∃ t, exec (.startStepFail b a) s = .next t ∧
    (s.start.sramRetried = false → t.start.step = 6 ∧ t.start.sramRetried = true ∧ t.start.retry = true) ∧
    (s.start.sramRetried = true → t.start.step = 15)) ∧
  (∀ (s : State) (b a : Nat), s.atStep 7 = true → exec (.startStepFail b a) s =
    .next (settle (norOpened false (addFallback 0x1000 (failStep 7 s))))) ∧
  (∀ (s : State) (b a : Nat), s.atStep 8 = true → exec (.startStepFail b a) s =
    .next (settle (setStep 9 (addFallback 0x2000 (failStep 8 s))))) ∧
  (∀ (s : State) (b a : Nat), s.atStep 9 = true →
    exec (.startStepFail b a) s = .next (settle (physReady b s))) ∧
  (∀ (s : State) (b a : Nat), s.atStep 10 = true →
    exec (.startStepFail b a) s = .next (settle (headsProbed a (a - (a &&& b)) s))) ∧
  (∀ (s : State) (b a : Nat), s.atStep 11 = true →
    exec (.startStepFail b a) s = .next (settle (storageReady b s))) ∧
  (∀ (s : State) (ms : List TrimMeas), s.atStep 12 = true → s.trimSource = 2 → spotAgrees ms s.trim = false →
    exec (.spotCheckDone ms) s = .next (settle (raiseN 0x1A5 1
      { trimsDropped s with start := { (trimsDropped s).start with trimsOk := false } }))) ∧
  ∀ (s : State) (ms : List TrimMeas) (i : Fin 16), s.atStep 12 = true → s.trimSource = 3 → s.start.calRepeat = false →
    (∀ m ∈ ms, m.item = i → plausible i.val m.gain m.offset = false) →
    exec (.initialCalibrationDone ms) s = .next (settle (markStep 12 3 (failStep 12 { s with start := { s.start with calRepeat := true } })))

/-- Every reset trigger resets the block with its own kind. A brownout takes the bus away and resets with kind 1, but in
Cold does nothing and in a cool-down is only recorded; a power-on reset in Cold is of kind 0; the end of a cool-down
once the LFO is valid is of kind 5; each does nothing elsewhere. The soft-reset key that the bus carries, a recognised
low on RESET_N and the watchdog's reset stage are triggers of kinds 4, 2 and 3: a trigger resets with its own kind,
but in Cold does nothing, is recorded in a start's first steps, in a cool-down and while the crystal has failed, and
becomes a clock-fail reset with its kind added while the engine is stopped. RESET_N low also holds the start and ends
a hold in step 1, and its rise releases the start. Without its conditions the watchdog's reset changes nothing. The
loss of the always-on supply leads to Cold: the NOR, with a program in flight abandoned, and the media's contents are
kept, the registers, the journal, the tables, trims, threads and port are not. (02_power_entry.md,
04_starting_and_retention.md, 19_heat_model.md) -/
def Obligations.ResetTriggersReset : Prop :=
  (∀ s : State, (s.start.phase ≠ .cold → s.start.phase ≠ .cut →
      exec .brownout s = .next (settle (reset 2 { s with pwr := { s.pwr with busGood := false, busUp := false } }))) ∧
    (s.start.phase = .cold → exec .brownout s = .next (settle s)) ∧
    (s.start.phase = .cut →
      exec .brownout s = .next (settle (recordTrigger 1 { s with pwr := { s.pwr with busGood := false, busUp := false } })))) ∧
  (∀ s : State, (s.start.phase = .cold → exec .powerOnReset s = .next (settle (reset 1 s))) ∧
    (s.start.phase ≠ .cold → exec .powerOnReset s = .next (settle s))) ∧
  (∀ s : State, (s.start.phase = .cut → s.clk.lfValid = true → exec .thermalRestart s = .next (settle (reset 32 s))) ∧
    (s.start.phase ≠ .cut ∨ s.clk.lfValid = false → exec .thermalRestart s = .next (settle s))) ∧
  (∀ (o : Origin) (s : State), Open o 0x02 s → exec (.softReset o) s = .next (wrote o s (resetTrigger 4 s))) ∧
  (∀ s : State, exec .resetNLow s = .next (settle (
    let t := { resetTrigger 2 s with start := { (resetTrigger 2 s).start with resetLow := true } }
    if t.start.step1Hold then { t with start := { t.start with step1Hold := false, step1Fails := 0, waitRetry := false, step := 1 } } else t))) ∧
  (∀ s : State, exec .resetNRise s = .next (settle (
    if s.start.resetLow && s.start.phase == .start && s.start.seen / 4 % 2 == 1 && s.start.step == firstStep s.start.seen then
      { s with start := { s.start with releasedAt := s.time, entryAt := s.time, resetLow := false } }
    else { s with start := { s.start with resetLow := false } }))) ∧
  (∀ s : State, (s.hbArmed = true ∧ s.start.hostLost = true ∧ s.flag START_HB 16 = true → exec .watchdogReset s = .next (settle (resetTrigger 3 s))) ∧
    (s.hbArmed = false ∨ s.start.hostLost = false ∨ s.flag START_HB 16 = false → s.start.wdDue = false ∨ s.early = false →
      exec .watchdogReset s = .next (settle s))) ∧
  (∀ (k : Nat) (s : State), s.start.phase ≠ .cold → s.start.phase ≠ .cut →
    (s.stopped = false → s.early = false → resetTrigger k s = reset (2 ^ k) s) ∧
    (s.stopped = false → s.early = true → resetTrigger k s = recordTrigger k s) ∧
    (s.stopped = true → s.clk.xoFailed = true → resetTrigger k s = recordTrigger k s) ∧
    (s.stopped = true → s.clk.xoFailed = false → resetTrigger k s = reset (2 ^ 6 ||| 2 ^ k) s)) ∧
  (∀ (k : Nat) (s : State), (s.start.phase = .cold → resetTrigger k s = s) ∧ (s.start.phase = .cut → resetTrigger k s = recordTrigger k s)) ∧
  ∀ s : State, ∃ t, exec .alwaysOnSupplyLost s = .next (settle t) ∧ t.start.phase = .cold ∧ t.start.journal = [] ∧ t.regs = [] ∧
    t.pwr.busUp = false ∧ t.clk.xoOk = false ∧ t.tbl = {} ∧ t.trm = {} ∧ t.vat.pm = [] ∧ t.vat.threads = ({} : Vat).threads ∧ t.cp = {} ∧
    t.nor = s.norAbandoned ∧ t.cel.card = s.cel.card ∧ t.cel.media.map (·.wheels) = s.cel.media.map (·.wheels) ∧ t.pending = s.pending ∧ t.time = s.time

/-- What a reset keeps and what it loses, and where its start begins. For every state outside Rind and the first start-up
steps, with no recorded trigger, and each single kind: the start begins at the kind's first step with its code as
CAUSE and SEEN, and a new journal entry. The NOR stays, but for a program in flight, whose slot is spent; the media's
contents, the queue and the time stay; the registers take their reset values, but CLK_FLAGS and CLK_CNT after a
clock-fail recovery; programs, frames, sessions, the chain, the PTP time and the keys are lost. Trims and DRAM tables
stay with the kinds that keep the rails up; the older journal entries, the fallback state and the attempt counts are
lost by a power-on reset only. (04_starting_and_retention.md) -/
def Obligations.ResetsKeepTable45 : Prop :=
  ∀ (s : State) (k : Fin 7), s.inRind = false → s.early = false → s.start.trig = 0 →
    let t := reset (2 ^ k.val) s
    t.start.phase = .start ∧ t.start.cause = k.val ∧ t.start.seen = 2 ^ k.val ∧ t.start.step = startStepOf k.val ∧
    t.pending = s.pending ∧ t.time = s.time ∧ t.nor = s.norAbandoned ∧ t.cel.card = s.cel.card ∧ t.cel.media.map (·.wheels) = s.cel.media.map (·.wheels) ∧
    t.vat.pm = [] ∧ t.vat.dm = [] ∧ t.sch = {} ∧ t.egr = {} ∧ t.vlv = {} ∧ t.cp = {} ∧ t.ptpS = 0 ∧ t.ptpNs = 0 ∧ t.tbl.rings = [] ∧
    (k.val ≠ 6 → t.regs = []) ∧ (k.val = 6 → t.reg CLK_FLAGS = s.reg CLK_FLAGS ∧ t.reg CLK_CNT = s.reg CLK_CNT) ∧
    (startStepOf k.val ≠ 1 → t.trm.vals = s.trm.vals ∧ t.tbl.tabs.map (·.1) = s.tbl.tabs.map (·.1)) ∧
    (startStepOf k.val = 1 → t.trm.vals = ({} : Trims).vals ∧ t.tbl.tabs = []) ∧
    (k.val = 0 → t.start.journal.length = 1 ∧ t.start.fallback = 0) ∧
    (k.val ≠ 0 → t.start.journal.tail = s.start.journal.take 7 ∧ t.start.fallback = s.start.fallback ∧
      t.start.attempts = s.start.attempts)

/-- How the block hands over, and the host's heartbeat. HOST_GO that the bus carries, written in step 13, hands over to
the host (handOver 1), which leaves the Vat's memories and image identity cleared and the unit up in step 14; written
before, it is stored; after hand-over it answers E_STATE. HOST_WAIT running out in step 13, when it is not 0, no
HOST_GO comes in the same instant and 0x017 has not been raised, hands over standalone where an image passed step 8
and otherwise raises 0x017, once; it does nothing else. The host's kick one above the last is stored, restarts the
age, ends HOST_LOST and then raises 0x019; any other legal word answers E_RANGE, and a thread's kick E_STATE. While
the heartbeat is armed its first time sets HOST_LOST and raises 0x018, unless it is set; else nothing happens.
(04_starting_and_retention.md) -/
def Obligations.HandOverAndHeartbeat : Prop :=
  (∀ (o : Origin) (s : State), Open o 0x02 s → s.start.step = 13 → exec (.hostGo o) s = .next (wrote o s (handOver 1 s)) ∧
    (handOver 1 s).start.phase = .up ∧ (handOver 1 s).start.step = 14 ∧ (handOver 1 s).start.handover = 1 ∧
      (handOver 1 s).start.goPending = false ∧ (handOver 1 s).vat.pm = [] ∧ (handOver 1 s).vat.dm = [] ∧ (handOver 1 s).vat.img = none) ∧
  (∀ (o : Origin) (s : State), Open o 0x02 s → s.start.step ≠ 13 → s.handedOver = false →
    exec (.hostGo o) s = .next (wrote o s { s with start := { s.start with goPending := true } })) ∧
  (∀ (o : Origin) (s : State), Open o 0x02 s → s.handedOver = true → exec (.hostGo o) s = .next (turnedAway o .eState s)) ∧
  (∀ s : State, s.atStep 13 = true → s.fld START_HOSTWAIT 15 0 ≠ 0 → s.start.noStandalone = false → s.pending.head?.any isHostGo = false →
    (s.vat.step8.isSome = true → exec .hostWaitExpiry s = .next (settle (handOver 2 s))) ∧
    (s.vat.step8 = none → exec .hostWaitExpiry s =
      .next (settle (raiseN 0x017 0 { s with start := { s.start with noStandalone := true } })))) ∧
  (∀ s : State, s.atStep 13 = false ∨ s.fld START_HOSTWAIT 15 0 = 0 ∨ s.start.noStandalone = true ∨ s.pending.head?.any isHostGo = true →
    exec .hostWaitExpiry s = .next (settle s)) ∧
  (∀ (v : Word) (s : State), Open .host 0x02 s → Fits START_KICK v →
    (bits v 7 0 = (s.fld START_KICK 7 0 + 1) % 256 → exec (.startKick .host v) s = .next (wrote .host s (raiseIf s.start.hostLost 0x019 0
      { s.setReg START_KICK (s.written START_KICK v) with start := { s.start with kickAt := some s.time, hostLost := false } }))) ∧
    (bits v 7 0 ≠ (s.fld START_KICK 7 0 + 1) % 256 → exec (.startKick .host v) s = .next (turnedAway .host .eRange s))) ∧
  (∀ (v : Word) (t : Fin 8) (s : State), Open (.vat t) 0x02 s → exec (.startKick (.vat t) v) s = .next (turnedAway (.vat t) .eState s)) ∧
  ∀ s : State, (s.hbArmed = true → s.start.hostLost = false → exec .hbHostLost s =
      .next (after s (raiseN 0x018 0 { s with start := { s.start with hostLost := true } }))) ∧
    (s.hbArmed = false ∨ s.start.hostLost = true → exec .hbHostLost s = .next (settle s))

/-- Rind is requested, entered and left; the NOR's background work ends. A RIND_REQ that the bus carries begins the entry
(rindBegin) when its conditions hold, else answers E_STATE. The completed entry (rindEnter), once no frame or profile
runs, leaves Rind with the crystal, the PLL and the head supply off and the DRAM in self-refresh; before that it
changes nothing. An enabled wake source other than the timer, from a UART only an enabled one, and the timer where its
time is not 0, lead from Rind to the wake's step 2 with all rails up, and from an entry back up, named in LAST_SRC;
anywhere else, and not enabled, they change nothing. The NOR copy in flight is programmed, becoming the newest, or
fails, spending its slot, setting WRITE_FAIL and raising 0x01E; with none in flight nothing happens. A background
erase that completes takes effect (ringErased, startErased, cutErase) while the unit has its supply.
(04_starting_and_retention.md, 09_table_store.md) -/
def Obligations.RindAndItsWakes : Prop :=
  (∀ (o : Origin) (s : State), Open o 0x02 s → Fits START_STATE (putBits (s.reg START_STATE) 0 0 1) →
    (s.rindCode = .ok → exec (.rindReq o) s = .next (wrote o s (rindBegin (s.setReg START_STATE
      (s.written START_STATE (putBits (s.reg START_STATE) 0 0 1)))))) ∧
    (s.rindCode = .eState → exec (.rindReq o) s = .next (turnedAway o .eState s)) ∧ (s.rindCode = .ok ∨ s.rindCode = .eState)) ∧
  (∀ s : State, (s.rindReady = true → exec .rindEntryComplete s = .next (settle (rindEnter s)) ∧ (rindEnter s).start.phase = .rind ∧
      (rindEnter s).clk.xoOk = false ∧ (rindEnter s).clk.pllLock = false ∧ (rindEnter s).clk.selfRefresh = true ∧
      (rindEnter s).pwr.hsupOn = false) ∧
    (s.rindReady = false → exec .rindEntryComplete s = .next (settle s))) ∧
  (∀ (s : State) (src : Fin 7), src.val ≠ 1 → (3 ≤ src.val → s.serEn (src.val - 3) = true) → s.flag START_WAKE src.val = true →
    (s.start.phase = .rind → exec (.rindWake src) s = .next (settle { s with
      pwr := { s.pwr with pg := 255 }, start := { s.start with phase := .waking, wakeStep := 2, wakeSrc := src.val, waitRetry := false } })) ∧
    (s.start.phase = .entering → exec (.rindWake src) s = .next (settle (rindCancel src.val s)) ∧
      (rindCancel src.val s).start.phase = .up ∧ (rindCancel src.val s).start.lastWake = 2 ^ src.val)) ∧
  (∀ s : State, s.fld START_RIND_T 19 0 ≠ 0 → s.flag START_WAKE 1 = true →
    (s.start.phase = .rind → exec .rindTimerExpiry s = .next (settle { s with
      pwr := { s.pwr with pg := 255 }, start := { s.start with phase := .waking, wakeStep := 2, wakeSrc := 1, waitRetry := false } })) ∧
    (s.start.phase = .entering → exec .rindTimerExpiry s = .next (settle (rindCancel 1 s)) ∧
      (rindCancel 1 s).start.phase = .up ∧ (rindCancel 1 s).start.lastWake = 2)) ∧
  (∀ (s : State) (src : Fin 7), (src.val = 1 ∨ (3 ≤ src.val ∧ s.serEn (src.val - 3) = false) ∨ s.flag START_WAKE src.val = false ∨
      (s.start.phase ≠ .rind ∧ s.start.phase ≠ .entering) → exec (.rindWake src) s = .next (settle s)) ∧
    (s.fld START_RIND_T 19 0 = 0 ∨ s.flag START_WAKE 1 = false ∨ (s.start.phase ≠ .rind ∧ s.start.phase ≠ .entering) →
      exec .rindTimerExpiry s = .next (settle s))) ∧
  (∀ (s : State) (c : NorJournal) (rest : List NorJournal), s.norProgram = some .copy → s.start.norWrites = c :: rest →
    exec (.journalCopyWritten true) s = .next (settle { s with
      nor := s.nor.startPut (.held c), start := { s.start with norWrites := rest, norFail := false, norSeq := c.seq, norValid := true } }) ∧
    exec (.journalCopyWritten false) s = .next (settle (raiseN 0x01E 0
      { s with nor := s.nor.startPut .bad, start := { s.start with norWrites := rest, norFail := true } }))) ∧
  (∀ (s : State) (ok : Bool), s.norProgram ≠ some .copy → exec (.journalCopyWritten ok) s = .next (settle s)) ∧
  ∀ (s : State) (k : Fin 3), (s.portOn = true → exec (.norEraseDone 0) s = .next (settle (ringErased s)) ∧
    exec (.norEraseDone 1) s = .next (settle { s with nor := s.nor.startErased }) ∧
    (s.handedOver = true → exec (.norEraseDone 2) s = .next (settle (cutErase s))) ∧
    (s.handedOver = false → exec (.norEraseDone 2) s = .next (settle s))) ∧
    (s.portOn = false → exec (.norEraseDone k) s = .next (settle s))

/-- What STATUS, READ, WRITE and reserved transactions do. With the port powered and no wake by CP_CS_N: STATUS answers
the status word with OK; a reserved OP ends with E_ADDR; a READ of a page that is not refused ends with the bus's
code, or E_LEN when its clocks do not reach the end, returns status, zero, data and trailer, and takes what the read
takes once 96 clocks have come with OK; a WRITE with its seal and the right CRC to such a page is the bus's write and
ends with its code, a soft reset abandoning it; without its seal it ends with E_SEAL, with another CRC with E_CRC. On
a refused page reserved OPs, READs and sealed, right WRITEs end with E_BUSY and do nothing. With 4 to 31 clocks a READ
ends with E_LEN (E_BUSY while the port waits), a WRITE with E_SEAL. An unpowered port takes nothing. txEnd keeps the
code, the tag and the words returned, and a complete transaction marks the host present. (05_control_port.md,
04_starting_and_retention.md) -/
def Obligations.PortSingleTransactions : Prop :=
  (∀ s : State, s.portOn = true → s.flag START_WAKE 2 = false ∨ (s.start.phase ≠ .rind ∧ s.start.phase ≠ .entering) →
    (∀ clocks : Nat, 32 ≤ clocks → exec (.status clocks) s =
      .next (settle (txEnd .ok 0 true (clocked clocks [s.statusWord]) { s with busData := [] }))) ∧
    (∀ (op tag : BitVec 4) (a : BitVec 24) (clocks : Nat), 32 ≤ clocks → exec (.reservedOp op tag a clocks) s = .next (settle
      (txEnd (if s.refused (a.toNat / 0x10000) then .eBusy else .eAddr) tag.toNat true (clocked clocks [s.statusWord]) { s with busData := [] }))) ∧
    (∀ (tag : BitVec 4) (a : BitVec 24) (clocks : Nat), 32 ≤ clocks → s.refused (a.toNat / 0x10000) = false →
      let r := busRead .host a.toNat s
      exec (.read tag a clocks) s = .next (settle (txEnd (if 128 ≤ clocks then r.1 else r.1.first .eLen) tag.toNat (decide (128 ≤ clocks))
        (clocked clocks [s.statusWord, 0, r.2.1, word (at_ r.1.num 24 + crc16 [cpHeader 1 tag a, r.2.1])])
        { (if r.1 = .ok ∧ 96 ≤ clocks then r.2.2 else s) with busData := [r.2.1] }))) ∧
    (∀ (tag : BitVec 4) (a : BitVec 24) (v : Word) (clocks : Nat), 104 ≤ clocks → s.refused (a.toNat / 0x10000) = false →
      let r := busWrite .host a.toNat v s
      exec (.write tag a v (crcWord [cpHeader 2 tag a, v]) clocks) s = .next (settle (
        if r.1 = .ok ∧ a.toNat = START_CTL ∧ bits v 31 16 = 0x50F7 then r.2
        else txEnd r.1 tag.toNat true (clocked clocks [s.statusWord]) { r.2 with busData := [] }))) ∧
    (∀ (tag : BitVec 4) (a : BitVec 24) (v crc : Word) (clocks : Nat), 32 ≤ clocks → clocks < 104 →
      exec (.write tag a v crc clocks) s = .next (settle
        (txEnd .eSeal tag.toNat false (clocked clocks [s.statusWord]) { s with busData := [] }))) ∧
    (∀ (tag : BitVec 4) (a : BitVec 24) (v crc : Word) (clocks : Nat), 104 ≤ clocks → crc ≠ crcWord [cpHeader 2 tag a, v] →
      exec (.write tag a v crc clocks) s =
        .next (settle (txEnd .eCrc tag.toNat true (clocked clocks [s.statusWord]) { s with busData := [] }))) ∧
    (∀ (tag : BitVec 4) (a : BitVec 24) (v : Word) (clocks : Nat), s.refused (a.toNat / 0x10000) = true →
      (32 ≤ clocks → exec (.read tag a clocks) s = .next (settle (txEnd .eBusy tag.toNat (decide (128 ≤ clocks))
        (clocked clocks [s.statusWord, 0, 0, word (at_ Code.eBusy.num 24 + crc16 [cpHeader 1 tag a, 0])]) { s with busData := [0] }))) ∧
      (104 ≤ clocks → exec (.write tag a v (crcWord [cpHeader 2 tag a, v]) clocks) s =
        .next (settle (txEnd .eBusy tag.toNat true (clocked clocks [s.statusWord]) { s with busData := [] })))) ∧
    ∀ (tag : BitVec 4) (a : BitVec 24) (v crc : Word) (clocks : Nat), 4 ≤ clocks → clocks < 32 →
      exec (.read tag a clocks) s = .next (settle (txEnd (if s.portWaits then .eBusy else .eLen) (if 8 ≤ clocks then tag.toNat else 0) false [] s)) ∧
      exec (.write tag a v crc clocks) s = .next (settle (txEnd .eSeal (if 8 ≤ clocks then tag.toNat else 0) false [] s))) ∧
  (∀ (op tag : BitVec 4) (a : BitVec 24) (v crc : Word) (clocks : Nat) (s : State), s.portOn = false →
    exec (.status clocks) s = .next (settle s) ∧ exec (.reservedOp op tag a clocks) s = .next (settle s) ∧
    exec (.read tag a clocks) s = .next (settle s) ∧ exec (.write tag a v crc clocks) s = .next (settle s)) ∧
  ∀ (c : Code) (tag : Nat) (full : Bool) (miso : List Word) (s : State), let t := txEnd c tag full miso s
    t.busCode = c ∧ t.cp.lastCode = c.num ∧ t.cp.lastTag = tag ∧ t.cp.miso = miso ∧ t.start.hostPresent = (s.start.hostPresent || full)

/-- What bulk and page transactions do. With the port powered, no wake by CP_CS_N and at least the header's clocks: a BULK
READ of a page that is not refused answers its range (bulkRead), zeros for a code other than OK, and takes what the
words clocked out take; its TBL_BW word is drawn anew. A sealed BULK WRITE with the right CRC to such a page ends with
E_ALIGN or E_ADDR where it addresses no window, else with the code of its length and window, and with OK writes it. A
PAGE READ answers the held page's words, ends with E_STATE without one, with E_LEN and E_RANGE by its length and
address, moves the place in the page, and frees the page when it ends in full at its last word. A sealed PAGE RELEASE
with the right CRC frees the held page, or ends with E_STATE without one or while Rind is being entered. Reads without
all their clocks end with E_LEN; an unsealed one of the others with E_SEAL, another CRC with E_CRC; all four end with
E_BUSY on a refused page. (05_control_port.md) -/
def Obligations.PortBulkAndPages : Prop :=
  ∀ s : State, s.portOn = true → s.flag START_WAKE 2 = false ∨ (s.start.phase ≠ .rind ∧ s.start.phase ≠ .entering) →
    (∀ (tag : BitVec 4) (a : BitVec 24) (len : Word) (clocks : Nat), 32 ≤ clocks → s.refused (a.toNat / 0x10000) = false →
      let n := len.toNat
      let u := if a.toNat ≤ TBL_BW ∧ TBL_BW < a.toNat + 4 * min n 256 then drawn TBL_BW s else s
      let r := u.bulkRead a.toNat n
      let ws := dataWords r.1 clocks n r.2
      exec (.bulkRead tag a len clocks) s = .next (settle (txEnd (if 32 * (n + 4) ≤ clocks then r.1 else r.1.first .eLen) tag.toNat
        (decide (32 * (n + 4) ≤ clocks))
        (clocked clocks ([s.statusWord, 0, 0] ++ ws ++ [word (at_ r.1.num 24 + crc16 (cpHeader 3 tag a :: len :: ws))]))
        { (if r.1 = .ok ∧ 96 ≤ clocks then bulkTakes a.toNat n (delivered clocks n) u else u) with busData := ws }))) ∧
    (∀ (tag : BitVec 4) (a : BitVec 24) (ws : List Word) (clocks : Nat), ws.length < 2 ^ 32 → s.refused (a.toNat / 0x10000) = false →
      32 * (ws.length + 3) + 8 ≤ clocks →
      let c : Code := if a.toNat % 4 ≠ 0 then .eAlign
        else if ((regAt a.toNat).any fun r => r.win == .write) = false then .eAddr
        else (lenCode 4096 ws.length).first (s.windowCode a.toNat ws)
      exec (.bulkWrite tag a (word ws.length) (ws ++ [crcWord (cpHeader 4 tag a :: word ws.length :: ws)]) clocks) s =
        .next (settle (txEnd c tag.toNat true (clocked clocks [s.statusWord])
          { (if c = .ok then followUp s (windowWrite a.toNat ws s) else s) with busData := [] }))) ∧
    (∀ (tag : BitVec 4) (a : BitVec 24) (len : Word) (ws : List Word) (clocks : Nat), 32 ≤ clocks → clocks < 32 * (len.toNat + 3) + 8 →
      exec (.bulkWrite tag a len ws clocks) s =
        .next (settle (txEnd .eSeal tag.toNat false (clocked clocks [s.statusWord]) { s with busData := [] }))) ∧
    (∀ (tag : BitVec 4) (a : BitVec 24) (ws : List Word) (crc : Word) (clocks : Nat), ws.length < 2 ^ 32 →
      32 * (ws.length + 3) + 8 ≤ clocks → crc ≠ crcWord (cpHeader 4 tag a :: word ws.length :: ws) →
      exec (.bulkWrite tag a (word ws.length) (ws ++ [crc]) clocks) s =
        .next (settle (txEnd .eCrc tag.toNat true (clocked clocks [s.statusWord]) { s with busData := [] }))) ∧
    (∀ (tag : BitVec 4) (a : BitVec 24) (len : Word) (clocks : Nat), 32 ≤ clocks → s.refused 0x13 = false →
      let n := len.toNat
      let c : Code := if s.cp.pages = [] then .eState else if n = 0 ∨ 1024 < a.toNat % 1024 + n then .eLen
        else if 1024 ≤ a.toNat then .eRange else .ok
      let ws := dataWords c clocks n ((List.range (min n 1024)).map fun k => s.heldWords.getD (a.toNat + k) 0)
      let t := if c = .ok ∧ 0 < delivered clocks n then { s with cp := { s.cp with pageNext := a.toNat + delivered clocks n } } else s
      exec (.pageRead tag a len clocks) s = .next (settle (txEnd (if 32 * (n + 4) ≤ clocks then c else c.first .eLen) tag.toNat
        (decide (32 * (n + 4) ≤ clocks))
        (clocked clocks ([s.statusWord, 0, 0] ++ ws ++ [word (at_ c.num 24 + crc16 (cpHeader 5 tag a :: len :: ws))]))
        { (if c = .ok ∧ 32 * (n + 4) ≤ clocks ∧ a.toNat + n = 1024 then pageFreed t else t) with busData := ws }))) ∧
    (∀ (tag : BitVec 4) (a : BitVec 24) (clocks : Nat), 72 ≤ clocks → s.refused 0x13 = false →
      (s.closing = false → s.cp.pages ≠ [] → exec (.pageRelease tag a (crcWord [cpHeader 6 tag a]) clocks) s = .next (settle
        (txEnd .ok tag.toNat true (clocked clocks [s.statusWord]) { pageFreed s with busData := [] }))) ∧
      (s.closing = true ∨ s.cp.pages = [] → exec (.pageRelease tag a (crcWord [cpHeader 6 tag a]) clocks) s = .next (settle
        (txEnd .eState tag.toNat true (clocked clocks [s.statusWord]) { s with busData := [] })))) ∧
    (∀ (tag : BitVec 4) (a : BitVec 24) (crc : Word) (clocks : Nat),
      (32 ≤ clocks → clocks < 72 → exec (.pageRelease tag a crc clocks) s =
        .next (settle (txEnd .eSeal tag.toNat false (clocked clocks [s.statusWord]) { s with busData := [] }))) ∧
      (72 ≤ clocks → crc ≠ crcWord [cpHeader 6 tag a] → exec (.pageRelease tag a crc clocks) s =
        .next (settle (txEnd .eCrc tag.toNat true (clocked clocks [s.statusWord]) { s with busData := [] })))) ∧
    ∀ (tag : BitVec 4) (a : BitVec 24) (len : Word) (ws : List Word) (clocks : Nat),
      (s.refused (a.toNat / 0x10000) = true → 32 ≤ clocks → ∃ ms x, exec (.bulkRead tag a len clocks) s =
        .next (settle (txEnd .eBusy tag.toNat (decide (32 * (len.toNat + 4) ≤ clocks)) ms { s with busData := x }))) ∧
      (s.refused 0x13 = true → 32 ≤ clocks → ∃ ms x, exec (.pageRead tag a len clocks) s =
        .next (settle (txEnd .eBusy tag.toNat (decide (32 * (len.toNat + 4) ≤ clocks)) ms { s with busData := x }))) ∧
      (s.refused (a.toNat / 0x10000) = true → ws.length < 2 ^ 32 → 32 * (ws.length + 3) + 8 ≤ clocks →
        exec (.bulkWrite tag a (word ws.length) (ws ++ [crcWord (cpHeader 4 tag a :: word ws.length :: ws)]) clocks) s =
          .next (settle (txEnd .eBusy tag.toNat true (clocked clocks [s.statusWord]) { s with busData := [] }))) ∧
      (s.refused 0x13 = true → 72 ≤ clocks → exec (.pageRelease tag a (crcWord [cpHeader 6 tag a]) clocks) s =
        .next (settle (txEnd .eBusy tag.toNat true (clocked clocks [s.statusWord]) { s with busData := [] })))

/-- Keys are staged, imported, cleared and locked. A bulk write of KEY_STAGE that the port carries answers E_LOCK while
locked, E_STATE while Rind is entered, E_LEN unless it has 7 or 11 words, and else replaces the staging. With the bus
open and unlocked, the host's import answers E_STATE with nothing staged, E_LEN where an algorithm's length is not the
staged one, E_RANGE for no algorithm, and else starts the long operation 5; its clear empties the slot and its index
record and sets the last key code to 0; a thread's answer E_STATE. When the import ends, the staging and the check
value are zeroed; with the right check value the slot holds the key, and otherwise no slot changes, 0x1FE is raised
and the operation ends with E_AUTH; without one running nothing happens. The host's LOCK is stored and raises 0x1FF
when it sets; a thread's answers E_STATE. While locked imports and clears answer E_LOCK. (05_control_port.md) -/
def Obligations.KeyCommands : Prop :=
  (∀ (ws : List Word) (s : State), May .host 0x15 s →
    (s.flag KEY_LOCK 0 = true → exec (.keyStageWrite ws) s = .next (turnedAway .host .eLock s)) ∧
    (s.flag KEY_LOCK 0 = false → s.closing = true → exec (.keyStageWrite ws) s = .next (turnedAway .host .eState s)) ∧
    (s.flag KEY_LOCK 0 = false → s.closing = false → ws.length ≠ 7 → ws.length ≠ 11 → exec (.keyStageWrite ws) s = .next (turnedAway .host .eLen s)) ∧
    (s.flag KEY_LOCK 0 = false → s.closing = false → ws.length = 7 ∨ ws.length = 11 →
      exec (.keyStageWrite ws) s = .next (wrote .host s { s with cp := { s.cp with stage := ws } }))) ∧
  (∀ (slot : Fin 512) (alg : Fin 4) (s : State), Open .host 0x15 s → s.flag KEY_LOCK 0 = false →
    (s.cp.stage = [] → exec (.keyImport .host slot alg) s = .next (turnedAway .host .eState s)) ∧
    (s.cp.stage ≠ [] → keyLen alg.val ≠ 0 → s.cp.stage.length ≠ keyLen alg.val → exec (.keyImport .host slot alg) s = .next (turnedAway .host .eLen s)) ∧
    (s.cp.stage ≠ [] → keyLen alg.val = 0 → exec (.keyImport .host slot alg) s = .next (turnedAway .host .eRange s)) ∧
    (keyLen alg.val ≠ 0 → s.cp.stage.length = keyLen alg.val → exec (.keyImport .host slot alg) s = .next (wrote .host s
      { s with cp := { s.cp with op := some ⟨5, slot.val + 512 * alg.val, s.time⟩ } }))) ∧
  (∀ (s : State) (k : LongOp), s.live = true → s.cp.op = some k → k.id = 5 →
    (keyCheckValue (s.cp.stage.take (keyLen (k.arg / 512) - 3)) = s.cp.kcv → exec .keyImportDone s = .next (after s (endOp .ok
      { indexEmpty (k.arg % 512) s with
        cp := { s.cp with keys := aput s.cp.keys (k.arg % 512) ⟨k.arg / 512, s.cp.stage⟩, stage := [], kcv := 0, keyLast := Code.ok.num } }))) ∧
    (keyCheckValue (s.cp.stage.take (keyLen (k.arg / 512) - 3)) ≠ s.cp.kcv → exec .keyImportDone s = .next (after s (endOp .eAuth
      { raiseN 0x1FE 0 s with cp := { s.cp with stage := [], kcv := 0, keyLast := Code.eAuth.num } })))) ∧
  (∀ s : State, s.live = false ∨ s.cp.op = none ∨ (∃ k, s.cp.op = some k ∧ k.id ≠ 5) → exec .keyImportDone s = .next (settle s)) ∧
  (∀ (slot : Fin 512) (s : State), Open .host 0x15 s → s.flag KEY_LOCK 0 = false → exec (.keyClear .host slot) s = .next (wrote .host s
    { indexEmpty slot.val s with cp := { s.cp with keys := adel s.cp.keys slot.val, keyLast := 0 } })) ∧
  (∀ s : State, Open .host 0x15 s → exec (.keyLockSet .host) s = .next (wrote .host s (raiseIf (!s.flag KEY_LOCK 0) 0x1FF 0
    (s.setReg KEY_LOCK (s.written KEY_LOCK 1))))) ∧
  (∀ (t : Fin 8) (slot : Fin 512) (alg : Fin 4) (s : State), Open (.vat t) 0x15 s →
    exec (.keyLockSet (.vat t)) s = .next (turnedAway (.vat t) .eState s) ∧
    (s.flag KEY_LOCK 0 = false → exec (.keyImport (.vat t) slot alg) s = .next (turnedAway (.vat t) .eState s) ∧
      exec (.keyClear (.vat t) slot) s = .next (turnedAway (.vat t) .eState s))) ∧
  ∀ (o : Origin) (slot : Fin 512) (alg : Fin 4) (s : State), Open o 0x15 s → s.flag KEY_LOCK 0 = true →
    exec (.keyImport o slot alg) s = .next (turnedAway o .eLock s) ∧ exec (.keyClear o slot) s = .next (turnedAway o .eLock s)

/-- What dispatching, acknowledging, routing, refilling and draining do. While live, the dispatcher takes the capture
chosen next, and nothing without one. A W1C write of GUT_PEND clears those bits and may start a re-arm pulse (rearm);
a GUT_SRC write with a legal route and at most one level routes the source, sets four tokens where STORM changes and
counts what it newly presents, another answers E_RANGE. A due token of a limited source joins its bucket, undoes a
suppression of the same cycle, or becomes a summary. Of two re-arm pulses the one that began first ends. The oldest D5
record, when the NOR programs it, fills the next slot, or with a failed write spends it, sets WRITE_FAIL and is lost.
The oldest D6 delivery goes to its enabled, idle UART as the line's characters; the oldest D3 and D4 deliveries are
handed on and counted as delivered or lost. Where their conditions fail, these commands change nothing. (06_gutter.md,
23_serial_ports.md) -/
def Obligations.GutterWorks : Prop :=
  (∀ s : State, (∀ (n : Nat) (c : Capture), s.live = true → s.nextCapture = some (n, c) →
      exec .dispatch s = .next (settle (wakeEvents (dispatchCapture n c s)))) ∧
    (s.live = false ∨ s.nextCapture = none → exec .dispatch s = .next (settle s))) ∧
  (∀ (o : Origin) (m : Fin 16) (v : Word) (s : State), Open o 0x03 s → Fits (GUT_PEND m.val) v →
    exec (.pendClear o m v) s = .next (wrote o s (rearm
      (((List.range 32).filter fun b => bit v b && s.pend (32 * m.val + b)).map fun b => 32 * m.val + b) s
      (s.setReg (GUT_PEND m.val) (s.written (GUT_PEND m.val) v))))) ∧
  (∀ (o : Origin) (n : Fin 512) (v : Word) (s : State), Open o 0x03 s → Fits (GUT_SRC n.val) v →
    let ok := (bit v 22 || decide (b2n (bit v 24) + b2n (bit v 25) + b2n (bit v 26) ≤ 1)) && bits v 31 24 &&& fixedRoute n.val == fixedRoute n.val
    (ok = true → exec (.gutSrcWrite o n v) s = .next (wrote o s (wakeEvents (countPresented n.val s (
      let t := s.setReg (GUT_SRC n.val) (s.written (GUT_SRC n.val) v)
      if bits v 11 8 = s.srcStorm n.val then t else t.setSrc n.val { t.src n.val with tokens := 4 }))))) ∧
    (ok = false → exec (.gutSrcWrite o n v) s = .next (turnedAway o .eRange s))) ∧
  (∀ (s : State) (n : Fin 512), s.live = true → s.srcStorm n.val ≠ 0 → (s.src n.val).tokens < 4 →
    ((s.src n.val).supp = 0 → exec (.stormRefill n) s =
      .next (settle (s.setSrc n.val { s.src n.val with tokens := (s.src n.val).tokens + 1 }))) ∧
    ((s.src n.val).supp ≠ 0 → (s.src n.val).suppAt = some s.time → exec (.stormRefill n) s = .next (settle (capture n.val (s.src n.val).lastData 0
      (s.setSrc n.val { s.src n.val with supp := (s.src n.val).supp - 1, suppAt := none })))) ∧
    ((s.src n.val).supp ≠ 0 → (s.src n.val).suppAt ≠ some s.time → exec (.stormRefill n) s = .next (settle (capture n.val (s.src n.val).lastData 0
      (s.setSrc n.val { s.src n.val with sumAt := some s.time }))))) ∧
  (∀ (s : State) (n : Fin 512), s.live = false ∨ s.srcStorm n.val = 0 ∨ 4 ≤ (s.src n.val).tokens → exec (.stormRefill n) s = .next (settle s)) ∧
  (∀ s : State, (∀ a b, s.gut.pulseA = some a → s.gut.pulseB = some b → exec .irqPulseEnd s = .next (settle { s with gut :=
      { s.gut with pulseA := if b < a then some a else none, pulseB := if a < b then some b else none } })) ∧
    (s.gut.pulseA = none ∨ s.gut.pulseB = none → exec .irqPulseEnd s =
      .next (settle { s with gut := { s.gut with pulseA := none, pulseB := none } }))) ∧
  (∀ (s : State) (d : Delivery) (rest : List Delivery), s.live = true → s.gut.d5 = d :: rest → s.norProgram = some .record →
    exec (.journalRecordWritten true) s = .next (settle (({ s with
      nor := { s.nor.ringAdvance with
        ring := memPutList zeroes s.nor.ringAdvance.ring (8 * s.nor.ringNext) 1 (ringRecord s.nor.ringAdvance.ringSeq s.start.cause d)
        ringSeq := (s.nor.ringAdvance.ringSeq + 1) % 2 ^ 32, ringLast := s.nor.ringNext, ringCount := s.nor.ringAdvance.ringCount + 1 }
      gut := { s.gut with d5 := rest, jFail := false } } : State).count (GUT_DRAIN 5) 31 16)) ∧
    exec (.journalRecordWritten false) s = .next (settle (({ s with
      nor := s.nor.ringSpent, gut := { s.gut with d5 := rest, jFail := true } } : State).count (GUT_DRAIN 5) 15 8))) ∧
  (∀ (s : State) (ok : Bool), s.live = false ∨ s.norProgram ≠ some .record → exec (.journalRecordWritten ok) s = .next (settle s)) ∧
  (∀ (s : State) (d : Delivery) (rest : List Delivery), s.gut.d6 = d :: rest →
    let u := s.fld GUT_D6CFG 1 0
    let ready := s.live && s.flag GUT_D6CFG 3 && s.serEn u && (s.ser u).txq.isEmpty && (s.ser u).tx.isNone
    (ready = true → exec .reportLine s = .next (settle (serPush u (reportLine d)
      (onSer u (fun x => { x with line := (reportLine d).length }) { s with gut := { s.gut with d6 := rest } })))) ∧
    (ready = false → exec .reportLine s = .next (settle s))) ∧
  (∀ (s : State) (d : Delivery) (rest : List Delivery), s.live = true →
    (s.gut.d3 = d :: rest → exec .alarmHandoff s = .next (settle (handedOff 3 (alarmHandoff d { s with gut := { s.gut with d3 := rest } })))) ∧
    (s.gut.d4 = d :: rest → exec .markerHandoff s = .next (settle (handedOff 4 (markerHandoff d { s with gut := { s.gut with d4 := rest } }))))) ∧
  ∀ s : State, (s.live = false ∨ s.gut.d3 = [] → exec .alarmHandoff s = .next (settle s)) ∧
    (s.live = false ∨ s.gut.d4 = [] → exec .markerHandoff s = .next (settle s)) ∧ (s.gut.d6 = [] → exec .reportLine s = .next (settle s))

/-- Every arithmetic instruction writes its result to rd and changes nothing else. For every ready thread (eligible, PC +
1 within the code), and for every register and immediate operand: each three-register, immediate, shift and LUI
instruction, CODE among them, leaves rd with the value of Table 7.3, computed from the operands read before (a write
to V0 is discarded), and goes on at PC + 1. No other register of the thread, no other thread, no memory and nothing
outside the Vat changes but its instruction count. (07_vat_machine.md) -/
def Obligations.VatArithmeticWritesRd : Prop :=
  ∀ (s : State) (t : Fin 8) (rd ra rb : Fin 16) (imm : BitVec 18) (imm22 : BitVec 22), Ready t s →
    let gives (i : Instr) (v : Word) : Prop := ∃ s', exec i s = .next s' ∧ WentOn t ((s.thread t).pc + 1) s s' ∧ Sets t rd v s s' ∧
      s'.vat.dm = s.vat.dm
    let a := s.vreg t ra
    let b := s.vreg t rb
    (gives (.add t rd ra rb) (a + b) ∧ gives (.sub t rd ra rb) (a - b) ∧ gives (.and t rd ra rb) (a &&& b) ∧
      gives (.or t rd ra rb) (a ||| b) ∧ gives (.xor t rd ra rb) (a ^^^ b) ∧ gives (.sll t rd ra rb) (a <<< (b.toNat % 32)) ∧
      gives (.srl t rd ra rb) (a >>> (b.toNat % 32)) ∧ gives (.sra t rd ra rb) (a.sshiftRight (b.toNat % 32)) ∧
      gives (.slt t rd ra rb) (if a.toInt < b.toInt then 1 else 0) ∧ gives (.sltu t rd ra rb) (if a.toNat < b.toNat then 1 else 0) ∧
      gives (.min t rd ra rb) (if b.toInt < a.toInt then b else a) ∧ gives (.max t rd ra rb) (if a.toInt < b.toInt then b else a) ∧
      gives (.mul t rd ra rb) (a * b) ∧ gives (.mulh t rd ra rb) (BitVec.ofInt 32 (a.toInt * b.toInt / 2 ^ 32))) ∧
    (gives (.addi t rd ra imm) (a + imm.signExtend 32) ∧ gives (.andi t rd ra imm) (a &&& imm.zeroExtend 32) ∧
      gives (.ori t rd ra imm) (a ||| imm.zeroExtend 32) ∧ gives (.xori t rd ra imm) (a ^^^ imm.zeroExtend 32) ∧
      gives (.slti t rd ra imm) (if a.toInt < (imm.signExtend 32).toInt then 1 else 0) ∧
      gives (.lui t rd imm22) (imm22.zeroExtend 32 <<< 10) ∧ gives (.code t rd) (word (s.thread t).lastCode)) ∧
    (imm.toNat < 32 → gives (.slli t rd ra imm) (a <<< imm.toNat) ∧ gives (.srli t rd ra imm) (a >>> imm.toNat) ∧
      gives (.srai t rd ra imm) (a.sshiftRight imm.toNat))

/-- What LD, ST and the atomic instructions read and write. For every ready thread (eligible, PC + 1 within the code) and
an aligned address below 16384: LD sets rd to the word there; ST puts rd there; AMOADD and AMOSWAP set rd to the old
word and put the sum with rb, or rb, there. Every other word of data memory, every other register and thread and
everything outside the Vat stays, and the thread goes on at PC + 1. An address that is not aligned traps with cause 3,
an aligned one beyond the memory with cause 4; neither writes a register or memory. (07_vat_machine.md) -/
def Obligations.VatMemoryAccesses : Prop :=
  ∀ (s : State) (t : Fin 8) (rd ra rb : Fin 16) (imm : BitVec 18), Ready t s →
    let a := (s.vreg t ra + imm.signExtend 32).toNat
    let p := (s.vreg t ra).toNat
    let moves (i : Instr) (w : Nat) (new : Word) (set : State → Prop) : Prop := ∃ s', exec i s = .next s' ∧
      WentOn t ((s.thread t).pc + 1) s s' ∧ s'.vat.dm = memPut zeroes s.vat.dm w new ∧ (∀ x, x ≠ w → s'.dmem x = s.dmem x) ∧ set s'
    (a % 4 = 0 → a < 16384 →
      (∃ s', exec (.ld t rd ra imm) s = .next s' ∧ WentOn t ((s.thread t).pc + 1) s s' ∧ Sets t rd (s.dmem (a / 4)) s s' ∧
        s'.vat.dm = s.vat.dm) ∧
      moves (.st t rd ra imm) (a / 4) (s.vreg t rd) (fun s' => ∀ r : Fin 16, s'.vreg t r = s.vreg t r)) ∧
    (p % 4 = 0 → p < 16384 →
      moves (.amoadd t rd ra rb) (p / 4) (s.dmem (p / 4) + s.vreg t rb) (Sets t rd (s.dmem (p / 4)) s) ∧
      moves (.amoswap t rd ra rb) (p / 4) (s.vreg t rb) (Sets t rd (s.dmem (p / 4)) s)) ∧
    ((a % 4 ≠ 0 ∨ 16384 ≤ a) → let cause := if a % 4 ≠ 0 then 3 else 4
      exec (.ld t rd ra imm) s = .next (settle (vTrap t cause (vIssued t s))) ∧
      exec (.st t rd ra imm) s = .next (settle (vTrap t cause (vIssued t s)))) ∧
    ((p % 4 ≠ 0 ∨ 16384 ≤ p) → let cause := if p % 4 ≠ 0 then 3 else 4
      exec (.amoadd t rd ra rb) s = .next (settle (vTrap t cause (vIssued t s))) ∧
      exec (.amoswap t rd ra rb) s = .next (settle (vTrap t cause (vIssued t s))))

/-- Where branches, jumps and returns from a trap lead. For every eligible thread: a conditional branch whose condition
holds goes on at PC plus its offset where that lies within the code, one whose condition fails at PC + 1; JAL and JALR
go on at their target and leave PC + 1 in rd, the target read first; RTT in a handler goes on at EPC + 1 and leaves
the handler. No other register, thread, memory or state outside the Vat changes but the thread's instruction count. A
target, or a next instruction, outside the code traps with cause 2 instead, EPC + 1 of an RTT among them, and RTT
outside a handler traps with cause 1. (07_vat_machine.md) -/
def Obligations.VatBranchesGoWhereTheySay : Prop :=
  ∀ (s : State) (t : Fin 8) (rd ra rb : Fin 16) (off : BitVec 18) (j : BitVec 14), s.eligible t.val = true →
    let pc := (s.thread t).pc
    let dst : Int := pc + off.toInt
    let a := s.vreg t ra
    let b := s.vreg t rb
    let goes (i : Instr) (dst : Nat) : Prop := ∃ s', exec i s = .next s' ∧ WentOn t dst s s' ∧
      (∀ r : Fin 16, s'.vreg t r = s.vreg t r) ∧ s'.vat.dm = s.vat.dm
    let traps (i : Instr) (cause : Nat) : Prop := exec i s = .next (settle (vTrap t cause (vIssued t s)))
    let branches (i : Instr) (c : Prop) : Prop := (c → 0 ≤ dst → dst < s.codeWords → goes i dst.toNat) ∧
      (c → (dst < 0 ∨ (s.codeWords : Int) ≤ dst) → traps i 2) ∧ (¬ c → pc + 1 < s.codeWords → goes i (pc + 1)) ∧
      (¬ c → s.codeWords ≤ pc + 1 → traps i 2)
    let links (i : Instr) (dst : Nat) : Prop := (dst < s.codeWords → ∃ s', exec i s = .next s' ∧ WentOn t dst s s' ∧
      Sets t rd (word (pc + 1)) s s' ∧ s'.vat.dm = s.vat.dm) ∧ (s.codeWords ≤ dst → traps i 2)
    branches (.beq t ra rb off) (a = b) ∧ branches (.bne t ra rb off) (a ≠ b) ∧ branches (.blt t ra rb off) (a.toInt < b.toInt) ∧
    branches (.bge t ra rb off) (b.toInt ≤ a.toInt) ∧ branches (.bltu t ra rb off) (a.toNat < b.toNat) ∧
    branches (.bgeu t ra rb off) (b.toNat ≤ a.toNat) ∧ branches (.bcode t off) ((s.thread t).lastCode ≠ 0) ∧
    links (.jal t rd j) j.toNat ∧ links (.jalr t rd ra) a.toNat ∧
    ((s.thread t).inTrap = true → (s.thread t).epc + 1 < s.codeWords → ∃ s', exec (.rtt t) s = .next s' ∧
      WentOn t ((s.thread t).epc + 1) s s' ∧ (s'.thread t).inTrap = false ∧ (∀ r : Fin 16, s'.vreg t r = s.vreg t r) ∧ s'.vat.dm = s.vat.dm) ∧
    ((s.thread t).inTrap = true → s.codeWords ≤ (s.thread t).epc + 1 → traps (.rtt t) 2) ∧
    ((s.thread t).inTrap = false → traps (.rtt t) 1)

/-- Which instructions trap, and what a trap saves and where it leads. For an eligible thread: BREAK traps with cause 6; a
shift by 32 or more, a context field of 9 to 15 (of 8 to 15 for CSEL), ANAQ with sel 3 and EMIT with n of 5 to 7 trap
with cause 1; and every instruction that goes on at PC + 1, its fields legal and its address aligned and within the
memory, traps with cause 2 where that lies beyond the code. A trap keeps the PC in EPC, the word there in TWORD, the
cause, and whether it was nested; with the handler enabled and the thread not in one, the thread goes on at the
handler, in it (Stopped if it was stepped), and otherwise it is Trapped at its PC. No register, no memory and no other
thread changes. (07_vat_machine.md) -/
def Obligations.VatTrapsAsTable75 : Prop :=
  (∀ (s : State) (t u : Fin 8) (rd ra rb : Fin 16) (imm : BitVec 18) (imm22 : BitVec 22) (ctx : Fin 16) (pt sel : Fin 4)
      (n : Fin 8) (st : Bool) (page tbl : BitVec 8) (mask : BitVec 3) (off : BitVec 14) (ch : Fin 4) (prof : Fin 32), s.eligible t.val = true →
    let traps (i : Instr) (cause : Nat) : Prop := exec i s = .next (settle (vTrap t cause (vIssued t s)))
    let inMemory (a : Nat) : Prop := a % 4 = 0 ∧ a < 16384
    traps (.brk t) 6 ∧
    (32 ≤ imm.toNat → ∀ i ∈ [Instr.slli t rd ra imm, .srli t rd ra imm, .srai t rd ra imm], traps i 1) ∧
    (8 ≤ ctx.val → traps (.csel t ctx) 1) ∧
    (9 ≤ ctx.val → ∀ i ∈ [Instr.fnum t rd ctx, .commit t ctx, .wfrm t rd ctx pt st, .wshg t rd ctx], traps i 1) ∧
    (9 ≤ ctx.val ∨ sel.val = 3 → traps (.anaq t rd ctx sel) 1) ∧ (5 ≤ n.val → traps (.emit t ra n) 1) ∧
    (s.codeWords ≤ (s.thread t).pc + 1 →
      (∀ i ∈ [Instr.add t rd ra rb, .sub t rd ra rb, .and t rd ra rb, .or t rd ra rb, .xor t rd ra rb, .sll t rd ra rb,
        .srl t rd ra rb, .sra t rd ra rb, .slt t rd ra rb, .sltu t rd ra rb, .min t rd ra rb, .max t rd ra rb, .mul t rd ra rb,
        .mulh t rd ra rb], traps i 2) ∧
      (∀ i ∈ [Instr.addi t rd ra imm, .andi t rd ra imm, .ori t rd ra imm, .xori t rd ra imm, .slti t rd ra imm, .lui t rd imm22,
        .code t rd], traps i 2) ∧
      (∀ i ∈ [Instr.get t rd page off, .put t rd page off, .getr t rd ra, .putr t rd ra,
        .spawn t ra rb u, .rdt t rd sel, .tset t ra st, .wtim t rd, .wevt t rd ra rb, .yield t, .fire t ch prof,
        .hkt t mask, .bank t tbl], traps i 2) ∧
      (imm.toNat < 32 → ∀ i ∈ [Instr.slli t rd ra imm, .srli t rd ra imm, .srai t rd ra imm], traps i 2) ∧
      (ctx.val < 8 → traps (.csel t ctx) 2) ∧
      (ctx.val < 9 → ∀ i ∈ [Instr.fnum t rd ctx, .commit t ctx, .wfrm t rd ctx pt st, .wshg t rd ctx], traps i 2) ∧
      (ctx.val < 9 → sel.val < 3 → traps (.anaq t rd ctx sel) 2) ∧ (n.val < 5 → traps (.emit t ra n) 2) ∧
      (inMemory (s.vreg t ra + imm.signExtend 32).toNat → traps (.ld t rd ra imm) 2 ∧ traps (.st t rd ra imm) 2) ∧
      (inMemory (s.vreg t ra).toNat → traps (.amoadd t rd ra rb) 2 ∧ traps (.amoswap t rd ra rb) 2))) ∧
  ∀ (x : State) (t : Fin 8) (cause : Nat), let y := vTrap t cause x
    let th := x.thread t
    let on := x.flag (VAT_TTRAP t) 31 && !th.inTrap
    (y.thread t).cause = cause ∧ (y.thread t).epc = th.pc ∧ (y.thread t).tword = memGet zeroes x.vat.pm th.pc ∧
    (y.thread t).nested = th.inTrap ∧ (y.thread t).wait = none ∧
    (on = true → (y.thread t).pc = x.fld (VAT_TTRAP t) 13 0 ∧ (y.thread t).inTrap = true ∧
      (y.thread t).state = if th.stepping then .stopped else .running) ∧
    (on = false → (y.thread t).pc = th.pc ∧ (y.thread t).inTrap = th.inTrap ∧ (y.thread t).state = .trapped) ∧
    (∀ (u : Fin 8) (r : Fin 16), y.vreg u r = x.vreg u r) ∧ (∀ u : Fin 8, u ≠ t → y.thread u = x.thread u) ∧
    y.vat.dm = x.vat.dm ∧ y.vat.pm = x.vat.pm

/-- What the instructions that use the register bus, and EMIT, do. For a ready thread, x being the state once it has
issued: GET, GETR, FNUM and ANAQ read their register as the thread and put the word, of ANAQ's occupancy its count
alone, in rd where the code is OK; PUT, PUTR, COMMIT, FIRE, HKT and BANK write theirs; the code becomes the thread's
last code and may trap, and the thread goes on, unless the write left it not running. FNUM and ANAQ on a context that
is not enabled, and ANAQ where its analysis is off, return E_CTX without an access. EMIT raises the thread's event n
with ra as its DATA. (07_vat_machine.md) -/
def Obligations.VatBusInstructions : Prop :=
  ∀ (s : State) (t : Fin 8) (rd ra : Fin 16), Ready t s →
    let x := vIssued t s
    let fetches (i : Instr) (a : Nat) (f : Word → Word) : Prop := let u := regRead (.vat t) a x
      exec i s = .next (settle (vCode t u.busCode (if u.busCode = .ok then setV t rd (f (nth 0 u.busData 0)) u else u)))
    let stores (i : Instr) (a : Nat) (v : Word) : Prop := let u := regWrite (.vat t) a v x
      exec i s = .next (settle (if u.runs t then vCode t u.busCode u else u))
    (∀ (page : BitVec 8) (off : BitVec 14), fetches (.get t rd page off) (page.toNat * 0x10000 + off.toNat * 4) id ∧
      stores (.put t rd page off) (page.toNat * 0x10000 + off.toNat * 4) (s.vreg t rd)) ∧
    fetches (.getr t rd ra) ((s.vreg t ra).toNat % 2 ^ 24) id ∧ stores (.putr t rd ra) ((s.vreg t ra).toNat % 2 ^ 24) (s.vreg t rd) ∧
    (∀ (ctx : Fin 16) (c : Nat), ctx.val < 9 → s.ctxOf t ctx = some c →
      stores (.commit t ctx) INT_COMMIT (word (2 ^ c)) ∧
      (s.ctxEnabled c = true → fetches (.fnum t rd ctx) (INT_FNUM c) id) ∧
      (s.ctxEnabled c = false → exec (.fnum t rd ctx) s = .next (settle (vCode t .eCtx x))) ∧
      (s.ctxEnabled c = false ∨ x.flag (ANA_CTL c) 31 = false → ∀ sel : Fin 4, sel.val < 3 →
        exec (.anaq t rd ctx sel) s = .next (settle (vCode t .eCtx x))) ∧
      (s.ctxEnabled c = true → x.flag (ANA_CTL c) 31 = true →
        fetches (.anaq t rd ctx 0) (ANA_STAT c) (fun w => word (bits w 22 16)) ∧ fetches (.anaq t rd ctx 1) (ANA_OCC c) id ∧
        fetches (.anaq t rd ctx 2) (ANA_LOIT c) id)) ∧
    (∀ (ch : Fin 4) (prof : Fin 32), stores (.fire t ch prof) ACT_CMD (word (at_ 1 28 + at_ ch 16 + at_ prof 11))) ∧
    (∀ mask : BitVec 3, stores (.hkt t mask) HK_TRIGCMD (word mask.toNat)) ∧
    (∀ tbl : BitVec 8, stores (.bank t tbl) TBL_CMD (word (at_ 2 28 + tbl.toNat))) ∧
    ∀ n : Fin 8, n.val < 5 → exec (.emit t ra n) s = .next (settle (vNext t (raise (0x043 + 8 * t + n) (s.vreg t ra) x)))

/-- What the thread-control, timer and waiting instructions do. For a ready thread, x being the state once it has issued:
HALT halts it after the instruction and raises event k = 1; SPAWN begins another idle thread at ra with rb in its V1
and returns OK, and otherwise its error; YIELD lets the eligible others go first; CSEL sets the current context; RDT
reads the time, the uptime or the thread's number; TSET arms the timer. WFRM and WSHG wait for their point, the sticky
WFRM returning at once with a counted frame and event k = 2 for the frames before it, and return E_CTX on a context
that is not enabled; WEVT takes a presented source or waits; WTIM waits, returns what expired, or E_STATE with the
timer disarmed. A time-out ends a timed event wait and nothing else; an expiry ends the timer wait or is counted, and
is nothing with the timer disarmed. (07_vat_machine.md) -/
def Obligations.VatControlAndWaits : Prop :=
  (∀ (s : State) (t u : Fin 8) (rd ra rb ctx : Fin 16) (per : Bool), Ready t s →
    let x := vIssued t s
    exec (.halt t) s = .next (settle (raiseN (0x041 + 8 * t) (s.thread t).pc (onThread t (fun th =>
      { th with state := .halted, pc := (s.thread t).pc + 1, wait := none, stepping := false, yieldFor := [] }) x))) ∧
    (u ≠ t → ((s.thread u).state = .stopped ∨ (s.thread u).state = .halted) → (s.vreg t ra).toNat < s.codeWords →
      exec (.spawn t ra rb u) s = .next (settle (vCode t .ok
        (onThread u (fun th => th.begin (s.vreg t ra).toNat) (setV u 1 (s.vreg t rb) x))))) ∧
    (u = t ∨ ¬ ((s.thread u).state = .stopped ∨ (s.thread u).state = .halted) →
      exec (.spawn t ra rb u) s = .next (settle (vCode t .eState x))) ∧
    (u ≠ t → ((s.thread u).state = .stopped ∨ (s.thread u).state = .halted) → s.codeWords ≤ (s.vreg t ra).toNat →
      exec (.spawn t ra rb u) s = .next (settle (vCode t .eRange x))) ∧
    exec (.yield t) s = .next (settle (vNext t (onThread t (fun th =>
      { th with yieldFor := (List.range 8).filter fun v => v != t.val && x.eligible v }) x))) ∧
    (ctx.val < 8 → exec (.csel t ctx) s = .next (settle (vNext t (onThread t (fun th => { th with ctx := ctx }) x)))) ∧
    exec (.rdt t rd 0) s = .next (settle (vNext t (setV t rd (word s.ptpNs)
      (onThread t (fun th => { th with ptpHi := word s.ptpS }) x)))) ∧
    exec (.rdt t rd 1) s = .next (settle (vNext t (setV t rd (s.thread t).ptpHi x))) ∧
    exec (.rdt t rd 2) s = .next (settle (vNext t (setV t rd (word s.upTicks) x))) ∧
    exec (.rdt t rd 3) s = .next (settle (vNext t (setV t rd (word t) x))) ∧
    exec (.tset t ra per) s = .next (settle (vNext t (onThread t (fun th =>
      { th with period := (s.vreg t ra).toNat, periodic := per, expiry := s.upTicks + (s.vreg t ra).toNat, missed := 0 }) x)))) ∧
  (∀ (s : State) (t : Fin 8) (rd ra rb ctx : Fin 16) (pt : Fin 4) (c : Nat), Ready t s →
    let x := vIssued t s
    (ctx.val < 9 → s.ctxOf t ctx = some c → s.ctxEnabled c = true →
      exec (.wfrm t rd ctx pt false) s = .next (settle (vWait t (.frame rd c pt) x)) ∧
      (∀ fn, (s.thread t).count (4 * c + pt) = (1, fn) → exec (.wfrm t rd ctx pt true) s =
        .next (settle (vCode t .ok (setV t rd (word fn) (clearCount t (4 * c + pt) x))))) ∧
      (∀ n fn, 2 ≤ n → (s.thread t).count (4 * c + pt) = (n, fn) → exec (.wfrm t rd ctx pt true) s = .next (settle (vCode t .ok
        (setV t rd (word fn) (clearCount t (4 * c + pt) (raiseN (0x042 + 8 * t) (at_ 2 28 + (n - 1)) x)))))) ∧
      (((s.thread t).count (4 * c + pt)).1 = 0 → exec (.wfrm t rd ctx pt true) s = .next (settle (vWait t (.frame rd c pt) x))) ∧
      exec (.wshg t rd ctx) s = .next (settle (vWait t (.shingle rd c) x))) ∧
    (ctx.val < 9 → s.ctxOf t ctx = some c → s.ctxEnabled c = false →
      (∀ st, exec (.wfrm t rd ctx pt st) s = .next (settle (vCode t .eCtx (clearCount t (4 * c + pt) x)))) ∧
      exec (.wshg t rd ctx) s = .next (settle (vCode t .eCtx x))) ∧
    (∀ n, x.d2Source t = some n → exec (.wevt t rd ra rb) s = .next (settle (takeEvent t rd ra n x))) ∧
    (x.d2Source t = none → exec (.wevt t rd ra rb) s = .next (settle (vWait t (.event rd ra
      (if (s.vreg t rb).toNat = 0 then none else some (s.upTicks + (s.vreg t rb).toNat))) x))) ∧
    ((s.thread t).period = 0 → exec (.wtim t rd) s = .next (settle (vCode t .eState x))) ∧
    ((s.thread t).period ≠ 0 → (s.thread t).missed = 0 → exec (.wtim t rd) s = .next (settle (vWait t (.timer rd) x))) ∧
    ((s.thread t).period ≠ 0 → (s.thread t).missed ≠ 0 → (s.thread t).periodic = true → exec (.wtim t rd) s =
      .next (settle (timerReturn t rd ((s.thread t).missed - 1) (onThread t (fun th => { th with missed := 0 }) x)))) ∧
    ((s.thread t).period ≠ 0 → (s.thread t).missed ≠ 0 → (s.thread t).periodic = false → exec (.wtim t rd) s =
      .next (settle (timerReturn t rd 0 (onThread t (fun th => { th with missed := 0, period := 0 }) x))))) ∧
  (∀ (s : State) (t : Fin 8) (rd ra : Nat) (d : Nat), s.live = true → (s.thread t).wait = some (.event rd ra (some d)) →
    (s.d2Source t = none → exec (.wevtTimeout t) s = .next (settle (vNext t (setV t rd 0 s)))) ∧
    ∀ n, s.d2Source t = some n → exec (.wevtTimeout t) s = .next (settle (takeEvent t rd ra n s))) ∧
  (∀ (s : State) (t : Fin 8), s.live = false ∨ (∀ rd ra d, (s.thread t).wait ≠ some (.event rd ra (some d))) →
    exec (.wevtTimeout t) s = .next (settle s)) ∧
  (∀ (s : State) (t : Fin 8), s.live = false ∨ (s.thread t).period = 0 ∨ (s.thread t).missed ≠ 0 ∧ (s.thread t).periodic = false →
    exec (.threadTimerExpiry t) s = .next (settle s)) ∧
  ∀ (s : State) (t : Fin 8), s.live = true → (s.thread t).period ≠ 0 → ((s.thread t).missed = 0 ∨ (s.thread t).periodic = true) →
    exec (.threadTimerExpiry t) s = .next (settle (
      let y := onThread t (fun th => { th with expiry := if th.periodic then th.expiry + th.period else s.upTicks }) s
      match (s.thread t).wait with
      | some (.timer rd) =>
        timerReturn t rd 0 (if (s.thread t).periodic then y else onThread t (fun th => { th with period := 0 }) y)
      | _ => onThread t (fun th => { th with missed := th.missed + 1 }) y))

/-- What thread commands, register writes, image commands and their ends do. With the bus open: START, STOP, RESUME and
STEP act as Table 7.8 says where an image is installed, the thread is not the sender and its state allows them, and
answer E_STATE otherwise, START E_RANGE for a PC beyond the code. A register of an idle thread takes the word; V0
answers E_RO, another thread E_STATE. The host's bulk write stages image words; during a store it answers E_STATE, and
E_LEN for no word, more than 4096 or past the window. The host's CHECK starts long operation 6 and CLEAR clears the
Vat, with every thread idle; STOPALL stops every thread; STORE begins to store a staged image that is installed, with
no store in progress; a thread's, and in another state the host's CHECK, CLEAR or STORE, answers E_STATE. A check that
ends installs the image or not and answers its code; a store that ends marks its slot valid, or sets STORE_FAIL.
Neither does anything where none is in progress. (07_vat_machine.md, 00_scope.md) -/
def Obligations.VatHostCommands : Prop :=
  (∀ (o : Origin) (t : Fin 8) (pc : BitVec 14) (s : State), Open o 0x04 s →
    let able : Prop := o ≠ .vat t ∧ s.vat.img.isSome = true
    (able → (s.thread t).idle = true → pc.toNat < s.codeWords → exec (.threadStart o t pc) s =
      .next (wrote o s (onThread t (fun th => { th.begin pc.toNat with inTrap := false }) s))) ∧
    (able → (s.thread t).idle = true → s.codeWords ≤ pc.toNat → exec (.threadStart o t pc) s = .next (turnedAway o .eRange s)) ∧
    (¬ able ∨ (s.thread t).idle = false → exec (.threadStart o t pc) s = .next (turnedAway o .eState s)) ∧
    (able → exec (.threadStop o t) s = .next (wrote o s (stopThread t s))) ∧
    (¬ able → exec (.threadStop o t) s = .next (turnedAway o .eState s)) ∧
    (able → (s.thread t).idle = true → exec (.threadResume o t) s = .next (wrote o s (onThread t (fun th => { th with
      state := .running, pc := if th.state == .trapped then th.epc + 1 else th.pc, stepping := false }) s))) ∧
    (¬ able ∨ (s.thread t).idle = false → exec (.threadResume o t) s = .next (turnedAway o .eState s)) ∧
    (able → (s.thread t).state = .stopped → exec (.threadStep o t) s =
      .next (wrote o s (onThread t (fun th => { th with state := .running, stepping := true }) s))) ∧
    (¬ able ∨ (s.thread t).state ≠ .stopped → exec (.threadStep o t) s = .next (turnedAway o .eState s))) ∧
  (∀ (o : Origin) (t : Fin 8) (r : Fin 16) (v : Word) (s : State), Open o 0x04 s →
    (r ≠ 0 → (s.thread t).idle = true → exec (.vatRegWrite o t r v) s = .next (wrote o s (setV t r v s))) ∧
    (r ≠ 0 → (s.thread t).idle = false → exec (.vatRegWrite o t r v) s = .next (turnedAway o .eState s)) ∧
    (r = 0 → exec (.vatRegWrite o t r v) s = .next (turnedAway o .eRo s))) ∧
  (∀ (ws : List Word) (s : State), Open .host 0x04 s →
    let fits : Prop := 0 < ws.length ∧ ws.length ≤ 4096 ∧ s.fld VAT_LADDR 14 0 + ws.length ≤ 20528
    (s.vat.storeBusy = false → fits → exec (.vatLoadWrite ws) s = .next (wrote .host s (loadImageWords ws s))) ∧
    (s.vat.storeBusy = true → exec (.vatLoadWrite ws) s = .next (turnedAway .host .eState s)) ∧
    (s.vat.storeBusy = false → ¬ fits → exec (.vatLoadWrite ws) s = .next (turnedAway .host .eLen s))) ∧
  (∀ (o : Origin) (nor start : Bool) (s : State), Open o 0x04 s →
    let takes (i : Instr) (may : Prop) (x : State) : Prop := (o = .host → may → exec i s = .next (wrote o s x)) ∧
      (o ≠ .host ∨ ¬ may → exec i s = .next (turnedAway o .eState s))
    takes (.check o nor start) (s.allIdle = true) { s with cp := { s.cp with op := some ⟨6, 2 * b2n nor + b2n start, s.time⟩ } } ∧
    takes (.stopall o) True (stopAll s) ∧ takes (.clear o) (s.allIdle = true) (clearVat s) ∧
    takes (.store o) (s.vat.storeBusy = false ∧ s.vat.stagedIsInstalled = true ∧ s.inEffect 12 = false ∧
      s.vat.img.map (·.origin) = some 1) (startStore s)) ∧
  (∀ s : State, (∀ k : LongOp, s.live = true → s.cp.op = some k → k.id = 6 → let r := checkImage (k.arg / 2) (k.arg % 2 == 1) s
      exec .recipeCheckDone s = .next (after s (endOp r.1 r.2))) ∧
    (s.live = false ∨ (∀ k, s.cp.op = some k → k.id ≠ 6) → exec .recipeCheckDone s = .next (settle s))) ∧
  ∀ (s : State) (ok : Bool), (s.live = true → s.vat.storeBusy = true →
    let v := { s.vat with storeBusy := false, storeFail := !ok, storeWords := [] }
    exec (.imageStoreDone ok) s = .next (settle { s with vat := if ok = false then v
      else if s.vat.storeSlot = 2 then { v with slotA := some s.vat.storeWords } else { v with slotB := some s.vat.storeWords } })) ∧
    (s.live = false ∨ s.vat.storeBusy = false → exec (.imageStoreDone ok) s = .next (settle s))

/-- What packets, losses and samples do at intake. A packet is counted and judged first. With a header that cannot be read
nothing else happens; on a virtual channel of no enabled head it is unmapped. Else a frame start, a line or a frame
end goes to its head's receiver: a line of another data kind breaks the frame (reason 9, 0x0B7), one without a frame,
or before the line awaited, is left, the awaited line of an accepted frame is appended to it, and a complete accepted
frame ends its frame, one not accepted only its END point; another data type that is neither handled nor the head's
raises 0x0B7. A skew sequence is noted; a head lost while it delivers ends its frame, becomes IDLE and raises k = 2,
aborting a press on H0 to H3 for reason 4; a dead link goes down; a disagreement not yet shown is shown and raised as
k = 5; a substrate sample takes the telemetry of H0 to H3. Otherwise, and with the clocks stopped, none of these does
anything. (13_sensor_intake.md) -/
def Obligations.PacketsGoToTheirHead : Prop :=
  (∀ (s : State) (p : StartPacket) (l : LinePacket) (vc y : Nat) (dt : BitVec 6) (e : PacketErr),
    let packets := [Instr.frameStart { p with vc } e, .imageLine { l with vc, err := e }, .frameEnd vc e y, .intDtUnknown vc dt e,
      .intVcUnmapped vc e]
    let x := packetSeen e s
    let v := x.vcOf vc
    (s.live = false → ∀ i ∈ packets, exec i s = .next (after s s)) ∧
    (s.live = true → readable e x = false → ∀ i ∈ packets, exec i s = .next (after s x)) ∧
    (s.live = true → readable e x = true → x.headOfVc v = none → ∀ i ∈ packets, exec i s = .next (after s (unmappedPacket v x))) ∧
    exec (.frameStart p e) s = .next (after s (headStart p e s)) ∧
    ∀ n, s.live = true → readable e x = true → x.headOfVc v = some n →
      (let known := quietType dt.toNat = true ∨ dt.toNat = [0x2D, 0x2B, 0x2C].getD (x.headKind n) 0
       (known → exec (.intDtUnknown vc dt e) s = .next (after s x)) ∧
       (¬ known → exec (.intDtUnknown vc dt e) s = .next (after s (raiseN 0x0B7 (at_ v 8 + dt.toNat) x)))) ∧
      exec (.intVcUnmapped vc e) s = .next (after s x) ∧
      (let line := exec (.imageLine { l with vc, err := e }) s
       (l.kind ≠ x.headKind n → line = .next (after s (breakRx n 9 false
          (raiseN 0x0B7 (at_ v 8 + [0x2D, 0x2B, 0x2C].getD l.kind (l.kind % 64)) x)))) ∧
       (l.kind = x.headKind n → ((x.head n).rx = none → line = .next (after s x)) ∧ ∀ r, (x.head n).rx = some r →
         (l.y < r.next → line = .next (after s x)) ∧
         (r.next ≤ l.y → line = .next (after s (lineSlot n { l with vc, err := e } (lineSeen n { l with vc, err := e } r x)))) ∧
         ∀ c, r.next = l.y → e = .none → r.resync = false → r.accepted = true → r.broken = false → l.y < r.h → l.px.length = r.w →
           x.ctxOfHead n = some c → line = .next (after s (pipeGo (onFrame c r.fn (fun f => f.addRows [l.px] s.time)
             (onHead n (fun h => { h with rx := some { r with next := l.y + 1 } }) x)))))) ∧
      ((x.head n).rx = none → exec (.frameEnd vc e y) s = .next (after s x)) ∧
      ∀ r c, (x.head n).rx = some r → x.ctxOfHead n = some c → r.resync = false →
        (r.accepted = true → r.broken = false → r.next = r.h → y ≤ r.h → exec (.frameEnd vc e y) s =
          .next (after s (repairsTold n r (frameEnds c r.fn (onHead n (fun h => { h with rx := none }) x))))) ∧
        (r.accepted = false → exec (.frameEnd vc e y) s =
          .next (after s (repairsTold n r (pointAt c 1 r.fn (onHead n (fun h => { h with rx := none }) x)))))) ∧
  (∀ s : State, (s.live = true → exec .deskewSequence s = .next (settle { s with int := { s.int with deskewOk := true } })) ∧
    (s.live = false → exec .deskewSequence s = .next (settle s))) ∧
  (∀ (s : State) (n : Fin 6), let delivers := s.live = true ∧ s.headEn n.val = true ∧
      ((s.head n.val).obs = .resync ∨ (s.head n.val).obs = .streaming)
    (delivers → exec (.intHeadLost n) s = .next (after s (if n.val < 4 then pressAbort n.val 4 (headSilent n.val s) else headSilent n.val s))) ∧
    (¬ delivers → exec (.intHeadLost n) s = .next (after s s))) ∧
  (∀ s : State, let may := s.live = true ∧ (List.range 6).any s.headEn = true
    (may → exec .intLinkDown s = .next (settle (raiseIf s.int.linkUp 0x0B1 0 { s with int := { s.int with
      linkUp := false, deskewOk := false, deskewMissing := false, heads := s.int.heads.map fun h => { h with stray := none } } }))) ∧
    (¬ may → exec .intLinkDown s = .next (settle s))) ∧
  (∀ (s : State) (n : Fin 6), let k := s.disagreement n.val
    let new := s.live = true ∧ k ≠ 0 ∧ ¬ ((s.head n.val).dis = true ∧ (s.head n.val).disKind = k)
    (new → exec (.intHeadDisagree n) s = .next (settle (raiseN (0x085 + 8 * n.val) k
      (onHead n.val (fun h => { h with dis := true, disKind := k }) s)))) ∧
    (¬ new → exec (.intHeadDisagree n) s = .next (settle s))) ∧
  ∀ s : State, (s.live = true → exec .telemetrySample s = .next (settle ((List.range 4).foldl (fun x n =>
    onHead n (fun h => { h with samples := (⟨((x.telemetry n (INT_HTSCAL n)).map (·.1)).getD h.ts,
      ((x.telemetry n (INT_HTSCAL n)).map (·.2)).getD false⟩ :: h.samples).take 17 }) x) s))) ∧
    (s.live = false → exec .telemetrySample s = .next (settle s))

/-- What the registers of contexts, heads, the head I2C and the generators do. With the bus open: a write of a context's
CTL enables or disables it; a commit arms its contexts, or answers E_CTX with one OFF and E_STATE with one stopping; a
head's CFG (a head switched off breaks its frame and becomes IDLE), the link's register (taking the link down), the
map, a bias or reference current (pending, at once where its context is OFF or it has none), an I2C command (queued
with its data and master) and PLAY take a legal word, and answer E_STATE, E_RANGE or E_FULL where their rule says so.
The first I2C command not yet done ends with its status and data, raising 0x0BA and with status 4 0x0BB. A run that
ends counts as done, leaves the pipeline free, and with the last the frame is done. A pattern generator starts a frame
at its period; a generated line is appended to its accepted frame, the last ending it. (13_sensor_intake.md,
08_recipes_and_latency.md, 00_scope.md) -/
def Obligations.IntakeRegistersAct : Prop :=
  (∀ (o : Origin) (c : Fin 8) (p : BitVec 3) (s : State), Open o 0x09 s →
    exec (.contextEnable o c p) s = .next (wrote o s (enableCtx c.val (s.setReg (INT_CTL c.val) (s.written (INT_CTL c.val) (word (256 + p.toNat)))))) ∧
    exec (.contextDisable o c p) s = .next (wrote o s (disableCtx c.val (s.setReg (INT_CTL c.val) (s.written (INT_CTL c.val) (word p.toNat)))))) ∧
  (∀ (c : Nat) (s : State), ((s.ctx c).st = .off → enableCtx c s = setCtxSt c .on (onCtx c (fun x => { x with armed := true }) s) ∧ disableCtx c s = s) ∧
    ((s.ctx c).st = .on → enableCtx c s = s ∧ disableCtx c s = setCtxSt c (if (s.ctx c).frames.isEmpty then .off else .stopping) s) ∧
    ((s.ctx c).st = .stopping → enableCtx c s = onCtx c (fun x => { x with enPend := true }) s ∧
      disableCtx c s = onCtx c (fun x => { x with enPend := false }) s)) ∧
  (∀ (o : Origin) (v : Word) (s : State), Open o 0x09 s →
    (Fits INT_COMMIT v → s.commitCode v = .ok → exec (.intCommitWrite o v) s = .next (wrote o s (armCommits v s))) ∧
    (s.commitCode v ≠ .ok → exec (.intCommitWrite o v) s = .next (turnedAway o (s.commitCode v) s))) ∧
  (∀ (lat : Held) (s : State) (r : Run), s.live = true → s.sch.run = some r → let y := { s with sch := { s.sch with run := none } }
    (s.frame? r.ctx r.fn = none → exec (.runEnd lat) s = .next (after s (pipeGo y))) ∧
    ∀ f, s.frame? r.ctx r.fn = some f →
      let z := encAdvance r.ctx f (if f.shingle then min f.h ((r.idx + 1) * f.hs) else f.h) (shingleEnd r.ctx r.fn r.idx
        (onFrame r.ctx r.fn (fun f => { f with runsDone := f.runsDone + 1 }) (recordLatency r.ctx (f.latency r.idx s.time) y)))
      exec (.runEnd lat) s = .next (after s (pipeGo (if f.runs ≤ r.idx + 1 then frameDone r.ctx { f with runsDone := f.runsDone + 1 } z else z)))) ∧
  (∀ (lat : Held) (s : State), s.live = false ∨ s.sch.run = none → exec (.runEnd lat) s = .next (after s s)) ∧
  (∀ (o : Origin) (n : Fin 6) (v : Word) (s : State), Open o 0x09 s →
    let keeps := s.mappedActive n.val = true → bits v 27 24 = s.fld (INT_HCFG n.val) 27 24 ∧ bits v 23 22 = s.fld (INT_HCFG n.val) 23 22 ∧
      bits v 21 21 = s.fld (INT_HCFG n.val) 21 21
    let legal := (bit v 31 = true → ∀ m, m < 6 → m ≠ n.val → s.headEn m = true → s.fld (INT_HCFG m) 27 24 ≠ bits v 27 24) ∧
      (s.flag INT_LINK 27 = true ∨ bits v 27 24 ≤ 3) ∧ kindAllowed n.val (bits v 23 22) = true ∧ 8 ≤ bits v 6 0 ∧ bits v 6 0 ≤ 0x77
    let x := { s.setReg (INT_HCFG n.val) (s.written (INT_HCFG n.val) v) with
      int := { s.int with vcSeen := s.int.vcSeen.filter (· != bits v 27 24) } }
    (keeps → legal → Fits (INT_HCFG n.val) v → exec (.intHncfgWrite o n v) s = .next (wrote o s (disFollow n.val
      (if s.headEn n.val && !bit v 31 then onHead n.val (fun h => { h with obs := .idle, rx := none }) (cutHead n.val x)
       else onHead n.val (fun h => { h with stray := none }) x)))) ∧
    (¬ keeps → exec (.intHncfgWrite o n v) s = .next (turnedAway o .eState s)) ∧
    (keeps → ¬ legal → exec (.intHncfgWrite o n v) s = .next (turnedAway o .eRange s))) ∧
  (∀ (o : Origin) (v : Word) (s : State), Open o 0x09 s → let idle := (List.range 6).any s.headEn = false
    (idle → laneMapOk v = true → Fits INT_LINK v →
      exec (.intLinkWrite o v) s = .next (wrote o s (linkDown (s.setReg INT_LINK (s.written INT_LINK v))))) ∧
    (¬ idle → exec (.intLinkWrite o v) s = .next (turnedAway o .eState s)) ∧
    (idle → laneMapOk v = false → exec (.intLinkWrite o v) s = .next (turnedAway o .eRange s))) ∧
  (∀ (o : Origin) (v : Word) (s : State), Open o 0x09 s →
    let keeps := ∀ c, c < 8 → (s.ctx c).st ≠ .off → bits v (4 * c + 3) (4 * c) = s.source c
    (keeps → mapOk v = true → Fits INT_MAP v → exec (.intMapWrite o v) s = .next (wrote o s (s.setReg INT_MAP (s.written INT_MAP v)))) ∧
    (¬ keeps → exec (.intMapWrite o v) s = .next (turnedAway o .eState s)) ∧
    (keeps → mapOk v = false → exec (.intMapWrite o v) s = .next (turnedAway o .eRange s))) ∧
  (∀ (o : Origin) (n : Fin 4) (v : Word) (s : State), Open o 0x09 s → let lim := s.fld (INT_HBLIM n.val) 15 0
    let legal := 1000 ≤ bits v 15 0 ∧ bits v 15 0 ≤ 40000 ∨ bits v 15 0 = 0 ∧ bit v 31 = false
    (bits v 15 0 ≤ lim → Fits (INT_HBIAS n.val) v → exec (.biasWrite o n false v) s = .next (wrote o s
      (biasWritten n.val (onHead n.val (fun h => { h with biasPend := true }) (s.setReg (INT_HBIAS n.val) (s.written (INT_HBIAS n.val) v)))))) ∧
    (lim < bits v 15 0 → exec (.biasWrite o n false v) s = .next (turnedAway o .eRange s)) ∧
    (legal → Fits (INT_HIREF n.val) v → exec (.biasWrite o n true v) s = .next (wrote o s
      (biasWritten n.val (onHead n.val (fun h => { h with irefPend := true }) (s.setReg (INT_HIREF n.val) (s.written (INT_HIREF n.val) v)))))) ∧
    (¬ legal → exec (.biasWrite o n true v) s = .next (turnedAway o .eRange s))) ∧
  (∀ (o : Origin) (v : Word) (s : State), Open o 0x09 s → let legal := bit v 31 = true → bits v 28 26 ≠ 0
    (legal → Fits INT_I2CCMD v → s.int.i2c.length < 8 → exec (.i2cPush o v) s = .next (wrote o s
      { s with int := { s.int with i2c := s.int.i2c ++ [⟨masterOf o, v, s.reg INT_I2CWDATA, false, 0, 0⟩] } })) ∧
    (¬ legal → exec (.i2cPush o v) s = .next (turnedAway o .eRange s)) ∧
    (legal → Fits INT_I2CCMD v → 8 ≤ s.int.i2c.length → exec (.i2cPush o v) s = .next (turnedAway o .eFull s))) ∧
  (∀ (s : State) (st : Fin 5) (rd : Word), (∀ e, s.live = true → s.int.i2c.find? (fun e => !e.done) = some e →
    exec (.i2cCommandDone st rd) s = .next (settle (raiseIf (st.val != 0) 0x0BA (at_ st.val 24 + at_ (bits e.cmd 22 16) 16)
      (raiseIf (st.val == 4) 0x0BB 0 { s with int := { s.int with i2c := i2cFinish st.val rd s.int.i2c } })))) ∧
    (s.live = false ∨ s.int.i2c.find? (fun e => !e.done) = none → exec (.i2cCommandDone st rd) s = .next (settle s))) ∧
  (∀ (o : Origin) (g : Fin 2) (s : State), Open o 0x09 s → let may := s.fld (INT_XCFG g.val) 29 28 = 1 ∧ (s.gen g.val).rx = none
    (may → exec (.play o g) s = .next (wrote o s (genStart g.val (s.setReg (INT_XCMD g.val) (s.written (INT_XCMD g.val) 1))))) ∧
    (¬ may → exec (.play o g) s = .next (turnedAway o .eState s))) ∧
  ∀ (s : State) (g : Fin 2), (s.fld (INT_XCFG g.val) 29 28 = 2 → exec (.generatorFrame g) s = .next (after s (genStart g.val s))) ∧
    (s.fld (INT_XCFG g.val) 29 28 ≠ 2 → exec (.generatorFrame g) s = .next (after s s)) ∧
    (s.live = false ∨ (s.gen g.val).rx = none → exec (.generatorLine g) s = .next (after s s)) ∧
    ∀ r, s.live = true → (s.gen g.val).rx = some r →
      let x := if r.accepted then onFrame (6 + g.val) r.fn (fun f => f.addRows [s.genLine g r.fn r.next] s.time) s else s
      (r.next + 1 < r.h → exec (.generatorLine g) s = .next (after s (pipeGo (onGen g.val (fun x =>
        { x with rx := some { r with next := r.next + 1 } }) x)))) ∧
      (r.h ≤ r.next + 1 → let y := onGen g.val (fun x => { x with rx := none }) x
        exec (.generatorLine g) s = .next (after s (if r.accepted then frameEnds (6 + g.val) r.fn y else pointAt (6 + g.val) 1 r.fn y)))

/-- TBL_LOAD stores words in sequence and DISCARD closes staging, each with its codes. A bulk write to TBL_LOAD of 1 to
4096 words with staging open and room for them stores the words at TBL_LADDR of the image and advances TBL_LADDR by
their number; with staging closed it returns E_STATE, whatever its length; past image word 8 + (bank size / 4) - 1 it
returns E_LEN, as it does for no word or more than 4096, all without effect; a single WRITE to TBL_LOAD returns E_LEN.
DISCARD by the host or by a thread makes the staging bank EMPTY and closes staging, no long operation starting; with
staging closed it returns E_STATE. (R188, R190) -/
def Obligations.StagingStoresAndDiscards : Prop :=
  (∀ (ws : List Word) (s : State), Open .host 0x05 s → let a := s.fld TBL_LADDR 21 0
    let n := ws.length
    let room := 1 ≤ n ∧ n ≤ 4096 ∧ a + n ≤ 8 + bankWords s.tbl.ltbl
    (s.tbl.isOpen = true → room → exec (.tblLoadWrite ws) s = .next (wrote .host s ({ s with tbl := { s.tbl with
      image := memPutList zeroes s.tbl.image a 1 ws } }.setReg TBL_LADDR (word (a + n))))) ∧
    (s.tbl.isOpen = false → exec (.tblLoadWrite ws) s = .next (turnedAway .host .eState s)) ∧
    (s.tbl.isOpen = true → ¬ room → exec (.tblLoadWrite ws) s = .next (turnedAway .host .eLen s))) ∧
  (∀ (o : Origin) (v : Word) (s : State), Open o 0x05 s → busWrite o TBL_LOAD v s = (.eLen, s)) ∧
  ∀ (o : Origin) (s : State), Open o 0x05 s →
    (s.tbl.isOpen = true → let x := closeStaging {} false s
      exec (.discard o) s = .next (wrote o s x) ∧ x.cp = s.cp ∧ x.tbl.isOpen = false ∧ x.tbl.tabs = (onTable s.tbl.ltbl
        (fun t => { t.setBank t.inactiveIx { st := .empty } with held := false }) s).tbl.tabs) ∧
    (s.tbl.isOpen = false → exec (.discard o) s = .next (turnedAway o .eState s))

/-- What opening, loading, swapping and retraining do in the table store. With the bus open: a write of TBL_LSEL opens
staging of a table with an empty image and TBL_LADDR 0, the inactive bank STAGING and not HELD; with staging open, the
bank RETIRING or PRESS, or a press on a NUC or defect table of its head, it answers E_STATE, and else E_RANGE where
the number is no table. The host's LOAD starts long operation 1 with staging open; its end makes the staged image the
VALID bank (HELD for a NUC table) or the bank EMPTY, closes staging and ends with the code of the first check that
fails. SWAP makes a VALID inactive bank ACTIVE, and answers E_STATE where R191 refuses it, E_RANGE for no table. The
host's RETRAIN starts long operation 3 and drains, the DRAM not being lost; its end breaks the frames left in the
pipeline and ends OK, or loses the DRAM and ends with E_STATE. Otherwise the host's and every thread's LOAD and
RETRAIN answer E_STATE; an end without its operation does nothing. (09_table_store.md, 00_scope.md) -/
def Obligations.TableStoreCommands : Prop :=
  (∀ (o : Origin) (n : BitVec 8) (s : State), Open o 0x05 s → let b := ((s.table n.toNat).bank (s.table n.toNat).inactiveIx).st
    let free := s.tbl.isOpen = false ∧ b ≠ .retiring ∧ b ≠ .press ∧
      (tableType n.toNat = 1 ∨ tableType n.toNat = 2 → s.pressNow (n.toNat % 4) = false)
    (free → tableType n.toNat ≠ 0 → exec (.stagingOpen o n) s =
      .next (wrote o s (openStaging n.toNat (s.setReg TBL_LSEL (s.written TBL_LSEL (word n.toNat)))))) ∧
    (¬ free → exec (.stagingOpen o n) s = .next (turnedAway o .eState s)) ∧
    (free → tableType n.toNat = 0 → exec (.stagingOpen o n) s = .next (turnedAway o .eRange s))) ∧
  (∀ (o : Origin) (s : State), Open o 0x05 s → (o = .host → s.tbl.isOpen = true →
      exec (.load o) s = .next (wrote o s { s with cp := { s.cp with op := some ⟨1, 0, s.time⟩ } })) ∧
    (o ≠ .host ∨ s.tbl.isOpen = false → exec (.load o) s = .next (turnedAway o .eState s))) ∧
  (∀ (s : State) (op : LongOp), s.live = true → s.cp.op = some op → op.id = 1 →
    let g := memGet zeroes s.tbl.image
    (s.loadCode = .ok → exec .tableLoadDone s = .next (after s (endOp .ok (closeStaging ⟨.valid,
      memPutList zeroes [] 0 1 ((List.range (g 3).toNat).map fun i => g (8 + i)), (g 3).toNat, bits (g 2) 31 16, bits (g 2) 15 0, g 4⟩
      (tableType s.tbl.ltbl == 1) s)))) ∧
    (s.loadCode ≠ .ok → exec .tableLoadDone s = .next (after s (endOp s.loadCode (closeStaging {} false s))))) ∧
  (∀ (o : Origin) (n : BitVec 8) (s : State), Open o 0x05 s →
    (tableType n.toNat ≠ 0 → s.swapRefused n.toNat = false →
      exec (.swap o n) s = .next (wrote o s (nucSwapped n.toNat (swapBank n.toNat (s.table n.toNat).inactiveIx s)))) ∧
    (tableType n.toNat ≠ 0 → s.swapRefused n.toNat = true → exec (.swap o n) s = .next (turnedAway o .eState s)) ∧
    (tableType n.toNat = 0 → exec (.swap o n) s = .next (turnedAway o .eRange s))) ∧
  (∀ (o : Origin) (s : State), Open o 0x05 s → (o = .host → s.dramLost = false → exec (.retrain o) s = .next (wrote o s { s with
      cp := { s.cp with op := some ⟨3, 0, s.time⟩ }, tbl := { s.tbl with draining := true } })) ∧
    (o ≠ .host ∨ s.dramLost = true → exec (.retrain o) s = .next (turnedAway o .eState s))) ∧
  (∀ (s : State) (op : LongOp), s.live = true → s.cp.op = some op → op.id = 3 → let b := breakAll s
    let x := { b with tbl := { b.tbl with draining := false, suspended := false, retrains := b.tbl.retrains + 1 } }
    exec (.retrainDone true) s = .next (after s (endOp .ok { x with tbl := { x.tbl with trainCk := x.dramCk } })) ∧
    exec (.retrainDone false) s = .next (after s (endOp .eState ((dramLostAll x).mapClk fun c => { c with bgTrain := true })))) ∧
  ∀ (s : State) (ok : Bool), (s.live = false ∨ (∀ op, s.cp.op = some op → op.id ≠ 1) → exec .tableLoadDone s = .next (settle s)) ∧
    (s.live = false ∨ (∀ op, s.cp.op = some op → op.id ≠ 3) → exec (.retrainDone ok) s = .next (settle s))

/-- Reference faults, ripening rounds, the TRIM_DT test, full runs and stale items. A reference fault is set once and
raises 0x1A6; its end, the sense voltage no longer wrong, starts a full run. A round of an ON ripening is counted
after its measurements: one that is plausible and within the jump limit moves gain and offset by an eighth of the
difference, rounded half away from zero, refreshing the item; another is rejected, counted and raised as 0x1A2, the
fourth in a row starting a full run; an item on nominal trim, or of a channel that is not idle, is left. The TRIM_DT
test starts a full run when the package temperature has moved too far. The end of a full run writes each plausible
result, clearing the item's REF_NOMINAL bit, raises 0x1A1 for another, takes T_FULL, counts, and raises 0x1A0. An item
stale for 60 s raises 0x1A7 once. Otherwise none of these does anything. (10_references_and_ripening.md) -/
def Obligations.TrimsFollowTheirMeasurements : Prop :=
  (∀ s : State, (s.measures = true → s.trm.refFault = false →
      exec .trimRefFault s = .next (settle (raiseN 0x1A6 0 { s with trm := { s.trm with refFault := true } }))) ∧
    (s.measures = false ∨ s.trm.refFault = true → exec .trimRefFault s = .next (settle s)) ∧
    (s.measures = true → s.trm.refBad = none → s.trm.refFault = true →
      exec .refFaultClear s = .next (settle (startFull { s with trm := { s.trm with refFault := false } }))) ∧
    (s.measures = false ∨ s.trm.refBad ≠ none ∨ s.trm.refFault = false → exec .refFaultClear s = .next (settle s))) ∧
  (∀ (s : State) (ms : List TrimMeas), let on := s.trm.fullBusy = false ∧ s.trm.refFault = false ∧ s.flag REF_CFG 15 = true ∧ s.ripens = true
    (on → exec (.ripeningRound ms) s = .next (settle ((ms.foldl (fun x m => ripen s.chanIdle m x) s).count REF_CNT 31 24))) ∧
    (¬ on → exec (.ripeningRound ms) s = .next (settle s))) ∧
  (∀ (s : State) (idle : Nat → Bool) (m : TrimMeas), let i := m.item.val
    let t := (s.trm.deferred.lookup i).getD (s.trim i)
    let free := s.isNominal i = false ∧ (11 ≤ i → i < 15 → idle (i - 11) = true)
    let good := plausible i m.gain m.offset = true ∧ withinJump 1 i t m.gain m.offset = true
    (free → good → ripen idle m s = refreshed i (putTrim idle i (trimWord
        ((trimGain t : Int) + roundHalfAway ((m.gain : Int) - trimGain t) 8).toNat (trimOffset t + roundHalfAway (m.offset - trimOffset t) 8)) s)) ∧
    (free → ¬ good → let k := nth 0 s.trm.rejects i + 1
      let x := raiseN 0x1A2 i (({ s with trm := { s.trm with rejects := s.trm.rejects.set i (k % 4) } } : State).count REF_CNT 15 8)
      ripen idle m s = if k = 4 then startFull x else x) ∧
    (¬ free → ripen idle m s = s)) ∧
  (∀ s : State, let far := s.flag REF_CFG 16 = true ∧ s.fld REF_CFG 7 0 * 50 < ((s.tNow.1 : Int) - s.trm.tFull).natAbs ∧ s.ripens = true
    (far → exec .trimDtTest s = .next (settle (startFull s))) ∧ (¬ far → exec .trimDtTest s = .next (settle s))) ∧
  (∀ s : State, let may := s.trm.fullBusy = false ∧ s.trm.refFault = false ∧ s.inRind = false
    (may → startFull s = { s with trm := { s.trm with fullBusy := true } }) ∧ (¬ may → startFull s = s)) ∧
  (∀ (s : State) (ms : List TrimMeas), let runs := s.live = true ∧ s.trm.fullBusy = true ∧ s.trm.refFault = false ∧ s.ripens = true
    let x := ms.foldl (fun x m => if plausible m.item.val m.gain m.offset
      then setNominal m.item.val false (refreshed m.item.val (putTrim s.chanIdle m.item.val (trimWord m.gain m.offset) x))
      else raiseN 0x1A1 (at_ m.item.val 24 + at_ (m.gain % 65536) 8) x) s
    (runs → exec (.trimFullDone ms) s = .next (settle (raiseN 0x1A0 s.tNow.1 ((onTrims (fun t => { t with
        fullBusy := false, fullAborted := false, tFull := s.tNow.1, fullSeq := t.fullSeq + 1 }) x).count REF_CNT 23 16)))) ∧
    (¬ runs → exec (.trimFullDone ms) s = .next (settle s))) ∧
  ∀ (s : State) (k : Fin 16), (s.live = true → s.trm.stale / 2 ^ k.val % 2 = 0 →
      exec (.trimStale k) s = .next (settle (raiseN 0x1A7 k.val { s with trm := { s.trm with stale := s.trm.stale + 2 ^ k.val } }))) ∧
    (s.live = false ∨ s.trm.stale / 2 ^ k.val % 2 ≠ 0 → exec (.trimStale k) s = .next (settle s))

/-- What REF_CMD, REF_TRIMn and REF_LOAD do, and when they are turned away. With the bus open: FULL starts a full run and
returns E_STATE during a run or a reference fault; NOMINAL abandons a run and gives every item the nominal trim and
its REF_NOMINAL bit; ABORT abandons a run, raising 0x1A8, and returns E_STATE when there is none; all of these return
E_STATE during step 12. A legal REF_TRIMn takes effect by its class and clears the item's REF_NOMINAL bit; an
implausible one returns E_RANGE. A bulk write of REF_LOAD of 1 to 4096 words is the record loaded, of another length
E_LEN. APPLY of a record that passes its checks clears the loaded record and, before step 12, holds it with
PEND_RESTORE, afterwards puts it in place, abandons a run and raises 0x1A4; of one that does not it returns the code
of the first check, clears the record and raises 0x1A5 with that code; without a record it returns E_STATE.
(10_references_and_ripening.md, 00_scope.md, 05_control_port.md) -/
def Obligations.TrimCommandsAndWords : Prop :=
  (∀ (o : Origin) (s : State), Open o 0x06 s → let step12 := s.start.step = 12
    let busy := s.trm.fullBusy = true
    let fault := s.trm.refFault = true
    (¬ step12 → ¬ busy → ¬ fault → exec (.full o) s = .next (wrote o s (startFull s))) ∧
    (step12 ∨ busy ∨ fault → exec (.full o) s = .next (turnedAway o .eState s)) ∧
    (¬ step12 → exec (.nominal o) s = .next (wrote o s (nominalTrims s.chanIdle s))) ∧
    (step12 → exec (.nominal o) s = .next (turnedAway o .eState s)) ∧
    (¬ step12 → busy → exec (.abort o) s = .next (wrote o s
      (raiseN 0x1A8 0 { s with trm := { s.trm with fullBusy := false, fullAborted := true } }))) ∧
    (step12 ∨ ¬ busy → exec (.abort o) s = .next (turnedAway o .eState s))) ∧
  (∀ (idle : Nat → Bool) (s : State), (nominalTrims idle s).trm.nominal = 0xFFFF) ∧
  (∀ (o : Origin) (i : Fin 16) (v : Word) (s : State), Open o 0x06 s →
    (Fits (REF_TRIM i.val) v → plausible i.val (trimGain v) (trimOffset v) = true →
      exec (.refTrimWrite o i v) s = .next (wrote o s (setNominal i.val false (putTrim s.chanIdle i.val v s)))) ∧
    (plausible i.val (trimGain v) (trimOffset v) = false → exec (.refTrimWrite o i v) s = .next (turnedAway o .eRange s))) ∧
  (∀ (idle : Nat → Bool) (i : Nat) (w : Word) (s : State), (i = 15 ∨ 11 ≤ i ∧ idle (i - 11) = true → putTrim idle i w s = trimNow i w s) ∧
    (¬ (i = 15 ∨ 11 ≤ i ∧ idle (i - 11) = true) → putTrim idle i w s = { s with trm := { s.trm with deferred := aput s.trm.deferred i w } })) ∧
  (∀ (ws : List Word) (s : State), Open .host 0x06 s →
    (1 ≤ ws.length → ws.length ≤ 4096 → exec (.refLoadWrite ws) s = .next (wrote .host s { s with trm := { s.trm with load := some ws } })) ∧
    (ws.length = 0 ∨ 4096 < ws.length → exec (.refLoadWrite ws) s = .next (turnedAway .host .eLen s))) ∧
  ∀ (o : Origin) (s : State), Open o 0x06 s → (s.trm.load = none → exec (.apply o) s = .next (turnedAway o .eState s)) ∧
    ∀ l, s.trm.load = some l → let early := s.start.step < 12 ∨ s.start.step = 15
      (s.applyCode = .ok → early → exec (.apply o) s = .next (wrote o s { s with
        trm := { s.trm with load := none, held := some l, pendRestore := true } })) ∧
      (s.applyCode = .ok → ¬ early → exec (.apply o) s = .next (wrote o s (raiseN 0x1A4 0
        (applyRecord s.chanIdle l (abortFull { s with trm := { s.trm with load := none } }))))) ∧
      (s.applyCode ≠ .ok → exec (.apply o) s = .next (turnedAway o s.applyCode
        (raiseN 0x1A5 s.applyCode.num { s with trm := { s.trm with load := none } })))

/-- What a completed conversion and the start-up sequence do. A result is (16 raw - OFFSET) GAIN / 2^18 rounded half away
from zero, clamped to 0 and 0x3FFF with OVR, or under injection CODE 16 (notes/assumptions/80.md). With the clocks
running, a completed conversion ends as what its converter was converting: an entry of a run with its number, flags
and code; an urgent conversion, stored and fed, then the bridge's sample; a ripening conversion, which with OVR or
SUSPECT is discarded and counted; or, when nothing converts, nothing; a shutter press whose channel now runs fires.
Before hand-over the start-up sequence's results feed their consumers, the diode's starts the heat model, and a
thermal cut is judged. An input with an age limit becomes stale once, with event 0x197, HKIN13 and 14 making the bus
power stale. (11_housekeeping_adc.md, 12_actuators.md, 19_heat_model.md) -/
def Obligations.ConversionsGiveTheirResults : Prop :=
  (∀ (s : State) (j : Fin 3) (m : ConvMeas), s.live = false → exec (.conversionComplete j m) s = .next (settle s)) ∧
  (∀ (s : State) (j : Fin 3) (m : ConvMeas), s.live = true →
    let ends (x : State) : Prop := exec (.conversionComplete j m) s = .next (after s (pressFires s x))
    ((s.conv j.val).doing = .nothing → ends s) ∧
    ((s.conv j.val).doing = .ripening → ends (hkRipeEnds j.val (hkResult (s.trim j.val) m.raw).2 (s.hkSuspect j.val 32 m) s)) ∧
    (∀ r, (s.conv j.val).doing = .entry r → let n := bits (nth 0 r.ents r.next) 4 0
      let x := s.hkCode n r.trim m
      ends (hkEntryEnds j.val r x.1 x.2 (s.hkSuspect j.val n m) (s.injected n) s)) ∧
    ∀ ch late, (s.conv j.val).doing = .urgent ch late → let n := 8 + ch
      let x := s.hkCode n (s.trim j.val) m
      let sus := s.hkSuspect j.val n m
      ends (bridgeSample ch x.1 x.2 sus (hkFeed n x.1 x.2 (sus || s.injected n) (hkUrgentEnds j.val ch late x.1 x.2 sus s)))) ∧
  (∀ (s : State) (n : Nat) (trim : Word) (m : ConvMeas),
    (s.injected n = true → s.hkSettling n m = false → s.hkCode n trim m = (16 * s.fld HK_DIAG 9 0, false)) ∧
    (s.injected n = false ∨ s.hkSettling n m = true → s.hkCode n trim m = hkResult trim m.raw)) ∧
  (∀ (trim : Word) (raw : Int), let r := roundHalfAway ((16 * raw - trimOffset trim) * trimGain trim) (2 ^ 18)
    (r < 0 → hkResult trim raw = (0, true)) ∧ (0 ≤ r → r ≤ 0x3FFF → hkResult trim raw = (r.toNat, false)) ∧
    (0x3FFF < r → hkResult trim raw = (0x3FFF, true))) ∧
  (∀ (s : State) (raws : List Int) (m : HeatMeas), (s.start.phase = .start → s.measures = true →
      exec (.startupSeqTrigger raws m) s = .next (after s (cutNow m (diodeFresh (hkStartup raws s))))) ∧
    (s.start.phase ≠ .start ∨ s.measures = false → exec (.startupSeqTrigger raws m) s = .next (settle s))) ∧
  ∀ (s : State) (n : Fin 32), let ages := s.live = true ∧ s.isStale n.val = false ∧ (n.val < 8 ∨ 12 ≤ n.val ∧ n.val ≤ 24 ∨ n.val = 26)
    let x := raiseN 0x197 n.val { s with hk := { s.hk with stale := s.hk.stale + 2 ^ n.val } }
    (ages → n.val ≠ 13 → n.val ≠ 14 → exec (.hkStale n) s = .next (after s x)) ∧
    (ages → n.val = 13 ∨ n.val = 14 → exec (.hkStale n) s = .next (after s (judgeOver { x with pwr := { x.pwr with busStale := true } }))) ∧
    (¬ ages → exec (.hkStale n) s = .next (after s s))

/-- What triggers, urgent requests, ripening slots and the injection do. HK_TRIGCMD triggers its converters, or answers
E_STATE where one is not set to it; the period timer triggers a converter set to it. A trigger starts the delay of a
converter with entries to run; during a run or delay it is counted and raised as 0x190 + j. The end of the delay
starts a run on snapshots of entries, windows and trim, none with LEN 0. A due urgent request takes a free converter,
an interrupted run being marked SHIFT, or waits behind another urgent one with event 0x196. The ripening slot of an
idle converter comes after 33 periods. A legal trigger or period is written, and applies when no run is in progress.
HK_DIAG starts an injection, or ends it with event 0x198 reason 1; with an injection into another input, or a start
into a channel that runs or a head that presses, it answers E_STATE; after 100 ms it ends with reason 2. Otherwise
none of these does anything. (11_housekeeping_adc.md, 10_references_and_ripening.md, 00_scope.md) -/
def Obligations.HkTriggersAndInjection : Prop :=
  (∀ (o : Origin) (mask : BitVec 3) (s : State), Open o 0x07 s →
    let may := ∀ j : Nat, j < 3 → mask.getLsbD j = true → bits (s.conv j).trig 31 28 = 1
    (may → exec (.hkTrigcmd o mask) s = .next (wrote o s (((List.range 3).filter fun j => mask.getLsbD j).foldl (fun x j => hkTrigger j x) s))) ∧
    (¬ may → exec (.hkTrigcmd o mask) s = .next (turnedAway o .eState s))) ∧
  (∀ (s : State) (j : Fin 3), (bits (s.conv j.val).trig 31 28 = 2 → exec (.hkPeriodTimer j) s = .next (settle (hkTrigger j.val s))) ∧
    (bits (s.conv j.val).trig 31 28 ≠ 2 → exec (.hkPeriodTimer j) s = .next (settle s))) ∧
  (∀ (s : State) (j : Nat), let busy := (s.conv j).run ≠ none ∨ (s.conv j).delaying = true
    (s.live = false → hkTrigger j s = s) ∧
    (s.live = true → busy → hkTrigger j s = raiseN (0x190 + j) ((s.conv j).runs % 65536) (s.count HK_CNT (31 - 8 * j) (24 - 8 * j))) ∧
    (s.live = true → ¬ busy → s.fld (HK_CFG j) 4 0 = 0 → hkTrigger j s = s) ∧
    (s.live = true → ¬ busy → s.fld (HK_CFG j) 4 0 ≠ 0 → hkTrigger j s = onConv j (fun c => { c with delaying := true }) s)) ∧
  (∀ (s : State) (j : Fin 3), let c := s.conv j.val
    (s.live = false ∨ c.delaying = false → exec (.hkRunStart j) s = .next (settle s)) ∧
    (s.live = true → c.delaying = true → s.fld (HK_CFG j.val) 4 0 = 0 →
      exec (.hkRunStart j) s = .next (settle (trigApplies j.val (onConv j.val (fun c => { c with delaying := false }) s)))) ∧
    (s.live = true → c.delaying = true → s.fld (HK_CFG j.val) 4 0 ≠ 0 → let y := trimsAtRun s.anyPress j.val (hkIdleCounted j.val s)
      let x := if c.ripening then y.count REF_CNT 7 0 else y
      exec (.hkRunStart j) s = .next (settle (onConv j.val (fun c => { c with
        delaying := false, ripening := false, slot := if c.ripening then 0 else c.slot, runs := c.runs + 1
        lp := x.flag (HK_CFG j.val) 8
        wstate := (List.range 16).map fun e => if c.touched.contains e then 0 else nth 0 c.wstate e
        touched := []
        run := some { ents := (List.range 16).map fun e => x.reg (HK_ENT j.val e), wins := (List.range 16).map fun e => x.reg (HK_WIN j.val e)
                      len := x.fld (HK_CFG j.val) 4 0, trim := x.trim j.val, num := c.runs + 1
                      shift := c.urgent.isSome || (c.suspect == 0 && c.moves x.time) } }) x)))) ∧
  (∀ (s : State) (ch : Fin 4), let due := s.live = true ∧ (s.chan ch).reqDue = true ∧ (s.chan ch).st ≠ .idle ∧ s.isSlave ch = false
    (due → s.slaveOf ch = none → exec (.urgentRequest ch) s =
      .next (settle (urgentRequest ch (onChan ch (fun c => { c with reqDue := false }) s)))) ∧
    (¬ due → exec (.urgentRequest ch) s = .next (settle s))) ∧
  (∀ (s : State) (ch j : Nat), s.urgConv ch = some j →
    ((s.conv j).urgent = none → let x := if (s.conv j).ripening then s.count REF_CNT 7 0 else hkIdleCounted j s
      urgentRequest ch s = onConv j (fun c => { c with urgent := some (ch, false), ripening := false
                                                       slot := if c.ripening then 0 else c.slot
                                                       run := c.run.map fun r => { r with shift := true } }) x) ∧
    ((s.conv j).urgent ≠ none → urgentRequest ch s =
      raiseN 0x196 ch ((onConv j (fun c => { c with urgQueue := c.urgQueue ++ [ch] }) s).count HK_CNT 7 0))) ∧
  (∀ (s : State) (j : Fin 3), let due := s.ripeOn = true ∧ (s.conv j.val).isIdle = true ∧ 33 ≤ s.hkSlot j.val
    (due → exec (.ripeningSlot j) s = .next (settle (onConv j.val (fun c => { c with ripening := true, slot := 33 }) s))) ∧
    (¬ due → exec (.ripeningSlot j) s = .next (settle s))) ∧
  (∀ (o : Origin) (j : Fin 3) (v : Word) (s : State), Open o 0x07 s → let k := bits v 31 28
    let legal := (k = 3 → bits v 27 24 ≤ 7 ∧ bits v 23 22 ≤ 1) ∧ (k = 4 → bits v 27 24 ≤ 3) ∧ (k ≠ 3 → k ≠ 4 → bits v 27 24 = 0)
    let long := hkMinPer (s.fld (HK_CFG j.val) 4 0) (s.conv j.val).lp ≤ bits v 19 0
    let new (a : Nat) : State := trigApplies j.val (onConv j.val (fun c => { c with trigNew := true, delaying := false }) (s.setReg a (s.written a v)))
    (legal → Fits (HK_TRIG j.val) v → exec (.hkTrigWrite o j false v) s = .next (wrote o s (new (HK_TRIG j.val)))) ∧
    (¬ legal → exec (.hkTrigWrite o j false v) s = .next (turnedAway o .eRange s)) ∧
    (long → Fits (HK_PER j.val) v → exec (.hkTrigWrite o j true v) s = .next (wrote o s (new (HK_PER j.val)))) ∧
    (¬ long → exec (.hkTrigWrite o j true v) s = .next (turnedAway o .eRange s))) ∧
  (∀ (o : Origin) (n : Fin 32) (code : BitVec 10) (s : State), Open o 0x07 s →
    let elsewhere := s.flag HK_DIAG 31 = true ∧ s.fld HK_DIAG 20 16 ≠ n.val
    let busy := (8 ≤ n.val ∧ n.val < 12 ∧ s.runsProfile (n.val - 8) = true) ∨ (n.val < 4 ∧ s.pressNow n.val = true) ∨
      (4 ≤ n.val ∧ n.val < 8 ∧ s.pressNow (n.val - 4) = true)
    let x (en : Bool) : State := s.setReg HK_DIAG (s.written HK_DIAG (diagWord en n code))
    (¬ elsewhere → ¬ busy → Fits HK_DIAG (diagWord true n code) → exec (.hkDiagStart o n code) s = .next (wrote o s
      (if s.flag HK_DIAG 31 && s.fld HK_DIAG 9 0 == code.toNat then x true else hkSettles n.val (x true)))) ∧
    (elsewhere ∨ busy → exec (.hkDiagStart o n code) s = .next (turnedAway o .eState s)) ∧
    (¬ elsewhere → Fits HK_DIAG (diagWord false n code) → exec (.hkDiagStop o n code) s = .next (wrote o s (if s.flag HK_DIAG 31 then
        raiseN 0x198 (at_ 1 28 + at_ (s.fld HK_DIAG 20 16) 16 + s.fld HK_DIAG 9 0) (hkSettles (s.fld HK_DIAG 20 16) (x false)) else x false))) ∧
    (elsewhere → exec (.hkDiagStop o n code) s = .next (turnedAway o .eState s))) ∧
  ∀ s : State, let on := s.live = true ∧ s.flag HK_DIAG 31 = true
    (on → exec .hkDiagEnd s = .next (settle (raiseN 0x198 (at_ 2 28 + at_ (s.fld HK_DIAG 20 16) 16 + s.fld HK_DIAG 9 0)
      (hkSettles (s.fld HK_DIAG 20 16) (s.setFld HK_DIAG 31 31 0))))) ∧ (¬ on → exec .hkDiagEnd s = .next (settle s))

/-- What FIRE, STOP, CLEAR and the channel and pair registers do. FIRE judged OK counts, clears BNR and copies profile and
KI: an idle channel takes the profile up and runs it, one in DECAY keeps it pending; a press waiting for the channel's
flag learns of it. An idle channel without boost, otherwise fit for FIRE, answers E_STATE, sets BNR and raises 0x1B4;
every other refused FIRE answers its code and does nothing. STOP ends a running profile with result 1 or drops a
pending one without counting, and answers E_STATE when there is neither; CLEAR clears the four latches; for the slave
of a pair or a disabled channel both answer E_CTX. ACT_PAIR is judged over both pairs and stored when its code is OK.
ACT_CHnCFG is stored unless it disables a channel that is not IDLE or belongs to a pair, ACT_PWM unless a channel is
not IDLE (E_STATE) or SAMP is above a quarter of PER (E_RANGE). (12_actuators.md, 15_nuc_and_press.md) -/
def Obligations.ActuatorCommands : Prop :=
  (∀ (o : Origin) (n : Fin 4) (p : Fin 32) (s : State), Open o 0x08 s → let f := s.fireCode n.val p.val
    (f.1 = .ok → exec (.actCmdFire o n p) s = .next (wrote o s (pressFired n.val p.val (fireProfile n.val p.val s)))) ∧
    (f.1 ≠ .ok → f.2 = false → exec (.actCmdFire o n p) s = .next (turnedAway o f.1 s)) ∧
    (f = (.eState, true) → exec (.actCmdFire o n p) s = .next (turnedAway o .eState
      (raiseN 0x1B4 (s.boostData n.val p.val false) (onChan n.val (fun c => { c with bnr := true }) s))))) ∧
  (∀ (n p : Nat) (s : State), fireProfile n p s = onChan n (fun c => if c.st = .decay then { c with bnr := false, pend := some (s.copyProfile n p) }
    else { c with bnr := false }.takeUp (s.copyProfile n p)) (s.count (ACT_CHCNT n) 31 16)) ∧
  (∀ (o : Origin) (n : Fin 4) (s : State), Open o 0x08 s → s.isSlave n.val = false → s.flag (ACT_CHCFG n.val) 8 = true →
    ((s.chan n.val).st = .run → exec (.actCmdStop o n) s = .next (wrote o s (endProfile n.val 1 1 s))) ∧
    ((s.chan n.val).st = .decay → (s.chan n.val).pend ≠ none →
      exec (.actCmdStop o n) s = .next (wrote o s (onChan n.val (fun c => { c with pend := none }) s))) ∧
    ((s.chan n.val).st = .idle ∨ (s.chan n.val).st = .decay ∧ (s.chan n.val).pend = none →
      exec (.actCmdStop o n) s = .next (turnedAway o .eState s)) ∧
    exec (.actCmdClear o n) s =
      .next (wrote o s (onChan n.val (fun c => { c with oc := false, isOpen := false, stall := false, decayTo := false }) s))) ∧
  (∀ (o : Origin) (n : Fin 4) (s : State), Open o 0x08 s → s.isSlave n.val = true ∨ s.flag (ACT_CHCFG n.val) 8 = false →
    exec (.actCmdStop o n) s = .next (turnedAway o .eCtx s) ∧ exec (.actCmdClear o n) s = .next (turnedAway o .eCtx s)) ∧
  (∀ (o : Origin) (v : Word) (s : State), Open o 0x08 s →
    (s.pairCode v ≠ .ok → exec (.actPairWrite o v) s = .next (turnedAway o (s.pairCode v) s)) ∧
    (s.pairCode v = .ok → Fits ACT_PAIR v → exec (.actPairWrite o v) s = .next (wrote o s (s.setReg ACT_PAIR (s.written ACT_PAIR v))))) ∧
  (∀ (o : Origin) (n : Fin 4) (v : Word) (s : State), Open o 0x08 s →
    let held := bit v 8 = false ∧ ((s.chan (s.master n.val)).st ≠ .idle ∨ s.paired (n.val / 2) = true)
    (held → exec (.actCfgWrite o (some n) v) s = .next (turnedAway o .eState s)) ∧
    (¬ held → Fits (ACT_CHCFG n.val) v →
      exec (.actCfgWrite o (some n) v) s = .next (wrote o s (s.setReg (ACT_CHCFG n.val) (s.written (ACT_CHCFG n.val) v))))) ∧
  ∀ (o : Origin) (v : Word) (s : State), Open o 0x08 s → let busy := ∃ n, n < 4 ∧ (s.chan n).st ≠ .idle
    (busy → exec (.actCfgWrite o none v) s = .next (turnedAway o .eState s)) ∧
    (¬ busy → bits v 27 16 / 4 < bits v 7 0 → exec (.actCfgWrite o none v) s = .next (turnedAway o .eRange s)) ∧
    (¬ busy → bits v 7 0 ≤ bits v 27 16 / 4 → Fits ACT_PWM v →
      exec (.actCfgWrite o none v) s = .next (wrote o s (s.setReg ACT_PWM (s.written ACT_PWM v))))

/-- What PWM periods, faults, the clamp and the charger do. A period start, for a channel that is no slave, while the
engine is live: the phases of a channel in RUN are run; the duty of the period is fixed, the bridges switch on where
it is above 0, and the urgent requests become due unless the channel is IDLE or has no converter; else nothing. A
profile taken up begins its phase 0; a phase whose time is over, or whose stroke has ended, gives way to the next or,
after the last, to DECAY; one at its stroke limit ends with result 4 after 0x1B7. The regulator moves the duty by KI e
/ 256 truncated, clamped to 0 and 1000. Bridges that are on give an off-edge. An over-current trip latches OC after
0x1B5 and ends the profile with result 2, also one that ended in this period; an idle channel ignores it. 50 ms of
DECAY make the channel IDLE with DECAY_TO and 0x1B8 and drop a pending FIRE. An end raises 0x1B0 + n with result,
profile and stroke. The clamp conducts above VSET + 3 V and raises 0x1B9 when it begins to; the charger runs, in an
engine that is live and without POWER_FAIL, while the VBST last told is below VSET (the model's reading,
notes/assumptions/79.md). (12_actuators.md, 11_housekeeping_adc.md, 10_references_and_ripening.md) -/
def Obligations.ActuatorPeriodsAndFaults : Prop :=
  (∀ (s : State) (n : Fin 4), exec (.pwmPeriodStart n) s = .next (after s (pwmPeriod n.val s))) ∧
  (∀ (s : State) (n : Nat), s.live = false ∨ s.isSlave n = true → pwmPeriod n s = s) ∧
  (∀ (s : State) (n : Nat), s.live = true → s.isSlave n = false →
    ∃ w x y, w = onChan n (fun c => { c with perAt := s.time, offAt := s.time, driving := false, endedNow := false }) s ∧
      x = onChan n (fun c => { c with dNow := if c.st = .run then c.d else 0, driving := c.st == .run && decide (0 < c.d) })
        (if (w.chan n).st = .run then periodPhase n w else w) ∧
      y = (if (x.chan n).driving = true then bridgeEdge n 0 x else x) ∧
      pwmPeriod n s = (y.bridgesOf n).foldl (fun z m => onChan m (fun c => { c with reqDue := (x.chan n).st != .idle && (y.urgConv n).isSome, raw := none }) z) y) ∧
  (∀ (s : State) (n : Nat), let c := s.chan n
    let w := c.prof.ph c.phase
    let k := c.periods + 1
    let x := onChan n (fun c => { c with periods := k }) s
    let long := phDur w ≠ 0x7FFF ∧ phDur w * 500 ≤ k * s.fld ACT_PWM 27 16
    (c.started = false → periodPhase n s = beginPhase n 0 (onChan n (fun c => { c with started := true }) s)) ∧
    (c.started = true → phEnd w = true → c.ended = true →
      periodPhase n s = nextPhase n (onChan n (fun c => { c with stroke := sat 65535 (k * s.fld ACT_PWM 27 16 / 250) }) x)) ∧
    (c.started = true → phEnd w = true → c.ended = false → long →
      periodPhase n s = endProfile n 4 1 (raiseN 0x1B7 (faultData n c) (onChan n (fun c => { c with stall := true }) x))) ∧
    (c.started = true → phEnd w = false → long → periodPhase n s = nextPhase n x) ∧
    (c.started = true → (phEnd w = false ∨ c.ended = false) → ¬ long → periodPhase n s = x) ∧
    (c.prof.last ≤ c.phase → nextPhase n s = endProfile n 0 (phDecay w) s) ∧
    (c.phase < c.prof.last → nextPhase n s = beginPhase n (c.phase + 1) s)) ∧
  (∀ (ki : Nat) (d t m : Int), regulate ki d t m = max 0 (min 1000 (d + (ki * (t - m)).tdiv 256))) ∧
  (∀ (s : State) (n : Fin 4),
    (s.live = true → (s.chan n.val).driving = true →
      exec (.pwmOffEdge n) s = .next (settle (bridgeEdge n.val 1 (onChan n.val (fun c => { c with driving := false, offAt := s.time }) s)))) ∧
    (s.live = false ∨ (s.chan n.val).driving = false → exec (.pwmOffEdge n) s = .next (settle s))) ∧
  (∀ (s : State) (n : Fin 4),
    ((s.chan n.val).st = .decay → exec (.actDecayTo n) s = .next (after s (dropPending n.val
      (raiseN 0x1B8 (at_ n.val 28 + toBits 16 (s.chan n.val).iMa) (onChan n.val (fun c => { c with st := .idle, decayTo := true }) s))))) ∧
    ((s.chan n.val).st ≠ .decay → exec (.actDecayTo n) s = .next (after s s))) ∧
  (∀ (s : State) (n : Fin 4), let k := s.master n.val
    let x := raiseN 0x1B5 (faultData k (s.chan k)) (onChan k (fun c => { c with oc := true, decayMode := 1 }) s)
    ((s.chan k).st = .idle → exec (.actOc n) s = .next (after s s)) ∧
    ((s.chan k).st = .run ∨ (s.chan k).st = .decay ∧ (s.chan k).endedNow = true → exec (.actOc n) s = .next (after s (endProfile k 2 1 x))) ∧
    ((s.chan k).st = .decay → (s.chan k).endedNow = false → exec (.actOc n) s = .next (after s x))) ∧
  (∀ (s : State) (n res mode : Nat), let c := s.chan n
    let x := raiseN (0x1B0 + n) (at_ res 24 + at_ c.prof.num 16 + sat 65535 c.stroke) (onChan n (fun c =>
      { c with st := .decay, lastRes := res, decayMode := mode, below := 0, openRun := 0, d := 0, driving := false, offAt := s.time, endedNow := true }) s)
    endProfile n res mode s = trimsApply ([11 + n] ++ (match x.slaveOf n with | some m => [11 + m] | none => [])) x) ∧
  (∀ (s : State) (mv : Nat), s.portOn = true → let v := 100 * s.fld ACT_BST 9 0
    let x (b : Bool) : State := { s with act := { s.act with clamp := b, vbst := mv } }
    (v + 3000 < mv → s.act.clamp = false → exec (.actClamp mv) s = .next (settle (raiseN 0x1B9 (sat 65535 mv) (x true)))) ∧
    (v + 3000 < mv → s.act.clamp = true → exec (.actClamp mv) s = .next (settle (x true))) ∧
    (mv ≤ v + 3000 → exec (.actClamp mv) s = .next (settle (x false)))) ∧
  (∀ s : State, s.portOn = true →
    exec (.chargerAtVset true) s = .next (settle (vbstSeen (max s.act.vbst (100 * s.fld ACT_BST 9 0)) s)) ∧
    exec (.chargerAtVset false) s = .next (settle (vbstSeen (min s.act.vbst (100 * s.fld ACT_BST 9 0 - 1)) s))) ∧
  (∀ (s : State) (mv : Nat) (b : Bool), s.portOn = false →
    exec (.actClamp mv) s = .next (settle s) ∧ exec (.chargerAtVset b) s = .next (settle s)) ∧
  ∀ s : State, s.charging = true ↔ s.live = true ∧ s.pwr.powerFail = false ∧ s.act.vbst < 100 * s.fld ACT_BST 9 0

/-- What GO, CANCEL, SUN_REL, FORGET, CAPTURE and the press's timers do. GO in DUE after its flag's FIRE, with no
injection on the head's sensors, makes the state CLOSING with the inactive NUC bank PRESS (none when blocked) and,
unless that FIRE is still pending, chooses blind frame 0: the latest accepted frame not yet begun, else the next one,
with GO_LATE; otherwise GO returns E_STATE. CANCEL withdraws a DUE press, else returns E_STATE. In SUN, the end of the
wait or SUN_REL fires POPEN, or, refused, leaves it to the next frame start (setting BNR and raising 0x1B4 where boost
was missing); SUN_REL in another state returns E_STATE, and the end of a wait there does nothing. FORGET restores K1
and clears the learning reference. CAPTURE by the host on a streaming enabled head with no press under way starts long
operation 2, else returns E_STATE; a Vat PUT of it always does. At 1.5 s the operation ends with E_STATE, a press due
for it being withdrawn. (15_nuc_and_press.md, 05_control_port.md, 12_actuators.md) -/
def Obligations.PressCommands : Prop :=
  (∀ (o : Origin) (n : Fin 4) (s : State), Open o 0x0B s →
    let fit := (s.pressOf n.val).st = .due ∧ (s.pressOf n.val).fired = true ∧ s.injected n.val = false ∧ s.injected (4 + n.val) = false
    (fit → exec (.prsGo o n) s = .next (wrote o s (pressGo n.val s))) ∧
    (¬ fit → exec (.prsGo o n) s = .next (turnedAway o .eState s))) ∧
  (∀ (n c : Nat) (s : State), s.ctxOfHead n = some c →
    let waits := (s.chan (s.fld (PRS_CFG n) 29 28)).pend.isSome
    let k := s.cwf (NUC_CFG c) 7 0
    let begun (b : Bool) : State := onPress n (fun p => { p with
      st := .closing, blocked := b, result := b2n b, goLate := false, capt := 0, capStarts := 0, capMarks := [], caps := []
      acc := [], epochs := [], learnt := false, opened := false, waitFire := waits, table := if b then none else some k }) s
    let x := if s.pressBlocked n = true then begun true else onTable k (fun t => t.setBank t.pressBank { st := .press }) (begun false)
    pressGo n s = if waits = true then x else chooseBlind n c true false x) ∧
  (∀ (n c : Nat) (go sun : Bool) (s : State),
    (∀ f, ((s.ctx c).frames.reverse.find? fun g => !g.begun) = some f → chooseBlind n c go sun s =
      dnrPressStart c f.fn true (onFrame c f.fn (fun g => { g with press := true, sun := sun })
        (onPress n (fun p => { p with active := true, waitBlind := false, blind := 1 }) s))) ∧
    (((s.ctx c).frames.reverse.find? fun g => !g.begun) = none → let x := onPress n (fun p => { p with waitBlind := true, blind := 0, goLate := go }) s
      chooseBlind n c go sun s = if go = true then x.count (PRS_CNT n) 7 0 else x)) ∧
  (∀ (o : Origin) (n : Fin 4) (s : State), Open o 0x0B s →
    ((s.pressOf n.val).st = .due → exec (.cancel o n) s = .next (wrote o s (onPress n.val (fun p => { p with st := .idle, fired := false }) s))) ∧
    ((s.pressOf n.val).st ≠ .due → exec (.cancel o n) s = .next (turnedAway o .eState s)) ∧
    ((s.pressOf n.val).st = .sun → exec (.sunRel o n) s = .next (wrote o s (sunWaitEnds n.val s))) ∧
    ((s.pressOf n.val).st ≠ .sun → exec (.sunRel o n) s = .next (turnedAway o .eState s)) ∧
    exec (.forget o n) s =
      .next (wrote o s (onPress n.val (fun p => { p with k1 := 16 * s.fld (PRS_LEARN n.val) 19 12, learnRef := none, refPend := true }) s))) ∧
  (∀ (s : State) (n : Fin 4), s.live = true → exec (.sunTimer n) s = .next (after s (sunWaitEnds n.val s))) ∧
  (∀ (s : State) (n : Fin 4), s.live = false → exec (.sunTimer n) s = .next (settle s)) ∧
  (∀ (s : State) (n : Nat), let p := s.pressOf n
    let ch := s.fld (PRS_CFG n) 29 28
    let pf := s.fld (PRS_CFG n) 22 18
    let waits := p.st = .sun ∧ p.openDue = false ∧ p.openFired = false
    let later (x : State) : State := onPress n (fun p => { p with openDue := true }) x
    (¬ waits → sunWaitEnds n s = s) ∧
    (waits → (s.fireCode ch pf).1 = .ok →
      sunWaitEnds n s = onPress n (fun p => { p with openDue := false, openFired := true }) (fireProfile ch pf s)) ∧
    (waits → (s.fireCode ch pf).1 ≠ .ok → (s.fireCode ch pf).2 = false → sunWaitEnds n s = later s) ∧
    (waits → (s.fireCode ch pf) = (.eState, true) → sunWaitEnds n s = later (fireRefused ch pf s))) ∧
  (∀ (n : Fin 4) (s : State), Open .host 0x0B s →
    let fit := s.flag (PRS_CFG n.val) 31 = true ∧ (s.head n.val).obs = .streaming ∧ ((s.pressOf n.val).st = .idle ∨ (s.pressOf n.val).st = .due)
    (fit → exec (.capture .host n) s = .next (wrote .host s (startOp 2 n.val (onPress n.val (fun p => { p with cmd := true }) s)))) ∧
    (¬ fit → exec (.capture .host n) s = .next (turnedAway .host .eState s))) ∧
  (∀ (t : Fin 8) (n : Fin 4) (s : State), Open (.vat t) 0x0B s → exec (.capture (.vat t) n) s = .next (turnedAway (.vat t) .eState s)) ∧
  ∀ s : State, (s.live = false → exec .pressCaptureTimeout s = .next (settle s)) ∧
    (s.live = true → (∀ op, s.cp.op = some op → op.id ≠ 2) → exec .pressCaptureTimeout s = .next (after s s)) ∧
    ∀ op, s.live = true → s.cp.op = some op → op.id = 2 → let fails (x : State) : State := endOp .eState (onPress op.arg (fun p => { p with cmd := false }) x)
      let due := (s.pressOf op.arg).st = .due ∧ (s.pressOf op.arg).reason = 4
      (due → exec .pressCaptureTimeout s = .next (after s (fails (onPress op.arg (fun p => { p with st := .idle, fired := false }) s)))) ∧
      (¬ due → exec .pressCaptureTimeout s = .next (after s (fails s)))

/-- What mapping builds, grid publishing, ports and encoders do. The oldest mapping build in progress, when it completes,
becomes the context's mapping. RND_WPUB makes the grids it names pending, to be published when idle; E_STATE for one
still pending. A write of OUT_PnCTL answers the code of its checks, or is stored and enables a port that is OFF (ON; a
draining one is enabled again once drained), or disables one: its frames not begun are dropped and it drains while it
is busy. IDR and SNAP note the request for the encoder's next frame; SNAP of an encoder that is no snapshot encoder
returns E_STATE. An ENC_EnRC write is stored, one that changes DECIM starting its count anew; DECIM 0 is E_RANGE but
for a snapshot encoder. A coded stripe is counted, or ends its frame, which goes to the Cellar and to egress, and the
next stripe is taken; an engine that does not serve its pipelines (or retrains) takes none.
(16_render_colour_fusion.md, 17_outputs_and_encoder.md, 22_cellar.md) -/
def Obligations.OutputsAndEncoderWork : Prop :=
  (∀ (s : State) (c : Fin 8), (s.live = true → exec (.agcBuildDone c) s = .next (settle (onRnd c.val
    (fun r => match r.builds with | m :: t => { r with map := some m, builds := t } | [] => r) s))) ∧
    (s.live = false → exec (.agcBuildDone c) s = .next (settle s))) ∧
  (∀ (o : Origin) (v : Word) (s : State), Open o 0x0C s →
    let again := bit v 0 = true ∧ nth false s.rnd.pubPend 0 = true ∨ bit v 1 = true ∧ nth false s.rnd.pubPend 1 = true
    (again → exec (.rndWpub o v) s = .next (turnedAway o .eState s)) ∧
    (¬ again → Fits RND_WPUBR v → exec (.rndWpub o v) s = .next (wrote o s (gridsIdle { s with rnd := { s.rnd with
        pubPend := [nth false s.rnd.pubPend 0 || bit v 0, nth false s.rnd.pubPend 1 || bit v 1] } })))) ∧
  (∀ (o : Origin) (p : Fin 8) (v : Word) (s : State), Open o 0x0D s →
    (s.portCtlCode p.val (withEn true v) ≠ .ok →
      exec (.portEnable o p v) s = .next (turnedAway o (s.portCtlCode p.val (withEn true v)) s)) ∧
    (s.portCtlCode p.val (withEn true v) = .ok → Fits (OUT_CTL p.val) (withEn true v) → exec (.portEnable o p v) s =
      .next (wrote o s (enablePort p.val (s.setReg (OUT_CTL p.val) (s.written (OUT_CTL p.val) (withEn true v)))))) ∧
    (s.portCtlCode p.val (withEn false v) ≠ .ok →
      exec (.portDisable o p v) s = .next (turnedAway o (s.portCtlCode p.val (withEn false v)) s)) ∧
    (s.portCtlCode p.val (withEn false v) = .ok → Fits (OUT_CTL p.val) (withEn false v) → exec (.portDisable o p v) s =
      .next (wrote o s (disablePort p.val (s.setReg (OUT_CTL p.val) (s.written (OUT_CTL p.val) (withEn false v))))))) ∧
  (∀ (p : Nat) (s : State),
    ((s.port p).st = .off → enablePort p s = setPortSt p .on s ∧ disablePort p s = s) ∧
    ((s.port p).st = .on → enablePort p s = s ∧
      disablePort p s = setPortSt p (if (dropUnbegun p s).portBusy p then .draining else .off) (dropUnbegun p s)) ∧
    ((s.port p).st = .draining → enablePort p s = onPort p (fun x => { x with enPend := true }) s ∧
      disablePort p s = onPort p (fun x => { x with enPend := false }) s)) ∧
  (∀ (o : Origin) (e : Fin 16) (s : State), Open o 0x0E s →
    exec (.idr o e) s = .next (wrote o s (onEnc e.val (fun x => { x with idrReq := true }) s)) ∧
    (s.codec e.val = 3 → exec (.snap o e) s = .next (wrote o s (onEnc e.val (fun x => { x with snap := true }) s))) ∧
    (s.codec e.val ≠ 3 → exec (.snap o e) s = .next (turnedAway o .eState s))) ∧
  (∀ (o : Origin) (e : Fin 16) (v : Word) (s : State), Open o 0x0E s → let x := s.setReg (ENC_RC e.val) (s.written (ENC_RC e.val) v)
    (s.codec e.val ≠ 3 → bits v 31 24 = 0 → exec (.encRcWrite o e v) s = .next (turnedAway o .eRange s)) ∧
    (s.codec e.val = 3 ∨ bits v 31 24 ≠ 0 → Fits (ENC_RC e.val) v → bits v 31 24 = s.decim e.val →
      exec (.encRcWrite o e v) s = .next (wrote o s x)) ∧
    (s.codec e.val = 3 ∨ bits v 31 24 ≠ 0 → Fits (ENC_RC e.val) v → bits v 31 24 ≠ s.decim e.val →
      exec (.encRcWrite o e v) s = .next (wrote o s (onEnc e.val (fun y => { y with count := 0 }) x)))) ∧
  ∀ (s : State) (len : Nat) (nals : List Nat),
    (s.live = false ∨ s.tbl.suspended = true → exec (.encoderStripeDone len nals) s = .next (after s s)) ∧
    (s.live = true → s.tbl.suspended = false →
      ((encStripe len nals s).1 = none → exec (.encoderStripeDone len nals) s = .next (after s (portsDrained (encGo (encStripe len nals s).2)))) ∧
      ∀ (e : Nat) (c : Coded), (encStripe len nals s).1 = some (e, c) →
        exec (.encoderStripeDone len nals) s = .next (after s (portsDrained (encGo (celFrame e c (offerFrame e c (encStripe len nals s).2))))))

/-- What analysis results and the analysis registers do. Enabling the analysis of a context that was off starts its
background model: LEARNING with its frames to learn, zones and tracks cleared, event reason 1; disabling one that was
on clears everything and makes it OFF; else only the word is stored. PUB makes the homography or the zones pending for
the next frame, E_STATE while already pending. A result of the frame in analysis is noted and counted: in OFF that is
all; in LEARNING a holdover frame is only noted, another is taken into the model and leads to RUN at the last one; in
RUN it detects, or for a holdover frame predicts, and then judges the zones, after ending every track with reason 3
when an analysed frame comes more frames after the last than the limit. With no frame in analysis, or in an engine
that does not serve its pipelines, nothing happens. (18_analysis_tracks.md, 09_table_store.md) -/
def Obligations.AnalysisWorks : Prop :=
  (∀ (s : State) (c : Fin 8), (s.live = true → s.tbl.suspended = false → exec (.analysisResult c) s = .next (settle (anaResult c.val s))) ∧
    (s.live = false ∨ s.tbl.suspended = true → exec (.analysisResult c) s = .next (settle s))) ∧
  (∀ (s : State) (c : Nat), (s.anaOf c).job = none → anaResult c s = s) ∧
  (∀ (s : State) (c : Nat) (j : AnaJob), (s.anaOf c).job = some j →
    let x := (onAna c (fun a => a.resulted j) s).count (ANA_CNT c) 31 16
    let a := x.anaOf c
    let far := ∃ f, a.lastFn = some f ∧ j.synth = false ∧ bits (j.cw (ANA_ABS c)) 7 0 < fnAhead f j.fn
    let judged (y : State) : State := onAna c (fun a => { a with lastFn := some j.fn })
      (zonesResult c j (if j.synth = true then holdoverResult c j y else detectResult c j y))
    (a.st = .off → anaResult c s = x) ∧
    (a.st = .learning → j.synth = true → anaResult c s = onAna c (fun a => { a with lastFn := some j.fn }) x) ∧
    (a.st = .learning → j.synth = false → anaResult c s = onAna c (fun b => { b with
      model := learnModel (!a.started) (bits (j.cw (ANA_BG c)) 15 8) j a.model, started := true, left := b.left - 1
      st := if b.left ≤ 1 then .run else .learning, lastFn := some j.fn }) x) ∧
    (a.st = .run → ¬ far → anaResult c s = judged x) ∧
    (a.st = .run → far → anaResult c s =
      judged (onAna c (fun a => { a with slots := List.replicate 64 none }) (mapSlots c (fun _ t s => (none, endTrack c 3 t s)) x)))) ∧
  (∀ (o : Origin) (c : Fin 8) (v : Word) (s : State), Open o 0x0F s →
    let stored (en : Bool) : State := s.setReg (ANA_CTL c.val) (s.written (ANA_CTL c.val) (withEn en v))
    (Fits (ANA_CTL c.val) (withEn true v) → exec (.analysisEnable o c v) s = .next (wrote o s
      (if s.flag (ANA_CTL c.val) 31 = true then stored true else modelStart c.val 1 (stored true)))) ∧
    (Fits (ANA_CTL c.val) (withEn false v) → exec (.analysisDisable o c v) s = .next (wrote o s (if s.flag (ANA_CTL c.val) 31 = true then
        onAna c.val (fun a => { a.cleared with st := .off, left := 0, job := none, fed := none }) (stored false) else stored false)))) ∧
  (∀ (c : Nat) (s : State), modelStart c 1 s = raiseN (anaSrc c 7) 1
    (onAna c (fun a => { a.cleared with st := .learning, left := s.cwf (ANA_BG c) 7 0, started := false, job := none }) s)) ∧
  ∀ (o : Origin) (c : Fin 8) (s : State), Open o 0x0F s →
    ((s.anaOf c.val).hpend = false → exec (.homog o c) s = .next (wrote o s (onAna c.val (fun x => { x with hpend := true }) s))) ∧
    ((s.anaOf c.val).hpend = true → exec (.homog o c) s = .next (turnedAway o .eState s)) ∧
    ((s.anaOf c.val).zpend = false → exec (.zones o c) s = .next (wrote o s (onAna c.val (fun x => { x with zpend := true }) s))) ∧
    ((s.anaOf c.val).zpend = true → exec (.zones o c) s = .next (turnedAway o .eState s))

/-- What updates of the heat model, ambient reports and enforcement do. An update takes place only where the engine
measures. In a running model it advances every node at once from the previous values by its power and flows, follows
the diode, then judges WARN, ASK and the rate from the hottest node; a fresh diode sets the nodes first; a cut that is
decided is recorded and forces the cut phase. WARN sets at or above its threshold with 0x020 and clears below it less
HYST with 0x021; ASK sets at its threshold or with a broken input, with 0x022, counted, and clears below it less HYST
without one, with 0x023 (its reason is a free value). An accepted HEAT_AMB makes the report fresh, another value
returns E_RANGE; AMBIENT_STALE makes the report more than 10 s old (the model's reading, notes/assumptions/2.md).
Enforcement sets with 0x024, counted, once ASK has stayed, and is released with 0x025 when ASK is clear and T_HOT low;
else neither does anything. (19_heat_model.md, 01_engine_at_the_post.md) -/
def Obligations.HeatModelWorks : Prop :=
  (∀ (s : State) (m : HeatMeas), (s.measures = true → exec (.heatUpdate m) s = .next (after s (cutNow m (heatUpdate m.diode s)))) ∧
    (s.measures = false → exec (.heatUpdate m) s = .next (settle s))) ∧
  (∀ (s : State) (raw : Int),
    (s.start.phase = .start → heatUpdate raw s = if 3 < s.start.step then diodeFresh s else s) ∧
    (s.start.phase ≠ .start → s.live = false → heatUpdate raw s = s) ∧
    (s.start.phase ≠ .start → s.live = true → s.heat.fresh = true → heatUpdate raw s = freshDiode raw s) ∧
    (s.start.phase ≠ .start → s.live = true → s.heat.fresh = false →
      let y := judgeDisagreement (diodeFollow (advance (if s.heat.fast then 1 else 10) (heatFollow s)))
      heatUpdate raw s = judgeFast (judgeAsk (judgeWarn (heatFollow
        (raiseIf (y.heat.dis && !s.heat.dis) 0x029 (toBits 16 (y.heat.nodeCk 4 - y.heat.td.getD 0)) y)))))) ∧
  (∀ (s : State) (dt : Nat), let T (i : Nat) : Int := nth 0 s.heat.nodes i
    let G (e : Nat) : Int := ((s.fld (HEAT_G e) 15 0 : Nat) : Int)
    let A : Int := ((256 * s.ambCk : Nat) : Int)
    (advance dt s).heat.nodes = (List.range 6).map (fun i => T i + roundHalfAway ((dt : Int) * (256 * ((nth 0 s.nodePow i : Nat) : Int) +
        (nth 0 [G 0 * (T 4 - T 0), G 1 * (T 4 - T 1), G 2 * (T 4 - T 2), G 3 * (T 4 - T 3),
          G 4 * (T 5 - T 4) - (G 0 * (T 4 - T 0) + G 1 * (T 4 - T 1) + G 2 * (T 4 - T 2) + G 3 * (T 4 - T 3)),
          G 4 * (T 4 - T 5) + G 5 * (A - T 5)] i))) (10000 * s.fld (HEAT_C i) 15 0))) ∧
  (∀ s : State, let w : Int := ((s.fld HEAT_TH 31 16 : Nat) : Int)
    (s.heat.warn = false → w ≤ s.heat.hot.2 → judgeWarn s = raiseN 0x020 s.heat.hotData (onHeat (fun h => { h with warn := true }) s)) ∧
    (s.heat.warn = false → s.heat.hot.2 < w → judgeWarn s = s) ∧
    (s.heat.warn = true → s.heat.hot.2 < w - s.hyst → judgeWarn s = raiseN 0x021 s.heat.hotData (onHeat (fun h => { h with warn := false }) s)) ∧
    (s.heat.warn = true → w - s.hyst ≤ s.heat.hot.2 → judgeWarn s = s)) ∧
  (∀ s : State, let a : Int := ((s.fld HEAT_TH 15 0 : Nat) : Int)
    (s.heat.ask = false → a ≤ s.heat.hot.2 ∨ s.heat.broken ≠ 0 →
      judgeAsk s = raiseN 0x022 (at_ (if s.heat.broken = 0 then 1 else 2) 28 + s.heat.hotData)
        ((onHeat (fun h => { h with ask := true }) s).count HEAT_CNT 31 16)) ∧
    (s.heat.ask = false → s.heat.hot.2 < a → s.heat.broken = 0 → judgeAsk s = s) ∧
    (s.heat.ask = true → s.heat.hot.2 < a - s.hyst → s.heat.broken = 0 →
      judgeAsk s = raiseN 0x023 (at_ (bits s.draw.1 31 28) 28 + s.heat.hotData) (onHeat (fun h => { h with ask := false }) s.draw.2)) ∧
    (s.heat.ask = true → a - s.hyst ≤ s.heat.hot.2 ∨ s.heat.broken ≠ 0 → judgeAsk s = s)) ∧
  (∀ (m : HeatMeas) (s : State), (s.cutDecided = none → cutNow m s = s) ∧
    (∀ t, s.cutDecided = some t → (cutNow m s).start.phase = .cut ∧ (cutNow m s).start.trig = 0 ∧ (cutNow m s).pwr.pg = 0 ∧
      (cutNow m s).pwr.hsupOn = false ∧ (cutNow m s).clk.xoOk = false ∧ (cutNow m s).clk.pllLock = false)) ∧
  (∀ (o : Origin) (v : Word) (s : State), Open o 0x10 s →
    (Fits HEAT_AMB v → 23315 ≤ bits v 15 0 → bits v 15 0 ≤ 38315 → let x := s.setReg HEAT_AMB (s.written HEAT_AMB v)
      exec (.heatAmbWrite o v) s = .next (wrote o s (heatFollow (onHeat (fun h => { h with ambAt := x.upTicks, ambMore := 0 }) x)))) ∧
    (bits v 15 0 < 23315 ∨ 38315 < bits v 15 0 → exec (.heatAmbWrite o v) s = .next (turnedAway o .eRange s))) ∧
  (∀ s : State, (s.live = true → s.handedOver = true → exec .ambientStale s = .next (after s (heatFollow
      (onHeat (fun h => { h with ambMore := max h.ambMore (10000 * msTicks + 1 - (s.upTicks - h.ambAt)) }) s)))) ∧
    (s.live = false ∨ s.handedOver = false → exec .ambientStale s = .next (after s s))) ∧
  (∀ s : State, let due := s.heat.ask = true ∧ s.heat.enforced = false ∧ s.live = true ∧ s.handedOver = true
    (due → exec .heatEnforce s =
      .next (after s (raiseN 0x024 (ck16 s.heat.hot.2) ((onHeat (fun h => { h with enforced := true }) s).count HEAT_CNT 15 0)))) ∧
    (¬ due → exec .heatEnforce s = .next (after s s))) ∧
  ∀ s : State, let low := s.heat.enforced = true ∧ s.heat.ask = false ∧ s.heat.hot.2 < ((s.fld HEAT_TH 31 16 : Nat) : Int) - s.hyst ∧ s.live = true
    (low → exec .heatRelease s = .next (after s (raiseN 0x025 (ck16 s.heat.hot.2) (onHeat (fun h => { h with enforced := false }) s)))) ∧
    (¬ low → exec .heatRelease s = .next (after s s))

/-- What frames, PTP registers, links and counters of the switch do. A frame on a port that is down does nothing. On one
that is up it is counted; damaged, or Velva with a wrong CRC or length, it is 8 errors more; a Velva frame on P0 or P1
is taken as Velva while Velva is on and forwarded while it is off, on P2 or of another version or VLAN dropped; any
other is forwarded. SETLO below one second sets the clock with SETHI, another value returns E_RANGE; ADJ adds to the
clock; the second asks for the delay in P2P mode in a switch that runs. A link may come up unless its PHY is off, or
at 100 Mbit/s without leave; it clears the error score, is stamped, raises 0x1C0 + p, and on a ring port carries Velva
only at first, with its link event; one that goes down ends its attempts and raises 0x1C0 + p; either, where the link
is so already, does nothing. CNT_CLR clears the port's error score. (20_velva_chain.md) -/
def Obligations.SwitchTimeFramesAndLinks : Prop :=
  (∀ (s : State) (p : Fin 3) (b : List Nat) (d : Bool), s.portUp p.val = false → exec (.ethernetFrame p b d) s = .next (after s s)) ∧
  (∀ (s : State) (p : Fin 3) (b : List Nat), s.portUp p.val = true → let x := s.count (SW_PRXC p.val) 31 0
    let gives (y : State) : Prop := exec (.ethernetFrame p b false) s = .next (after s y)
    let velva := be b 0 6 = velvaMac ∧ (etherType b).2.1 = s.fld VLV_ETYPE 15 0
    exec (.ethernetFrame p b true) s = .next (after s (velvaErr p.val 8 0 x)) ∧
    (¬ velva → gives (dataFrame p.val b x)) ∧
    (velva → p.val = 2 → gives x) ∧
    (velva → p.val ≠ 2 → s.vlvEn = false → gives (dataFrame p.val b x)) ∧
    (velva → p.val ≠ 2 → s.vlvEn = true → s.velvaParse b = .error true → gives (velvaErr p.val 8 0 x)) ∧
    (velva → p.val ≠ 2 → s.vlvEn = true → s.velvaParse b = .error false → gives x) ∧
    ∀ v : VFrame, velva → p.val ≠ 2 → s.vlvEn = true → s.velvaParse b = .ok v → gives (velvaTake p.val v s)) ∧
  (∀ (o : Origin) (v : Word) (s : State), Open o 0x11 s →
    let x := s.setReg SW_PTP_SETLO (s.written SW_PTP_SETLO v)
    (Fits SW_PTP_SETLO v → v.toNat < 1000000000 →
      exec (.swPtpSetlo o v) s = .next (wrote o s { x with ptpS := x.fld SW_PTP_SETHI 31 0, ptpNs := v.toNat })) ∧
    (1000000000 ≤ v.toNat → exec (.swPtpSetlo o v) s = .next (turnedAway o .eRange s)) ∧
    (Fits SW_PTP_ADJ v → exec (.swPtpAdj o v) s = .next (wrote o s (setPtp (s.ptp + sbits v 31 0) (s.setReg SW_PTP_ADJ (s.written SW_PTP_ADJ v)))))) ∧
  (∀ s : State, (s.swUp = true → exec .pdelayReq s = .next (after s (pdelayReq s))) ∧
    (s.swUp = false → exec .pdelayReq s = .next (after s s)) ∧ (s.fld SW_PTP_CFG 1 0 ≠ 2 → pdelayReq s = s)) ∧
  (∀ (s : State) (p : Nat) (g : Bool), (s.swPort p).link = true ∨ s.swUp = false → swLinkUp p g s = s) ∧
  (∀ (s : State) (p : Nat) (g : Bool), (s.swPort p).link = false → s.swUp = true → let x := clearErr p s
    let only := p < 2 ∧ x.ringEn = true ∧ x.role p ≠ 0
    let up (b : Bool) : State := raiseN (0x1C0 + p) (at_ 1 31 + at_ (b2n g) 30)
      (onSwPort p (fun y => { y with link := true, g1000 := g, linkAt := x.upTicks, velvaOnly := b, obsOk := false }) x)
    let y := linkEvt p true (up true)
    (¬ only → swLinkUp p g s = pump p (up false)) ∧
    (only → swLinkUp p g s =
      pump p (if y.isHead = true ∧ y.flag VLV_CFG 27 = true ∧ y.vlvEn = true then onVlv (fun z => { z with autoRc := true }) y else y))) ∧
  (∀ (s : State) (p : Fin 3) (g : Bool), let off := s.start.phyOff.testBit p.val = true ∨ (g = false ∧ s.flag (SW_PCTL p.val) 26 = false)
    (off → exec (.swLinkUp p g) s = .next (after s s)) ∧ (¬ off → exec (.swLinkUp p g) s = .next (after s (swLinkUp p.val g s)))) ∧
  (∀ (s : State) (p : Fin 3), ((s.swPort p.val).link = false → exec (.swLinkDown p) s = .next (after s s)) ∧
    ((s.swPort p.val).link = true → exec (.swLinkDown p) s = .next (after s (portLost p.val (attemptsEnd p.val
      (raiseN (0x1C0 + p.val) 0 (onSwPort p.val (fun y => { y with link := false, tx := none, obsOk := false }) s))))))) ∧
  ∀ (o : Origin) (p : Fin 3) (s : State), Open o 0x11 s →
    exec (.cntClr o p) s = .next (wrote o s (clearErr p.val (s.setReg (SW_PCLR p.val) (s.written (SW_PCLR p.val) 1))))

/-- What a Velva frame of each type does on arrival. A frame of each type is taken by its port: on a port that is down
nothing happens; on one that is up it is counted; outside Velva ports it goes no further; on a quarantined port it is
dropped and counted unless it is an ALARM, a HOP_ACK or a PROBE; otherwise it renews its origin's gossip entry, with
HOPS = 0 becomes the observed neighbour, and its type's own handling follows: search frames, gossip, beacon, alarm,
acknowledgement, link event, ring control, probe, buddy control and data, any other type raising 0x1D6 alone.
(20_velva_chain.md, 22_cellar.md) -/
def Obligations.VelvaFramesAreTaken : Prop :=
  (∀ (s : State) (p : Fin 2) (v : VFrame),
    exec (.rollcall p v) s = .next (after s (velvaTake p.val { v with ty := 1 } s)) ∧
    exec (.rcEntry p v) s = .next (after s (velvaTake p.val { v with ty := 2 } s)) ∧
    exec (.rcEnd p v) s = .next (after s (velvaTake p.val { v with ty := 3 } s)) ∧
    exec (.gossip p v) s = .next (after s (velvaTake p.val { v with ty := 4 } s)) ∧
    exec (.beacon p v) s = .next (after s (velvaTake p.val { v with ty := 5 } s)) ∧
    exec (.alarm p v) s = .next (after s (velvaTake p.val { v with ty := 6 } s)) ∧
    exec (.hopAck p v) s = .next (after s (velvaTake p.val { v with ty := 7 } s)) ∧
    exec (.linkEvt p v) s = .next (after s (velvaTake p.val { v with ty := 8 } s)) ∧
    exec (.ringCtl p v) s = .next (after s (velvaTake p.val { v with ty := 9 } s)) ∧
    exec (.buddyData p v) s = .next (after s (velvaTake p.val { v with ty := 10 } s)) ∧
    exec (.buddyCtl p v) s = .next (after s (velvaTake p.val { v with ty := 11 } s)) ∧
    exec (.probe p v) s = .next (after s (velvaTake p.val { v with ty := 12 } s))) ∧
  (∀ (s : State) (p : Nat) (v : VFrame), s.portUp p = false → velvaTake p v s = s) ∧
  (∀ (s : State) (p : Nat) (v : VFrame) (x : State), x = velvaErr p (-1) 0 (s.count (SW_PRXC p) 31 0) → s.portUp p = true →
    (x.vlvPort p = false → velvaTake p v s = x) ∧
    (x.vlvPort p = true → (x.swPort p).quar = true → v.ty ≠ 6 → v.ty ≠ 7 → v.ty ≠ 12 → velvaTake p v s = x.count (SW_PDROP p) 15 0) ∧
    (x.vlvPort p = true → (x.swPort p).quar = false ∨ v.ty = 6 ∨ v.ty = 7 ∨ v.ty = 12 → ∃ y z,
      y = (if v.hops = 0 then onSwPort p (fun h => { h with obs := v.origin, obsOk := !h.quar, obsAt := x.upTicks }) x else x) ∧
      z = onVlv (fun h => { h with table := h.table.map fun g =>
        if g.2.origin = v.origin then (g.1, { g.2 with seen := y.upTicks, silent := false }) else g }) y ∧
      velvaTake p v s = match v.ty with
        | 1 => rollcall p v z
        | 2 => rcEntry p v z
        | 3 => rcEnd p v z
        | 4 => gossipFrame p v z
        | 5 => beaconFrame p v z
        | 6 => alarmFrame p v z
        | 7 => buddyAcked p v (hopAck p v z)
        | 8 => linkEvtFrame p v z
        | 9 => ringCtlFrame p v z
        | 10 => buddyData p v z
        | 11 => buddyCtl p v z
        | 12 => hopAckFor p v z
        | t => raiseN 0x1D6 (at_ p 24 + t) z))

/-- What the timers of the Velva chain do. In a switch that runs: an attempt that waited too long scores an error and is
sent again until its attempts are used up, then it fails; an UPLINK alarm is sent again, the second time for the last;
a quarantined Velva port sends a PROBE; with Velva on, a GOSSIP is flooded with the unit's words, which become the
words last sent, a unit with UPLINK_OWN floods a BEACON, and an uplink not heard of is lost; a disagreement that lasts
is raised as 0x1D3, once (a unit gone silent is noted as silent first); a port still Velva only raises 0x1CD; the head
starts the search that a link asked for, unless it may not or one is under way; a search ends with result 4, its list
counted as far as it is unbroken; an observed neighbour that is lost ends buddy work on its port. Where its condition
does not hold, a timer does nothing. (20_velva_chain.md, 22_cellar.md) -/
def Obligations.VelvaTimersAct : Prop :=
  (∀ (s : State) (k : Nat), s.swUp = false ∨ s.vlv.attempts[k]? = none → exec (.hopAckTimeout k) s = .next (after s s)) ∧
  (∀ (s : State) (k : Nat) (a : Attempt), s.swUp = true → s.vlv.attempts[k]? = some a → let x := velvaErr a.port 0 8 s
    (a.made < a.max → exec (.hopAckTimeout k) s = .next (after s
      (vSend a.port a.frame (onVlv (fun y => { y with attempts := y.attempts.set k { a with made := a.made + 1 } }) x)))) ∧
    (a.max ≤ a.made → exec (.hopAckTimeout k) s = .next (after s
      (attemptFails a (onVlv (fun y => { y with attempts := y.attempts.eraseIdx k }) x))))) ∧
  (∀ (s : State) (k : Nat), s.swUp = false ∨ s.vlv.resends[k]? = none → exec (.alarmResend k) s = .next (after s s)) ∧
  (∀ (s : State) (k p n : Nat) (v : VFrame), s.swUp = true → s.vlv.resends[k]? = some (p, v, n) → exec (.alarmResend k) s = .next (after s
    (vSend p v (onVlv (fun y => { y with resends := if 2 ≤ n then y.resends.eraseIdx k else y.resends.set k (p, v, n + 1) }) s)))) ∧
  (∀ (s : State) (p : Fin 2), let on := (s.swPort p.val).quar = true ∧ s.vlvPort p.val = true
    let q := nextSeq 12 s
    (on → exec (.probeTimer p) s = .next (after s (sendAcked p.val (q.2.ownFrame 12 q.1 []) 1 q.2))) ∧
    (¬ on → exec (.probeTimer p) s = .next (after s s))) ∧
  (∀ s : State, let on := s.vlvEn = true ∧ s.swUp = true
    (on → exec .gossipTimer s = .next (after s (onVlv (fun x => { x with word0 := some s.gossip0 }) (flood 4 (wordsBe s.gossipWords) s)))) ∧
    (¬ on → exec .gossipTimer s = .next (after s s)) ∧
    (on → exec .vlvUplinkLost s = .next (after s (onVlv (fun x => { x with beacon := false }) s))) ∧
    (¬ on → exec .vlvUplinkLost s = .next (after s s))) ∧
  (∀ s : State, let on := s.vlvEn = true ∧ s.uplinkOwn = true
    (on → exec .beaconTimer s = .next (after s (flood 5 (toBe s.uplinkPort 4) s))) ∧
    (¬ on → exec .beaconTimer s = .next (after s s))) ∧
  (∀ (s : State) (ty : Nat) (pl : List Nat), let q := nextSeq ty s
    let v := q.2.ownFrame ty q.1 pl
    flood ty pl s = vSend 1 v (vSend 0 v q.2)) ∧
  (∀ (s : State) (kind : Fin 4) (k : Nat), (s.swUp = true → exec (.vlvDisagree kind k) s = .next (after s (velvaDisagree (kind.val + 1) k s))) ∧
    (s.swUp = false → exec (.vlvDisagree kind k) s = .next (after s s))) ∧
  (∀ (s : State) (kind k : Nat),
    let x := if kind = 3 then onVlv (fun x => { x with table := x.table.map fun g => if g.1 = k then (k, { g.2 with silent := true }) else g }) s else s
    let again := x.disagrees kind k = true ∧ x.vlv.reported.contains (kind, k) = false
    (¬ again → velvaDisagree kind k s = x) ∧
    (again → ∃ d : Word, velvaDisagree kind k s = raise 0x1D3 d (onVlv (fun y => { y with reported := y.reported ++ [(kind, k)] }) x))) ∧
  (∀ (s : State) (p : Fin 2), let on := (s.swPort p.val).velvaOnly = true ∧ s.portUp p.val = true
    (on → exec (.velvaOnlyTimeout p) s = .next (settle (raiseN 0x1CD (at_ p.val 24 + 0xF) s))) ∧
    (¬ on → exec (.velvaOnlyTimeout p) s = .next (settle s))) ∧
  (∀ s : State, let due := s.vlv.autoRc = true ∧ s.swUp = true
    let may := s.isHead = true ∧ s.vlvEn = true ∧ s.vlv.rcBusy = false
    (due → may → exec .autoRollcall s = .next (after s (startSearch s))) ∧
    (due → ¬ may → exec .autoRollcall s = .next (after s (onVlv (fun x => { x with autoRc := false }) s))) ∧
    (¬ due → exec .autoRollcall s = .next (after s s))) ∧
  (∀ s : State, let on := s.vlv.rcBusy = true ∧ s.swUp = true
    (on → exec .rollcallTimeout s = .next (after s
      (endSearch 4 ((List.range 256).foldl (fun h k => if k = h + 1 ∧ (s.vlv.rc.lookup k).isSome then k else h) 0) s))) ∧
    (¬ on → exec .rollcallTimeout s = .next (after s s))) ∧
  ∀ (s : State) (p : Fin 2), let on := s.swUp = true ∧ (s.swPort p.val).obsOk = true
    (on → exec (.observedReachableLost p) s = .next (after s (buddyPortLost p.val (onSwPort p.val (fun x => { x with obsOk := false }) s)))) ∧
    (¬ on → exec (.observedReachableLost p) s = .next (after s s))

/-- What VLV_RC_CMD and VLV_GCMD do. START at an enabled head with no search under way takes hop 0, clears the list to the
head's own entry, and sends a ROLLCALL with a new sequence number; ABORT ends the search under way with result 5.
START at a unit that is not the head, with Velva off, or during a search returns E_STATE, as ABORT does without a
search. FORGET removes one entry of the gossip table or all of them. (20_velva_chain.md) -/
def Obligations.VelvaCommandsAct : Prop :=
  (∀ (o : Origin) (s : State), Open o 0x11 s → let may := s.isHead = true ∧ s.vlvEn = true ∧ s.vlv.rcBusy = false
    (may → exec (.start o) s = .next (wrote o s (startSearch (s.setReg VLV_RC_CMD (s.written VLV_RC_CMD (word (at_ 1 28))))))) ∧
    (¬ may → exec (.start o) s = .next (turnedAway o .eState s))) ∧
  (∀ s : State, ∃ q e x, q = nextSeq 1 (takeHop 0 s) ∧ e = q.2.ownEntry 0 none ∧ x = onVlv (fun y => { y with
      rcBusy := true, rcResult := 1, rcSeq := q.1, lastSeq := q.1, rcStart := q.2.upTicks, rcLast := 0, autoRc := false
      rc := [(0, ⟨Config.unitId % 2 ^ 64, e.1, e.2⟩)] }) q.2 ∧ startSearch s = forwardToken (x.ownFrame 1 q.1 (toBe 0 4)) x) ∧
  (∀ (o : Origin) (s : State), Open o 0x11 s →
    (s.vlv.rcBusy = true → exec (.rcAbort o) s = .next (wrote o s (endSearch 5 s.vlv.rcLast
      (s.setReg VLV_RC_CMD (s.written VLV_RC_CMD (word (at_ 2 28))))))) ∧
    (s.vlv.rcBusy = false → exec (.rcAbort o) s = .next (turnedAway o .eState s))) ∧
  ∀ (o : Origin) (s : State), Open o 0x11 s →
    (∀ k : BitVec 8, exec (.forgetEntry o k) s = .next (wrote o s (onVlv (fun x => { x with table := adel x.table k.toNat })
      (s.setReg VLV_GCMD (s.written VLV_GCMD (word (at_ 1 28 + k.toNat))))))) ∧
    exec (.forgetAll o) s = .next (wrote o s (onVlv (fun x => { x with table := [] })
      (s.setReg VLV_GCMD (s.written VLV_GCMD (word (at_ 2 28))))))

/-- What session commands, mask publishing, packets, the tick and stalls do. SES_STAGE of 24 words is the staged entry, of
another number E_LEN. WRITE makes the selected session the staged entry, OFF, its packet index as given and its IPv4
id a free value, the stage being used up (E_RANGE for a bad entry); ON leads an OFF session to WAIT_IDR, asking for an
IDR; OFF withholds its frames not begun and makes it OFF, after the frame being sent while the key of that frame is
still held (the model's reading, notes/assumptions/52.md); CLEAR removes it; each answers the code of its checks,
leaving all as it was. TEN_MPUB publishes the masks it names with 0x1E7 each, E_STATE while one is busy. The host
stream's packet or that of the session picked leaves, unless nothing may; the tick starts new measures; a frame that
waited QWAIT stalls its session, withholding its queue, with 0x1E3. (21_tenants_sessions.md,
17_outputs_and_encoder.md) -/
def Obligations.SessionsAndEgressWork : Prop :=
  (∀ (ws : List Word) (s : State), Open .host 0x12 s →
    (ws.length = 24 → exec (.sesStageWrite ws) s = .next (wrote .host s (onEgr (fun e => { e with stage := some ws }) s))) ∧
    (ws.length ≠ 24 → exec (.sesStageWrite ws) s = .next (turnedAway .host .eLen s))) ∧
  (∀ (o : Origin) (s : State), Open o 0x12 s →
    let n := s.fld SES_SEL 11 0
    let x := s.ses n
    let y (k : Nat) : State := s.setReg SES_CMD (s.written SES_CMD (word (at_ k 28)))
    (∀ ws, s.egr.stage = some ws → x.live = false → entryBad ws = false → let id := bits (y 1).draw.1 15 0
      let z : Session := { st := .off, words := ws, seq := bits (nth 0 ws 2) 31 16, roc := (nth 0 ws 3).toNat, ipId := id }
      exec (.sesWrite o) s = .next (wrote o s (onEgr (fun g => { g with stage := none, sessions := aput g.sessions n z }) (y 1).draw.2))) ∧
    (∀ ws, s.egr.stage = some ws → x.live = false → entryBad ws = true → exec (.sesWrite o) s = .next (turnedAway o .eRange s)) ∧
    (s.egr.stage = none ∨ x.live = true → exec (.sesWrite o) s = .next (turnedAway o .eState s)) ∧
    (s.sesCode 2 = .ok → exec (.sesOn o) s = .next (wrote o s (sesOn n (y 2)))) ∧
    (s.sesCode 2 ≠ .ok → exec (.sesOn o) s = .next (turnedAway o (s.sesCode 2) s)) ∧
    (x.st ≠ .empty → x.st ≠ .off → exec (.sesOff o) s = .next (wrote o s (sesOff n (y 3)))) ∧
    (x.st = .empty ∨ x.st = .off → exec (.sesOff o) s = .next (turnedAway o .eState s)) ∧
    (x.st = .off → exec (.sesClear o) s = .next (wrote o s (onEgr (fun g => { g with sessions := adel g.sessions n }) (y 4)))) ∧
    (x.st ≠ .off → exec (.sesClear o) s = .next (turnedAway o .eState s))) ∧
  (∀ s : State, let x := s.ses (s.fld SES_SEL 11 0)
    let twin := ∃ p ∈ s.egr.sessions, p.1 ≠ s.fld SES_SEL 11 0 ∧ p.2.live = true ∧ p.2.ssrc = x.ssrc ∧
      (p.2.tenant = x.tenant ∨ s.tenKey p.2.tenant = s.tenKey x.tenant)
    let shut := s.flag (TEN_CFG x.tenant) 31 = false ∨ (x.src = 0 ∧ s.flag (ENC_CFG x.chan) 31 = false)
    (x.st ≠ .off ∨ twin → s.sesCode 2 = .eState) ∧ (x.st = .off → ¬ twin → shut → s.sesCode 2 = .eCtx) ∧
    (x.st = .off → ¬ twin → ¬ shut → s.sesCode 2 = .ok)) ∧
  (∀ (n : Nat) (s : State), let w := onSes n (fun y => { y with st := .waitIdr, reported := false }) s
    let d := dropQueued none n s
    let held := ((d.ses n).queue.any fun f => d.keyHeld f.key) = true
    sesOn n s = (if (s.ses n).src = 0 then requestIdr (s.ses n).chan w else w) ∧
    (held → sesOff n s = onSes n (fun x => { x with offPend := true }) d) ∧
    (¬ held → sesOff n s = ringsPrune (onSes n (fun x => { x with st := .off, queue := [] }) d))) ∧
  (∀ (o : Origin) (v : Word) (s : State), Open o 0x12 s → let busy := ∃ g, g < 8 ∧ bit v g = true ∧ s.maskBusy g = true
    (busy → exec (.tenMpub o v) s = .next (turnedAway o .eState s)) ∧
    (¬ busy → Fits TEN_MPUBR v → exec (.tenMpub o v) s = .next (wrote o s (publishMasks v (s.setReg TEN_MPUBR (s.written TEN_MPUBR v)))))) ∧
  (∀ s : State, exec (.packetSend true) s = .next (after s (hostPacket s)) ∧
    exec (.packetSend false) s = .next (after s (sendPacket (s.egr.sessions.length + 1) s)) ∧
    (s.egr.host = [] ∨ s.serves = false → hostPacket s = s)) ∧
  (∀ (s x : State) (n k : Nat) (f : SFrame) (rest : List SFrame), 0 ≤ s.egrTok → s.serves = true → pick s = (some n, x) →
    (x.ses n).queue = f :: rest → let y := x.ses n
    let i := indexCheck (x.tenKey y.tenant) y.ssrc (y.roc * 65536 + y.seq) x
    (2 ^ 32 ≤ y.roc → sendPacket (k + 1) s = sendPacket k (ivEnd n 1 x)) ∧
    (y.roc < 2 ^ 32 → f.begun = true → sendPacket (k + 1) s = sendOne n f rest x) ∧
    (∀ z, y.roc < 2 ^ 32 → f.begun = false → i = .ok z → sendPacket (k + 1) s = sendOne n { f with key := x.tenKey y.tenant } rest (tenApply y.tenant z)) ∧
    (∀ r, y.roc < 2 ^ 32 → f.begun = false → i = .error r →
      sendPacket (k + 1) s = sendPacket k (ivEnd n (r - 4) (onSes n (fun x => { x with why := r }) x)))) ∧
  (∀ (s : State) (k : Nat), (s.egrTok < 0 ∨ s.serves = false → sendPacket (k + 1) s = s) ∧
    (∀ x, 0 ≤ s.egrTok → s.serves = true → pick s = (none, x) → sendPacket (k + 1) s = x)) ∧
  (∀ s : State, let x := tickClass 2 (tickClass 1 (tickClass 0 (onEgr (fun g => { g with sentLast := g.sentNow, sentNow := [0, 0, 0] }) s)))
    (s.live = true → s.handedOver = true → exec .egressTick s =
      .next (after s (onEgr (fun g => { g with tenants := g.tenants.map fun p => (p.1, { p.2 with o := 0, k := 0 }) }) x))) ∧
    (s.live = false ∨ s.handedOver = false → exec .egressTick s = .next (after s s))) ∧
  ∀ (s : State) (n : Fin 4096), let x := s.ses n.val
    let due := s.live = true ∧ x.st = .sending ∧ x.src = 0 ∧ ∃ f, x.queue.head? = some f ∧ f.begun = false
    (due → exec (.sesStall n) s = .next (after s (raiseN 0x1E3 n.val (requestIdr x.chan (dropQueued (some 5) n.val
        (onSes n.val (fun y => { y with st := .stalled, stalls := y.stalls + 1 }) s)))))) ∧
    (¬ due → exec (.sesStall n) s = .next (after s s))

/-- What cards, openings, medium commands, FORMAT, EJECT, ATTACH and wheel protection do. A card comes and goes by its
pin. An opening that ends concerns a medium OPENING, outside Rind and clock waits; failed, it makes the medium FAILED.
A good command clears the failures; a bad one is counted, the third in a row making the medium FAILED, a bad write
also losing what its stream had queued, whose frames are left out with reason 4; on a medium not in use it does
nothing. FORMAT by the host of a READY, FULL or UNFORMATTED medium of 64 wheels or more that nothing uses starts long
operation 4, else E_STATE; at its end the medium is empty, READY, with a new format number drawn, or, gone meanwhile,
the operation ends E_STATE (the model's reading, notes/assumptions/53.md). EJECT closes the medium's streams and sets
OFF; ATTACH opens an OFF one; UNPROT_ALL and the wheel commands change protection, a wheel at or above N_w giving
E_RANGE. (22_cellar.md, 05_control_port.md) -/
def Obligations.CellarMediaCommands : Prop :=
  (∀ s : State, exec .cardInsert s = .next (after s { s with cel := { s.cel with card := true } }) ∧
    exec .cardRemove s = .next (after s { s with cel := { s.cel with card := false } })) ∧
  (∀ (s : State) (m : Fin 2) (o : MediumOpen),
    (s.clk.waiting = true ∨ s.inRind = true → exec (.mediumOpenDone m o) s = .next (after s s)) ∧
    (s.clk.waiting = false → s.inRind = false → exec (.mediumOpenDone m o) s = .next (after s (mediumOpened m.val o s))) ∧
    ((s.med m.val).st ≠ .opening → mediumOpened m.val o s = s) ∧
    ((s.med m.val).st = .opening → o.good = false → mediumOpened m.val o s = setMed m.val .failed s)) ∧
  (∀ (s : State) (m : Fin 2) (w : Bool) (e : Fin 17), let st := (s.med m.val).st
    let used := s.live = true ∧ (st = .opening ∨ st = .ready ∨ st = .full ∨ st = .unformatted)
    let x := onMed m.val (fun y => { y with fails := y.fails + 1 }) (s.count (CEL_MCNT m.val) (if w then 31 else 23) (if w then 24 else 16))
    let out := w = true ∧ e.val < 16 ∧ (x.strm e.val).dest = m.val + 1
    (¬ used → ∀ good, exec (.mediumCommandDone m good w e) s = .next (after s s)) ∧
    (used → exec (.mediumCommandDone m true w e) s = .next (after s (onMed m.val (fun x => { x with fails := 0 }) s))) ∧
    (used → 3 ≤ (x.med m.val).fails → exec (.mediumCommandDone m false w e) s =
        .next (after s (mediumGone m.val (if w then 4 else 1) (setMed m.val .failed x)))) ∧
    (used → (x.med m.val).fails < 3 → ¬ out → exec (.mediumCommandDone m false w e) s = .next (after s x)) ∧
    (used → (x.med m.val).fails < 3 → out → let q := x.strm e.val
      let lost := (q.out.map fun o => match o.2.2 with | .page p => p.frames | .close _ _ => 0).foldl (· + ·) 0 + q.buf.frames
      let y := onStrm e.val (fun z => { z with out := [], buf := { num := 1 }, wheel := none }) x
      let z := match q.wheel with | some (i, k) => closeWheel i k 2 false y | none => y
      exec (.mediumCommandDone m false w e) s = .next (after s ((List.range (max 1 lost)).foldl (fun a _ => leaveOut e.val 4 a) z)))) ∧
  (∀ (o : Origin) (m : Fin 2) (s : State), Open o 0x13 s → let x (k : Nat) : State := s.setReg CEL_CMD (s.written CEL_CMD (celWord k m))
    let st := (s.med m.val).st
    let fit := isVat o = false ∧ (st = .ready ∨ st = .full ∨ st = .unformatted) ∧ s.medUsed m.val = false ∧ 64 ≤ wheelsOf (s.med m.val).capMiB
    (fit → exec (.format o m) s = .next (wrote o s (startOp 4 m.val (onCel (fun c => { c with fmt := some m.val }) (x 1))))) ∧
    (¬ fit → exec (.format o m) s = .next (turnedAway o .eState s)) ∧
    exec (.eject o m) s = .next (wrote o s (eject m.val (x 2))) ∧ exec (.attach o m) s = .next (wrote o s (attach m.val (x 3))) ∧
    exec (.unprotAll o m) s = .next (wrote o s (fullFollow m.val
      (onMed m.val (fun y => { y with wheels := y.wheels.map fun p => (p.1, { p.2 with prot := false }) }) (x 4))))) ∧
  (∀ (m : Nat) (s : State), ((s.med m).st = .off → attach m s = setMed m .opening s) ∧ ((s.med m).st ≠ .off → attach m s = s) ∧
    ((s.med m).st = .absent → eject m s = s) ∧
    ((s.med m).st ≠ .absent → let x := (List.range 16).foldl (fun s e =>
        if (s.strm e).dest = m + 1 then flushStream e (closeStream e 2 false false s) else s) s
      eject m s = mediumGone m 1 (setMed m .off
        ((x.cel.hosted.filter fun h => h.wheel.1 == m).foldl (fun s h => closeHosted h 2 false false true s) x)))) ∧
  (∀ s : State, (s.live = false ∨ s.cel.fmt = none → exec .cellarFormatDone s = .next (after s s)) ∧
    ∀ m, s.live = true → s.cel.fmt = some m → let st := (s.med m).st
      let here := st = .ready ∨ st = .full ∨ st = .unformatted
      (¬ here → exec .cellarFormatDone s = .next (after s (endOp .eState (onCel (fun c => { c with fmt := none }) s)))) ∧
      (here → ∃ f, f ≠ (s.med m).format ∧ let x := onMed m (fun y => { y with
          format := f, nw := wheelsOf y.capMiB, wheels := [], lastOpen := none, wseq := 0, fmtUnit := Config.unitId % 2 ^ 64
          fmtHi := word s.ptpS, fmtLo := word s.ptpNs }) s.draw.2
        exec .cellarFormatDone s = .next (after s (endOp .ok (setMed m .ready (onCel (fun c => { c with fmt := none }) x)))))) ∧
  (∀ (o : Origin) (m : Fin 2) (w : BitVec 17) (s : State), Open o 0x13 s →
    let x (k : Nat) : State := s.setReg CEL_WCMD (s.written CEL_WCMD (wheelWord k m w))
    (w.toNat < (s.med m.val).nw → Fits CEL_WCMD (wheelWord 1 m w) → exec (.protect o m w) s = .next (wrote o s (protect m.val w.toNat true (x 1)))) ∧
    (w.toNat < (s.med m.val).nw → Fits CEL_WCMD (wheelWord 2 m w) → exec (.unprotect o m w) s = .next (wrote o s (protect m.val w.toNat false (x 2)))) ∧
    ((s.med m.val).nw ≤ w.toNat → exec (.protect o m w) s = .next (turnedAway o .eRange s) ∧ exec (.unprotect o m w) s = .next (turnedAway o .eRange s))) ∧
  ∀ (m k : Nat) (b : Bool) (s : State),
    ((s.med m).wheels.lookup k ≠ none → protect m k b s = fullFollow m (onWheel m k (fun w => { w with prot := b }) s)) ∧
    ((s.med m).wheels.lookup k = none → protect m k b s = fullFollow m s)

/-- What the recorder's timers, written pages, buddy time-outs and repairs do. When the alarm time expires every stream's
alarm cause ends. A recording stream without a cause stops, with 0x1F1. In an engine that serves its pipelines, a
written page of a stream, or of a hosted one, takes the next entries of its output. A buddy that has not accepted in
10 ms is refused; the oldest unacknowledged frame is sent again after 2 ms, scoring an error, and after eight attempts
the buddy stream ends. Closing at a power failure closes the hosted streams with STATE 3 and ends with 0x1F7, its DATA
giving DONE, the wheels closed and 4 KiB for each page written. A wheel left open that nothing writes is closed with
STATE 4 at its good pages, and counted. Where its condition does not hold, each does nothing. (22_cellar.md,
20_velva_chain.md) -/
def Obligations.CellarRecords : Prop :=
  (∀ s : State, (s.live = true → exec .alarmTimeExpiry s = .next (after s
      (celFollow (onCel (fun c => { c with streams := c.streams.map fun x => { x with alarm := false } }) s)))) ∧
    (s.live = false → exec .alarmTimeExpiry s = .next (after s s))) ∧
  (∀ (s : State) (e : Fin 16), let due := s.live = true ∧ (s.strm e.val).recording = true ∧ (s.strm e.val).causes = 0
    (due → exec (.celRecStop e) s = .next (after s (stopRecording e.val s))) ∧
    (¬ due → exec (.celRecStop e) s = .next (after s s))) ∧
  (∀ (e : Nat) (s : State), (s.strm e).recording = true → ∃ y, y = closeStream e 2 false false (buddyStops e false s) ∧
    stopRecording e s = raiseN 0x1F1 (at_ e 16 + (s.strm e).causes)
      (onStrm e (fun x => { x with recording := false, dest := 0, held := [], await := none, left := 0, waitIdr := false, owed := [] }) y)) ∧
  (∀ (s : State) (e : Fin 19), let x := s.strm e.val
    (s.serves = false → exec (.pageWritten e) s = .next (after s s)) ∧
    (s.serves = true → e.val < 16 → exec (.pageWritten e) s = .next (after s
      ((nextOuts x.out).1.foldl (fun x o => writeOut o x) (onStrm e.val (fun y => { y with out := (nextOuts x.out).2 }) s)))) ∧
    (s.serves = true → 16 ≤ e.val → s.cel.hosted[e.val - 16]? = none → exec (.pageWritten e) s = .next (after s s)) ∧
    (∀ h : Hosted, s.serves = true → 16 ≤ e.val → s.cel.hosted[e.val - 16]? = some h → exec (.pageWritten e) s = .next (after s
      ((nextOuts h.out).1.foldl (fun x o => writeOut o x)
        (onCel (fun c => { c with hosted := upd c.hosted (e.val - 16) fun y => { y with out := (nextOuts h.out).2 } }) s))))) ∧
  (∀ (s : State) (e : Fin 16), let waits (b : BuddyOut) : Prop := s.live = true ∧ (s.strm e.val).buddy = some b ∧ b.accepted = false
    (∀ b, waits b → exec (.buddyOpenTimeout e) s = .next (after s (buddyRefused e.val b.port s))) ∧
    ((∀ b, ¬ waits b) → exec (.buddyOpenTimeout e) s = .next (after s s))) ∧
  (∀ (s : State) (e : Fin 16), let owes (b : BuddyOut) : Prop := s.live = true ∧ (s.strm e.val).buddy = some b ∧ b.unacked ≠ []
    ((∀ b, ¬ owes b) → exec (.buddyRetry e) s = .next (after s s)) ∧
    ∀ b v n t, owes b → b.unacked = (v, n) :: t → let x := velvaErr b.port 0 8 s
      (8 ≤ n → exec (.buddyRetry e) s = .next (after s (buddyEnds e.val 5 true (x.count CEL_BCNT 15 0)))) ∧
      (n < 8 → (x.strm e.val).buddy = none → exec (.buddyRetry e) s = .next (after s x)) ∧
      (n < 8 → (x.strm e.val).buddy ≠ none → exec (.buddyRetry e) s = .next (after s (vSend b.port v
        (onStrm e.val (fun y => { y with buddy := some { b with unacked := (v, n + 1) :: t } }) x))))) ∧
  (∀ (s : State) (n : Nat), (s.live = true → exec (.celPfClose n) s = .next (after s (celPfClose n s))) ∧
    (s.live = false → exec (.celPfClose n) s = .next (after s s)) ∧ (s.cel.pf = false → celPfClose n s = s) ∧
    (s.cel.pf = true → ∃ k w x, k ≤ n ∧ w ≤ 31 ∧ celPfClose n s =
      raiseN 0x1F7 (at_ 1 31 + at_ w 16 + sat 65535 (4 * k)) (onCel (fun c => { c with pf := false }) (hostedEnd 3 false true true x)))) ∧
  (∀ (s : State) (m : Fin 2) (good : Nat), let up := s.live = true ∧ ((s.med m.val).st = .ready ∨ (s.med m.val).st = .full)
    (up → exec (.wheelRepairDone m good) s = .next (after s (wheelRepair m.val good s))) ∧
    (¬ up → exec (.wheelRepairDone m good) s = .next (after s s))) ∧
  ∀ (s : State) (m good : Nat), let open? := (s.med m).wheels.find? fun p => p.2.st == 1 && !s.wheelBusy m p.1
    (open? = none → wheelRepair m good s = s) ∧
    ∀ k w, open? = some (k, w) → let n := if w.foreign = true then min 1023 good else min good w.pages.length
      wheelRepair m good s = fullFollow m ((onWheel m k (fun y => { y with st := 4, npages := n, pages := y.pages.take n }) s).count (CEL_MCNT m) 15 0)

/-- What page retrieval and network jobs do. CEL_RCMD START on a READY or FULL medium with none running runs a retrieval
over its wheels, otherwise E_STATE; STOP ends it with END 2, keeping the page being read out, and is only stored when
none runs. In an engine that serves its pipelines, outside a power failure, a free buffer takes the next page verbatim
with the next number, passing to the next wheel after the last page of one, and the last one ends the retrieval with
END 1; four buffers filled too long raise 0x1F5 once. CEL_NjCMD START runs network job j, or answers the code of its
checks: E_CTX where the tenant is disabled, E_STATE by its session; STOP ends one that runs with END 2. (22_cellar.md,
21_tenants_sessions.md) -/
def Obligations.CellarRetrieves : Prop :=
  (∀ (o : Origin) (s : State), Open o 0x13 s → let m := s.fld CEL_RSEL 31 31
    let fit := s.cel.ret.st ≠ 1 ∧ ((s.med m).st = .ready ∨ (s.med m).st = .full)
    let x (k : Nat) : State := s.setReg CEL_RCMD (s.written CEL_RCMD (word (at_ k 28)))
    (fit → exec (.retStart o) s = .next (wrote o s
        (onRet (fun r => { st := 1, med := (x 1).fld CEL_RSEL 31 31, wheels := (x 1).retWheels, jumps := r.jumps }) (x 1)))) ∧
    (¬ fit → exec (.retStart o) s = .next (turnedAway o .eState s)) ∧
    (s.cel.ret.st = 1 → exec (.retStop o) s = .next (wrote o s
      (retEnd 2 { x 2 with cp := { (x 2).cp with pages := (x 2).cp.pages.take 1 } }))) ∧
    (s.cel.ret.st ≠ 1 → exec (.retStop o) s = .next (wrote o s (x 2)))) ∧
  (∀ s : State, let r := s.cel.ret
    let gives (y : State) : Prop := exec .retrievalPageFilled s = .next (after s y)
    let runs := s.serves = true ∧ r.st = 1 ∧ s.cel.pf = false
    (¬ runs → gives s) ∧ (runs → r.wheels = [] → gives (retEnd 1 s)) ∧
    (runs → r.wheels ≠ [] → 4 ≤ s.cp.pages.length → gives s) ∧
    ∀ k t, runs → r.wheels = k :: t → s.cp.pages.length < 4 →
      let x := { s with cp := { s.cp with pages := s.cp.pages ++ [⟨s.pageWords r.med k r.page, r.pseq + 1⟩] } }
      let n := ((s.med r.med).wheel k).npages
      let y := onRet (fun q => { q with pseq := r.pseq + 1, stallTold := false, wheels := t, page := 0 }) x
      (r.page < n → gives (onRet (fun q => { q with pseq := r.pseq + 1, stallTold := false, page := q.page + 1 }) x)) ∧
      (n ≤ r.page → t ≠ [] → gives y) ∧ (n ≤ r.page → t = [] → gives (retEnd 1 y))) ∧
  (∀ s : State, let stalls := s.live = true ∧ s.cel.ret.st = 1 ∧ 4 ≤ s.cp.pages.length ∧ s.cel.ret.stallTold = false
    (stalls → exec .celRetStall s = .next (after s (raiseN 0x1F5 0 (onRet (fun r => { r with stallTold := true }) s)))) ∧
    (¬ stalls → exec .celRetStall s = .next (after s s))) ∧
  (∀ (o : Origin) (j : Fin 8) (s : State), Open o 0x13 s →
    let x (k : Nat) : State := s.setReg (CEL_NCMD j.val) (s.written (CEL_NCMD j.val) (word (at_ k 28)))
    (s.jobCode j.val 1 = .ok → exec (.jobStart o j) s = .next (wrote o s (jobStart j.val (x 1)))) ∧
    (s.jobCode j.val 1 ≠ .ok → exec (.jobStart o j) s = .next (turnedAway o (s.jobCode j.val 1) s)) ∧
    exec (.jobStop o j) s = .next (wrote o s (jobStop j.val (x 2)))) ∧
  (∀ (j : Nat) (s : State), let y := s.ses (s.jobSes j)
    let shut := (nth {} s.cel.jobs j).st = 1 ∨ y.src ≠ 1 ∨ (y.st ≠ .waitIdr ∧ y.st ≠ .sending) ∨
      ∃ i, i < 8 ∧ i ≠ j ∧ (nth {} s.cel.jobs i).st = 1 ∧ s.jobSes i = s.jobSes j
    (s.flag (TEN_CFG y.tenant) 31 = false → s.jobCode j 1 = .eCtx) ∧
    (s.flag (TEN_CFG y.tenant) 31 = true → shut → s.jobCode j 1 = .eState) ∧
    (s.flag (TEN_CFG y.tenant) 31 = true → ¬ shut → s.jobCode j 1 = .ok)) ∧
  ∀ (j : Nat) (s : State), ((nth {} s.cel.jobs j).st = 1 → jobStop j s = jobEnd j 2 s) ∧ ((nth {} s.cel.jobs j).st ≠ 1 → jobStop j s = s)

/-- What received characters, bit-rate measurements and idle lines do. A character that an enabled receiver hears, no
measurement being armed and its own sending not suppressed, is decoded from its samples (samples of no character do
nothing) and stored with its flags and those of drops before it, each flag counted and kind 1 raised when the queue
reaches RXLVL, or dropped when 64 wait, counted and raising kind 4; a break raises kind 3. An armed measurement that
gives a divisor in range and the awaited character clean sets the divisor, disarms and raises kind 5, else kind 6 with
the time; unarmed it does nothing. An idle line raises kind 2 once, with IDLE_T 0 never. A write of UART_nABR arms or
disarms, E_RANGE for a character it cannot measure. (23_serial_ports.md) -/
def Obligations.UartsReceive : Prop :=
  (∀ (s : State) (u : Fin 4) (b : List Nat),
    let hears := s.live = true ∧ s.serEn u.val = true ∧ s.flag (UART_ABR u.val) 31 = false ∧
      (s.flag (UART_CFG u.val) 26 = false ∨ s.serDe u.val = false)
    (¬ hears → exec (.characterReceived u b) s = .next (settle s)) ∧
    (hears → serDecode (s.reg (UART_CFG u.val)) b = none → exec (.characterReceived u b) s = .next (settle s)) ∧
    ∀ c, hears → serDecode (s.reg (UART_CFG u.val)) b = some c → exec (.characterReceived u b) s = .next (settle (serStore u.val c s))) ∧
  (∀ (s : State) (u : Nat) (c : SerChar), let q := s.ser u
    let x := onSer u (fun y => { y with quiet := false, idleTold := false }) s
    let broken (y : State) : State := if c.brk = true then serEvent u 3 0 y else y
    let d := (onSer u (fun y => { y with drops := true }) x).count (UART_CNT u) 7 0
    let w := word (2 ^ 31 + b2n q.drops * 4096 + b2n c.brk * 2048 + b2n c.frame * 1024 + b2n c.parity * 512 + b2n c.noise * 256 + c.data)
    let y := (((onSer u (fun y => { y with rx := y.rx ++ [w], drops := false }) x).count (UART_CNT u) 31 24 (b2n c.noise)).count
      (UART_CNT u) 23 16 (b2n c.frame)).count (UART_CNT u) 15 8 (b2n c.parity)
    (64 ≤ q.rx.length → serStore u c s = broken (serEvent u 4 (d.fld (UART_CNT u) 7 0) d)) ∧
    (q.rx.length < 64 → y.serRxlvl u = y.fld (UART_IEN u) 22 16 → serStore u c s = broken (serEvent u 1 0 y)) ∧
    (q.rx.length < 64 → y.serRxlvl u ≠ y.fld (UART_IEN u) 22 16 → serStore u c s = broken y)) ∧
  (∀ (s : State) (u : Fin 4) (t : Nat) (b : List Nat), let armed := s.live = true ∧ s.serEn u.val = true ∧ s.flag (UART_ABR u.val) 31 = true
    let ch := s.fld (UART_ABR u.val) 7 0
    let p := abrP (s.reg (UART_CFG u.val)) ch
    let div := if p = 0 then 0 else (2 * (16 * t) + p) / (2 * p)
    let good := 667 ≤ div ∧ div ≤ 6666667 ∧ ∃ c, serDecode (s.reg (UART_CFG u.val)) b = some c ∧ c.data = ch ∧
      c.noise = false ∧ c.parity = false ∧ c.frame = false ∧ c.brk = false
    (¬ armed → exec (.autoBaudDone u b t) s = .next (settle s)) ∧
    (armed → good → exec (.autoBaudDone u b t) s = .next (settle
      (serEventData u.val 5 (div % 2 ^ 23) ((s.setFld (UART_ABR u.val) 31 31 0).setFld (UART_DIV u.val) 22 0 div)))) ∧
    (armed → ¬ good → exec (.autoBaudDone u b t) s = .next (settle (serEvent u.val 6 (sat 0xFFFF t) s)))) ∧
  (∀ (s : State) (u : Fin 4),
    let due := s.live = true ∧ s.serEn u.val = true ∧ s.fld (UART_CFG u.val) 15 8 ≠ 0 ∧ (s.ser u.val).idleTold = false
    (due → exec (.idleTimeout u) s = .next (settle (serEvent u.val 2 0 (onSer u.val (fun x => { x with idleTold := true }) s)))) ∧
    (¬ due → exec (.idleTimeout u) s = .next (settle s))) ∧
  ∀ (o : Origin) (u : Fin 4) (v : Word) (s : State), Open o 0x14 s →
    let unfit := bit v 31 = true ∧ abrP (s.reg (UART_CFG u.val)) (bits v 7 0) < 4
    (unfit → exec (.abrArm o u v) s = .next (turnedAway o .eRange s)) ∧
    (¬ unfit → Fits (UART_ABR u.val) v →
      exec (.abrArm o u v) s = .next (wrote o s (s.setReg (UART_ABR u.val) (s.written (UART_ABR u.val) v))))

/-- What transmit writes, sent characters, the drive enable and flushes do. On an enabled port that sends no report line,
UART_nTX and the words of UART_nTXW, each at most 255, join the queue while it holds at most 64 (E_FULL past that) and
sending starts; E_CTX on a disabled port, E_STATE where the report line uses it, E_LEN for none or more than 64 words,
E_RANGE for a word above 255. At the end of a character the next starts, after a character of a report line is
accounted, and kind 7 is raised when none waited; the drive ends after HOLD with nothing left; the turn-around ends in
quiet, and sending starts; in an engine not live, or with nothing sent, nothing happens. RXFLUSH empties the receive
queue; TXFLUSH the transmit queue, cutting off the report line in it. (23_serial_ports.md, 06_gutter.md,
05_control_port.md) -/
def Obligations.UartsSend : Prop :=
  (∀ (o : Origin) (u : Fin 4) (v : Word) (s : State), Open o 0x14 s →
    (s.serEn u.val = false → exec (.uartTxWrite o u v) s = .next (turnedAway o .eCtx s)) ∧
    (s.serEn u.val = true → s.serLine u.val = true → exec (.uartTxWrite o u v) s = .next (turnedAway o .eState s)) ∧
    (s.serEn u.val = true → s.serLine u.val = false → Fits (UART_TX u.val) v → 63 < (s.ser u.val).txq.length →
      exec (.uartTxWrite o u v) s = .next (turnedAway o .eFull s)) ∧
    (s.serEn u.val = true → s.serLine u.val = false → Fits (UART_TX u.val) v → (s.ser u.val).txq.length ≤ 63 →
      exec (.uartTxWrite o u v) s = .next (wrote o s (serPush u.val [bits v 7 0] s)))) ∧
  (∀ (u : Fin 4) (ws : List Word) (s : State), Open .host 0x14 s →
    let away (c : Code) : Prop := exec (.uartTxwWrite u ws) s = .next (turnedAway .host c s)
    let may := s.serEn u.val = true ∧ s.serLine u.val = false
    let fits := 1 ≤ ws.length ∧ ws.length ≤ 64
    let wide := ∃ w ∈ ws, w.toNat ≠ bits w 7 0
    (s.serEn u.val = false → away .eCtx) ∧ (s.serEn u.val = true → s.serLine u.val = true → away .eState) ∧
    (may → ¬ fits → away .eLen) ∧ (may → fits → wide → away .eRange) ∧
    (may → fits → ¬ wide → 64 < (s.ser u.val).txq.length + ws.length → away .eFull) ∧
    (may → fits → ¬ wide → (s.ser u.val).txq.length + ws.length ≤ 64 →
      exec (.uartTxwWrite u ws) s = .next (wrote .host s (serPush u.val (ws.map fun w => bits w 7 0) s)))) ∧
  (∀ (u : Nat) (cs : List Nat) (s : State), serPush u cs s = serStart u (onSer u (fun x => { x with txq := x.txq ++ cs }) s)) ∧
  (∀ (s : State) (u : Fin 4), let x := serStart u.val (serLineStep u.val (onSer u.val (fun y => { y with tx := none }) s))
    let ends := s.live = true ∧ (s.ser u.val).tx ≠ none
    (¬ ends → exec (.characterSent u) s = .next (settle s)) ∧
    (ends → (s.ser u.val).txq = [] → exec (.characterSent u) s = .next (settle (serEvent u.val 7 0 x))) ∧
    (ends → (s.ser u.val).txq ≠ [] → exec (.characterSent u) s = .next (settle x))) ∧
  (∀ (s : State) (u : Fin 4),
    let spent := s.live = true ∧ (s.ser u.val).de = true ∧ (s.ser u.val).tx = none ∧ (s.ser u.val).txq = []
    (spent → exec (.deHoldEnd u) s = .next (settle (onSer u.val (fun x => { x with de := false }) s))) ∧
    (¬ spent → exec (.deHoldEnd u) s = .next (settle s))) ∧
  (∀ (s : State) (u : Fin 4), (s.live = true → exec (.turnEnd u) s =
      .next (settle (serStart u.val (onSer u.val (fun x => { x with quiet := true }) s)))) ∧
    (s.live = false → exec (.turnEnd u) s = .next (settle s))) ∧
  ∀ (o : Origin) (u : Fin 4) (s : State), Open o 0x14 s →
    exec (.rxflush o u) s = .next (wrote o s (onSer u.val (fun x => { x with rx := [] }) s)) ∧
    exec (.txflush o u) s = .next (wrote o s (onSer u.val (fun x => { x with txq := [], wait := false }) (serLineCut u.val s)))

/-- What the reads with an effect and the window accesses answer and take. Asked by an origin whose access runs: a read of
a vector takes the presented source and acknowledges it; of INT_I2CRES takes the reader's oldest result, if any; of
SW_PTP_LO answers the nanoseconds and latches the seconds into SW_PTP_HI; of UART_nRX takes one character; each
answers OK with the register's word as it was before. A bulk read of TBL_RDATA, ANA_TDATA or UART_nRXW of 1 to 256
words answers OK with the window's words and advances its address or takes the characters, or answers the window's
code with no word and no effect; of another length it has no effect, and its code is E_LEN or the window's, whichever
is judged first. REF_SAVE answers the trim record. A bulk write of INT_XLOAD of 1 to 4096 words stores its words in
the replay buffer and advances its address; E_STATE while the frame plays, E_LEN past its end. (00_scope.md,
05_control_port.md, 06_gutter.md, 09_table_store.md, 10_references_and_ripening.md, 13_sensor_intake.md,
18_analysis_tracks.md, 20_velva_chain.md, 23_serial_ports.md) -/
def Obligations.ReadsWithEffectAndWindows : Prop :=
  (∀ (o : Origin) (b : Bool) (s : State), May o 0x03 s → (isVat o = true → s.opOnPage 0x03 = false) →
    ∃ w, exec (.vectorRead o b) s = .next (settle (seenBy o { vectorTaken (b2n b) (s.setReg (if b then GUT_VEC_B else GUT_VEC_A) w) with
      busCode := .ok, busData := [s.readWord o (if b then GUT_VEC_B else GUT_VEC_A)] }))) ∧
  (∀ (o : Origin) (s : State), May o 0x09 s → (isVat o = true → s.opOnPage 0x09 = false) →
    ∃ w, exec (.i2cResultRead o) s = .next (settle (seenBy o { i2cTake (masterOf o) (s.setReg INT_I2CRES w) with
      busCode := .ok, busData := [s.readWord o INT_I2CRES] }))) ∧
  (∀ (s : State) (m : Nat), (s.i2cResult m = none → i2cTake m s = s) ∧ ∀ e, s.i2cResult m = some e →
    i2cTake m s = { s with int := { s.int with
      i2cRdata := s.int.i2cRdata.set m e.rdata, i2c := dropFirst (fun e => e.master == m && e.done) s.int.i2c } }) ∧
  (∀ (o : Origin) (s : State), May o 0x11 s → (isVat o = true → s.opOnPage 0x11 = false) →
    exec (.ptpTimeRead o) s = .next (settle (seenBy o { s.setReg SW_PTP_HI (word s.ptpS) with busCode := .ok, busData := [s.readWord o SW_PTP_LO] }))) ∧
  (∀ (o : Origin) (u : Fin 4) (s : State), May o 0x14 s → (isVat o = true → s.opOnPage 0x14 = false) →
    ∃ w, exec (.uartRxRead o u) s = .next (settle (seenBy o { onSer u.val (fun x => { x with rx := x.rx.drop 1 }) (s.setReg (UART_RX u.val) w) with
      busCode := .ok, busData := [s.readWord o (UART_RX u.val)] }))) ∧
  (∀ (n : Nat) (s : State), May .host 0x05 s → ∀ c ws, s.tblRead (min n 257) = (c, ws) →
    (1 ≤ n → n ≤ 256 → c = .ok → exec (.tableRead n) s = .next (settle (hostSeen { stepSel TBL_RADDR 21 n s with busCode := .ok, busData := ws }))) ∧
    (1 ≤ n → n ≤ 256 → c ≠ .ok → exec (.tableRead n) s = .next (settle (hostSeen { s with busCode := c, busData := [] }))) ∧
    (n = 0 ∨ 256 < n → exec (.tableRead n) s = .next (settle (hostSeen { s with busCode := Code.first .eLen c, busData := [] })))) ∧
  (∀ s : State, May .host 0x06 s → exec .refSaveRead s = .next (settle (hostSeen { s with busCode := .ok, busData := s.trimRecord }))) ∧
  (∀ (n : Nat) (s : State), May .host 0x0F s → ∀ c ws, s.trackRead (min n 257) = (c, ws) →
    (1 ≤ n → n ≤ 256 → c = .ok → exec (.trackRead n) s = .next (settle (hostSeen { stepSel ANA_TADDR 8 n s with busCode := .ok, busData := ws }))) ∧
    (1 ≤ n → n ≤ 256 → c ≠ .ok → exec (.trackRead n) s = .next (settle (hostSeen { s with busCode := c, busData := [] }))) ∧
    (n = 0 ∨ 256 < n → exec (.trackRead n) s = .next (settle (hostSeen { s with busCode := Code.first .eLen c, busData := [] })))) ∧
  (∀ (u : Fin 4) (n : Nat) (s : State), May .host 0x14 s →
    (1 ≤ n → n ≤ 64 → exec (.uartRxwRead u n) s =
      .next (settle (hostSeen { onSer u.val (fun x => { x with rx := x.rx.drop n }) s with busCode := .ok, busData := s.serWindow u.val n }))) ∧
    (n = 0 ∨ 64 < n → exec (.uartRxwRead u n) s = .next (settle (hostSeen { s with busCode := .eLen, busData := [] })))) ∧
  ∀ (ws : List Word) (s : State) (g : Nat), Open .host 0x09 s → g = s.fld INT_XLADDR 31 31 →
    let away (c : Code) : Prop := exec (.xloadWrite ws) s = .next (turnedAway .host c s)
    let long := ceilDiv (s.fld (INT_XGEOM g) 31 16 * s.fld (INT_XGEOM g) 15 0) 2 < s.fld INT_XLADDR 22 0 + ws.length
    ((s.gen g).rx = none → 1 ≤ ws.length → ws.length ≤ 4096 → ¬ long →
      exec (.xloadWrite ws) s = .next (wrote .host s ((onGen g (fun x => { x with buf := memPutList zeroes x.buf (s.fld INT_XLADDR 22 0) 1 ws }) s).setFld
        INT_XLADDR 22 0 (s.fld INT_XLADDR 22 0 + ws.length)))) ∧
    ((s.gen g).rx ≠ none → away .eState) ∧
    ((s.gen g).rx = none → ws.length = 0 ∨ 4096 < ws.length ∨ long → away .eLen)

/-- What a change of state reaches through the effects that follow it. The effects that follow a change of state (the
heater, the presses, the tables named, the jobs, the encoder, the network, the wake events) leave every register of
pages 0 to 2, the pending bank taken as in force, the clocks and times, the start, the control port, the NOR, the
memories and the program image of the Vat, the schedule, the trims, the housekeeping, the actuators, the serial ports
and the queue as they are, and so do the bus answer and the pins after an accepted write (wrote) and after an event
(after), but that an accepted host write shows the host present. (02_power_entry.md, 09_table_store.md,
11_housekeeping_adc.md, 15_nuc_and_press.md, 17_outputs_and_encoder.md, 20_velva_chain.md, 22_cellar.md) -/
def Obligations.FollowUpsReachOnly : Prop :=
  let kept (y x : State) : Prop := (∀ a, a < 0x030000 → y.reg a = x.reg a) ∧ y.inForce = x.inForce ∧ y.pending = x.pending ∧ y.time = x.time ∧ y.upTicks = x.upTicks ∧
    y.ptpS = x.ptpS ∧ y.ptpNs = x.ptpNs ∧ y.clk = x.clk ∧ y.cp = x.cp ∧ y.nor = x.nor ∧
    y.vat.pm = x.vat.pm ∧ y.vat.dm = x.vat.dm ∧ y.vat.img = x.vat.img ∧ y.sch = x.sch ∧ y.trm = x.trm ∧
    y.hk = x.hk ∧ y.act = x.act ∧ y.uart = x.uart
  (∀ before s : State, (followUp before s).beyond = s.beyond) ∧
  (∀ s x : State, kept (after s x) x ∧ (after s x).start = x.start) ∧
  ∀ (o : Origin) (s x : State), kept (wrote o s x) x ∧
    (wrote o s x).start = { x.start with hostPresent := x.start.hostPresent || !isVat o }
end

