-- ==== Sys2Proof/Laws/Access.lean ====
section
/-! SUPPORT. Laws of the register bus: what an accepted and what a rejected register write leaves. -/

namespace Sys2Proof.Machine

/-! What an access leaves besides its effect is the host's presence alone. -/

@[simp] theorem seenBy_pending (o : Origin) (s : State) : (seenBy o s).pending = s.pending := by cases o <;> rfl
@[simp] theorem seenBy_regs (o : Origin) (s : State) : (seenBy o s).regs = s.regs := by cases o <;> rfl
@[simp] theorem seenBy_inForce (o : Origin) (s : State) : (seenBy o s).inForce = s.inForce := by cases o <;> rfl
@[simp] theorem seenBy_time (o : Origin) (s : State) : (seenBy o s).time = s.time := by cases o <;> rfl
@[simp] theorem seenBy_upTicks (o : Origin) (s : State) : (seenBy o s).upTicks = s.upTicks := by cases o <;> rfl
@[simp] theorem seenBy_draws (o : Origin) (s : State) : (seenBy o s).draws = s.draws := by cases o <;> rfl
@[simp] theorem seenBy_ptpS (o : Origin) (s : State) : (seenBy o s).ptpS = s.ptpS := by cases o <;> rfl
@[simp] theorem seenBy_ptpNs (o : Origin) (s : State) : (seenBy o s).ptpNs = s.ptpNs := by cases o <;> rfl
@[simp] theorem seenBy_busData (o : Origin) (s : State) : (seenBy o s).busData = s.busData := by cases o <;> rfl
@[simp] theorem seenBy_busCode (o : Origin) (s : State) : (seenBy o s).busCode = s.busCode := by cases o <;> rfl
@[simp] theorem seenBy_gut (o : Origin) (s : State) : (seenBy o s).gut = s.gut := by cases o <;> rfl
@[simp] theorem seenBy_pwr (o : Origin) (s : State) : (seenBy o s).pwr = s.pwr := by cases o <;> rfl
@[simp] theorem seenBy_clk (o : Origin) (s : State) : (seenBy o s).clk = s.clk := by cases o <;> rfl
@[simp] theorem seenBy_cp (o : Origin) (s : State) : (seenBy o s).cp = s.cp := by cases o <;> rfl
@[simp] theorem seenBy_nor (o : Origin) (s : State) : (seenBy o s).nor = s.nor := by cases o <;> rfl
@[simp] theorem seenBy_vat (o : Origin) (s : State) : (seenBy o s).vat = s.vat := by cases o <;> rfl
@[simp] theorem seenBy_tbl (o : Origin) (s : State) : (seenBy o s).tbl = s.tbl := by cases o <;> rfl
@[simp] theorem seenBy_sch (o : Origin) (s : State) : (seenBy o s).sch = s.sch := by cases o <;> rfl
@[simp] theorem seenBy_int (o : Origin) (s : State) : (seenBy o s).int = s.int := by cases o <;> rfl
@[simp] theorem seenBy_trm (o : Origin) (s : State) : (seenBy o s).trm = s.trm := by cases o <;> rfl
@[simp] theorem seenBy_hk (o : Origin) (s : State) : (seenBy o s).hk = s.hk := by cases o <;> rfl
@[simp] theorem seenBy_act (o : Origin) (s : State) : (seenBy o s).act = s.act := by cases o <;> rfl
@[simp] theorem seenBy_dnr (o : Origin) (s : State) : (seenBy o s).dnr = s.dnr := by cases o <;> rfl
@[simp] theorem seenBy_nuc (o : Origin) (s : State) : (seenBy o s).nuc = s.nuc := by cases o <;> rfl
@[simp] theorem seenBy_rnd (o : Origin) (s : State) : (seenBy o s).rnd = s.rnd := by cases o <;> rfl
@[simp] theorem seenBy_out (o : Origin) (s : State) : (seenBy o s).out = s.out := by cases o <;> rfl
@[simp] theorem seenBy_ana (o : Origin) (s : State) : (seenBy o s).ana = s.ana := by cases o <;> rfl
@[simp] theorem seenBy_heat (o : Origin) (s : State) : (seenBy o s).heat = s.heat := by cases o <;> rfl
@[simp] theorem seenBy_sw (o : Origin) (s : State) : (seenBy o s).sw = s.sw := by cases o <;> rfl
@[simp] theorem seenBy_vlv (o : Origin) (s : State) : (seenBy o s).vlv = s.vlv := by cases o <;> rfl
@[simp] theorem seenBy_egr (o : Origin) (s : State) : (seenBy o s).egr = s.egr := by cases o <;> rfl
@[simp] theorem seenBy_cel (o : Origin) (s : State) : (seenBy o s).cel = s.cel := by cases o <;> rfl
@[simp] theorem seenBy_uart (o : Origin) (s : State) : (seenBy o s).uart = s.uart := by cases o <;> rfl
@[simp] theorem seenBy_pins (o : Origin) (s : State) : (seenBy o s).pins = s.pins := by cases o <;> rfl

theorem access_may (o : Origin) (p : Nat) (f : State → State) (s : State) (h : May o p s) : access o p f s = seenBy o (f s) := by
  unfold access
  cases o with
  | host =>
    obtain ⟨h1, h2⟩ := h
    simp [h1, h2, seenBy, hostSeen]
  | vat t => simp only [show s.runs t.val = true from h, if_true, seenBy]

theorem pageBusy_open (o : Origin) (a : Nat) (s : State) (h : Open o (a / 0x10000) s) : s.pageBusy o a = false := by
  unfold State.pageBusy
  cases hv : isVat o
  · rfl
  · rw [h.2.1 hv]; rfl

@[simp] theorem firstCode_nil : firstCode [] = .ok := rfl
@[simp] theorem firstCode_ok (l : List Code) : firstCode (.ok :: l) = firstCode l := rfl
@[simp] theorem chk_false (c : Code) : chk false c = .ok := rfl
@[simp] theorem chk_true (c : Code) : chk true c = c := rfl

/-- A write is accepted when the bus carries it, the register takes writes and none of its own checks speaks against it. -/
theorem writeCode_ok (o : Origin) (a : Nat) (v : Word) (s : State) (r : Reg) (hr : regAt a = some r)
    (ho : Open o (a / 0x10000) s) (ha : a % 4 = 0) (hw : (r.win == .write) = false) (hro : r.readOnly = false)
    (hk : (a == KEY_STAGE) = false) (hres : r.reservedSet v = false) (hrng : r.outOfRange v = false)
    (hpre : (writeRule o a v s).pre = .ok) (hbad : (writeRule o a v s).bad = false)
    (hpost : (writeRule o a v s).post = .ok) : s.writeCode o a v = .ok := by
  unfold State.writeCode
  rw [hr]
  simp [pageBusy_open o a s ho, ha, hw, hro, ho.2.2, hk, hres, hrng, hpre, hbad, hpost, Code.early]

theorem regWrite_ok (o : Origin) (a : Nat) (v : Word) (s : State) (r : Reg) (hr : regAt a = some r)
    (ho : May o (a / 0x10000) s) (hc : s.writeCode o a v = .ok) :
    regWrite o a v s = seenBy o { followUp s (applyWrite r a v (writeRule o a v s) s) with busCode := .ok, busData := [] } := by
  unfold regWrite
  rw [access_may o _ _ s ho]
  simp only [busWrite, hr, hc, if_true]

/-- An accepted register write: the rule's word is stored and its effect applied. -/
theorem regWrite_open (o : Origin) (a : Nat) (v : Word) (s : State) (r : Reg) (w : WriteRule) (hr : regAt a = some r)
    (hwr : writeRule o a v s = w)
    (ho : Open o (a / 0x10000) s) (ha : a % 4 = 0) (hw : (r.win == .write) = false) (hro : r.readOnly = false)
    (hk : (a == KEY_STAGE) = false) (hres : r.reservedSet v = false) (hrng : r.outOfRange v = false)
    (hpre : w.pre = .ok) (hbad : w.bad = false) (hpost : w.post = .ok) :
    regWrite o a v s = seenBy o { followUp s (applyWrite r a v w s) with busCode := .ok, busData := [] } := by
  subst hwr
  exact regWrite_ok o a v s r hr ho.1 (writeCode_ok o a v s r hr ho ha hw hro hk hres hrng hpre hbad hpost)

/-- A register write that is turned away changes nothing but the bus's answer, where the register's rule keeps nothing of it. -/
theorem regWrite_away (o : Origin) (a : Nat) (v : Word) (s : State) (c : Code) (ho : May o (a / 0x10000) s)
    (hc : s.writeCode o a v = c) (hne : c ≠ .ok) (hrej : (writeRule o a v s).rej s = s) :
    regWrite o a v s = seenBy o { s with busCode := c, busData := [] } := by
  unfold regWrite
  rw [access_may o _ _ s ho]
  simp only [busWrite]
  rw [hc]
  split
  · rfl
  · rw [if_neg hne, hrej]
    simp

/-- Whether a word fits a register, as a Bool that evaluates (R4, R6). -/
def legal (a : Nat) (v : Word) : Bool :=
  match regAt a with
  | some r => !r.reservedSet v && !r.outOfRange v
  | none => false

/-- A legal word fits. -/
theorem fits_of_legal {a : Nat} {v : Word} (h : legal a v = true) : Fits a v := by
  unfold legal at h
  split at h
  · next r hr => exact ⟨r, hr, by simpa using (Bool.and_eq_true_iff.mp h).1, by simpa using (Bool.and_eq_true_iff.mp h).2⟩
  · cases h

/-- The map has a register at `a` that takes single writes (R5, R110). -/
def Writable (a : Nat) : Bool :=
  match regAt a with
  | some r => !(r.win == .write) && !r.readOnly
  | none => false

/-- An accepted register write, the word's fields being legal: the word is stored where the rule says so, and the rule acts. -/
theorem regWrite_fits (o : Origin) (a : Nat) (v : Word) (s : State) (w : WriteRule) (ho : Open o (a / 0x10000) s)
    (hf : Fits a v) (hwr : writeRule o a v s = w) (hx : Writable a = true) (ha : a % 4 = 0) (hk : (a == KEY_STAGE) = false)
    (hpre : w.pre = .ok) (hbad : w.bad = false) (hpost : w.post = .ok) :
    regWrite o a v s = seenBy o { followUp s (w.app (if w.store then s.setReg a (s.written a v) else s)) with
      busCode := .ok, busData := [] } := by
  obtain ⟨r, hr, hres, hrng⟩ := hf
  unfold Writable at hx
  rw [hr] at hx
  simp only [Bool.and_eq_true, Bool.not_eq_true'] at hx
  rw [regWrite_open o a v s r w hr hwr ho ha hx.1 hx.2 hk hres hrng hpre hbad hpost]
  simp only [applyWrite, State.written, hr]

/-- A writable register's write is judged by its rule once the general checks are met: the rule's first refusal is the answer. -/
theorem writeCode_pre (o : Origin) (a : Nat) (v : Word) (s : State) (c : Code) (ho : Open o (a / 0x10000) s)
    (hx : Writable a = true) (ha : a % 4 = 0) (hk : (a == KEY_STAGE) = false) (hpre : (writeRule o a v s).pre = c) (hne : c ≠ .ok) :
    s.writeCode o a v = c := by
  have hb : s.pageBusy o a = false := pageBusy_open o a s ho
  unfold Writable at hx
  split at hx
  · next r hr =>
    simp only [Bool.and_eq_true, Bool.not_eq_true'] at hx
    have hn : (r.win != .write && r.readOnly) = false := by rw [hx.2, Bool.and_false]
    unfold State.writeCode
    rw [hr]
    simp only [hb, hn, hk, ha, hx.1, ho.2.2, hpre, Bool.and_false, bne_self_eq_false, chk_false, firstCode_ok]
    cases c <;> first | exact absurd rfl hne | rfl
  · cases hx

/-- A word outside a field's range, with a reserved bit, or against the rule's own range is answered with E_RANGE. -/
theorem writeCode_range (o : Origin) (a : Nat) (v : Word) (s : State) (ho : Open o (a / 0x10000) s)
    (hx : Writable a = true) (ha : a % 4 = 0) (hk : (a == KEY_STAGE) = false) (hpre : (writeRule o a v s).pre = .ok)
    (hbad : (writeRule o a v s).bad = true) : s.writeCode o a v = .eRange := by
  have hb : s.pageBusy o a = false := pageBusy_open o a s ho
  unfold Writable at hx
  split at hx
  · next r hr =>
    simp only [Bool.and_eq_true, Bool.not_eq_true'] at hx
    have hn : (r.win != .write && r.readOnly) = false := by rw [hx.2, Bool.and_false]
    unfold State.writeCode
    rw [hr]
    simp only [hb, hn, hk, ha, hx.1, ho.2.2, hpre, hbad, Bool.and_false, bne_self_eq_false, chk_false, Bool.or_true]
    rfl
  · cases hx

/-- The queue is full, or the like: the rule's last refusal. -/
theorem writeCode_post (o : Origin) (a : Nat) (v : Word) (s : State) (c : Code) (ho : Open o (a / 0x10000) s) (hf : Fits a v)
    (hx : Writable a = true) (ha : a % 4 = 0) (hk : (a == KEY_STAGE) = false) (hpre : (writeRule o a v s).pre = .ok)
    (hbad : (writeRule o a v s).bad = false) (hpost : (writeRule o a v s).post = c) : s.writeCode o a v = c := by
  have hb : s.pageBusy o a = false := pageBusy_open o a s ho
  obtain ⟨r, hr, hres, hrng⟩ := hf
  unfold Writable at hx
  rw [hr] at hx
  simp only [Bool.and_eq_true, Bool.not_eq_true'] at hx
  have hn : (r.win != .write && r.readOnly) = false := by rw [hx.2, Bool.and_false]
  unfold State.writeCode
  rw [hr]
  simp only [hb, hn, hk, ha, hx.1, ho.2.2, hpre, hbad, hres, hrng, hpost, Bool.and_false, bne_self_eq_false, chk_false, Bool.or_self]
  cases c <;> rfl

/-- A write that its rule turns away, the rule keeping nothing of it, changes nothing but the bus's answer. -/
theorem regWrite_pre_away (o : Origin) (a : Nat) (v : Word) (s : State) (c : Code) (w : WriteRule) (ho : Open o (a / 0x10000) s)
    (hw : writeRule o a v s = w) (hx : Writable a = true) (ha : a % 4 = 0) (hk : (a == KEY_STAGE) = false) (hpre : w.pre = c)
    (hne : c ≠ .ok) (hr : w.rej s = s) : regWrite o a v s = seenBy o { s with busCode := c, busData := [] } := by
  subst hw
  exact regWrite_away o a v s c ho.1 (writeCode_pre o a v s c ho hx ha hk hpre hne) hne hr

/-- A write whose word is not legal changes nothing but the bus's answer, E_RANGE. -/
theorem regWrite_range_away (o : Origin) (a : Nat) (v : Word) (s : State) (w : WriteRule) (ho : Open o (a / 0x10000) s)
    (hw : writeRule o a v s = w) (hx : Writable a = true) (ha : a % 4 = 0) (hk : (a == KEY_STAGE) = false) (hpre : w.pre = .ok)
    (hbad : w.bad = true) (hr : w.rej s = s) : regWrite o a v s = seenBy o { s with busCode := .eRange, busData := [] } := by
  subst hw
  exact regWrite_away o a v s .eRange ho.1 (writeCode_range o a v s ho hx ha hk hpre hbad) (by decide) hr

/-- A legal write that its rule turns away last changes nothing but the bus's answer. -/
theorem regWrite_post_away (o : Origin) (a : Nat) (v : Word) (s : State) (c : Code) (w : WriteRule) (ho : Open o (a / 0x10000) s)
    (hf : Fits a v) (hw : writeRule o a v s = w) (hx : Writable a = true) (ha : a % 4 = 0) (hk : (a == KEY_STAGE) = false)
    (hpre : w.pre = .ok) (hbad : w.bad = false) (hpost : w.post = c) (hne : c ≠ .ok) (hr : w.rej s = s) :
    regWrite o a v s = seenBy o { s with busCode := c, busData := [] } := by
  subst hw
  exact regWrite_away o a v s c ho.1 (writeCode_post o a v s c ho hf hx ha hk hpre hbad hpost) hne hr

/-- `a` is a writable register of the page `p`, none of the key staging window. -/
structure TakesWrites (a p : Nat) : Prop where
  writable : Writable a = true
  page : a / 0x10000 = p
  aligned : a % 4 = 0
  notKey : (a == KEY_STAGE) = false

variable (o : Origin) (a p : Nat) (v : Word) (s : State) (c : Code) (w : WriteRule)

/-- A legal write that its rule takes, as a command: the word is stored where the rule says so, and the rule acts. -/
theorem write_ok (f : TakesWrites a p) (ho : Open o p s) (hf : Fits a v) (hw : writeRule o a v s = w) (h1 : w.pre = .ok)
    (h2 : w.bad = false) (h3 : w.post = .ok) :
    done (regWrite o a v s) = .next (wrote o s (w.app (if w.store then s.setReg a (s.written a v) else s))) :=
  congrArg (fun x => Host.Outcome.next (settle x))
    (regWrite_fits o a v s w (f.page.symm ▸ ho) hf hw f.writable f.aligned f.notKey h1 h2 h3)

/-- A legal write that its rule only checks, as a command: the word is stored. -/
theorem write_stores (b : Bool) (f : TakesWrites a p) (ho : Open o p s) (hf : Fits a v)
    (hw : writeRule o a v s = { pre := c, bad := b }) (h1 : c = .ok) (h2 : b = false) :
    done (regWrite o a v s) = .next (wrote o s (s.setReg a (s.written a v))) := by
  have := write_ok o a p v s _ f ho hf hw h1 h2 rfl
  simp only [if_true, id_eq] at this
  exact this

/-- A write that its rule turns away at once, as a command. -/
theorem write_pre (f : TakesWrites a p) (ho : Open o p s) (hw : writeRule o a v s = w) (h1 : w.pre = c) (hne : c ≠ .ok)
    (hr : w.rej s = s) : done (regWrite o a v s) = .next (turnedAway o c s) :=
  congrArg (fun x => Host.Outcome.next (settle x))
    (regWrite_pre_away o a v s c w (f.page.symm ▸ ho) hw f.writable f.aligned f.notKey h1 hne hr)

/-- A write that its rule turns away at once, as a command: what the rule does then is all that happens. -/
theorem write_rej (f : TakesWrites a p) (ho : Open o p s) (hw : writeRule o a v s = w) (h1 : w.pre = c) (hne : c ≠ .ok) :
    done (regWrite o a v s) = .next (turnedAway o c (w.rej s)) := by
  subst hw
  have hp : Open o (a / 0x10000) s := f.page.symm ▸ ho
  have hc := writeCode_pre o a v s c hp f.writable f.aligned f.notKey h1 hne
  have hx := f.writable
  unfold Writable at hx
  unfold done regWrite turnedAway
  rw [access_may o _ _ s hp.1]
  unfold busWrite
  dsimp only
  rw [hc]
  split
  · next hr => rw [hr] at hx; cases hx
  · rw [if_neg hne, if_pos ⟨.inl h1, by rw [ho.2.2]; rfl⟩]

/-- A write whose word its rule does not allow, as a command. -/
theorem write_bad (f : TakesWrites a p) (ho : Open o p s) (hw : writeRule o a v s = w) (h1 : w.pre = .ok) (h2 : w.bad = true)
    (hr : w.rej s = s) : done (regWrite o a v s) = .next (turnedAway o .eRange s) :=
  congrArg (fun x => Host.Outcome.next (settle x))
    (regWrite_range_away o a v s w (f.page.symm ▸ ho) hw f.writable f.aligned f.notKey h1 h2 hr)

/-- A legal write that its rule turns away last, as a command. -/
theorem write_post (f : TakesWrites a p) (ho : Open o p s) (hf : Fits a v) (hw : writeRule o a v s = w) (h1 : w.pre = .ok)
    (h2 : w.bad = false) (h3 : w.post = c) (hne : c ≠ .ok) (hr : w.rej s = s) :
    done (regWrite o a v s) = .next (turnedAway o c s) :=
  congrArg (fun x => Host.Outcome.next (settle x))
    (regWrite_post_away o a v s c w (f.page.symm ▸ ho) hf hw f.writable f.aligned f.notKey h1 h2 h3 hne hr)

/-- A bulk write of a window that its code allows, as a command. -/
theorem win_ok (ws : List Word) (hp : a / 0x10000 = p) (hm : May .host p s) (hc : s.winWriteCode a ws = .ok) :
    done (winWrite a ws s) = .next (wrote .host s (windowWrite a ws s)) := by
  unfold done winWrite wrote
  rw [hp, access_may .host p _ s hm]
  dsimp only
  rw [hc, if_pos rfl]

/-- A bulk write of a window that is turned away, as a command. -/
theorem win_away (ws : List Word) (hp : a / 0x10000 = p) (hm : May .host p s) (hc : s.winWriteCode a ws = c) (hne : c ≠ .ok) :
    done (winWrite a ws s) = .next (turnedAway .host c s) := by
  unfold done winWrite turnedAway
  rw [hp, access_may .host p _ s hm]
  dsimp only
  rw [hc, if_neg hne]

end Sys2Proof.Machine
end

