-- ==== Sys2Proof/Laws/Beyond.lean ====
section
/-! SUPPORT. What two states with the same `State.beyond` have in common, field by field. -/

namespace Sys2Proof.Machine

theorem pending_of_beyond {x y : State} (h : x.beyond = y.beyond) : x.pending = y.pending := by
  have h2 := congrArg State.pending h
  exact h2
theorem inForce_of_beyond {x y : State} (h : x.beyond = y.beyond) : x.inForce = y.inForce := by
  have h2 := congrArg State.inForce h
  exact h2
theorem time_of_beyond {x y : State} (h : x.beyond = y.beyond) : x.time = y.time := by
  have h2 := congrArg State.time h
  exact h2
theorem upTicks_of_beyond {x y : State} (h : x.beyond = y.beyond) : x.upTicks = y.upTicks := by
  have h2 := congrArg State.upTicks h
  exact h2
theorem ptpS_of_beyond {x y : State} (h : x.beyond = y.beyond) : x.ptpS = y.ptpS := by
  have h2 := congrArg State.ptpS h
  exact h2
theorem ptpNs_of_beyond {x y : State} (h : x.beyond = y.beyond) : x.ptpNs = y.ptpNs := by
  have h2 := congrArg State.ptpNs h
  exact h2
theorem busData_of_beyond {x y : State} (h : x.beyond = y.beyond) : x.busData = y.busData := by
  have h2 := congrArg State.busData h
  exact h2
theorem busCode_of_beyond {x y : State} (h : x.beyond = y.beyond) : x.busCode = y.busCode := by
  have h2 := congrArg State.busCode h
  exact h2
theorem clk_of_beyond {x y : State} (h : x.beyond = y.beyond) : x.clk = y.clk := by
  have h2 := congrArg State.clk h
  exact h2
theorem start_of_beyond {x y : State} (h : x.beyond = y.beyond) : x.start = y.start := by
  have h2 := congrArg State.start h
  exact h2
theorem cp_of_beyond {x y : State} (h : x.beyond = y.beyond) : x.cp = y.cp := by
  have h2 := congrArg State.cp h
  exact h2
theorem nor_of_beyond {x y : State} (h : x.beyond = y.beyond) : x.nor = y.nor := by
  have h2 := congrArg State.nor h
  exact h2
theorem sch_of_beyond {x y : State} (h : x.beyond = y.beyond) : x.sch = y.sch := by
  have h2 := congrArg State.sch h
  exact h2
theorem trm_of_beyond {x y : State} (h : x.beyond = y.beyond) : x.trm = y.trm := by
  have h2 := congrArg State.trm h
  exact h2
theorem hk_of_beyond {x y : State} (h : x.beyond = y.beyond) : x.hk = y.hk := by
  have h2 := congrArg State.hk h
  exact h2
theorem act_of_beyond {x y : State} (h : x.beyond = y.beyond) : x.act = y.act := by
  have h2 := congrArg State.act h
  exact h2
theorem uart_of_beyond {x y : State} (h : x.beyond = y.beyond) : x.uart = y.uart := by
  have h2 := congrArg State.uart h
  exact h2
theorem pins_of_beyond {x y : State} (h : x.beyond = y.beyond) : x.pins = y.pins := by
  have h2 := congrArg State.pins h
  exact h2
theorem pwr_of_beyond {x y : State} (h : x.beyond = y.beyond) :
    { x.pwr with htrOn := false, htrDuty := 0, htrAt := 0, htrSeen := false, htrReached := false, htrOpen := false } =
      { y.pwr with htrOn := false, htrDuty := 0, htrAt := 0, htrSeen := false, htrReached := false, htrOpen := false } := by
  have h2 := congrArg State.pwr h
  exact h2
theorem int_of_beyond {x y : State} (h : x.beyond = y.beyond) :
    { x.int with heads := x.int.heads.map Head.calm } = { y.int with heads := y.int.heads.map Head.calm } := by
  have h2 := congrArg State.int h
  exact h2
theorem lowRegs_of_beyond {x y : State} (h : x.beyond = y.beyond) : lowRegs x.regs = lowRegs y.regs := by
  have h2 := congrArg State.regs h
  exact h2
theorem vat_of_beyond {x y : State} (h : x.beyond = y.beyond) : { x.vat with threads := [] } = { y.vat with threads := [] } := by
  have h2 := congrArg State.vat h
  exact h2
theorem tbl_of_beyond {x y : State} (h : x.beyond = y.beyond) : { x.tbl with tabs := [] } = { y.tbl with tabs := [] } := by
  have h2 := congrArg State.tbl h
  exact h2
theorem pm_of_beyond {x y : State} (h : x.beyond = y.beyond) : x.vat.pm = y.vat.pm := by
  have h2 := congrArg Vat.pm (vat_of_beyond h)
  exact h2
theorem dm_of_beyond {x y : State} (h : x.beyond = y.beyond) : x.vat.dm = y.vat.dm := by
  have h2 := congrArg Vat.dm (vat_of_beyond h)
  exact h2
theorem img_of_beyond {x y : State} (h : x.beyond = y.beyond) : x.vat.img = y.vat.img := by
  have h2 := congrArg Vat.img (vat_of_beyond h)
  exact h2
theorem slotA_of_beyond {x y : State} (h : x.beyond = y.beyond) : x.vat.slotA = y.vat.slotA := by
  have h2 := congrArg Vat.slotA (vat_of_beyond h)
  exact h2
theorem slotB_of_beyond {x y : State} (h : x.beyond = y.beyond) : x.vat.slotB = y.vat.slotB := by
  have h2 := congrArg Vat.slotB (vat_of_beyond h)
  exact h2

end Sys2Proof.Machine
end

