-- ==== Sys2Proof/Laws/FollowUp.lean ====
section
/-! SUPPORT. What the blocks that follow another block's change (`followUp`) leave as it is: everything `State.beyond` keeps. -/

set_option linter.unusedTactic false
set_option linter.unreachableTactic false
set_option linter.unusedSimpArgs false

namespace Sys2Proof.Machine

theorem lowRegs_memPut (d : Nat → Word) (m : Store) (a : Nat) (v : Word) (h : 0x030000 ≤ a) :
    lowRegs (memPut d m a v) = lowRegs m := by
  have ha : ¬ a < 0x030000 := by omega
  induction m with
  | nil => simp only [memPut]; split <;> simp [lowRegs, ha]
  | cons p t ih =>
    obtain ⟨k, w⟩ := p
    simp only [memPut]
    split
    · split <;> simp [lowRegs, ha]
    · split
      · rename_i h1 h2
        subst h2
        split <;> simp [lowRegs, ha]
      · simp only [lowRegs, List.filter_cons] at ih ⊢
        rw [ih]

@[simp] theorem beyond_setReg (s : State) (a : Nat) (v : Word) (h : 0x030000 ≤ a) : (s.setReg a v).beyond = s.beyond := by
  simp [State.setReg, State.beyond, lowRegs_memPut, h]
@[simp] theorem beyond_setFld (s : State) (a hi lo v : Nat) (h : 0x030000 ≤ a) : (s.setFld a hi lo v).beyond = s.beyond :=
  beyond_setReg _ _ _ h
@[simp] theorem beyond_count (s : State) (a hi lo n : Nat) (h : 0x030000 ≤ a) : (s.count a hi lo n).beyond = s.beyond :=
  beyond_setFld _ _ _ _ _ h
@[simp] theorem beyond_setPend (s : State) (n : Nat) (b : Bool) : (s.setPend n b).beyond = s.beyond :=
  beyond_setFld _ _ _ _ _ (by simp only [GUT_PEND]; omega)
@[simp] theorem beyond_ite (c : Prop) [Decidable c] (x y : State) : (if c then x else y).beyond = if c then x.beyond else y.beyond := by
  split <;> rfl
@[simp] theorem beyond_foldl {α : Type} (f : State → α → State) (h : ∀ s x, (f s x).beyond = s.beyond) (l : List α) (s : State) :
    (l.foldl f s).beyond = s.beyond := by
  induction l generalizing s with
  | nil => rfl
  | cons a t ih => rw [List.foldl_cons, ih, h]
theorem map_upd {α β : Type} (g : α → β) (f : α → α) (h : ∀ x, g (f x) = g x) (l : List α) (n : Nat) :
    (upd l n f).map g = l.map g := by
  unfold upd
  induction l generalizing n with
  | nil => cases n <;> rfl
  | cons a t ih => cases n with
    | zero => simp [h]
    | succ k => simpa using ih k
@[simp] theorem beyond_calm (n : Nat) (f : Head → Head) (h : ∀ x, (f x).calm = x.calm) (s : State) :
    (onHead n f s).beyond = s.beyond := by
  simp only [onHead, State.beyond, map_upd Head.calm f h]
@[simp] theorem beyond_disFollow (n : Nat) (s : State) : (disFollow n s).beyond = s.beyond := by
  unfold disFollow
  split
  · apply beyond_calm
    intro x
    rfl
  · rfl
@[simp] theorem beyond_onSw (f : Switch → Switch) (s : State) : (onSw f s).beyond = s.beyond := rfl
@[simp] theorem beyond_draw (s : State) : s.draw.2.beyond = s.beyond := rfl
@[simp] theorem beyond_onVlv (f : Velva → Velva) (s : State) : (onVlv f s).beyond = s.beyond := rfl
@[simp] theorem beyond_onRnd (c : Nat) (f : Rnd → Rnd) (s : State) : (onRnd c f s).beyond = s.beyond := rfl
@[simp] theorem beyond_setSrc (s : State) (n : Nat) (x : SrcState) : (s.setSrc n x).beyond = s.beyond := rfl
@[simp] theorem beyond_onThread (t : Nat) (f : Thread → Thread) (s : State) : (onThread t f s).beyond = s.beyond := rfl
@[simp] theorem beyond_onCel (f : Cellar → Cellar) (s : State) : (onCel f s).beyond = s.beyond := rfl
@[simp] theorem beyond_onAna (c : Nat) (f : Ana → Ana) (s : State) : (onAna c f s).beyond = s.beyond := rfl
@[simp] theorem beyond_onEnc (e : Nat) (f : EncChan → EncChan) (s : State) : (onEnc e f s).beyond = s.beyond := rfl

@[simp] theorem beyond_rearm (ns : List Nat) (b s : State) : (rearm ns b s).beyond = s.beyond := rfl
@[simp] theorem beyond_onPress (n : Nat) (f : Press → Press) (s : State) : (onPress n f s).beyond = s.beyond := rfl
@[simp] theorem beyond_onTable (n : Nat) (f : Table → Table) (s : State) : (onTable n f s).beyond = s.beyond := rfl
@[simp] theorem beyond_onEgr (f : Egress → Egress) (s : State) : (onEgr f s).beyond = s.beyond := rfl
@[simp] theorem beyond_onPort (p : Nat) (f : Port → Port) (s : State) : (onPort p f s).beyond = s.beyond := rfl
@[simp] theorem beyond_onDnr (c : Nat) (f : Dnr → Dnr) (s : State) : (onDnr c f s).beyond = s.beyond := rfl
@[simp] theorem beyond_onSes (n : Nat) (f : Session → Session) (s : State) : (onSes n f s).beyond = s.beyond := rfl
@[simp] theorem beyond_onSwPort (p : Nat) (f : SwPort → SwPort) (s : State) : (onSwPort p f s).beyond = s.beyond := rfl
@[simp] theorem beyond_onStrm (e : Nat) (f : CelStream → CelStream) (s : State) : (onStrm e f s).beyond = s.beyond := rfl
@[simp] theorem beyond_onMed (m : Nat) (f : Medium → Medium) (s : State) : (onMed m f s).beyond = s.beyond := rfl
@[simp] theorem beyond_onTen (t : Nat) (f : Tenant → Tenant) (s : State) : (onTen t f s).beyond = s.beyond := rfl
@[simp] theorem beyond_onJob (j : Nat) (f : NetJob → NetJob) (s : State) : (onJob j f s).beyond = s.beyond := rfl
@[simp] theorem beyond_onWheel (m k : Nat) (f : Wheel → Wheel) (s : State) : (onWheel m k f s).beyond = s.beyond := rfl
@[simp] theorem beyond_rnd_upd (s : State) (x : Render) : State.beyond { s with rnd := x } = s.beyond := rfl
@[simp] theorem beyond_out_over (s : State) (b : Bool) : State.beyond { s with out := { s.out with exceeded := b } } = s.beyond := rfl
@[simp] theorem beyond_out_cur (s : State) (c : Option Nat) : State.beyond { s with out := { s.out with cur := c } } = s.beyond := rfl
@[simp] theorem beyond_pwr_htr (s : State) (b : Bool) : State.beyond { s with pwr := { s.pwr with htrOn := b } } = s.beyond := rfl
theorem beyond_pwr_cut (s : State) (b o : Bool) : State.beyond { s with pwr := { s.pwr with htrOn := b, htrOpen := o } } = s.beyond := rfl
@[simp] theorem beyond_broken (s : State) (b : Nat) : (onHeat (fun h => { h with broken := b }) s).beyond = s.beyond := rfl
@[simp] theorem beyond_vGo (t : Nat) (pc : Nat) (s : State) :
    (vGo t pc s).beyond = s.beyond := by
  unfold vGo; simp
@[simp] theorem beyond_dueWithdrawn (n : Nat) (s : State) :
    (dueWithdrawn n s).beyond = s.beyond := by
  unfold dueWithdrawn; simp

@[simp] theorem beyond_agcRestart (c : Nat) (s : State) :
    (agcRestart c s).beyond = s.beyond := by
  unfold agcRestart; simp
@[simp] theorem beyond_nextSeq (ty : Nat) (s : State) :
    (nextSeq ty s).2.beyond = s.beyond := by
  unfold nextSeq; simp
@[simp] theorem beyond_dnrForget (c : Nat) (s : State) :
    (dnrForget c s).beyond = s.beyond := by
  unfold dnrForget; simp
@[simp] theorem beyond_dropPressBank (n : Nat) (s : State) :
    (dropPressBank n s).beyond = s.beyond := by
  unfold dropPressBank; split <;> simp
@[simp] theorem beyond_refAwaited (c : Nat) (s : State) :
    (refAwaited c s).beyond = s.beyond := by
  unfold refAwaited; simp
@[simp] theorem beyond_retireTable (n : Nat) (s : State) :
    (retireTable n s).beyond = s.beyond := by
  unfold retireTable; simp
@[simp] theorem beyond_setV (t : Nat) (r : Nat) (v : Word) (s : State) :
    (setV t r v s).beyond = s.beyond := by
  unfold setV; simp
@[simp] theorem beyond_requestIdr (e : Nat) (s : State) :
    (requestIdr e s).beyond = s.beyond := by
  unfold requestIdr; simp
@[simp] theorem beyond_reuseJump (m : Nat) (k : Nat) (s : State) :
    (reuseJump m k s).beyond = s.beyond := by
  unfold reuseJump; simp
@[simp] theorem beyond_peakBacklog (s : State) :
    (peakBacklog s).beyond = s.beyond := by
  unfold peakBacklog; simp (disch := first | omega | (simp only [GUT_CNT, GUT_DRAIN, GUT_BACKLOG, GUT_STORM, SW_TSSTAT, SW_PDROP, ENC_CNT, CEL_RCNT, CEL_BCNT, CEL_MCNT, EGR_CNT]; omega))
@[simp] theorem beyond_retireAll (s : State) :
    (retireAll s).beyond = s.beyond := by
  unfold retireAll; simp
@[simp] theorem beyond_trimShare (e : Nat) (s : State) :
    (trimShare e s).beyond = s.beyond := by
  unfold trimShare; simp
@[simp] theorem beyond_queueFrame (n : Nat) (e : Nat) (c : Coded) (s : State) :
    (queueFrame n e c s).beyond = s.beyond := by
  unfold queueFrame; simp
@[simp] theorem beyond_vNext (t : Nat) (s : State) :
    (vNext t s).beyond = s.beyond := by
  unfold vNext; simp
@[simp] theorem beyond_openWheel (m : Nat) (k : Nat) (w : Wheel) (s : State) :
    (openWheel m k w s).beyond = s.beyond := by
  unfold openWheel; simp
@[simp] theorem beyond_acknowledge (ns : List Nat) (s : State) :
    (acknowledge ns s).beyond = s.beyond := by
  unfold acknowledge; simp
@[simp] theorem beyond_capture (n : Nat) (data : Word) (batch : Nat) (s : State) :
    (capture n data batch s).beyond = s.beyond := by
  unfold capture; simp
@[simp] theorem beyond_closeStream (e st : Nat) (gap pf : Bool) (s : State) :
    (closeStream e st gap pf s).beyond = s.beyond := by
  unfold closeStream
  dsimp only
  (repeat' split) <;> rfl
@[simp] theorem beyond_summaryTaken (n : Nat) (data : Word) (s : State) : (summaryTaken n data s).beyond = s.beyond := by
  unfold summaryTaken; simp
@[simp] theorem beyond_suppress (n : Nat) (data : Word) (s : State) : (suppress n data s).beyond = s.beyond := by
  unfold suppress; simp (disch := first | omega | (simp only [GUT_CNT, GUT_DRAIN, GUT_BACKLOG, GUT_STORM, SW_TSSTAT, SW_PDROP, ENC_CNT, CEL_RCNT, CEL_BCNT, CEL_MCNT, EGR_CNT]; omega))
@[simp] theorem beyond_stormLimit (n : Nat) (data : Word) (batch : Nat) (s : State) :
    (stormLimit n data batch s).beyond = s.beyond := by
  unfold stormLimit; simp (disch := first | omega | (simp only [GUT_CNT, GUT_DRAIN, GUT_BACKLOG, GUT_STORM, SW_TSSTAT, SW_PDROP, ENC_CNT, CEL_RCNT, CEL_BCNT, CEL_MCNT, EGR_CNT]; omega))
@[simp] theorem beyond_takeEvent (t : Nat) (rd : Nat) (ra : Nat) (n : Nat) (s : State) :
    (takeEvent t rd ra n s).beyond = s.beyond := by
  unfold takeEvent; simp
@[simp] theorem beyond_wakeEvents (s : State) :
    (wakeEvents s).beyond = s.beyond := by
  unfold wakeEvents; split
  · rfl
  · exact beyond_foldl _ (fun s x => by (repeat' split) <;> simp) _ _
@[simp] theorem beyond_occur (n : Nat) (data : Word) (batch : Nat) (s : State) :
    (occur n data batch s).beyond = s.beyond := by
  unfold occur; simp (disch := first | omega | (simp only [GUT_CNT, GUT_DRAIN, GUT_BACKLOG, GUT_STORM, SW_TSSTAT, SW_PDROP, ENC_CNT, CEL_RCNT, CEL_BCNT, CEL_MCNT, EGR_CNT]; omega))
@[simp] theorem beyond_raise (n : Nat) (data : Word) (s : State) : (raise n data s).beyond = s.beyond := by
  unfold raise
  split
  · rfl
  · exact beyond_occur _ _ _ _
@[simp] theorem beyond_raiseN (n : Nat) (data : Nat) (s : State) :
    (raiseN n data s).beyond = s.beyond := by
  unfold raiseN; simp
@[simp] theorem beyond_setMed (m : Nat) (st : MedSt) (s : State) :
    (setMed m st s).beyond = s.beyond := by
  unfold setMed; simp
@[simp] theorem beyond_fullFollow (m : Nat) (s : State) : (fullFollow m s).beyond = s.beyond := by
  unfold fullFollow; simp
@[simp] theorem beyond_closeWheel (m : Nat) (k : Nat) (st : Nat) (gap : Bool) (s : State) :
    (closeWheel m k st gap s).beyond = s.beyond := by
  unfold closeWheel; simp
@[simp] theorem beyond_writeOut (o : Nat × Nat × COut) (s : State) :
    (writeOut o s).beyond = s.beyond := by
  unfold writeOut; (repeat' split) <;> simp
@[simp] theorem beyond_stampFifo (p : Nat) (egress : Bool) (b : List Nat) (t : Int) (s : State) :
    (stampFifo p egress b t s).beyond = s.beyond := by
  unfold stampFifo; split <;> simp (disch := first | omega | (simp only [GUT_CNT, GUT_DRAIN, GUT_BACKLOG, GUT_STORM, SW_TSSTAT, SW_PDROP, ENC_CNT, CEL_RCNT, CEL_BCNT, CEL_MCNT, EGR_CNT]; omega))
@[simp] theorem beyond_correct1588 (p : Nat) (f : QFrame) (s : State) : (correct1588 p f s).2.beyond = s.beyond := by
  unfold correct1588
  split
  · dsimp only
    (repeat' split) <;> simp
  · rfl
@[simp] theorem beyond_pump (p : Nat) (s : State) : (pump p s).beyond = s.beyond := by
  unfold pump
  dsimp only
  split
  · rfl
  · split
    · rfl
    · split
      · rfl
      · simp
        split <;> simp
@[simp] theorem beyond_buddyEvent (host : Bool) (op : Nat) (p : Nat) (e : Nat) (s : State) :
    (buddyEvent host op p e s).beyond = s.beyond := by
  unfold buddyEvent; simp
@[simp] theorem beyond_raiseIf (b : Bool) (n : Nat) (data : Nat) (s : State) :
    (raiseIf b n data s).beyond = s.beyond := by
  unfold raiseIf; simp
@[simp] theorem beyond_encLoad (s : State) : (encLoad s).beyond = s.beyond := by
  unfold encLoad
  generalize s.encDemand = d
  generalize s.encCap = c
  dsimp only
  rw [beyond_raiseIf, beyond_out_over]
@[simp] theorem beyond_modelStart (c : Nat) (reason : Nat) (s : State) :
    (modelStart c reason s).beyond = s.beyond := by
  unfold modelStart; simp
@[simp] theorem beyond_gridApply (k : Nat) (c : Nat) (fn : Nat) (s : State) :
    (gridApply k c fn s).beyond = s.beyond := by
  unfold gridApply; simp
@[simp] theorem beyond_encSkip (e : Nat) (reason : Nat) (fn : Nat) (s : State) :
    (encSkip e reason fn s).beyond = s.beyond := by
  unfold encSkip; simp (disch := first | omega | (simp only [GUT_CNT, GUT_DRAIN, GUT_BACKLOG, GUT_STORM, SW_TSSTAT, SW_PDROP, ENC_CNT, CEL_RCNT, CEL_BCNT, CEL_MCNT, EGR_CNT]; omega))
@[simp] theorem beyond_endOnTime (ms : Nat) (s : State) : (endOnTime ms s).beyond = s.beyond := by
  unfold endOnTime
  dsimp only
  (repeat' split) <;> simp [beyond_pwr_cut]
@[simp] theorem beyond_cutOnTime (s : State) : (cutOnTime s).beyond = s.beyond := beyond_endOnTime _ _
@[simp] theorem beyond_startHeaterPeriod (s : State) : (startHeaterPeriod s).beyond = s.beyond :=
  (rfl : (startHeaterPeriod s).beyond = (endOnTime s.pwr.htrDuty s).beyond).trans (beyond_endOnTime _ _)
@[simp] theorem beyond_heaterFollow (before : State) (s : State) :
    (heaterFollow before s).beyond = s.beyond := by
  unfold heaterFollow; (repeat' split) <;> simp
@[simp] theorem beyond_pressProfileEnd (n : Nat) (pf : Nat) (res : Nat) (s : State) :
    (pressProfileEnd n pf res s).beyond = s.beyond := by
  unfold pressProfileEnd; simp; split <;> simp
@[simp] theorem beyond_pressOverruled (n pf : Nat) (s : State) : (pressOverruled n pf s).beyond = s.beyond := by
  unfold pressOverruled; simp
@[simp] theorem beyond_pressFireDropped (n pf : Nat) (s : State) : (pressFireDropped n pf s).beyond = s.beyond := by
  unfold pressFireDropped; simp
@[simp] theorem beyond_setPortSt (p : Nat) (st : PortSt) (s : State) :
    (setPortSt p st s).beyond = s.beyond := by
  unfold setPortSt; simp
@[simp] theorem beyond_jobEnd (j : Nat) (fin : Nat) (s : State) :
    (jobEnd j fin s).beyond = s.beyond := by
  unfold jobEnd; simp
@[simp] theorem beyond_heatFollow (s : State) :
    (heatFollow s).beyond = s.beyond := by
  unfold heatFollow; simp
@[simp] theorem beyond_pressFollow (before : State) (s : State) :
    (pressFollow before s).beyond = s.beyond := by
  unfold pressFollow
  refine beyond_foldl _ (fun s x => ?_) _ _
  dsimp only
  (repeat' split) <;> first | rfl | exact beyond_foldl _ (fun s x => by split <;> simp) _ _
@[simp] theorem beyond_withhold (n : Nat) (reason : Nat) (group : Nat) (s : State) :
    (withhold n reason group s).beyond = s.beyond := by
  unfold withhold; simp
@[simp] theorem beyond_gridsIdle (s : State) :
    (gridsIdle s).beyond = s.beyond := by
  unfold gridsIdle; simp
@[simp] theorem beyond_leaveOut (e : Nat) (reason : Nat) (s : State) :
    (leaveOut e reason s).beyond = s.beyond := by
  unfold leaveOut; simp (disch := first | omega | (simp only [GUT_CNT, GUT_DRAIN, GUT_BACKLOG, GUT_STORM, SW_TSSTAT, SW_PDROP, ENC_CNT, CEL_RCNT, CEL_BCNT, CEL_MCNT, EGR_CNT]; omega))
@[simp] theorem beyond_newWheel (e : Nat) (m : Nat) (c : Coded) (s : State) :
    (newWheel e m c s).2.beyond = s.beyond := by
  unfold newWheel; split <;> simp
@[simp] theorem beyond_portDrained (p : Nat) (s : State) :
    (portDrained p s).beyond = s.beyond := by
  unfold portDrained; simp
@[simp] theorem beyond_encBegin (e : Nat) (j : EncJob) (s : State) :
    (encBegin e j s).1.beyond = s.beyond := by
  unfold encBegin; simp; split <;> simp
@[simp] theorem beyond_encServe (k : Nat) (s : State) : (encServe k s).beyond = s.beyond := by
  induction k generalizing s with
  | zero => rfl
  | succ k ih =>
    unfold encServe
    (repeat' split) <;> simp [ih]
@[simp] theorem beyond_offerCellar (n : Nat) (c : Coded) (s : State) :
    (offerCellar n c s).beyond = s.beyond := by
  unfold offerCellar; simp; split <;> simp
@[simp] theorem beyond_portsDrained (s : State) :
    (portsDrained s).beyond = s.beyond := by
  unfold portsDrained; simp
@[simp] theorem beyond_ctxFollow (before : State) (s : State) :
    (ctxFollow before s).beyond = s.beyond := by
  unfold ctxFollow; simp
@[simp] theorem beyond_enqueueFrame (p : Nat) (q : Nat) (f : QFrame) (s : State) :
    (enqueueFrame p q f s).beyond = s.beyond := by
  unfold enqueueFrame; simp (disch := first | omega | (simp only [GUT_CNT, GUT_DRAIN, GUT_BACKLOG, GUT_STORM, SW_TSSTAT, SW_PDROP, ENC_CNT, CEL_RCNT, CEL_BCNT, CEL_MCNT, EGR_CNT]; omega))
@[simp] theorem beyond_vSend (p : Nat) (v : VFrame) (s : State) :
    (vSend p v s).beyond = s.beyond := by
  unfold vSend; simp (disch := first | omega | (simp only [GUT_CNT, GUT_DRAIN, GUT_BACKLOG, GUT_STORM, SW_TSSTAT, SW_PDROP, ENC_CNT, CEL_RCNT, CEL_BCNT, CEL_MCNT, EGR_CNT]; omega))
@[simp] theorem beyond_buddyPump (e k : Nat) (s : State) : (buddyPump e k s).beyond = s.beyond := by
  induction k generalizing s with
  | zero => rfl
  | succ k ih =>
    unfold buddyPump
    (repeat' split) <;> simp [ih]
@[simp] theorem beyond_jobFollow (j : Nat) (s : State) :
    (jobFollow j s).beyond = s.beyond := by
  unfold jobFollow; (repeat' split) <;> simp
@[simp] theorem beyond_encGo (s : State) :
    (encGo s).beyond = s.beyond := by
  unfold encGo; simp
@[simp] theorem beyond_sendCtl (p : Nat) (op : Nat) (bid : Nat) (e : Nat) (ctx : Nat) (codec : Nat) (mgrp : Nat) (reason : Nat) (s : State) :
    (sendCtl p op bid e ctx codec mgrp reason s).beyond = s.beyond := by
  unfold sendCtl; simp
@[simp] theorem beyond_jobsFollow (s : State) :
    (jobsFollow s).beyond = s.beyond := by
  unfold jobsFollow; simp
@[simp] theorem beyond_flood (ty : Nat) (pl : List Nat) (s : State) :
    (flood ty pl s).beyond = s.beyond := by
  unfold flood; simp
@[simp] theorem beyond_buddyEnds (e : Nat) (op : Nat) (tell : Bool) (s : State) :
    (buddyEnds e op tell s).beyond = s.beyond := by
  unfold buddyEnds; (repeat' split) <;> simp
@[simp] theorem beyond_buddyDrained (e : Nat) (s : State) : (buddyDrained e s).beyond = s.beyond := by
  unfold buddyDrained; simp
@[simp] theorem beyond_buddyPages (e : Nat) (ps : List CPage) (s : State) :
    (buddyPages e ps s).beyond = s.beyond := by
  unfold buddyPages; simp
@[simp] theorem beyond_buddyStops (e : Nat) (now : Bool) (s : State) : (buddyStops e now s).beyond = s.beyond := by
  unfold buddyStops
  split
  · rfl
  · dsimp only
    (repeat' split) <;> simp
@[simp] theorem beyond_askBuddy (e : Nat) (ruled : List Nat) (c : Coded) (s : State) :
    (askBuddy e ruled c s).beyond = s.beyond := by
  unfold askBuddy; dsimp only; (repeat' split) <;> simp
@[simp] theorem beyond_sendGossip (s : State) :
    (sendGossip s).beyond = s.beyond := by
  unfold sendGossip; simp
@[simp] theorem beyond_mediumGone (m : Nat) (reason : Nat) (s : State) :
    (mediumGone m reason s).beyond = s.beyond := by
  unfold mediumGone; simp
@[simp] theorem beyond_closeHosted (h : Hosted) (st : Nat) (gap pf write : Bool) (s : State) :
    (closeHosted h st gap pf write s).beyond = s.beyond := by
  unfold closeHosted; simp
@[simp] theorem beyond_hostEnds (i : Nat) (op : Nat) (tell : Bool) (s : State) :
    (hostEnds i op tell s).beyond = s.beyond := by
  unfold hostEnds; split <;> simp

@[simp] theorem beyond_buddyPortLost (p : Nat) (s : State) : (buddyPortLost p s).beyond = s.beyond := by
  unfold buddyPortLost
  dsimp only
  rw [beyond_foldl (fun s i => if ((s.cel.hosted[i]?).any fun h => h.port == p) = true then hostEnds i 6 false s else s)
      (fun s x => by rw [beyond_ite, beyond_hostEnds, ite_self]),
    beyond_foldl (fun s e => if ((s.strm e).buddy.any fun b => b.port == p) = true then buddyEnds e 6 false s else s)
      (fun s x => by rw [beyond_ite, beyond_buddyEnds, ite_self])]
@[simp] theorem beyond_velvaFollow (before : State) (s : State) :
    (velvaFollow before s).beyond = s.beyond := by
  unfold velvaFollow; simp
@[simp] theorem beyond_cardFollow (s : State) :
    (cardFollow s).beyond = s.beyond := by
  unfold cardFollow; simp
@[simp] theorem beyond_storePages (e : Nat) (ps : List CPage) (buf : CPage) (s : State) :
    (storePages e ps buf s).beyond = s.beyond := by
  unfold storePages; split <;> simp
@[simp] theorem beyond_stopRecording (e : Nat) (s : State) :
    (stopRecording e s).beyond = s.beyond := by
  unfold stopRecording; simp
@[simp] theorem beyond_buddyFollow (before : State) (s : State) :
    (buddyFollow before s).beyond = s.beyond := by
  unfold buddyFollow; simp
@[simp] theorem beyond_putRec (e : Nat) (r : CRec) (s : State) :
    (putRec e r s).beyond = s.beyond := by
  unfold putRec; simp; split <;> simp
@[simp] theorem beyond_putFrame (e : Nat) (c : Coded) (s : State) : (putFrame e c s).beyond = s.beyond := by
  unfold putFrame
  dsimp only
  rw [beyond_count _ _ _ _ _ (by simp only [CEL_RCNT]; omega)]
  split <;> simp
@[simp] theorem beyond_putNow (e : Nat) (r : CRec) (s : State) :
    (putNow e r s).beyond = s.beyond := by
  unfold putNow; simp
@[simp] theorem beyond_writeFrame (e : Nat) (c : Coded) (s : State) :
    (writeFrame e c s).beyond = s.beyond := by
  unfold writeFrame; simp
@[simp] theorem beyond_fullSeen (e : Nat) (c : Coded) (s : State) : (fullSeen e c s).beyond = s.beyond := by
  unfold fullSeen; simp
@[simp] theorem beyond_idrFrame (e : Nat) (c : Coded) (s : State) :
    (idrFrame e c s).beyond = s.beyond := by
  unfold idrFrame; simp
@[simp] theorem beyond_recordFrame (e : Nat) (c : Coded) (s : State) :
    (recordFrame e c s).beyond = s.beyond := by
  unfold recordFrame; simp
@[simp] theorem beyond_startRecording (e causes : Nat) (s : State) : (startRecording e causes s).beyond = s.beyond := by
  unfold startRecording
  dsimp only
  split
  · rw [beyond_foldl _ (fun s x => by split <;> simp)]
    simp
  · simp
@[simp] theorem beyond_celFollow (s : State) :
    (celFollow s).beyond = s.beyond := by
  unfold celFollow; simp
@[simp] theorem beyond_followUp (before : State) (s : State) :
    (followUp before s).beyond = s.beyond := by
  unfold followUp; simp
end Sys2Proof.Machine
end

