-- ==== Sys2Proof/Laws/After.lean ====
section
/-! SUPPORT. What the state after an accepted write (`wrote`) or an event (`after`) has in common with the state that the
write's or the event's own effect leaves. -/

namespace Sys2Proof.Machine

/-- The bus has answered OK and the pins follow. -/
def answered (o : Origin) (y : State) : State := settle (seenBy o { y with busCode := .ok, busData := [] })

theorem seenBy_start (o : Origin) (y : State) :
    (seenBy o y).start = { y.start with hostPresent := y.start.hostPresent || !isVat o } := by
  cases o <;> simp [seenBy, isVat]
theorem wrote_eq (o : Origin) (s x : State) : wrote o s x = answered o (followUp s x) := rfl
theorem after_eq (s x : State) : after s x = settle (followUp s x) := rfl

theorem answered_inForce (o : Origin) (y : State) : (answered o y).inForce = y.inForce := by cases o <;> rfl
theorem answered_time (o : Origin) (y : State) : (answered o y).time = y.time := by cases o <;> rfl
theorem answered_upTicks (o : Origin) (y : State) : (answered o y).upTicks = y.upTicks := by cases o <;> rfl
theorem answered_ptpS (o : Origin) (y : State) : (answered o y).ptpS = y.ptpS := by cases o <;> rfl
theorem answered_ptpNs (o : Origin) (y : State) : (answered o y).ptpNs = y.ptpNs := by cases o <;> rfl
theorem answered_clk (o : Origin) (y : State) : (answered o y).clk = y.clk := by cases o <;> rfl
theorem answered_start (o : Origin) (y : State) : (answered o y).start = (seenBy o y).start := by cases o <;> rfl
theorem answered_cp (o : Origin) (y : State) : (answered o y).cp = y.cp := by cases o <;> rfl
theorem answered_nor (o : Origin) (y : State) : (answered o y).nor = y.nor := by cases o <;> rfl
theorem answered_sch (o : Origin) (y : State) : (answered o y).sch = y.sch := by cases o <;> rfl
theorem answered_trm (o : Origin) (y : State) : (answered o y).trm = y.trm := by cases o <;> rfl
theorem answered_hk (o : Origin) (y : State) : (answered o y).hk = y.hk := by cases o <;> rfl
theorem answered_act (o : Origin) (y : State) : (answered o y).act = y.act := by cases o <;> rfl
theorem answered_uart (o : Origin) (y : State) : (answered o y).uart = y.uart := by cases o <;> rfl
theorem answered_busCode (o : Origin) (y : State) : (answered o y).busCode = .ok := by cases o <;> rfl
theorem answered_busData (o : Origin) (y : State) : (answered o y).busData = [] := by cases o <;> rfl
theorem answered_pm (o : Origin) (y : State) : (answered o y).vat.pm = y.vat.pm := by cases o <;> rfl
theorem answered_dm (o : Origin) (y : State) : (answered o y).vat.dm = y.vat.dm := by cases o <;> rfl
theorem answered_img (o : Origin) (y : State) : (answered o y).vat.img = y.vat.img := by cases o <;> rfl
theorem answered_slotA (o : Origin) (y : State) : (answered o y).vat.slotA = y.vat.slotA := by cases o <;> rfl
theorem answered_slotB (o : Origin) (y : State) : (answered o y).vat.slotB = y.vat.slotB := by cases o <;> rfl
theorem settled_inForce (y : State) : (settle y).inForce = y.inForce := rfl
theorem settled_time (y : State) : (settle y).time = y.time := rfl
theorem settled_upTicks (y : State) : (settle y).upTicks = y.upTicks := rfl
theorem settled_ptpS (y : State) : (settle y).ptpS = y.ptpS := rfl
theorem settled_ptpNs (y : State) : (settle y).ptpNs = y.ptpNs := rfl
theorem settled_clk (y : State) : (settle y).clk = y.clk := rfl
theorem settled_start (y : State) : (settle y).start = y.start := rfl
theorem settled_cp (y : State) : (settle y).cp = y.cp := rfl
theorem settled_nor (y : State) : (settle y).nor = y.nor := rfl
theorem settled_sch (y : State) : (settle y).sch = y.sch := rfl
theorem settled_trm (y : State) : (settle y).trm = y.trm := rfl
theorem settled_hk (y : State) : (settle y).hk = y.hk := rfl
theorem settled_act (y : State) : (settle y).act = y.act := rfl
theorem settled_uart (y : State) : (settle y).uart = y.uart := rfl
theorem settled_pm (y : State) : (settle y).vat.pm = y.vat.pm := rfl
theorem settled_dm (y : State) : (settle y).vat.dm = y.vat.dm := rfl
theorem settled_img (y : State) : (settle y).vat.img = y.vat.img := rfl
theorem settled_slotA (y : State) : (settle y).vat.slotA = y.vat.slotA := rfl
theorem settled_slotB (y : State) : (settle y).vat.slotB = y.vat.slotB := rfl

@[simp] theorem wrote_inForce (o : Origin) (s x : State) : (wrote o s x).inForce = x.inForce := by
  rw [wrote_eq, answered_inForce]; exact inForce_of_beyond (beyond_followUp s x)
@[simp] theorem after_inForce (s x : State) : (after s x).inForce = x.inForce := by
  rw [after_eq, settled_inForce]; exact inForce_of_beyond (beyond_followUp s x)
@[simp] theorem wrote_time (o : Origin) (s x : State) : (wrote o s x).time = x.time := by
  rw [wrote_eq, answered_time]; exact time_of_beyond (beyond_followUp s x)
@[simp] theorem after_time (s x : State) : (after s x).time = x.time := by
  rw [after_eq, settled_time]; exact time_of_beyond (beyond_followUp s x)
@[simp] theorem wrote_upTicks (o : Origin) (s x : State) : (wrote o s x).upTicks = x.upTicks := by
  rw [wrote_eq, answered_upTicks]; exact upTicks_of_beyond (beyond_followUp s x)
@[simp] theorem after_upTicks (s x : State) : (after s x).upTicks = x.upTicks := by
  rw [after_eq, settled_upTicks]; exact upTicks_of_beyond (beyond_followUp s x)
@[simp] theorem wrote_ptpS (o : Origin) (s x : State) : (wrote o s x).ptpS = x.ptpS := by
  rw [wrote_eq, answered_ptpS]; exact ptpS_of_beyond (beyond_followUp s x)
@[simp] theorem after_ptpS (s x : State) : (after s x).ptpS = x.ptpS := by
  rw [after_eq, settled_ptpS]; exact ptpS_of_beyond (beyond_followUp s x)
@[simp] theorem wrote_ptpNs (o : Origin) (s x : State) : (wrote o s x).ptpNs = x.ptpNs := by
  rw [wrote_eq, answered_ptpNs]; exact ptpNs_of_beyond (beyond_followUp s x)
@[simp] theorem after_ptpNs (s x : State) : (after s x).ptpNs = x.ptpNs := by
  rw [after_eq, settled_ptpNs]; exact ptpNs_of_beyond (beyond_followUp s x)
@[simp] theorem wrote_clk (o : Origin) (s x : State) : (wrote o s x).clk = x.clk := by
  rw [wrote_eq, answered_clk]; exact clk_of_beyond (beyond_followUp s x)
@[simp] theorem after_clk (s x : State) : (after s x).clk = x.clk := by
  rw [after_eq, settled_clk]; exact clk_of_beyond (beyond_followUp s x)
@[simp] theorem wrote_start (o : Origin) (s x : State) : (wrote o s x).start = (seenBy o x).start := by
  rw [wrote_eq, answered_start, seenBy_start, seenBy_start, start_of_beyond (beyond_followUp s x)]
@[simp] theorem after_start (s x : State) : (after s x).start = x.start := by
  rw [after_eq, settled_start]; exact start_of_beyond (beyond_followUp s x)
@[simp] theorem wrote_cp (o : Origin) (s x : State) : (wrote o s x).cp = x.cp := by
  rw [wrote_eq, answered_cp]; exact cp_of_beyond (beyond_followUp s x)
@[simp] theorem after_cp (s x : State) : (after s x).cp = x.cp := by
  rw [after_eq, settled_cp]; exact cp_of_beyond (beyond_followUp s x)
@[simp] theorem wrote_nor (o : Origin) (s x : State) : (wrote o s x).nor = x.nor := by
  rw [wrote_eq, answered_nor]; exact nor_of_beyond (beyond_followUp s x)
@[simp] theorem after_nor (s x : State) : (after s x).nor = x.nor := by
  rw [after_eq, settled_nor]; exact nor_of_beyond (beyond_followUp s x)
@[simp] theorem wrote_sch (o : Origin) (s x : State) : (wrote o s x).sch = x.sch := by
  rw [wrote_eq, answered_sch]; exact sch_of_beyond (beyond_followUp s x)
@[simp] theorem after_sch (s x : State) : (after s x).sch = x.sch := by
  rw [after_eq, settled_sch]; exact sch_of_beyond (beyond_followUp s x)
@[simp] theorem wrote_trm (o : Origin) (s x : State) : (wrote o s x).trm = x.trm := by
  rw [wrote_eq, answered_trm]; exact trm_of_beyond (beyond_followUp s x)
@[simp] theorem after_trm (s x : State) : (after s x).trm = x.trm := by
  rw [after_eq, settled_trm]; exact trm_of_beyond (beyond_followUp s x)
@[simp] theorem wrote_hk (o : Origin) (s x : State) : (wrote o s x).hk = x.hk := by
  rw [wrote_eq, answered_hk]; exact hk_of_beyond (beyond_followUp s x)
@[simp] theorem after_hk (s x : State) : (after s x).hk = x.hk := by
  rw [after_eq, settled_hk]; exact hk_of_beyond (beyond_followUp s x)
@[simp] theorem wrote_act (o : Origin) (s x : State) : (wrote o s x).act = x.act := by
  rw [wrote_eq, answered_act]; exact act_of_beyond (beyond_followUp s x)
@[simp] theorem after_act (s x : State) : (after s x).act = x.act := by
  rw [after_eq, settled_act]; exact act_of_beyond (beyond_followUp s x)
@[simp] theorem wrote_uart (o : Origin) (s x : State) : (wrote o s x).uart = x.uart := by
  rw [wrote_eq, answered_uart]; exact uart_of_beyond (beyond_followUp s x)
@[simp] theorem after_uart (s x : State) : (after s x).uart = x.uart := by
  rw [after_eq, settled_uart]; exact uart_of_beyond (beyond_followUp s x)
@[simp] theorem wrote_pm (o : Origin) (s x : State) : (wrote o s x).vat.pm = x.vat.pm := by
  rw [wrote_eq, answered_pm]; exact pm_of_beyond (beyond_followUp s x)
@[simp] theorem after_pm (s x : State) : (after s x).vat.pm = x.vat.pm := by
  rw [after_eq, settled_pm]; exact pm_of_beyond (beyond_followUp s x)
@[simp] theorem wrote_dm (o : Origin) (s x : State) : (wrote o s x).vat.dm = x.vat.dm := by
  rw [wrote_eq, answered_dm]; exact dm_of_beyond (beyond_followUp s x)
@[simp] theorem after_dm (s x : State) : (after s x).vat.dm = x.vat.dm := by
  rw [after_eq, settled_dm]; exact dm_of_beyond (beyond_followUp s x)
@[simp] theorem wrote_img (o : Origin) (s x : State) : (wrote o s x).vat.img = x.vat.img := by
  rw [wrote_eq, answered_img]; exact img_of_beyond (beyond_followUp s x)
@[simp] theorem after_img (s x : State) : (after s x).vat.img = x.vat.img := by
  rw [after_eq, settled_img]; exact img_of_beyond (beyond_followUp s x)
@[simp] theorem wrote_slotA (o : Origin) (s x : State) : (wrote o s x).vat.slotA = x.vat.slotA := by
  rw [wrote_eq, answered_slotA]; exact slotA_of_beyond (beyond_followUp s x)
@[simp] theorem after_slotA (s x : State) : (after s x).vat.slotA = x.vat.slotA := by
  rw [after_eq, settled_slotA]; exact slotA_of_beyond (beyond_followUp s x)
@[simp] theorem wrote_slotB (o : Origin) (s x : State) : (wrote o s x).vat.slotB = x.vat.slotB := by
  rw [wrote_eq, answered_slotB]; exact slotB_of_beyond (beyond_followUp s x)
@[simp] theorem after_slotB (s x : State) : (after s x).vat.slotB = x.vat.slotB := by
  rw [after_eq, settled_slotB]; exact slotB_of_beyond (beyond_followUp s x)
@[simp] theorem wrote_busCode (o : Origin) (s x : State) : (wrote o s x).busCode = .ok := by rw [wrote_eq, answered_busCode]
@[simp] theorem wrote_busData (o : Origin) (s x : State) : (wrote o s x).busData = [] := by rw [wrote_eq, answered_busData]

end Sys2Proof.Machine
end

