-- ==== Sys2Proof/Laws/Exec.lean ====
section
/-! SUPPORT. Which meaning each command has: one lemma per constructor of `Instr`. -/

namespace Sys2Proof.Machine

@[simp] theorem exec_registerWrite (o : Origin) (a : BitVec 24) (v : Word) (s : State) : exec (.registerWrite o a v) s = execRegisterWrite o a v s := rfl
@[simp] theorem exec_w1cWrite (o : Origin) (a : BitVec 24) (v : Word) (s : State) : exec (.w1cWrite o a v) s = execW1cWrite o a v s := rfl
@[simp] theorem exec_rcRead (o : Origin) (a : BitVec 24) (s : State) : exec (.rcRead o a) s = execRcRead o a s := rfl
@[simp] theorem exec_acInputValid (s : State) : exec (.acInputValid) s = execAcInputValid s := rfl
@[simp] theorem exec_acInputInvalid (s : State) : exec (.acInputInvalid) s = execAcInputInvalid s := rfl
@[simp] theorem exec_poeInputValid (cls : PoeClass) (type events : Nat) (s : State) : exec (.poeInputValid cls type events) s = execPoeInputValid cls type events s := rfl
@[simp] theorem exec_poeInputInvalid (s : State) : exec (.poeInputInvalid) s = execPoeInputInvalid s := rfl
@[simp] theorem exec_brownout (s : State) : exec (.brownout) s = execBrownout s := rfl
@[simp] theorem exec_powerOnReset (s : State) : exec (.powerOnReset) s = execPowerOnReset s := rfl
@[simp] theorem exec_busPUpdate (p : Held) (s : State) : exec (.busPUpdate p) s = execBusPUpdate p s := rfl
@[simp] theorem exec_pwrShedHeat (s : State) : exec (.pwrShedHeat) s = execPwrShedHeat s := rfl
@[simp] theorem exec_pwrShedBoost (s : State) : exec (.pwrShedBoost) s = execPwrShedBoost s := rfl
@[simp] theorem exec_pwrEavesForced (s : State) : exec (.pwrEavesForced) s = execPwrEavesForced s := rfl
@[simp] theorem exec_boostReadmit (s : State) : exec (.boostReadmit) s = execBoostReadmit s := rfl
@[simp] theorem exec_heaterReadmit (s : State) : exec (.heaterReadmit) s = execHeaterReadmit s := rfl
@[simp] theorem exec_pwrGovWrite (o : Origin) (v : Word) (s : State) : exec (.pwrGovWrite o v) s = execPwrGovWrite o v s := rfl
@[simp] theorem exec_eavesRel (o : Origin) (s : State) : exec (.eavesRel o) s = execEavesRel o s := rfl
@[simp] theorem exec_htrOcClr (o : Origin) (s : State) : exec (.htrOcClr o) s = execHtrOcClr o s := rfl
@[simp] theorem exec_hsupOcClr (o : Origin) (s : State) : exec (.hsupOcClr o) s = execHsupOcClr o s := rfl
@[simp] theorem exec_pwrHtrWrite (o : Origin) (v : Word) (s : State) : exec (.pwrHtrWrite o v) s = execPwrHtrWrite o v s := rfl
@[simp] theorem exec_heaterPeriod (s : State) : exec (.heaterPeriod) s = execHeaterPeriod s := rfl
@[simp] theorem exec_heaterOnTimeEnd (m : Held) (s : State) : exec (.heaterOnTimeEnd m) s = execHeaterOnTimeEnd m s := rfl
@[simp] theorem exec_pwrHtrOc (s : State) : exec (.pwrHtrOc) s = execPwrHtrOc s := rfl
@[simp] theorem exec_pwrHsupOc (s : State) : exec (.pwrHsupOc) s = execPwrHsupOc s := rfl
@[simp] theorem exec_railPgLoss (rail : Fin 8) (s : State) : exec (.railPgLoss rail) s = execRailPgLoss rail s := rfl
@[simp] theorem exec_hbusOverload (s : State) : exec (.hbusOverload) s = execHbusOverload s := rfl
@[simp] theorem exec_hbusRetry (cleared : Bool) (s : State) : exec (.hbusRetry cleared) s = execHbusRetry cleared s := rfl
@[simp] theorem exec_clkSlipWarn (s : State) : exec (.clkSlipWarn) s = execClkSlipWarn s := rfl
@[simp] theorem exec_clkPllLoss (inRefresh : Bool) (s : State) : exec (.clkPllLoss inRefresh) s = execClkPllLoss inRefresh s := rfl
@[simp] theorem exec_clkXoFail (s : State) : exec (.clkXoFail) s = execClkXoFail s := rfl
@[simp] theorem exec_pllRelock (lockTime : Nat) (s : State) : exec (.pllRelock lockTime) s = execPllRelock lockTime s := rfl
@[simp] theorem exec_relockTimeout (s : State) : exec (.relockTimeout) s = execRelockTimeout s := rfl
@[simp] theorem exec_clockFailRecovery (s : State) : exec (.clockFailRecovery) s = execClockFailRecovery s := rfl
@[simp] theorem exec_eavesDivisorChange (s : State) : exec (.eavesDivisorChange) s = execEavesDivisorChange s := rfl
@[simp] theorem exec_clkSwForced (s : State) : exec (.clkSwForced) s = execClkSwForced s := rfl
@[simp] theorem exec_dramLostClear (o : Origin) (s : State) : exec (.dramLostClear o) s = execDramLostClear o s := rfl
@[simp] theorem exec_lfoMeasureStart (s : State) : exec (.lfoMeasureStart) s = execLfoMeasureStart s := rfl
@[simp] theorem exec_lfoMeasureDone (err : Int) (s : State) : exec (.lfoMeasureDone err) s = execLfoMeasureDone err s := rfl
@[simp] theorem exec_lfoMeasureTimeout (s : State) : exec (.lfoMeasureTimeout) s = execLfoMeasureTimeout s := rfl
@[simp] theorem exec_lfoRemeasure (s : State) : exec (.lfoRemeasure) s = execLfoRemeasure s := rfl
@[simp] theorem exec_supplyQualify (failed : Option (Fin 8)) (s : State) : exec (.supplyQualify failed) s = execSupplyQualify failed s := rfl
@[simp] theorem exec_crystalStart (amp : Nat) (s : State) : exec (.crystalStart amp) s = execCrystalStart amp s := rfl
@[simp] theorem exec_pllLock (lockTime : Nat) (phErr : Int) (s : State) : exec (.pllLock lockTime phErr) s = execPllLock lockTime phErr s := rfl
@[simp] theorem exec_dramTrainingDone (ok : Bool) (s : State) : exec (.dramTrainingDone ok) s = execDramTrainingDone ok s := rfl
@[simp] theorem exec_startStepDone (r : StepReport) (s : State) : exec (.startStepDone r) s = execStartStepDone r s := rfl
@[simp] theorem exec_startStepFail (bad answered : Nat) (s : State) : exec (.startStepFail bad answered) s = execStartStepFail bad answered s := rfl
@[simp] theorem exec_stepRetry (s : State) : exec (.stepRetry) s = execStepRetry s := rfl
@[simp] theorem exec_spotCheckDone (ms : List TrimMeas) (s : State) : exec (.spotCheckDone ms) s = execSpotCheckDone ms s := rfl
@[simp] theorem exec_initialCalibrationDone (ms : List TrimMeas) (s : State) : exec (.initialCalibrationDone ms) s = execInitialCalibrationDone ms s := rfl
@[simp] theorem exec_hostGo (o : Origin) (s : State) : exec (.hostGo o) s = execHostGo o s := rfl
@[simp] theorem exec_hostWaitExpiry (s : State) : exec (.hostWaitExpiry) s = execHostWaitExpiry s := rfl
@[simp] theorem exec_softReset (o : Origin) (s : State) : exec (.softReset o) s = execSoftReset o s := rfl
@[simp] theorem exec_resetNLow (s : State) : exec (.resetNLow) s = execResetNLow s := rfl
@[simp] theorem exec_resetNRise (s : State) : exec (.resetNRise) s = execResetNRise s := rfl
@[simp] theorem exec_startKick (o : Origin) (v : Word) (s : State) : exec (.startKick o v) s = execStartKick o v s := rfl
@[simp] theorem exec_hbHostLost (s : State) : exec (.hbHostLost) s = execHbHostLost s := rfl
@[simp] theorem exec_watchdogReset (s : State) : exec (.watchdogReset) s = execWatchdogReset s := rfl
@[simp] theorem exec_rindReq (o : Origin) (s : State) : exec (.rindReq o) s = execRindReq o s := rfl
@[simp] theorem exec_rindEntryComplete (s : State) : exec (.rindEntryComplete) s = execRindEntryComplete s := rfl
@[simp] theorem exec_rindWake (src : Fin 7) (s : State) : exec (.rindWake src) s = execRindWake src s := rfl
@[simp] theorem exec_rindTimerExpiry (s : State) : exec (.rindTimerExpiry) s = execRindTimerExpiry s := rfl
@[simp] theorem exec_journalCopyWritten (ok : Bool) (s : State) : exec (.journalCopyWritten ok) s = execJournalCopyWritten ok s := rfl
@[simp] theorem exec_norEraseDone (which : Fin 3) (s : State) : exec (.norEraseDone which) s = execNorEraseDone which s := rfl
@[simp] theorem exec_status (clocks : Nat) (s : State) : exec (.status clocks) s = execStatus clocks s := rfl
@[simp] theorem exec_read (tag : BitVec 4) (addr : BitVec 24) (clocks : Nat) (s : State) : exec (.read tag addr clocks) s = execRead tag addr clocks s := rfl
@[simp] theorem exec_write (tag : BitVec 4) (addr : BitVec 24) (data crc : Word) (clocks : Nat) (s : State) : exec (.write tag addr data crc clocks) s = execWrite tag addr data crc clocks s := rfl
@[simp] theorem exec_bulkRead (tag : BitVec 4) (addr : BitVec 24) (len : Word) (clocks : Nat) (s : State) : exec (.bulkRead tag addr len clocks) s = execBulkRead tag addr len clocks s := rfl
@[simp] theorem exec_bulkWrite (tag : BitVec 4) (addr : BitVec 24) (len : Word) (words : List Word) (clocks : Nat) (s : State) : exec (.bulkWrite tag addr len words clocks) s = execBulkWrite tag addr len words clocks s := rfl
@[simp] theorem exec_pageRead (tag : BitVec 4) (addr : BitVec 24) (len : Word) (clocks : Nat) (s : State) : exec (.pageRead tag addr len clocks) s = execPageRead tag addr len clocks s := rfl
@[simp] theorem exec_pageRelease (tag : BitVec 4) (addr : BitVec 24) (crc : Word) (clocks : Nat) (s : State) : exec (.pageRelease tag addr crc clocks) s = execPageRelease tag addr crc clocks s := rfl
@[simp] theorem exec_reservedOp (op tag : BitVec 4) (addr : BitVec 24) (clocks : Nat) (s : State) : exec (.reservedOp op tag addr clocks) s = execReservedOp op tag addr clocks s := rfl
@[simp] theorem exec_keyStageWrite (ws : List Word) (s : State) : exec (.keyStageWrite ws) s = execKeyStageWrite ws s := rfl
@[simp] theorem exec_keyImport (o : Origin) (slot : Fin 512) (alg : Fin 4) (s : State) : exec (.keyImport o slot alg) s = execKeyImport o slot alg s := rfl
@[simp] theorem exec_keyImportDone (s : State) : exec (.keyImportDone) s = execKeyImportDone s := rfl
@[simp] theorem exec_keyClear (o : Origin) (slot : Fin 512) (s : State) : exec (.keyClear o slot) s = execKeyClear o slot s := rfl
@[simp] theorem exec_keyLockSet (o : Origin) (s : State) : exec (.keyLockSet o) s = execKeyLockSet o s := rfl
@[simp] theorem exec_dispatch (s : State) : exec (.dispatch) s = execDispatch s := rfl
@[simp] theorem exec_vectorRead (o : Origin) (b : Bool) (s : State) : exec (.vectorRead o b) s = execVectorRead o b s := rfl
@[simp] theorem exec_pendClear (o : Origin) (m : Fin 16) (v : Word) (s : State) : exec (.pendClear o m v) s = execPendClear o m v s := rfl
@[simp] theorem exec_gutSrcWrite (o : Origin) (n : Fin 512) (v : Word) (s : State) : exec (.gutSrcWrite o n v) s = execGutSrcWrite o n v s := rfl
@[simp] theorem exec_stormRefill (n : Fin 512) (s : State) : exec (.stormRefill n) s = execStormRefill n s := rfl
@[simp] theorem exec_irqPulseEnd (s : State) : exec (.irqPulseEnd) s = execIrqPulseEnd s := rfl
@[simp] theorem exec_journalRecordWritten (ok : Bool) (s : State) : exec (.journalRecordWritten ok) s = execJournalRecordWritten ok s := rfl
@[simp] theorem exec_reportLine (s : State) : exec (.reportLine) s = execReportLine s := rfl
@[simp] theorem exec_alarmHandoff (s : State) : exec (.alarmHandoff) s = execAlarmHandoff s := rfl
@[simp] theorem exec_markerHandoff (s : State) : exec (.markerHandoff) s = execMarkerHandoff s := rfl
@[simp] theorem exec_add (t : Fin 8) (rd ra rb : Fin 16) (s : State) : exec (.add t rd ra rb) s = execAdd t rd ra rb s := rfl
@[simp] theorem exec_sub (t : Fin 8) (rd ra rb : Fin 16) (s : State) : exec (.sub t rd ra rb) s = execSub t rd ra rb s := rfl
@[simp] theorem exec_and (t : Fin 8) (rd ra rb : Fin 16) (s : State) : exec (.and t rd ra rb) s = execAnd t rd ra rb s := rfl
@[simp] theorem exec_or (t : Fin 8) (rd ra rb : Fin 16) (s : State) : exec (.or t rd ra rb) s = execOr t rd ra rb s := rfl
@[simp] theorem exec_xor (t : Fin 8) (rd ra rb : Fin 16) (s : State) : exec (.xor t rd ra rb) s = execXor t rd ra rb s := rfl
@[simp] theorem exec_sll (t : Fin 8) (rd ra rb : Fin 16) (s : State) : exec (.sll t rd ra rb) s = execSll t rd ra rb s := rfl
@[simp] theorem exec_srl (t : Fin 8) (rd ra rb : Fin 16) (s : State) : exec (.srl t rd ra rb) s = execSrl t rd ra rb s := rfl
@[simp] theorem exec_sra (t : Fin 8) (rd ra rb : Fin 16) (s : State) : exec (.sra t rd ra rb) s = execSra t rd ra rb s := rfl
@[simp] theorem exec_slt (t : Fin 8) (rd ra rb : Fin 16) (s : State) : exec (.slt t rd ra rb) s = execSlt t rd ra rb s := rfl
@[simp] theorem exec_sltu (t : Fin 8) (rd ra rb : Fin 16) (s : State) : exec (.sltu t rd ra rb) s = execSltu t rd ra rb s := rfl
@[simp] theorem exec_min (t : Fin 8) (rd ra rb : Fin 16) (s : State) : exec (.min t rd ra rb) s = execMin t rd ra rb s := rfl
@[simp] theorem exec_max (t : Fin 8) (rd ra rb : Fin 16) (s : State) : exec (.max t rd ra rb) s = execMax t rd ra rb s := rfl
@[simp] theorem exec_mul (t : Fin 8) (rd ra rb : Fin 16) (s : State) : exec (.mul t rd ra rb) s = execMul t rd ra rb s := rfl
@[simp] theorem exec_mulh (t : Fin 8) (rd ra rb : Fin 16) (s : State) : exec (.mulh t rd ra rb) s = execMulh t rd ra rb s := rfl
@[simp] theorem exec_addi (t : Fin 8) (rd ra : Fin 16) (imm : BitVec 18) (s : State) : exec (.addi t rd ra imm) s = execAddi t rd ra imm s := rfl
@[simp] theorem exec_andi (t : Fin 8) (rd ra : Fin 16) (imm : BitVec 18) (s : State) : exec (.andi t rd ra imm) s = execAndi t rd ra imm s := rfl
@[simp] theorem exec_ori (t : Fin 8) (rd ra : Fin 16) (imm : BitVec 18) (s : State) : exec (.ori t rd ra imm) s = execOri t rd ra imm s := rfl
@[simp] theorem exec_xori (t : Fin 8) (rd ra : Fin 16) (imm : BitVec 18) (s : State) : exec (.xori t rd ra imm) s = execXori t rd ra imm s := rfl
@[simp] theorem exec_slli (t : Fin 8) (rd ra : Fin 16) (imm : BitVec 18) (s : State) : exec (.slli t rd ra imm) s = execSlli t rd ra imm s := rfl
@[simp] theorem exec_srli (t : Fin 8) (rd ra : Fin 16) (imm : BitVec 18) (s : State) : exec (.srli t rd ra imm) s = execSrli t rd ra imm s := rfl
@[simp] theorem exec_srai (t : Fin 8) (rd ra : Fin 16) (imm : BitVec 18) (s : State) : exec (.srai t rd ra imm) s = execSrai t rd ra imm s := rfl
@[simp] theorem exec_slti (t : Fin 8) (rd ra : Fin 16) (imm : BitVec 18) (s : State) : exec (.slti t rd ra imm) s = execSlti t rd ra imm s := rfl
@[simp] theorem exec_lui (t : Fin 8) (rd : Fin 16) (imm22 : BitVec 22) (s : State) : exec (.lui t rd imm22) s = execLui t rd imm22 s := rfl
@[simp] theorem exec_ld (t : Fin 8) (rd ra : Fin 16) (imm : BitVec 18) (s : State) : exec (.ld t rd ra imm) s = execLd t rd ra imm s := rfl
@[simp] theorem exec_st (t : Fin 8) (rd ra : Fin 16) (imm : BitVec 18) (s : State) : exec (.st t rd ra imm) s = execSt t rd ra imm s := rfl
@[simp] theorem exec_amoadd (t : Fin 8) (rd ra rb : Fin 16) (s : State) : exec (.amoadd t rd ra rb) s = execAmoadd t rd ra rb s := rfl
@[simp] theorem exec_amoswap (t : Fin 8) (rd ra rb : Fin 16) (s : State) : exec (.amoswap t rd ra rb) s = execAmoswap t rd ra rb s := rfl
@[simp] theorem exec_halt (t : Fin 8) (s : State) : exec (.halt t) s = execHalt t s := rfl
@[simp] theorem exec_brk (t : Fin 8) (s : State) : exec (.brk t) s = execBreak t s := rfl
@[simp] theorem exec_rtt (t : Fin 8) (s : State) : exec (.rtt t) s = execRtt t s := rfl
@[simp] theorem exec_beq (t : Fin 8) (ra rb : Fin 16) (off : BitVec 18) (s : State) : exec (.beq t ra rb off) s = execBeq t ra rb off s := rfl
@[simp] theorem exec_bne (t : Fin 8) (ra rb : Fin 16) (off : BitVec 18) (s : State) : exec (.bne t ra rb off) s = execBne t ra rb off s := rfl
@[simp] theorem exec_blt (t : Fin 8) (ra rb : Fin 16) (off : BitVec 18) (s : State) : exec (.blt t ra rb off) s = execBlt t ra rb off s := rfl
@[simp] theorem exec_bge (t : Fin 8) (ra rb : Fin 16) (off : BitVec 18) (s : State) : exec (.bge t ra rb off) s = execBge t ra rb off s := rfl
@[simp] theorem exec_bltu (t : Fin 8) (ra rb : Fin 16) (off : BitVec 18) (s : State) : exec (.bltu t ra rb off) s = execBltu t ra rb off s := rfl
@[simp] theorem exec_bgeu (t : Fin 8) (ra rb : Fin 16) (off : BitVec 18) (s : State) : exec (.bgeu t ra rb off) s = execBgeu t ra rb off s := rfl
@[simp] theorem exec_jal (t : Fin 8) (rd : Fin 16) (target : BitVec 14) (s : State) : exec (.jal t rd target) s = execJal t rd target s := rfl
@[simp] theorem exec_jalr (t : Fin 8) (rd ra : Fin 16) (s : State) : exec (.jalr t rd ra) s = execJalr t rd ra s := rfl
@[simp] theorem exec_bcode (t : Fin 8) (off : BitVec 18) (s : State) : exec (.bcode t off) s = execBcode t off s := rfl
@[simp] theorem exec_spawn (t : Fin 8) (ra rb : Fin 16) (u : Fin 8) (s : State) : exec (.spawn t ra rb u) s = execSpawn t ra rb u s := rfl
@[simp] theorem exec_fnum (t : Fin 8) (rd ctx : Fin 16) (s : State) : exec (.fnum t rd ctx) s = execFnum t rd ctx s := rfl
@[simp] theorem exec_rdt (t : Fin 8) (rd : Fin 16) (sel : Fin 4) (s : State) : exec (.rdt t rd sel) s = execRdt t rd sel s := rfl
@[simp] theorem exec_get (t : Fin 8) (rd : Fin 16) (page : BitVec 8) (word14 : BitVec 14) (s : State) : exec (.get t rd page word14) s = execGet t rd page word14 s := rfl
@[simp] theorem exec_put (t : Fin 8) (rd : Fin 16) (page : BitVec 8) (word14 : BitVec 14) (s : State) : exec (.put t rd page word14) s = execPut t rd page word14 s := rfl
@[simp] theorem exec_getr (t : Fin 8) (rd ra : Fin 16) (s : State) : exec (.getr t rd ra) s = execGetr t rd ra s := rfl
@[simp] theorem exec_putr (t : Fin 8) (rd ra : Fin 16) (s : State) : exec (.putr t rd ra) s = execPutr t rd ra s := rfl
@[simp] theorem exec_code (t : Fin 8) (rd : Fin 16) (s : State) : exec (.code t rd) s = execCode t rd s := rfl
@[simp] theorem exec_wfrm (t : Fin 8) (rd ctx : Fin 16) (pt : Fin 4) (sticky : Bool) (s : State) : exec (.wfrm t rd ctx pt sticky) s = execWfrm t rd ctx pt sticky s := rfl
@[simp] theorem exec_wshg (t : Fin 8) (rd ctx : Fin 16) (s : State) : exec (.wshg t rd ctx) s = execWshg t rd ctx s := rfl
@[simp] theorem exec_wevt (t : Fin 8) (rd ra rb : Fin 16) (s : State) : exec (.wevt t rd ra rb) s = execWevt t rd ra rb s := rfl
@[simp] theorem exec_wevtTimeout (t : Fin 8) (s : State) : exec (.wevtTimeout t) s = execWevtTimeout t s := rfl
@[simp] theorem exec_tset (t : Fin 8) (ra : Fin 16) (periodic : Bool) (s : State) : exec (.tset t ra periodic) s = execTset t ra periodic s := rfl
@[simp] theorem exec_wtim (t : Fin 8) (rd : Fin 16) (s : State) : exec (.wtim t rd) s = execWtim t rd s := rfl
@[simp] theorem exec_threadTimerExpiry (t : Fin 8) (s : State) : exec (.threadTimerExpiry t) s = execThreadTimerExpiry t s := rfl
@[simp] theorem exec_yield (t : Fin 8) (s : State) : exec (.yield t) s = execYield t s := rfl
@[simp] theorem exec_csel (t : Fin 8) (ctx : Fin 16) (s : State) : exec (.csel t ctx) s = execCsel t ctx s := rfl
@[simp] theorem exec_commit (t : Fin 8) (ctx : Fin 16) (s : State) : exec (.commit t ctx) s = execCommit t ctx s := rfl
@[simp] theorem exec_fire (t : Fin 8) (ch : Fin 4) (prof : Fin 32) (s : State) : exec (.fire t ch prof) s = execFire t ch prof s := rfl
@[simp] theorem exec_hkt (t : Fin 8) (mask : BitVec 3) (s : State) : exec (.hkt t mask) s = execHkt t mask s := rfl
@[simp] theorem exec_bank (t : Fin 8) (tbl : BitVec 8) (s : State) : exec (.bank t tbl) s = execBank t tbl s := rfl
@[simp] theorem exec_anaq (t : Fin 8) (rd ctx : Fin 16) (sel : Fin 4) (s : State) : exec (.anaq t rd ctx sel) s = execAnaq t rd ctx sel s := rfl
@[simp] theorem exec_emit (t : Fin 8) (ra : Fin 16) (n : Fin 8) (s : State) : exec (.emit t ra n) s = execEmit t ra n s := rfl
@[simp] theorem exec_threadStart (o : Origin) (t : Fin 8) (pc : BitVec 14) (s : State) : exec (.threadStart o t pc) s = execThreadStart o t pc s := rfl
@[simp] theorem exec_threadStop (o : Origin) (t : Fin 8) (s : State) : exec (.threadStop o t) s = execThreadStop o t s := rfl
@[simp] theorem exec_threadResume (o : Origin) (t : Fin 8) (s : State) : exec (.threadResume o t) s = execThreadResume o t s := rfl
@[simp] theorem exec_threadStep (o : Origin) (t : Fin 8) (s : State) : exec (.threadStep o t) s = execThreadStep o t s := rfl
@[simp] theorem exec_vatRegWrite (o : Origin) (t : Fin 8) (r : Fin 16) (v : Word) (s : State) : exec (.vatRegWrite o t r v) s = execVatRegWrite o t r v s := rfl
@[simp] theorem exec_vatLoadWrite (ws : List Word) (s : State) : exec (.vatLoadWrite ws) s = execVatLoadWrite ws s := rfl
@[simp] theorem exec_check (o : Origin) (nor start : Bool) (s : State) : exec (.check o nor start) s = execCheck o nor start s := rfl
@[simp] theorem exec_recipeCheckDone (s : State) : exec (.recipeCheckDone) s = execRecipeCheckDone s := rfl
@[simp] theorem exec_stopall (o : Origin) (s : State) : exec (.stopall o) s = execStopall o s := rfl
@[simp] theorem exec_clear (o : Origin) (s : State) : exec (.clear o) s = execClear o s := rfl
@[simp] theorem exec_store (o : Origin) (s : State) : exec (.store o) s = execStore o s := rfl
@[simp] theorem exec_imageStoreDone (ok : Bool) (s : State) : exec (.imageStoreDone ok) s = execImageStoreDone ok s := rfl
@[simp] theorem exec_frameStart (p : StartPacket) (e : PacketErr) (s : State) : exec (.frameStart p e) s = execFrameStart p e s := rfl
@[simp] theorem exec_imageLine (p : LinePacket) (s : State) : exec (.imageLine p) s = execImageLine p s := rfl
@[simp] theorem exec_frameEnd (vc : Nat) (e : PacketErr) (y : Nat) (s : State) : exec (.frameEnd vc e y) s = execFrameEnd vc e y s := rfl
@[simp] theorem exec_intDtUnknown (vc : Nat) (dt : BitVec 6) (e : PacketErr) (s : State) : exec (.intDtUnknown vc dt e) s = execIntDtUnknown vc dt e s := rfl
@[simp] theorem exec_intVcUnmapped (vc : Nat) (e : PacketErr) (s : State) : exec (.intVcUnmapped vc e) s = execIntVcUnmapped vc e s := rfl
@[simp] theorem exec_deskewSequence (s : State) : exec (.deskewSequence) s = execDeskewSequence s := rfl
@[simp] theorem exec_intHeadLost (n : Fin 6) (s : State) : exec (.intHeadLost n) s = execIntHeadLost n s := rfl
@[simp] theorem exec_intLinkDown (s : State) : exec (.intLinkDown) s = execIntLinkDown s := rfl
@[simp] theorem exec_intHeadDisagree (n : Fin 6) (s : State) : exec (.intHeadDisagree n) s = execIntHeadDisagree n s := rfl
@[simp] theorem exec_telemetrySample (s : State) : exec (.telemetrySample) s = execTelemetrySample s := rfl
@[simp] theorem exec_contextEnable (o : Origin) (c : Fin 8) (prio : BitVec 3) (s : State) : exec (.contextEnable o c prio) s = execContextEnable o c prio s := rfl
@[simp] theorem exec_contextDisable (o : Origin) (c : Fin 8) (prio : BitVec 3) (s : State) : exec (.contextDisable o c prio) s = execContextDisable o c prio s := rfl
@[simp] theorem exec_intCommitWrite (o : Origin) (v : Word) (s : State) : exec (.intCommitWrite o v) s = execIntCommitWrite o v s := rfl
@[simp] theorem exec_runEnd (lat : Held) (s : State) : exec (.runEnd lat) s = execRunEnd lat s := rfl
@[simp] theorem exec_intHncfgWrite (o : Origin) (n : Fin 6) (v : Word) (s : State) : exec (.intHncfgWrite o n v) s = execIntHncfgWrite o n v s := rfl
@[simp] theorem exec_intLinkWrite (o : Origin) (v : Word) (s : State) : exec (.intLinkWrite o v) s = execIntLinkWrite o v s := rfl
@[simp] theorem exec_intMapWrite (o : Origin) (v : Word) (s : State) : exec (.intMapWrite o v) s = execIntMapWrite o v s := rfl
@[simp] theorem exec_biasWrite (o : Origin) (n : Fin 4) (iref : Bool) (v : Word) (s : State) : exec (.biasWrite o n iref v) s = execBiasWrite o n iref v s := rfl
@[simp] theorem exec_i2cPush (o : Origin) (v : Word) (s : State) : exec (.i2cPush o v) s = execI2cPush o v s := rfl
@[simp] theorem exec_i2cCommandDone (st : Fin 5) (rd : Word) (s : State) : exec (.i2cCommandDone st rd) s = execI2cCommandDone st rd s := rfl
@[simp] theorem exec_i2cResultRead (o : Origin) (s : State) : exec (.i2cResultRead o) s = execI2cResultRead o s := rfl
@[simp] theorem exec_play (o : Origin) (g : Fin 2) (s : State) : exec (.play o g) s = execPlay o g s := rfl
@[simp] theorem exec_generatorFrame (g : Fin 2) (s : State) : exec (.generatorFrame g) s = execGeneratorFrame g s := rfl
@[simp] theorem exec_xloadWrite (ws : List Word) (s : State) : exec (.xloadWrite ws) s = execXloadWrite ws s := rfl
@[simp] theorem exec_stagingOpen (o : Origin) (n : BitVec 8) (s : State) : exec (.stagingOpen o n) s = execStagingOpen o n s := rfl
@[simp] theorem exec_tblLoadWrite (ws : List Word) (s : State) : exec (.tblLoadWrite ws) s = execTblLoadWrite ws s := rfl
@[simp] theorem exec_load (o : Origin) (s : State) : exec (.load o) s = execLoad o s := rfl
@[simp] theorem exec_tableLoadDone (s : State) : exec (.tableLoadDone) s = execTableLoadDone s := rfl
@[simp] theorem exec_swap (o : Origin) (n : BitVec 8) (s : State) : exec (.swap o n) s = execSwap o n s := rfl
@[simp] theorem exec_discard (o : Origin) (s : State) : exec (.discard o) s = execDiscard o s := rfl
@[simp] theorem exec_retrain (o : Origin) (s : State) : exec (.retrain o) s = execRetrain o s := rfl
@[simp] theorem exec_retrainDone (ok : Bool) (s : State) : exec (.retrainDone ok) s = execRetrainDone ok s := rfl
@[simp] theorem exec_tableRead (n : Nat) (s : State) : exec (.tableRead n) s = execTableRead n s := rfl
@[simp] theorem exec_trimRefFault (s : State) : exec (.trimRefFault) s = execTrimRefFault s := rfl
@[simp] theorem exec_refFaultClear (s : State) : exec (.refFaultClear) s = execRefFaultClear s := rfl
@[simp] theorem exec_ripeningRound (ms : List TrimMeas) (s : State) : exec (.ripeningRound ms) s = execRipeningRound ms s := rfl
@[simp] theorem exec_trimDtTest (s : State) : exec (.trimDtTest) s = execTrimDtTest s := rfl
@[simp] theorem exec_trimFullDone (ms : List TrimMeas) (s : State) : exec (.trimFullDone ms) s = execTrimFullDone ms s := rfl
@[simp] theorem exec_trimStale (item : Fin 16) (s : State) : exec (.trimStale item) s = execTrimStale item s := rfl
@[simp] theorem exec_full (o : Origin) (s : State) : exec (.full o) s = execFull o s := rfl
@[simp] theorem exec_apply (o : Origin) (s : State) : exec (.apply o) s = execApply o s := rfl
@[simp] theorem exec_nominal (o : Origin) (s : State) : exec (.nominal o) s = execNominal o s := rfl
@[simp] theorem exec_abort (o : Origin) (s : State) : exec (.abort o) s = execAbort o s := rfl
@[simp] theorem exec_refTrimWrite (o : Origin) (item : Fin 16) (v : Word) (s : State) : exec (.refTrimWrite o item v) s = execRefTrimWrite o item v s := rfl
@[simp] theorem exec_refLoadWrite (ws : List Word) (s : State) : exec (.refLoadWrite ws) s = execRefLoadWrite ws s := rfl
@[simp] theorem exec_refSaveRead (s : State) : exec (.refSaveRead) s = execRefSaveRead s := rfl
@[simp] theorem exec_hkTrigcmd (o : Origin) (mask : BitVec 3) (s : State) : exec (.hkTrigcmd o mask) s = execHkTrigcmd o mask s := rfl
@[simp] theorem exec_hkPeriodTimer (j : Fin 3) (s : State) : exec (.hkPeriodTimer j) s = execHkPeriodTimer j s := rfl
@[simp] theorem exec_hkRunStart (j : Fin 3) (s : State) : exec (.hkRunStart j) s = execHkRunStart j s := rfl
@[simp] theorem exec_conversionComplete (j : Fin 3) (m : ConvMeas) (s : State) : exec (.conversionComplete j m) s = execConversionComplete j m s := rfl
@[simp] theorem exec_urgentRequest (ch : Fin 4) (s : State) : exec (.urgentRequest ch) s = execUrgentRequest ch s := rfl
@[simp] theorem exec_hkStale (n : Fin 32) (s : State) : exec (.hkStale n) s = execHkStale n s := rfl
@[simp] theorem exec_hkDiagStart (o : Origin) (n : Fin 32) (code : BitVec 10) (s : State) : exec (.hkDiagStart o n code) s = execHkDiagStart o n code s := rfl
@[simp] theorem exec_hkDiagStop (o : Origin) (n : Fin 32) (code : BitVec 10) (s : State) : exec (.hkDiagStop o n code) s = execHkDiagStop o n code s := rfl
@[simp] theorem exec_hkDiagEnd (s : State) : exec (.hkDiagEnd) s = execHkDiagEnd s := rfl
@[simp] theorem exec_hkTrigWrite (o : Origin) (j : Fin 3) (per : Bool) (v : Word) (s : State) : exec (.hkTrigWrite o j per v) s = execHkTrigWrite o j per v s := rfl
@[simp] theorem exec_startupSeqTrigger (raws : List Int) (m : HeatMeas) (s : State) : exec (.startupSeqTrigger raws m) s = execStartupSeqTrigger raws m s := rfl
@[simp] theorem exec_actCmdFire (o : Origin) (ch : Fin 4) (prof : Fin 32) (s : State) : exec (.actCmdFire o ch prof) s = execActCmdFire o ch prof s := rfl
@[simp] theorem exec_actCmdStop (o : Origin) (ch : Fin 4) (s : State) : exec (.actCmdStop o ch) s = execActCmdStop o ch s := rfl
@[simp] theorem exec_actCmdClear (o : Origin) (ch : Fin 4) (s : State) : exec (.actCmdClear o ch) s = execActCmdClear o ch s := rfl
@[simp] theorem exec_pwmPeriodStart (ch : Fin 4) (s : State) : exec (.pwmPeriodStart ch) s = execPwmPeriodStart ch s := rfl
@[simp] theorem exec_actDecayTo (ch : Fin 4) (s : State) : exec (.actDecayTo ch) s = execActDecayTo ch s := rfl
@[simp] theorem exec_actOc (ch : Fin 4) (s : State) : exec (.actOc ch) s = execActOc ch s := rfl
@[simp] theorem exec_actClamp (mv : Nat) (s : State) : exec (.actClamp mv) s = execActClamp mv s := rfl
@[simp] theorem exec_actPairWrite (o : Origin) (v : Word) (s : State) : exec (.actPairWrite o v) s = execActPairWrite o v s := rfl
@[simp] theorem exec_actCfgWrite (o : Origin) (ch : Option (Fin 4)) (v : Word) (s : State) : exec (.actCfgWrite o ch v) s = execActCfgWrite o ch v s := rfl
@[simp] theorem exec_prsGo (o : Origin) (n : Fin 4) (s : State) : exec (.prsGo o n) s = execPrsGo o n s := rfl
@[simp] theorem exec_sunTimer (n : Fin 4) (s : State) : exec (.sunTimer n) s = execSunTimer n s := rfl
@[simp] theorem exec_capture (o : Origin) (n : Fin 4) (s : State) : exec (.capture o n) s = execCapture o n s := rfl
@[simp] theorem exec_pressCaptureTimeout (s : State) : exec (.pressCaptureTimeout) s = execPressCaptureTimeout s := rfl
@[simp] theorem exec_cancel (o : Origin) (n : Fin 4) (s : State) : exec (.cancel o n) s = execCancel o n s := rfl
@[simp] theorem exec_sunRel (o : Origin) (n : Fin 4) (s : State) : exec (.sunRel o n) s = execSunRel o n s := rfl
@[simp] theorem exec_forget (o : Origin) (n : Fin 4) (s : State) : exec (.forget o n) s = execForget o n s := rfl
@[simp] theorem exec_agcBuildDone (c : Fin 8) (s : State) : exec (.agcBuildDone c) s = execAgcBuildDone c s := rfl
@[simp] theorem exec_rndWpub (o : Origin) (v : Word) (s : State) : exec (.rndWpub o v) s = execRndWpub o v s := rfl
@[simp] theorem exec_portEnable (o : Origin) (p : Fin 8) (v : Word) (s : State) : exec (.portEnable o p v) s = execPortEnable o p v s := rfl
@[simp] theorem exec_portDisable (o : Origin) (p : Fin 8) (v : Word) (s : State) : exec (.portDisable o p v) s = execPortDisable o p v s := rfl
@[simp] theorem exec_encoderStripeDone (len : Nat) (nals : List Nat) (s : State) : exec (.encoderStripeDone len nals) s = execEncoderStripeDone len nals s := rfl
@[simp] theorem exec_idr (o : Origin) (e : Fin 16) (s : State) : exec (.idr o e) s = execIdr o e s := rfl
@[simp] theorem exec_snap (o : Origin) (e : Fin 16) (s : State) : exec (.snap o e) s = execSnap o e s := rfl
@[simp] theorem exec_encRcWrite (o : Origin) (e : Fin 16) (v : Word) (s : State) : exec (.encRcWrite o e v) s = execEncRcWrite o e v s := rfl
@[simp] theorem exec_analysisResult (c : Fin 8) (s : State) : exec (.analysisResult c) s = execAnalysisResult c s := rfl
@[simp] theorem exec_analysisEnable (o : Origin) (c : Fin 8) (v : Word) (s : State) : exec (.analysisEnable o c v) s = execAnalysisEnable o c v s := rfl
@[simp] theorem exec_analysisDisable (o : Origin) (c : Fin 8) (v : Word) (s : State) : exec (.analysisDisable o c v) s = execAnalysisDisable o c v s := rfl
@[simp] theorem exec_homog (o : Origin) (c : Fin 8) (s : State) : exec (.homog o c) s = execHomog o c s := rfl
@[simp] theorem exec_zones (o : Origin) (c : Fin 8) (s : State) : exec (.zones o c) s = execZones o c s := rfl
@[simp] theorem exec_trackRead (n : Nat) (s : State) : exec (.trackRead n) s = execTrackRead n s := rfl
@[simp] theorem exec_heatUpdate (m : HeatMeas) (s : State) : exec (.heatUpdate m) s = execHeatUpdate m s := rfl
@[simp] theorem exec_heatAmbWrite (o : Origin) (v : Word) (s : State) : exec (.heatAmbWrite o v) s = execHeatAmbWrite o v s := rfl
@[simp] theorem exec_ambientStale (s : State) : exec (.ambientStale) s = execAmbientStale s := rfl
@[simp] theorem exec_heatEnforce (s : State) : exec (.heatEnforce) s = execHeatEnforce s := rfl
@[simp] theorem exec_heatRelease (s : State) : exec (.heatRelease) s = execHeatRelease s := rfl
@[simp] theorem exec_thermalRestart (s : State) : exec (.thermalRestart) s = execThermalRestart s := rfl
@[simp] theorem exec_ethernetFrame (p : Fin 3) (bytes : List Nat) (damaged : Bool) (s : State) : exec (.ethernetFrame p bytes damaged) s = execEthernetFrame p bytes damaged s := rfl
@[simp] theorem exec_swPtpSetlo (o : Origin) (v : Word) (s : State) : exec (.swPtpSetlo o v) s = execSwPtpSetlo o v s := rfl
@[simp] theorem exec_swPtpAdj (o : Origin) (v : Word) (s : State) : exec (.swPtpAdj o v) s = execSwPtpAdj o v s := rfl
@[simp] theorem exec_ptpTimeRead (o : Origin) (s : State) : exec (.ptpTimeRead o) s = execPtpTimeRead o s := rfl
@[simp] theorem exec_pdelayReq (s : State) : exec (.pdelayReq) s = execPdelayReq s := rfl
@[simp] theorem exec_swLinkUp (p : Fin 3) (g1000 : Bool) (s : State) : exec (.swLinkUp p g1000) s = execSwLinkUp p g1000 s := rfl
@[simp] theorem exec_swLinkDown (p : Fin 3) (s : State) : exec (.swLinkDown p) s = execSwLinkDown p s := rfl
@[simp] theorem exec_rollcall (p : Fin 2) (v : VFrame) (s : State) : exec (.rollcall p v) s = execRollcall p v s := rfl
@[simp] theorem exec_rcEntry (p : Fin 2) (v : VFrame) (s : State) : exec (.rcEntry p v) s = execRcEntry p v s := rfl
@[simp] theorem exec_rcEnd (p : Fin 2) (v : VFrame) (s : State) : exec (.rcEnd p v) s = execRcEnd p v s := rfl
@[simp] theorem exec_gossip (p : Fin 2) (v : VFrame) (s : State) : exec (.gossip p v) s = execGossip p v s := rfl
@[simp] theorem exec_beacon (p : Fin 2) (v : VFrame) (s : State) : exec (.beacon p v) s = execBeacon p v s := rfl
@[simp] theorem exec_alarm (p : Fin 2) (v : VFrame) (s : State) : exec (.alarm p v) s = execAlarm p v s := rfl
@[simp] theorem exec_hopAck (p : Fin 2) (v : VFrame) (s : State) : exec (.hopAck p v) s = execHopAck p v s := rfl
@[simp] theorem exec_linkEvt (p : Fin 2) (v : VFrame) (s : State) : exec (.linkEvt p v) s = execLinkEvt p v s := rfl
@[simp] theorem exec_ringCtl (p : Fin 2) (v : VFrame) (s : State) : exec (.ringCtl p v) s = execRingCtl p v s := rfl
@[simp] theorem exec_probe (p : Fin 2) (v : VFrame) (s : State) : exec (.probe p v) s = execProbe p v s := rfl
@[simp] theorem exec_buddyCtl (p : Fin 2) (v : VFrame) (s : State) : exec (.buddyCtl p v) s = execBuddyCtl p v s := rfl
@[simp] theorem exec_buddyData (p : Fin 2) (v : VFrame) (s : State) : exec (.buddyData p v) s = execBuddyData p v s := rfl
@[simp] theorem exec_hopAckTimeout (k : Nat) (s : State) : exec (.hopAckTimeout k) s = execHopAckTimeout k s := rfl
@[simp] theorem exec_alarmResend (k : Nat) (s : State) : exec (.alarmResend k) s = execAlarmResend k s := rfl
@[simp] theorem exec_probeTimer (p : Fin 2) (s : State) : exec (.probeTimer p) s = execProbeTimer p s := rfl
@[simp] theorem exec_gossipTimer (s : State) : exec (.gossipTimer) s = execGossipTimer s := rfl
@[simp] theorem exec_beaconTimer (s : State) : exec (.beaconTimer) s = execBeaconTimer s := rfl
@[simp] theorem exec_vlvUplinkLost (s : State) : exec (.vlvUplinkLost) s = execVlvUplinkLost s := rfl
@[simp] theorem exec_vlvDisagree (kind : Fin 4) (k : Nat) (s : State) : exec (.vlvDisagree kind k) s = execVlvDisagree kind k s := rfl
@[simp] theorem exec_velvaOnlyTimeout (p : Fin 2) (s : State) : exec (.velvaOnlyTimeout p) s = execVelvaOnlyTimeout p s := rfl
@[simp] theorem exec_autoRollcall (s : State) : exec (.autoRollcall) s = execAutoRollcall s := rfl
@[simp] theorem exec_rollcallTimeout (s : State) : exec (.rollcallTimeout) s = execRollcallTimeout s := rfl
@[simp] theorem exec_start (o : Origin) (s : State) : exec (.start o) s = execStart o s := rfl
@[simp] theorem exec_rcAbort (o : Origin) (s : State) : exec (.rcAbort o) s = execRcAbort o s := rfl
@[simp] theorem exec_forgetEntry (o : Origin) (k : BitVec 8) (s : State) : exec (.forgetEntry o k) s = execForgetEntry o k s := rfl
@[simp] theorem exec_forgetAll (o : Origin) (s : State) : exec (.forgetAll o) s = execForgetAll o s := rfl
@[simp] theorem exec_cntClr (o : Origin) (p : Fin 3) (s : State) : exec (.cntClr o p) s = execCntClr o p s := rfl
@[simp] theorem exec_tenMpub (o : Origin) (v : Word) (s : State) : exec (.tenMpub o v) s = execTenMpub o v s := rfl
@[simp] theorem exec_sesStageWrite (ws : List Word) (s : State) : exec (.sesStageWrite ws) s = execSesStageWrite ws s := rfl
@[simp] theorem exec_sesWrite (o : Origin) (s : State) : exec (.sesWrite o) s = execSesWrite o s := rfl
@[simp] theorem exec_sesOn (o : Origin) (s : State) : exec (.sesOn o) s = execSesOn o s := rfl
@[simp] theorem exec_sesOff (o : Origin) (s : State) : exec (.sesOff o) s = execSesOff o s := rfl
@[simp] theorem exec_sesClear (o : Origin) (s : State) : exec (.sesClear o) s = execSesClear o s := rfl
@[simp] theorem exec_packetSend (hp : Bool) (s : State) : exec (.packetSend hp) s = execPacketSend hp s := rfl
@[simp] theorem exec_egressTick (s : State) : exec (.egressTick) s = execEgressTick s := rfl
@[simp] theorem exec_sesStall (n : Fin 4096) (s : State) : exec (.sesStall n) s = execSesStall n s := rfl
@[simp] theorem exec_cardInsert (s : State) : exec (.cardInsert) s = execCardInsert s := rfl
@[simp] theorem exec_cardRemove (s : State) : exec (.cardRemove) s = execCardRemove s := rfl
@[simp] theorem exec_mediumOpenDone (m : Fin 2) (o : MediumOpen) (s : State) : exec (.mediumOpenDone m o) s = execMediumOpenDone m o s := rfl
@[simp] theorem exec_mediumCommandDone (m : Fin 2) (good write : Bool) (e : Fin 17) (s : State) : exec (.mediumCommandDone m good write e) s = execMediumCommandDone m good write e s := rfl
@[simp] theorem exec_format (o : Origin) (m : Fin 2) (s : State) : exec (.format o m) s = execFormat o m s := rfl
@[simp] theorem exec_cellarFormatDone (s : State) : exec (.cellarFormatDone) s = execCellarFormatDone s := rfl
@[simp] theorem exec_eject (o : Origin) (m : Fin 2) (s : State) : exec (.eject o m) s = execEject o m s := rfl
@[simp] theorem exec_attach (o : Origin) (m : Fin 2) (s : State) : exec (.attach o m) s = execAttach o m s := rfl
@[simp] theorem exec_unprotAll (o : Origin) (m : Fin 2) (s : State) : exec (.unprotAll o m) s = execUnprotAll o m s := rfl
@[simp] theorem exec_protect (o : Origin) (m : Fin 2) (w : BitVec 17) (s : State) : exec (.protect o m w) s = execProtect o m w s := rfl
@[simp] theorem exec_unprotect (o : Origin) (m : Fin 2) (w : BitVec 17) (s : State) : exec (.unprotect o m w) s = execUnprotect o m w s := rfl
@[simp] theorem exec_alarmTimeExpiry (s : State) : exec (.alarmTimeExpiry) s = execAlarmTimeExpiry s := rfl
@[simp] theorem exec_celRecStop (e : Fin 16) (s : State) : exec (.celRecStop e) s = execCelRecStop e s := rfl
@[simp] theorem exec_pageWritten (e : Fin 19) (s : State) : exec (.pageWritten e) s = execPageWritten e s := rfl
@[simp] theorem exec_buddyOpenTimeout (e : Fin 16) (s : State) : exec (.buddyOpenTimeout e) s = execBuddyOpenTimeout e s := rfl
@[simp] theorem exec_buddyRetry (e : Fin 16) (s : State) : exec (.buddyRetry e) s = execBuddyRetry e s := rfl
@[simp] theorem exec_celPfClose (n : Nat) (s : State) : exec (.celPfClose n) s = execCelPfClose n s := rfl
@[simp] theorem exec_wheelRepairDone (m : Fin 2) (good : Nat) (s : State) : exec (.wheelRepairDone m good) s = execWheelRepairDone m good s := rfl
@[simp] theorem exec_retStart (o : Origin) (s : State) : exec (.retStart o) s = execRetStart o s := rfl
@[simp] theorem exec_retStop (o : Origin) (s : State) : exec (.retStop o) s = execRetStop o s := rfl
@[simp] theorem exec_retrievalPageFilled (s : State) : exec (.retrievalPageFilled) s = execRetrievalPageFilled s := rfl
@[simp] theorem exec_celRetStall (s : State) : exec (.celRetStall) s = execCelRetStall s := rfl
@[simp] theorem exec_jobStart (o : Origin) (j : Fin 8) (s : State) : exec (.jobStart o j) s = execJobStart o j s := rfl
@[simp] theorem exec_jobStop (o : Origin) (j : Fin 8) (s : State) : exec (.jobStop o j) s = execJobStop o j s := rfl
@[simp] theorem exec_characterReceived (u : Fin 4) (samples : List Nat) (s : State) : exec (.characterReceived u samples) s = execCharacterReceived u samples s := rfl
@[simp] theorem exec_uartRxRead (o : Origin) (u : Fin 4) (s : State) : exec (.uartRxRead o u) s = execUartRxRead o u s := rfl
@[simp] theorem exec_uartRxwRead (u : Fin 4) (n : Nat) (s : State) : exec (.uartRxwRead u n) s = execUartRxwRead u n s := rfl
@[simp] theorem exec_uartTxWrite (o : Origin) (u : Fin 4) (v : Word) (s : State) : exec (.uartTxWrite o u v) s = execUartTxWrite o u v s := rfl
@[simp] theorem exec_uartTxwWrite (u : Fin 4) (ws : List Word) (s : State) : exec (.uartTxwWrite u ws) s = execUartTxwWrite u ws s := rfl
@[simp] theorem exec_characterSent (u : Fin 4) (s : State) : exec (.characterSent u) s = execCharacterSent u s := rfl
@[simp] theorem exec_deHoldEnd (u : Fin 4) (s : State) : exec (.deHoldEnd u) s = execDeHoldEnd u s := rfl
@[simp] theorem exec_turnEnd (u : Fin 4) (s : State) : exec (.turnEnd u) s = execTurnEnd u s := rfl
@[simp] theorem exec_abrArm (o : Origin) (u : Fin 4) (v : Word) (s : State) : exec (.abrArm o u v) s = execAbrArm o u v s := rfl
@[simp] theorem exec_autoBaudDone (u : Fin 4) (samples : List Nat) (t : Nat) (s : State) : exec (.autoBaudDone u samples t) s = execAutoBaudDone u samples t s := rfl
@[simp] theorem exec_idleTimeout (u : Fin 4) (s : State) : exec (.idleTimeout u) s = execIdleTimeout u s := rfl
@[simp] theorem exec_rxflush (o : Origin) (u : Fin 4) (s : State) : exec (.rxflush o u) s = execRxflush o u s := rfl
@[simp] theorem exec_txflush (o : Origin) (u : Fin 4) (s : State) : exec (.txflush o u) s = execTxflush o u s := rfl
@[simp] theorem exec_generatorLine (g : Fin 2) (s : State) : exec (.generatorLine g) s = execGeneratorLine g s := rfl
@[simp] theorem exec_pwmOffEdge (ch : Fin 4) (s : State) : exec (.pwmOffEdge ch) s = execPwmOffEdge ch s := rfl
@[simp] theorem exec_ripeningSlot (j : Fin 3) (s : State) : exec (.ripeningSlot j) s = execRipeningSlot j s := rfl
@[simp] theorem exec_dramRetrainingDone (s : State) : exec (.dramRetrainingDone) s = execDramRetrainingDone s := rfl
@[simp] theorem exec_observedReachableLost (p : Fin 2) (s : State) : exec (.observedReachableLost p) s = execObservedReachableLost p s := rfl
@[simp] theorem exec_alwaysOnSupplyLost (s : State) : exec (.alwaysOnSupplyLost) s = execAlwaysOnSupplyLost s := rfl
@[simp] theorem exec_chargerAtVset (reached : Bool) (s : State) : exec (.chargerAtVset reached) s = execChargerAtVset reached s := rfl

end Sys2Proof.Machine
end

