-- ==== Sys2Proof/Laws/Queue.lean ====
section
/-! SUPPORT. No operation of the model touches the queue of waiting commands: one lemma per operation, named after it. -/

set_option linter.unusedTactic false
set_option linter.unreachableTactic false
set_option linter.unusedSimpArgs false

namespace Sys2Proof.Machine
@[simp] theorem pending_foldl {α : Type} (f : State → α → State) (h : ∀ s x, (f s x).pending = s.pending) (l : List α) (s : State) :
    (l.foldl f s).pending = s.pending := by
  induction l generalizing s with
  | nil => rfl
  | cons a t ih => rw [List.foldl_cons, ih, h]
@[simp] theorem pending_ite (c : Prop) [Decidable c] (x y : State) : (if c then x else y).pending = if c then x.pending else y.pending := by
  split <;> rfl
@[simp] theorem snd_ite {α : Type} (c : Prop) [Decidable c] (x y : α × State) : (if c then x else y).2.pending = if c then x.2.pending else y.2.pending := by
  split <;> rfl
@[simp] theorem pending_access (o : Origin) (page : Nat) (f : State → State) (h : ∀ s, (f s).pending = s.pending) (s : State) :
    (access o page f s).pending = s.pending := by
  unfold access hostSeen
  (repeat' split) <;> first | rfl | exact h _
@[simp] theorem pending_onEach (n : Nat) (f : Nat → State → State) (h : ∀ c s, (f c s).pending = s.pending) (s : State) :
    (onEach n f s).pending = s.pending := pending_foldl _ (fun s c => h c s) _ _
@[simp] theorem pending_mapSlots (c : Nat) (f : Nat → Track → State → Option Track × State)
    (h : ∀ i t s, (f i t s).2.pending = s.pending) (s : State) : (mapSlots c f s).pending = s.pending := by
  unfold mapSlots
  refine pending_foldl _ (fun s i => ?_) _ _
  split
  · rfl
  · exact h _ _ _
@[simp] theorem pending_onHeat (f : Heat → Heat) (s : State) : (onHeat f s).pending = s.pending := rfl
/-- A rule whose effects leave the queue alone. -/
def WriteRule.Quiet (w : WriteRule) : Prop :=
  (∀ t, (w.app t).pending = t.pending) ∧ ∀ t, (w.rej t).pending = t.pending
/-- Every rule that an answer holds is quiet. -/
def QuietOpt (o : Option WriteRule) : Prop := ∀ w, o = some w → w.Quiet
theorem quiet_none : QuietOpt none := fun _ h => by cases h
theorem quiet_some {w : WriteRule} (ha : ∀ t, (w.app t).pending = t.pending) (hr : ∀ t, (w.rej t).pending = t.pending) :
    QuietOpt (some w) := fun _ h => by
  cases h
  exact ⟨ha, hr⟩
theorem id_pending (t : State) : (id t).pending = t.pending := rfl
theorem quiet_nil (a : Nat) : QuietOpt (([] : List (Nat × WriteRule)).lookup a) := quiet_none
theorem quiet_cons {a b : Nat} {x : WriteRule} {l : List (Nat × WriteRule)} (ha : ∀ t, (x.app t).pending = t.pending)
    (hr : ∀ t, (x.rej t).pending = t.pending) (hl : QuietOpt (l.lookup a)) : QuietOpt (((b, x) :: l).lookup a) := by
  rw [List.lookup_cons]
  split
  · exact quiet_some ha hr
  · exact hl
theorem quiet_orElse {x : Option WriteRule} {f : Unit → Option WriteRule} (hx : QuietOpt x) (hf : QuietOpt (f ())) :
    QuietOpt (x.orElse f) := by
  cases x with
  | none => exact hf
  | some w => exact hx
@[simp] theorem pending_heatReset (powerOn : Bool) (s : State) :
    (heatReset powerOn s).pending = s.pending := by
  rfl
@[simp] theorem pending_startFull (s : State) :
    (startFull s).pending = s.pending := by
  simp [startFull]
@[simp] theorem pending_pageFreed (s : State) :
    (pageFreed s).pending = s.pending := by
  rfl
@[simp] theorem pending_State_setReg (s : State) (a : Nat) (v : Word) :
    (State.setReg s a v).pending = s.pending := by
  rfl
@[simp] theorem pending_onSw (f : Switch → Switch) (s : State) :
    (onSw f s).pending = s.pending := by
  rfl
@[simp] theorem pending_State_draw (s : State) :
    (State.draw s).2.pending = s.pending := by
  rfl
@[simp] theorem pending_clearStaging (s : State) :
    (clearStaging s).pending = s.pending := by
  rfl
@[simp] theorem pending_celReset (s : State) :
    (celReset s).pending = s.pending := by
  rfl
@[simp] theorem pending_onVlv (f : Velva → Velva) (s : State) :
    (onVlv f s).pending = s.pending := by
  rfl
@[simp] theorem pending_judgeOver (s : State) :
    (judgeOver s).pending = s.pending := by
  simp [judgeOver]
@[simp] theorem pending_setWake (n : Nat) (s : State) :
    (setWake n s).pending = s.pending := by
  rfl
@[simp] theorem pending_State_setCw (s : State) (a : Nat) (v : Word) :
    (State.setCw s a v).pending = s.pending := by
  rfl
@[simp] theorem pending_trimsKept (s : State) :
    (trimsKept s).pending = s.pending := by
  rfl
@[simp] theorem pending_onRnd (c : Nat) (f : Rnd → Rnd) (s : State) :
    (onRnd c f s).pending = s.pending := by
  rfl

@[simp] theorem pending_settle (s : State) :
    (settle s).pending = s.pending := by
  rfl
@[simp] theorem pending_refreshed (i : Nat) (s : State) :
    (refreshed i s).pending = s.pending := by
  rfl
@[simp] theorem pending_onHead (n : Nat) (f : Head → Head) (s : State) :
    (onHead n f s).pending = s.pending := by
  rfl
@[simp] theorem pending_rindWake (src : Nat) (s : State) :
    (rindWake src s).pending = s.pending := by
  simp [rindWake]
@[simp] theorem pending_State_setSrc (s : State) (n : Nat) (x : SrcState) :
    (State.setSrc s n x).pending = s.pending := by
  rfl
@[simp] theorem pending_hkSettles (n : Nat) (s : State) :
    (hkSettles n s).pending = s.pending := by
  rfl
@[simp] theorem pending_onThread (t : Nat) (f : Thread → Thread) (s : State) :
    (onThread t f s).pending = s.pending := by
  rfl

@[simp] theorem pending_onNuc (c : Nat) (f : Nuc → Nuc) (s : State) :
    (onNuc c f s).pending = s.pending := by
  rfl
@[simp] theorem pending_swReset (s : State) :
    (swReset s).pending = s.pending := by
  rfl
@[simp] theorem pending_busSample (v : Nat) (i : Nat) (s : State) :
    (busSample v i s).pending = s.pending := by
  rfl
@[simp] theorem pending_heaterSample (ma : Nat) (s : State) :
    (heaterSample ma s).pending = s.pending := by
  simp [heaterSample]
@[simp] theorem pending_onCtx (c : Nat) (f : Ctx → Ctx) (s : State) :
    (onCtx c f s).pending = s.pending := by
  rfl
@[simp] theorem pending_onCel (f : Cellar → Cellar) (s : State) :
    (onCel f s).pending = s.pending := by
  rfl
@[simp] theorem pending_awaitRetry (s : State) :
    (awaitRetry s).pending = s.pending := by
  rfl
@[simp] theorem pending_trimSourceCal (s : State) :
    (trimSourceCal s).pending = s.pending := by
  rfl
@[simp] theorem pending_hostSeen (s : State) :
    (hostSeen s).pending = s.pending := by
  rfl
@[simp] theorem pending_onChan (n : Nat) (f : Chan → Chan) (s : State) :
    (onChan n f s).pending = s.pending := by
  rfl
@[simp] theorem pending_recordTrigger (k : Nat) (s : State) :
    (recordTrigger k s).pending = s.pending := by
  simp [recordTrigger]
@[simp] theorem pending_dropUnbegun (p : Nat) (s : State) :
    (dropUnbegun p s).pending = s.pending := by
  rfl
@[simp] theorem pending_onAna (c : Nat) (f : Ana → Ana) (s : State) :
    (onAna c f s).pending = s.pending := by
  rfl
@[simp] theorem pending_egrReset (s : State) :
    (egrReset s).pending = s.pending := by
  rfl
@[simp] theorem pending_rateChanges (s : State) :
    (rateChanges s).pending = s.pending := by
  rfl
@[simp] theorem pending_setDm (w : Nat) (v : Word) (s : State) :
    (setDm w v s).pending = s.pending := by
  rfl
@[simp] theorem pending_onSer (u : Nat) (f : Uart → Uart) (s : State) :
    (onSer u f s).pending = s.pending := by
  rfl
@[simp] theorem pending_onEnc (e : Nat) (f : EncChan → EncChan) (s : State) :
    (onEnc e f s).pending = s.pending := by
  rfl
@[simp] theorem pending_tablesReset (s : State) :
    (tablesReset s).pending = s.pending := by
  rfl
@[simp] theorem pending_rndDiscard (s : State) :
    (rndDiscard s).pending = s.pending := by
  rfl
@[simp] theorem pending_trimsLost (s : State) :
    (trimsLost s).pending = s.pending := by
  rfl
@[simp] theorem pending_startStore (s : State) :
    (startStore s).pending = s.pending := by
  rfl
@[simp] theorem pending_onTrims (f : Trims → Trims) (s : State) :
    (onTrims f s).pending = s.pending := by
  rfl
@[simp] theorem pending_journalLost (s : State) :
    (journalLost s).pending = s.pending := by
  rfl
@[simp] theorem pending_hsupFollow (s : State) :
    (hsupFollow s).pending = s.pending := by
  simp [hsupFollow]
@[simp] theorem pending_startOp (id : Nat) (arg : Nat) (s : State) :
    (startOp id arg s).pending = s.pending := by
  rfl
@[simp] theorem pending_startCheck (v : Word) (s : State) :
    (startCheck v s).pending = s.pending := by
  rfl
@[simp] theorem pending_deskewSeen (s : State) :
    (deskewSeen s).pending = s.pending := by
  rfl
@[simp] theorem pending_writeRing (c : Nat) (fn : Nat) (rec : List Word) (s : State) :
    (writeRing c fn rec s).pending = s.pending := by
  rfl
@[simp] theorem pending_portsHeld (s : State) :
    (portsHeld s).pending = s.pending := by
  rfl
@[simp] theorem pending_rearm (ns : List Nat) (before : State) (s : State) :
    (rearm ns before s).pending = s.pending := by
  rfl
@[simp] theorem pending_onEntry (f : JEntry → JEntry) (s : State) :
    (onEntry f s).pending = s.pending := by
  rfl
@[simp] theorem pending_onPress (n : Nat) (f : Press → Press) (s : State) :
    (onPress n f s).pending = s.pending := by
  rfl
@[simp] theorem pending_clearThreads (s : State) :
    (clearThreads s).pending = s.pending := by
  rfl
@[simp] theorem pending_onGen (g : Nat) (f : XGen → XGen) (s : State) :
    (onGen g f s).pending = s.pending := by
  rfl
@[simp] theorem pending_recordCut (trig : Nat × Int) (prog : Bool) (us : Nat) (ok : Bool) (use : Bool) (s : State) :
    (recordCut trig prog us ok use s).pending = s.pending := by
  rfl
@[simp] theorem pending_onTable (n : Nat) (f : Table → Table) (s : State) :
    (onTable n f s).pending = s.pending := by
  rfl
@[simp] theorem pending_setPtp (t : Int) (s : State) :
    (setPtp t s).pending = s.pending := by
  rfl
@[simp] theorem pending_newEntry (retry : Bool) (cause : Nat) (entry : Nat) (s : State) :
    (newEntry retry cause entry s).pending = s.pending := by
  rfl
@[simp] theorem pending_State_mapClk (s : State) (f : Clock → Clock) :
    (State.mapClk s f).pending = s.pending := by
  rfl
@[simp] theorem pending_setStep (n : Nat) (s : State) :
    (setStep n s).pending = s.pending := by
  rfl
@[simp] theorem pending_onEgr (f : Egress → Egress) (s : State) :
    (onEgr f s).pending = s.pending := by
  rfl
@[simp] theorem pending_onPort (p : Nat) (f : Port → Port) (s : State) :
    (onPort p f s).pending = s.pending := by
  rfl
@[simp] theorem pending_releaseEaves (s : State) :
    (releaseEaves s).pending = s.pending := by
  simp [releaseEaves]
@[simp] theorem pending_agesRestart (s : State) :
    (agesRestart s).pending = s.pending := by
  rfl
@[simp] theorem pending_ringErased (s : State) :
    (ringErased s).pending = s.pending := by
  unfold ringErased; split <;> simp
@[simp] theorem pending_endForcedEaves (s : State) :
    (endForcedEaves s).pending = s.pending := by
  rfl
@[simp] theorem pending_onConv (j : Nat) (f : HkConv → HkConv) (s : State) :
    (onConv j f s).pending = s.pending := by
  rfl
@[simp] theorem pending_i2cTake (m : Nat) (s : State) :
    (i2cTake m s).pending = s.pending := by
  unfold i2cTake; split <;> simp
@[simp] theorem pending_onDnr (c : Nat) (f : Dnr → Dnr) (s : State) :
    (onDnr c f s).pending = s.pending := by
  rfl
@[simp] theorem pending_startRun (s : State) :
    (startRun s).pending = s.pending := by
  unfold startRun; (repeat' split) <;> simp
@[simp] theorem pending_onFrame (c : Nat) (fn : Nat) (f : Frame → Frame) (s : State) :
    (onFrame c fn f s).pending = s.pending := by
  rfl
@[simp] theorem pending_rcZero (a : Nat) (r : Reg) (s : State) :
    (rcZero a r s).pending = s.pending := by
  rfl
@[simp] theorem pending_markStep (n : Nat) (r : Nat) (s : State) :
    (markStep n r s).pending = s.pending := by
  rfl
@[simp] theorem pending_summaryTaken (n : Nat) (data : Word) (s : State) :
    (summaryTaken n data s).pending = s.pending := by
  rfl
@[simp] theorem pending_pressFired (ch : Nat) (pf : Nat) (s : State) :
    (pressFired ch pf s).pending = s.pending := by
  simp [pressFired]
@[simp] theorem pending_vGo (t : Nat) (pc : Nat) (s : State) :
    (vGo t pc s).pending = s.pending := by
  rfl
@[simp] theorem pending_swOff (s : State) :
    (swOff s).pending = s.pending := by
  rfl
@[simp] theorem pending_stopThread (t : Nat) (s : State) :
    (stopThread t s).pending = s.pending := by
  rfl
@[simp] theorem pending_pressFrameBroke (n : Nat) (fn : Nat) (s : State) :
    (pressFrameBroke n fn s).pending = s.pending := by
  rfl
@[simp] theorem pending_dueWithdrawn (n : Nat) (s : State) :
    (dueWithdrawn n s).pending = s.pending := by
  simp [dueWithdrawn]
@[simp] theorem pending_leaveGroup (p : Nat) (mac : Nat) (s : State) :
    (leaveGroup p mac s).pending = s.pending := by
  unfold leaveGroup; split <;> simp
@[simp] theorem pending_ringPrune (e : Nat) (s : State) :
    (ringPrune e s).pending = s.pending := by
  rfl
@[simp] theorem pending_indexEmpty (slot : Nat) (s : State) :
    (indexEmpty slot s).pending = s.pending := by
  rfl
@[simp] theorem pending_sesClear (n : Nat) (s : State) :
    (sesClear n s).pending = s.pending := by
  rfl
@[simp] theorem pending_hkCounted (j : Nat) (ovr : Bool) (s : State) :
    (hkCounted j ovr s).pending = s.pending := by
  rfl
@[simp] theorem pending_serHoldEnd (u : Nat) (s : State) :
    (serHoldEnd u s).pending = s.pending := by
  simp [serHoldEnd]
@[simp] theorem pending_serPop (u : Nat) (n : Nat) (s : State) :
    (serPop u n s).pending = s.pending := by
  rfl
@[simp] theorem pending_onRet (f : RetJob → RetJob) (s : State) :
    (onRet f s).pending = s.pending := by
  rfl
@[simp] theorem pending_clearLatches (n : Nat) (s : State) :
    (clearLatches n s).pending = s.pending := by
  rfl
@[simp] theorem pending_egrCleared (s : State) :
    (egrCleared s).pending = s.pending := by
  rfl
@[simp] theorem pending_applyRegs (as : List Nat) (s : State) :
    (applyRegs as s).pending = s.pending := by
  simp [applyRegs]
@[simp] theorem pending_hkIdleCounted (j : Nat) (s : State) :
    (hkIdleCounted j s).pending = s.pending := by
  rfl
@[simp] theorem pending_armCommits (v : Word) (s : State) :
    (armCommits v s).pending = s.pending := by
  simp [armCommits]
@[simp] theorem pending_advance (dt : Nat) (s : State) :
    (advance dt s).pending = s.pending := by
  rfl
@[simp] theorem pending_holdStart (s : State) :
    (holdStart s).pending = s.pending := by
  rfl
@[simp] theorem pending_encReady (e : Nat) (fn : Nat) (s : State) :
    (encReady e fn s).pending = s.pending := by
  rfl
@[simp] theorem pending_dnrPressStart (c : Nat) (fn : Nat) (press : Bool) (s : State) :
    (dnrPressStart c fn press s).pending = s.pending := by
  rfl
@[simp] theorem pending_agcRestart (c : Nat) (s : State) :
    (agcRestart c s).pending = s.pending := by
  rfl
@[simp] theorem pending_onSes (n : Nat) (f : Session → Session) (s : State) :
    (onSes n f s).pending = s.pending := by
  rfl
@[simp] theorem pending_storeOverlay (c : Nat) (f : Frame) (r : RndOut) (s : State) :
    (storeOverlay c f r s).pending = s.pending := by
  simp [storeOverlay]
@[simp] theorem pending_drawn (a : Nat) (s : State) :
    (drawn a s).pending = s.pending := by
  simp [drawn]
@[simp] theorem pending_nextSeq (ty : Nat) (s : State) :
    (nextSeq ty s).2.pending = s.pending := by
  rfl
@[simp] theorem pending_vWait (t : Nat) (w : VWait) (s : State) :
    (vWait t w s).pending = s.pending := by
  rfl
@[simp] theorem pending_State_setFld (s : State) (a : Nat) (hi : Nat) (lo : Nat) (v : Nat) :
    (State.setFld s a hi lo v).pending = s.pending := by
  rfl
@[simp] theorem pending_anaPublish (c : Nat) (s : State) :
    (anaPublish c s).pending = s.pending := by
  simp [anaPublish]
@[simp] theorem pending_cutErase (s : State) :
    (cutErase s).pending = s.pending := by
  rfl
@[simp] theorem pending_ptpTick (s : State) :
    (ptpTick s).pending = s.pending := by
  rfl
@[simp] theorem pending_nodesFromDiode (s : State) :
    (nodesFromDiode s).pending = s.pending := by
  unfold nodesFromDiode; split <;> simp
@[simp] theorem pending_serStart (u : Nat) (s : State) :
    (serStart u s).pending = s.pending := by
  unfold serStart; dsimp only; (repeat' split) <;> simp
@[simp] theorem pending_anaDisable (c : Nat) (s : State) :
    (anaDisable c s).pending = s.pending := by
  rfl
@[simp] theorem pending_trimsDropped (s : State) :
    (trimsDropped s).pending = s.pending := by
  rfl
theorem pending_applyWrite (r : Reg) (a : Nat) (v : Word) (w : WriteRule) (h : w.Quiet) (s : State) :
    (applyWrite r a v w s).pending = s.pending := by
  unfold applyWrite
  rw [h.1]
  split <;> rfl
@[simp] theorem pending_ptpStops (s : State) :
    (ptpStops s).pending = s.pending := by
  rfl
@[simp] theorem pending_disFollow (n : Nat) (s : State) :
    (disFollow n s).pending = s.pending := by
  simp [disFollow]
@[simp] theorem pending_diodeFollow (s : State) :
    (diodeFollow s).pending = s.pending := by
  unfold diodeFollow; split <;> simp
@[simp] theorem pending_markBroken (c : Nat) (fn : Nat) (s : State) :
    (markBroken c fn s).pending = s.pending := by
  unfold markBroken; split <;> simp
@[simp] theorem pending_clearVat (s : State) :
    (clearVat s).pending = s.pending := by
  rfl
@[simp] theorem pending_heatHandOver (s : State) :
    (heatHandOver s).pending = s.pending := by
  rfl
@[simp] theorem pending_refFaultClear (s : State) :
    (refFaultClear s).pending = s.pending := by
  simp [refFaultClear]
@[simp] theorem pending_hostOffer (j : HostJob) (s : State) :
    (hostOffer j s).pending = s.pending := by
  simp [hostOffer]
@[simp] theorem pending_retryFrom (step : Nat) (s : State) :
    (retryFrom step s).pending = s.pending := by
  rfl
@[simp] theorem pending_dnrForget (c : Nat) (s : State) :
    (dnrForget c s).pending = s.pending := by
  rfl
@[simp] theorem pending_onTen (t : Nat) (f : Tenant → Tenant) (s : State) :
    (onTen t f s).pending = s.pending := by
  rfl
@[simp] theorem pending_State_atBus (o : Origin) (s : State) :
    (State.atBus o s).pending = s.pending := by
  unfold State.atBus; split <;> simp
@[simp] theorem pending_sampleSubstrate (s : State) :
    (sampleSubstrate s).pending = s.pending := by
  simp [sampleSubstrate]
@[simp] theorem pending_trimNow (i : Nat) (w : Word) (s : State) :
    (trimNow i w s).pending = s.pending := by
  rfl
@[simp] theorem pending_installImage (g : Nat → Word) (origin : Nat) (s : State) :
    (installImage g origin s).pending = s.pending := by
  simp [installImage]
@[simp] theorem pending_swDown (s : State) :
    (swDown s).pending = s.pending := by
  rfl
@[simp] theorem pending_hkSlotDue (j : Nat) (s : State) :
    (hkSlotDue j s).pending = s.pending := by
  simp [hkSlotDue]
@[simp] theorem pending_ripeningSlot (j : Nat) (s : State) :
    (ripeningSlot j s).pending = s.pending := by
  simp [ripeningSlot]
@[simp] theorem pending_setFallback (v : Nat) (s : State) :
    (setFallback v s).pending = s.pending := by
  rfl
@[simp] theorem pending_sesWriteEntry (n : Nat) (s : State) :
    (sesWriteEntry n s).pending = s.pending := by
  unfold sesWriteEntry; split <;> simp
@[simp] theorem pending_keepDup (v : VFrame) (s : State) :
    (keepDup v s).pending = s.pending := by
  rfl
@[simp] theorem pending_dropPressBank (n : Nat) (s : State) :
    (dropPressBank n s).pending = s.pending := by
  unfold dropPressBank; split <;> simp
@[simp] theorem pending_setNominal (i : Nat) (b : Bool) (s : State) :
    (setNominal i b s).pending = s.pending := by
  rfl
@[simp] theorem pending_ringsLost (s : State) :
    (ringsLost s).pending = s.pending := by
  simp [ringsLost]
@[simp] theorem pending_judgeDisagreement (s : State) :
    (judgeDisagreement s).pending = s.pending := by
  unfold judgeDisagreement; split <;> simp
@[simp] theorem pending_onMed (m : Nat) (f : Medium → Medium) (s : State) :
    (onMed m f s).pending = s.pending := by
  rfl
@[simp] theorem pending_trimDtTest (tNow : Nat) (s : State) :
    (trimDtTest tNow s).pending = s.pending := by
  simp [trimDtTest]
@[simp] theorem pending_trigApplies (j : Nat) (s : State) :
    (trigApplies j s).pending = s.pending := by
  rfl
@[simp] theorem pending_velvaReset (s : State) :
    (velvaReset s).pending = s.pending := by
  rfl
@[simp] theorem pending_pressForget (n : Nat) (s : State) :
    (pressForget n s).pending = s.pending := by
  rfl
@[simp] theorem pending_refAwaited (c : Nat) (s : State) :
    (refAwaited c s).pending = s.pending := by
  simp [refAwaited]
@[simp] theorem pending_closeStaging (b : Bank) (held : Bool) (s : State) :
    (closeStaging b held s).pending = s.pending := by
  rfl
@[simp] theorem pending_celPowerFail (s : State) :
    (celPowerFail s).pending = s.pending := by
  rfl
@[simp] theorem pending_onJob (j : Nat) (f : NetJob → NetJob) (s : State) :
    (onJob j f s).pending = s.pending := by
  rfl
@[simp] theorem pending_openStaging (n : Nat) (s : State) :
    (openStaging n s).pending = s.pending := by
  rfl
@[simp] theorem pending_encForceIdr (s : State) :
    (encForceIdr s).pending = s.pending := by
  simp [encForceIdr]
@[simp] theorem pending_agcBuilt (c : Nat) (s : State) :
    (agcBuilt c s).pending = s.pending := by
  rfl
@[simp] theorem pending_onSwPort (p : Nat) (f : SwPort → SwPort) (s : State) :
    (onSwPort p f s).pending = s.pending := by
  rfl
@[simp] theorem pending_tablesLost (s : State) :
    (tablesLost s).pending = s.pending := by
  rfl
@[simp] theorem pending_loadImageWords (ws : List Word) (s : State) :
    (loadImageWords ws s).pending = s.pending := by
  simp [loadImageWords]
@[simp] theorem pending_tblLoad (ws : List Word) (s : State) :
    (tblLoad ws s).pending = s.pending := by
  rfl
@[simp] theorem pending_joinGroup (p : Nat) (mac : Nat) (s : State) :
    (joinGroup p mac s).pending = s.pending := by
  unfold joinGroup; split <;> simp
@[simp] theorem pending_heatWake (s : State) :
    (heatWake s).pending = s.pending := by
  rfl
@[simp] theorem pending_correct1588 (p : Nat) (f : QFrame) (s : State) :
    (correct1588 p f s).2.pending = s.pending := by
  unfold correct1588; dsimp only; (repeat' split) <;> simp
@[simp] theorem pending_retireTable (n : Nat) (s : State) :
    (retireTable n s).pending = s.pending := by
  simp [retireTable]
@[simp] theorem pending_onStrm (e : Nat) (f : CelStream → CelStream) (s : State) :
    (onStrm e f s).pending = s.pending := by
  rfl
@[simp] theorem pending_clearCount (t : Nat) (k : Nat) (s : State) :
    (clearCount t k s).pending = s.pending := by
  rfl
@[simp] theorem pending_setV (t : Nat) (r : Nat) (v : Word) (s : State) :
    (setV t r v s).pending = s.pending := by
  simp [setV]
@[simp] theorem pending_tsTake (n : Nat) (s : State) :
    (tsTake n s).pending = s.pending := by
  rfl
@[simp] theorem pending_nucSwapped (k : Nat) (s : State) :
    (nucSwapped k s).pending = s.pending := by
  simp [nucSwapped]
@[simp] theorem pending_flushMacs (s : State) :
    (flushMacs s).pending = s.pending := by
  rfl
@[simp] theorem pending_requestIdr (e : Nat) (s : State) :
    (requestIdr e s).pending = s.pending := by
  simp [requestIdr]
@[simp] theorem pending_reuseJump (m : Nat) (k : Nat) (s : State) :
    (reuseJump m k s).pending = s.pending := by
  simp [reuseJump]
@[simp] theorem pending_biasApply (n : Nat) (s : State) :
    (biasApply n s).pending = s.pending := by
  rfl
@[simp] theorem pending_refAwaitedAll (s : State) :
    (refAwaitedAll s).pending = s.pending := by
  rfl
@[simp] theorem pending_swapBank (n : Nat) (k : Nat) (s : State) :
    (swapBank n k s).pending = s.pending := by
  simp [swapBank]
@[simp] theorem pending_ringCtl (closed : Bool) (search : Nat) (s : State) :
    (ringCtl closed search s).pending = s.pending := by
  rfl
@[simp] theorem pending_loadDone (s : State) :
    (loadDone s).2.pending = s.pending := by
  simp [loadDone]
@[simp] theorem pending_retain (c : Nat) (s : State) :
    (retain c s).pending = s.pending := by
  simp [retain]
@[simp] theorem pending_peakBacklog (s : State) :
    (peakBacklog s).pending = s.pending := by
  rfl
@[simp] theorem pending_tctl (t : Nat) (cmd : Nat) (pc : Nat) (s : State) :
    (tctl t cmd pc s).pending = s.pending := by
  unfold tctl; split <;> simp
@[simp] theorem pending_applyRecord1588 (p : Nat) (mac : Nat → Nat) (r : Nat × Bool × Nat) (s : State) :
    (applyRecord1588 p mac r s).pending = s.pending := by
  simp [applyRecord1588]
@[simp] theorem pending_retStart (s : State) :
    (retStart s).pending = s.pending := by
  rfl
@[simp] theorem pending_serPush (u : Nat) (cs : List Nat) (s : State) :
    (serPush u cs s).pending = s.pending := by
  simp [serPush]
@[simp] theorem pending_dramLostCleared (before : State) (s : State) :
    (dramLostCleared before s).pending = s.pending := by
  simp [dramLostCleared]
@[simp] theorem pending_setKey (n : Nat) (k : Option Key) (s : State) :
    (setKey n k s).pending = s.pending := by
  rfl
@[simp] theorem pending_addFallback (m : Nat) (s : State) :
    (addFallback m s).pending = s.pending := by
  rfl
@[simp] theorem pending_suppress (n : Nat) (data : Word) (s : State) :
    (suppress n data s).pending = s.pending := by
  rfl
@[simp] theorem pending_trimsApply (is : List Nat) (s : State) :
    (trimsApply is s).pending = s.pending := by
  unfold trimsApply; exact pending_foldl _ (fun s x => by split <;> simp) _ _
@[simp] theorem pending_ringsPrune (s : State) :
    (ringsPrune s).pending = s.pending := by
  simp [ringsPrune]
@[simp] theorem pending_holdoverResult (c : Nat) (j : AnaJob) (s : State) :
    (holdoverResult c j s).pending = s.pending := by
  simp [holdoverResult]
@[simp] theorem pending_checkImage (src : Nat) (start : Bool) (s : State) :
    (checkImage src start s).2.pending = s.pending := by
  simp [checkImage]
@[simp] theorem pending_serTurnEnd (u : Nat) (s : State) :
    (serTurnEnd u s).pending = s.pending := by
  simp [serTurnEnd]
@[simp] theorem pending_stepSel (a : Nat) (hi : Nat) (n : Nat) (s : State) :
    (stepSel a hi n s).pending = s.pending := by
  rfl
@[simp] theorem pending_State_setPend (s : State) (n : Nat) (b : Bool) :
    (State.setPend s n b).pending = s.pending := by
  rfl
@[simp] theorem pending_putTrim (idle : Nat → Bool) (i : Nat) (w : Word) (s : State) :
    (putTrim idle i w s).pending = s.pending := by
  simp [putTrim]
@[simp] theorem pending_hkAbandon (s : State) :
    (hkAbandon s).pending = s.pending := by
  simp [hkAbandon]
@[simp] theorem pending_retireAll (s : State) :
    (retireAll s).pending = s.pending := by
  simp [retireAll]
@[simp] theorem pending_diodeFresh (s : State) :
    (diodeFresh s).pending = s.pending := by
  simp [diodeFresh]
@[simp] theorem pending_stopAll (s : State) :
    (stopAll s).pending = s.pending := by
  simp [stopAll]
@[simp] theorem pending_tenApply (t : Nat) (s : State) :
    (tenApply t s).pending = s.pending := by
  rfl
@[simp] theorem pending_rndApplied (c : Nat) (fn : Nat) (before : State) (s : State) :
    (rndApplied c fn before s).pending = s.pending := by
  simp [rndApplied]
@[simp] theorem pending_trimShare (e : Nat) (s : State) :
    (trimShare e s).pending = s.pending := by
  rfl
@[simp] theorem pending_biasAtStart (press : Bool) (n : Nat) (s : State) :
    (biasAtStart press n s).pending = s.pending := by
  simp [biasAtStart]
@[simp] theorem pending_anaBegin (c : Nat) (fn : Nat) (s : State) :
    (anaBegin c fn s).pending = s.pending := by
  unfold anaBegin; split <;> simp
@[simp] theorem pending_pdelayMeasure (p : Nat) (b : List Nat) (s : State) :
    (pdelayMeasure p b s).pending = s.pending := by
  unfold pdelayMeasure; dsimp only; (repeat' split) <;> simp
@[simp] theorem pending_queueFrame (n : Nat) (e : Nat) (c : Coded) (s : State) :
    (queueFrame n e c s).pending = s.pending := by
  rfl
@[simp] theorem pending_onWheel (m : Nat) (k : Nat) (f : Wheel → Wheel) (s : State) :
    (onWheel m k f s).pending = s.pending := by
  rfl
@[simp] theorem pending_xload (ws : List Word) (s : State) :
    (xload ws s).pending = s.pending := by
  rfl
@[simp] theorem pending_portsBegin (c : Nat) (s : State) :
    (portsBegin c s).pending = s.pending := by
  simp [portsBegin]
@[simp] theorem pending_passStep (n : Nat) (r : Nat) (s : State) :
    (passStep n r s).pending = s.pending := by
  rfl
@[simp] theorem pending_serResume (s : State) :
    (serResume s).pending = s.pending := by
  simp [serResume]
@[simp] theorem pending_captureStart (n : Nat) (fn : Nat) (marks : Bool) (s : State) :
    (captureStart n fn marks s).pending = s.pending := by
  simp [captureStart]
@[simp] theorem pending_State_count (s : State) (a : Nat) (hi : Nat) (lo : Nat) (n : Nat) :
    (State.count s a hi lo n).pending = s.pending := by
  rfl
@[simp] theorem pending_renderFirstRun (c : Nat) (fn : Nat) (s : State) :
    (renderFirstRun c fn s).pending = s.pending := by
  rfl
@[simp] theorem pending_breakUnsent (s : State) :
    (breakUnsent s).pending = s.pending := by
  simp [breakUnsent]
@[simp] theorem pending_biasFreed (n : Nat) (s : State) :
    (biasFreed n s).pending = s.pending := by
  simp [biasFreed]
@[simp] theorem pending_sesOn (n : Nat) (s : State) :
    (sesOn n s).pending = s.pending := by
  simp [sesOn]
@[simp] theorem pending_enterHeads (s : State) :
    (enterHeads s).pending = s.pending := by
  unfold enterHeads; dsimp only; (repeat' split) <;> simp
@[simp] theorem pending_recordLatency (c : Nat) (lat : Nat) (s : State) :
    (recordLatency c lat s).pending = s.pending := by
  rfl
@[simp] theorem pending_velvaResume (s : State) :
    (velvaResume s).pending = s.pending := by
  rfl
@[simp] theorem pending_vNext (t : Nat) (s : State) :
    (vNext t s).pending = s.pending := by
  rfl
@[simp] theorem pending_drr (c k : Nat) (s : State) : (drr c k s).2.pending = s.pending := by
  induction k generalizing s with
  | zero => rfl
  | succ k ih =>
    unfold drr
    dsimp only
    (repeat' split) <;> simp [ih, onTen]
@[simp] theorem pending_serLineCut (u : Nat) (s : State) :
    (serLineCut u s).pending = s.pending := by
  simp [serLineCut]
@[simp] theorem pending_serReport (s : State) :
    (serReport s).pending = s.pending := by
  unfold serReport; split <;> simp
@[simp] theorem pending_egrResume (s : State) :
    (egrResume s).pending = s.pending := by
  simp [egrResume]
@[simp] theorem pending_snoop (p : Nat) (b : List Nat) (s : State) :
    (snoop p b s).pending = s.pending := by
  unfold snoop; dsimp only; (repeat' split) <;> simp
@[simp] theorem pending_journalWritten (ok : Bool) (s : State) :
    (journalWritten ok s).pending = s.pending := by
  unfold journalWritten; split <;> simp
@[simp] theorem pending_countPresented (n : Nat) (before : State) (s : State) :
    (countPresented n before s).pending = s.pending := by
  simp [countPresented]
@[simp] theorem pending_openWheel (m : Nat) (k : Nat) (w : Wheel) (s : State) :
    (openWheel m k w s).pending = s.pending := by
  rfl
@[simp] theorem pending_ctxMoved (c : Nat) (s : State) :
    (ctxMoved c s).pending = s.pending := by
  simp [ctxMoved]
@[simp] theorem pending_serLineStep (u : Nat) (s : State) :
    (serLineStep u s).pending = s.pending := by
  unfold serLineStep; split <;> simp
@[simp] theorem pending_dropPending (n : Nat) (s : State) :
    (dropPending n s).pending = s.pending := by
  simp [dropPending]
@[simp] theorem pending_trimsAtStart (press : Bool) (n : Nat) (s : State) :
    (trimsAtStart press n s).pending = s.pending := by
  simp [trimsAtStart]
@[simp] theorem pending_vIssued (t : Nat) (s : State) :
    (vIssued t s).pending = s.pending := by
  rfl
@[simp] theorem pending_acknowledge (ns : List Nat) (s : State) :
    (acknowledge ns s).pending = s.pending := by
  simp [acknowledge]
@[simp] theorem pending_queueDeliveries (n : Nat) (d : Delivery) (s : State) :
    (queueDeliveries n d s).pending = s.pending := by
  simp [queueDeliveries]
@[simp] theorem pending_windowTakes (a : Nat) (n : Nat) (k : Nat) (s : State) :
    (windowTakes a n k s).pending = s.pending := by
  simp [windowTakes]
@[simp] theorem pending_swapTable (n : Nat) (s : State) :
    (swapTable n s).pending = s.pending := by
  simp [swapTable]
@[simp] theorem pending_encFinish (e : Nat) (j : EncJob) (len : Nat) (nals : List Nat) (s : State) :
    (encFinish e j len nals s).2.pending = s.pending := by
  rfl
@[simp] theorem pending_dropQueued (why : Option Nat) (n : Nat) (s : State) :
    (dropQueued why n s).pending = s.pending := by
  simp [dropQueued]
@[simp] theorem pending_capture (n : Nat) (data : Word) (batch : Nat) (s : State) :
    (capture n data batch s).pending = s.pending := by
  rfl
@[simp] theorem pending_biasWritten (n : Nat) (s : State) :
    (biasWritten n s).pending = s.pending := by
  unfold biasWritten; split <;> simp
@[simp] theorem pending_fireProfile (n : Nat) (p : Nat) (s : State) :
    (fireProfile n p s).pending = s.pending := by
  rfl
@[simp] theorem pending_frameGone (c : Nat) (fn : Nat) (s : State) :
    (frameGone c fn s).pending = s.pending := by
  simp [frameGone]
@[simp] theorem pending_closeStream (e : Nat) (st : Nat) (gap : Bool) (pf : Bool) (s : State) :
    (closeStream e st gap pf s).pending = s.pending := by
  unfold closeStream; dsimp only; (repeat' split) <;> simp
@[simp] theorem pending_windowWrite (a : Nat) (ws : List Word) (s : State) :
    (windowWrite a ws s).pending = s.pending := by
  simp [windowWrite]
@[simp] theorem pending_mergeCopy (n : NorJournal) (s : State) :
    (mergeCopy n s).pending = s.pending := by
  simp [mergeCopy]
@[simp] theorem pending_chooseBlind (n : Nat) (c : Nat) (go : Bool) (isSun : Bool) (s : State) :
    (chooseBlind n c go isSun s).pending = s.pending := by
  unfold chooseBlind; split <;> simp
@[simp] theorem pending_applyRecord (idle : Nat → Bool) (l : List Word) (s : State) :
    (applyRecord idle l s).pending = s.pending := by
  simp [applyRecord]
@[simp] theorem pending_reset (seen : Nat) (s : State) :
    (reset seen s).pending = s.pending := by
  simp [reset]
@[simp] theorem pending_judgeSkip (n : Nat) (e : Nat) (c : Coded) (s : State) :
    (judgeSkip n e c s).pending = s.pending := by
  simp [judgeSkip]
@[simp] theorem pending_pipeGo (s : State) :
    (pipeGo s).pending = s.pending := by
  unfold pipeGo; dsimp only; (repeat' split) <;> simp
@[simp] theorem pending_trimsAtRun (press : Bool) (j : Nat) (s : State) :
    (trimsAtRun press j s).pending = s.pending := by
  simp [trimsAtRun]
@[simp] theorem pending_pick (s : State) :
    (pick s).2.pending = s.pending := by
  simp [pick]
@[simp] theorem pending_dispatchCapture (n : Nat) (c : Capture) (s0 : State) :
    (dispatchCapture n c s0).pending = s0.pending := by
  simp [dispatchCapture]
@[simp] theorem pending_vectorTaken (d : Nat) (s : State) :
    (vectorTaken d s).pending = s.pending := by
  unfold vectorTaken; split <;> simp
@[simp] theorem pending_brownout (s : State) :
    (brownout s).pending = s.pending := by
  unfold brownout; split <;> simp
@[simp] theorem pending_stormLimit (n : Nat) (data : Word) (batch : Nat) (s : State) :
    (stormLimit n data batch s).pending = s.pending := by
  simp [stormLimit]
@[simp] theorem pending_winRead (a : Nat) (n : Nat) (s : State) :
    (winRead a n s).pending = s.pending := by
  simp [winRead]
@[simp] theorem pending_hkRunStart (press : Bool) (j : Nat) (s : State) :
    (hkRunStart press j s).pending = s.pending := by
  simp [hkRunStart]
@[simp] theorem pending_serTxFlush (u : Nat) (s : State) :
    (serTxFlush u s).pending = s.pending := by
  simp [serTxFlush]
@[simp] theorem pending_serSafe (s : State) :
    (serSafe s).pending = s.pending := by
  simp [serSafe]
@[simp] theorem pending_encStripe (len : Nat) (nals : List Nat) (s : State) :
    (encStripe len nals s).2.pending = s.pending := by
  unfold encStripe; (repeat' split) <;> simp
@[simp] theorem pending_resetTrigger (k : Nat) (s : State) :
    (resetTrigger k s).pending = s.pending := by
  unfold resetTrigger; split <;> simp
@[simp] theorem pending_sesOff (n : Nat) (s : State) :
    (sesOff n s).pending = s.pending := by
  simp [sesOff]
@[simp] theorem pending_serRindReq (s : State) :
    (serRindReq s).pending = s.pending := by
  simp [serRindReq]
@[simp] theorem pending_clockRecovery (s : State) :
    (clockRecovery s).pending = s.pending := by
  simp [clockRecovery]
@[simp] theorem pending_stormRefill (n : Nat) (s : State) :
    (stormRefill n s).pending = s.pending := by
  simp [stormRefill]
@[simp] theorem pending_pressGo (n : Nat) (s : State) :
    (pressGo n s).pending = s.pending := by
  unfold pressGo; split <;> simp
@[simp] theorem pending_takeEvent (t : Nat) (rd : Nat) (ra : Nat) (n : Nat) (s : State) :
    (takeEvent t rd ra n s).pending = s.pending := by
  simp [takeEvent]
@[simp] theorem pending_pressFireBegins (n : Nat) (s : State) :
    (pressFireBegins n s).pending = s.pending := by
  unfold pressFireBegins; split <;> simp
@[simp] theorem pending_serCtl (u : Nat) (rx : Bool) (tx : Bool) (s : State) :
    (serCtl u rx tx s).pending = s.pending := by
  simp [serCtl]
@[simp] theorem pending_readTakes (o : Origin) (a : Nat) (s : State) :
    (readTakes o a s).pending = s.pending := by
  unfold readTakes; split <;> simp
@[simp] theorem pending_serRind (s : State) :
    (serRind s).pending = s.pending := by
  simp [serRind]
@[simp] theorem pending_wakeEvents (s : State) :
    (wakeEvents s).pending = s.pending := by
  unfold wakeEvents; split
  · rfl
  · exact pending_foldl _ (fun s x => by (repeat' split) <;> simp) _ _
@[simp] theorem pending_pressFires (before : State) (s : State) :
    (pressFires before s).pending = s.pending := by
  simp [pressFires]
@[simp] theorem pending_occur (n : Nat) (data : Word) (batch : Nat) (s : State) :
    (occur n data batch s).pending = s.pending := by
  simp [occur]
@[simp] theorem pending_sesCmd (cmd : Nat) (s : State) :
    (sesCmd cmd s).pending = s.pending := by
  unfold sesCmd; split <;> simp
@[simp] theorem pending_bulkTakes (a : Nat) (n : Nat) (k : Nat) (s : State) :
    (bulkTakes a n k s).pending = s.pending := by
  unfold bulkTakes; split <;> simp
@[simp] theorem pending_busRead (o : Origin) (a : Nat) (s : State) :
    (busRead o a s).2.2.pending = s.pending := by
  unfold busRead; dsimp only; (repeat' split) <;> simp
@[simp] theorem pending_raise (n : Nat) (data : Word) (s : State) :
    (raise n data s).pending = s.pending := by
  simp [raise]
@[simp] theorem pending_releaseHeld (last : List (Nat × Word)) (s : State) :
    (releaseHeld last s).pending = s.pending := by
  simp [releaseHeld]
@[simp] theorem pending_hkRipeEnds (j : Nat) (ovr : Bool) (sus : Bool) (s : State) :
    (hkRipeEnds j ovr sus s).pending = s.pending := by
  simp [hkRipeEnds]
@[simp] theorem pending_raiseN (n : Nat) (data : Nat) (s : State) :
    (raiseN n data s).pending = s.pending := by
  simp [raiseN]
@[simp] theorem pending_ptpResumes (s : State) :
    (ptpResumes s).pending = s.pending := by
  simp [ptpResumes]
@[simp] theorem pending_regRead (o : Origin) (a : Nat) (s : State) :
    (regRead o a s).pending = s.pending := by
  simp [regRead]
@[simp] theorem pending_rejectTrims (c : Code) (s : State) :
    (rejectTrims c s).pending = s.pending := by
  simp [rejectTrims]
@[simp] theorem pending_sunEnds (n : Nat) (s : State) :
    (sunEnds n s).pending = s.pending := by
  simp [sunEnds]
@[simp] theorem pending_stampFifo (p : Nat) (egress : Bool) (b : List Nat) (t : Int) (s : State) :
    (stampFifo p egress b t s).pending = s.pending := by
  unfold stampFifo; split <;> simp
@[simp] theorem pending_skipFrame (c : Nat) (fn : Nat) (s : State) :
    (skipFrame c fn s).pending = s.pending := by
  simp [skipFrame]
@[simp] theorem pending_buddyEvent (host : Bool) (op : Nat) (p : Nat) (e : Nat) (s : State) :
    (buddyEvent host op p e s).pending = s.pending := by
  simp [buddyEvent]
@[simp] theorem pending_sesStall (n : Nat) (s : State) :
    (sesStall n s).pending = s.pending := by
  unfold sesStall; dsimp only; (repeat' split) <;> simp
@[simp] theorem pending_endProfile (n : Nat) (res : Nat) (mode : Nat) (s : State) :
    (endProfile n res mode s).pending = s.pending := by
  simp [endProfile]
@[simp] theorem pending_velvaDisagree (kind : Nat) (k : Nat) (s : State) :
    (velvaDisagree kind k s).pending = s.pending := by
  simp [velvaDisagree]
@[simp] theorem pending_takeHop (h : Nat) (s : State) :
    (takeHop h s).pending = s.pending := by
  simp [takeHop]
@[simp] theorem pending_enterHandOver (ho : State → State) (h : ∀ s, (ho s).pending = s.pending) (s : State) :
    (enterHandOver ho s).pending = s.pending := by
  unfold enterHandOver
  dsimp only
  (repeat' split) <;> simp [h]
@[simp] theorem pending_endOp (c : Code) (s : State) :
    (endOp c s).pending = s.pending := by
  unfold endOp; split <;> simp
@[simp] theorem pending_raiseIf (b : Bool) (n : Nat) (data : Nat) (s : State) :
    (raiseIf b n data s).pending = s.pending := by
  simp [raiseIf]
@[simp] theorem pending_timeFollow (v : VFrame) (s : State) :
    (timeFollow v s).pending = s.pending := by
  simp [timeFollow]
@[simp] theorem pending_dnrStart (c : Nat) (f : Frame) (inFlight : List Frame) (s : State) :
    (dnrStart c f inFlight s).pending = s.pending := by
  unfold dnrStart; dsimp only; (repeat' split) <;> simp
@[simp] theorem pending_vTrapWith (w : Word) (t : Nat) (cause : Nat) (s : State) :
    (vTrapWith w t cause s).pending = s.pending := by
  simp [vTrapWith]
@[simp] theorem pending_repairsTold (n : Nat) (r : RxFrame) (s : State) :
    (repairsTold n r s).pending = s.pending := by
  simp [repairsTold]
@[simp] theorem pending_decayTimeout (n : Nat) (s : State) :
    (decayTimeout n s).pending = s.pending := by
  simp [decayTimeout]
@[simp] theorem pending_fullDone (idle : Nat → Bool) (tNow : Nat) (ms : List TrimMeas) (s : State) :
    (fullDone idle tNow ms s).pending = s.pending := by
  simp [fullDone]
@[simp] theorem pending_decayEnds (n : Nat) (s : State) :
    (decayEnds n s).pending = s.pending := by
  unfold decayEnds; split <;> simp
@[simp] theorem pending_releaseEnforced (s : State) :
    (releaseEnforced s).pending = s.pending := by
  simp [releaseEnforced]
@[simp] theorem pending_portCount (c : Code) (s : State) :
    (portCount c s).pending = s.pending := by
  unfold portCount; split <;> simp
@[simp] theorem pending_modelStart (c : Nat) (reason : Nat) (s : State) :
    (modelStart c reason s).pending = s.pending := by
  simp [modelStart]
@[simp] theorem pending_abortFull (s : State) :
    (abortFull s).pending = s.pending := by
  simp [abortFull]
@[simp] theorem pending_publishMasks (v : Word) (s : State) :
    (publishMasks v s).pending = s.pending := by
  simp [publishMasks]
@[simp] theorem pending_retEnd (fin : Nat) (s : State) :
    (retEnd fin s).pending = s.pending := by
  simp [retEnd]
@[simp] theorem pending_pllLost (s : State) :
    (pllLost s).pending = s.pending := by
  simp [pllLost]
@[simp] theorem pending_copyWritten (ok : Bool) (s : State) :
    (copyWritten ok s).pending = s.pending := by
  unfold copyWritten; split <;> simp
@[simp] theorem pending_gridApply (k : Nat) (c : Nat) (fn : Nat) (s : State) :
    (gridApply k c fn s).pending = s.pending := by
  simp [gridApply]
@[simp] theorem pending_pressCriteria (n : Nat) (c : Nat) (fn : Nat) (s : State) :
    (pressCriteria n c fn s).pending = s.pending := by
  unfold pressCriteria; dsimp only; (repeat' split) <;> simp
@[simp] theorem pending_diagEnds (reason : Nat) (s : State) :
    (diagEnds reason s).pending = s.pending := by
  simp [diagEnds]
@[simp] theorem pending_ripen (idle : Nat → Bool) (m : TrimMeas) (s : State) :
    (ripen idle m s).pending = s.pending := by
  simp [ripen]
@[simp] theorem pending_enforceEaves (s : State) :
    (enforceEaves s).pending = s.pending := by
  simp [enforceEaves]
@[simp] theorem pending_fireRefused (n : Nat) (p : Nat) (s : State) :
    (fireRefused n p s).pending = s.pending := by
  simp [fireRefused]
@[simp] theorem pending_ivEnd (n : Nat) (reason : Nat) (s : State) :
    (ivEnd n reason s).pending = s.pending := by
  simp [ivEnd]
@[simp] theorem pending_cutReport (norUsed : Bool) (s : State) :
    (cutReport norUsed s).pending = s.pending := by
  unfold cutReport; dsimp only; (repeat' split) <;> simp
@[simp] theorem pending_retStall (s : State) :
    (retStall s).pending = s.pending := by
  simp [retStall]
@[simp] theorem pending_useFallback (s : State) :
    (useFallback s).pending = s.pending := by
  simp [useFallback]
@[simp] theorem pending_encSkip (e : Nat) (reason : Nat) (fn : Nat) (s : State) :
    (encSkip e reason fn s).pending = s.pending := by
  simp [encSkip]
@[simp] theorem pending_urgentRequest (ch : Nat) (s : State) :
    (urgentRequest ch s).pending = s.pending := by
  unfold urgentRequest; split <;> simp
@[simp] theorem pending_pressProfileEnd (n : Nat) (pf : Nat) (res : Nat) (s : State) :
    (pressProfileEnd n pf res s).pending = s.pending := by
  unfold pressProfileEnd; dsimp only; (repeat' split) <;> simp
@[simp] theorem pending_shedBoost (s : State) :
    (shedBoost s).pending = s.pending := by
  simp [shedBoost]
@[simp] theorem pending_refFaultSet (s : State) :
    (refFaultSet s).pending = s.pending := by
  simp [refFaultSet]
@[simp] theorem pending_setPortSt (p : Nat) (st : PortSt) (s : State) :
    (setPortSt p st s).pending = s.pending := by
  simp [setPortSt]
@[simp] theorem pending_jobEnd (j : Nat) (fin : Nat) (s : State) :
    (jobEnd j fin s).pending = s.pending := by
  simp [jobEnd]
@[simp] theorem pending_failStep (n : Nat) (s : State) :
    (failStep n s).pending = s.pending := by
  simp [failStep]
@[simp] theorem pending_endTrack (c : Nat) (reason : Nat) (t : Track) (s : State) :
    (endTrack c reason t s).pending = s.pending := by
  simp [endTrack]
@[simp] theorem pending_flagReference (c : Nat) (tsP : Nat) (tfP : Nat) (tfOk : Bool) (s : State) :
    (flagReference c tsP tfP tfOk s).pending = s.pending := by
  simp [flagReference]
@[simp] theorem pending_zonesResult (c : Nat) (j : AnaJob) (s : State) :
    (zonesResult c j s).pending = s.pending := by
  simp [zonesResult]
@[simp] theorem pending_setRatio (t : Nat) (r : Nat) (s : State) :
    (setRatio t r s).pending = s.pending := by
  simp [setRatio]
@[simp] theorem pending_hostWaitOff (s : State) :
    (hostWaitOff s).pending = s.pending := by
  simp [hostWaitOff]
@[simp] theorem pending_headDisagrees (n : Nat) (s : State) :
    (headDisagrees n s).pending = s.pending := by
  simp [headDisagrees]
@[simp] theorem pending_hkGoesStale (n : Nat) (s : State) :
    (hkGoesStale n s).pending = s.pending := by
  simp [hkGoesStale]
@[simp] theorem pending_setMed (m : Nat) (st : MedSt) (s : State) :
    (setMed m st s).pending = s.pending := by
  simp [setMed]
@[simp] theorem pending_judgeFast (s : State) :
    (judgeFast s).pending = s.pending := by
  simp [judgeFast]
@[simp] theorem pending_judgeErrors (p : Nat) (s : State) :
    (judgeErrors p s).pending = s.pending := by
  simp [judgeErrors]
@[simp] theorem pending_judgeAsk (s : State) :
    (judgeAsk s).pending = s.pending := by
  simp [judgeAsk]
@[simp] theorem pending_deviceOut (fb : Nat) (s : State) :
    (deviceOut fb s).pending = s.pending := by
  simp [deviceOut]
@[simp] theorem pending_alarmLatch (src : Nat) (s : State) :
    (alarmLatch src s).pending = s.pending := by
  simp [alarmLatch]
@[simp] theorem pending_forceEaves (s : State) :
    (forceEaves s).pending = s.pending := by
  simp [forceEaves]
@[simp] theorem pending_eavesSample (s : State) :
    (eavesSample s).pending = s.pending := by
  simp [eavesSample]
@[simp] theorem pending_judgeWarn (s : State) :
    (judgeWarn s).pending = s.pending := by
  simp [judgeWarn]
@[simp] theorem pending_swForced (s : State) :
    (swForced s).pending = s.pending := by
  simp [swForced]
@[simp] theorem pending_hkTrigger (j : Nat) (s : State) :
    (hkTrigger j s).pending = s.pending := by
  simp [hkTrigger]
@[simp] theorem pending_agcDone (c : Nat) (f : Frame) (y4 : List Nat) (s : State) :
    (agcDone c f y4 s).pending = s.pending := by
  simp [agcDone]
@[simp] theorem pending_unmappedPacket (vc : Nat) (s : State) :
    (unmappedPacket vc s).pending = s.pending := by
  simp [unmappedPacket]
@[simp] theorem pending_calibrated (ms : List TrimMeas) (ho : State → State) (h : ∀ s, (ho s).pending = s.pending)
    (s : State) : (calibrated ms ho s).pending = s.pending := by
  unfold calibrated
  dsimp only
  split
  · simp
  · rw [pending_enterHandOver ho h]
    rw [pending_ite, pending_passStep, pending_markStep, ite_self, pending_raiseN]
    exact pending_onEach _ _ (fun c s => by split <;> simp) _
@[simp] theorem pending_monSample (n : Nat) (code : Nat) (ovr : Bool) (pMw : Nat) (s : State) :
    (monSample n code ovr pMw s).pending = s.pending := by
  simp [monSample]
@[simp] theorem pending_vbstSeen (mv : Nat) (s : State) :
    (vbstSeen mv s).pending = s.pending := by
  simp [vbstSeen]
@[simp] theorem pending_pressOverruled (n : Nat) (pf : Nat) (s : State) :
    (pressOverruled n pf s).pending = s.pending := by
  simp [pressOverruled]
@[simp] theorem pending_fuseFrame (c : Nat) (f : Frame) (r : RndOut) (s : State) :
    (fuseFrame c f r s).2.pending = s.pending := by
  unfold fuseFrame; dsimp only; (repeat' split) <;> simp
@[simp] theorem pending_mediumOpened (m : Nat) (o : MediumOpen) (s : State) :
    (mediumOpened m o s).pending = s.pending := by
  simp [mediumOpened]
@[simp] theorem pending_recipeChecked (s : State) :
    (recipeChecked s).pending = s.pending := by
  unfold recipeChecked; split <;> simp
@[simp] theorem pending_heatFollow (s : State) :
    (heatFollow s).pending = s.pending := by
  simp [heatFollow]
@[simp] theorem pending_gridsAtStart (c : Nat) (fn : Nat) (s : State) :
    (gridsAtStart c fn s).pending = s.pending := by
  simp [gridsAtStart]
@[simp] theorem pending_hkTriggerWhere (p : Word → Bool) (s : State) :
    (hkTriggerWhere p s).pending = s.pending := by
  simp [hkTriggerWhere]
@[simp] theorem pending_linkDown (s : State) :
    (linkDown s).pending = s.pending := by
  simp [linkDown]
@[simp] theorem pending_ripeningRound (idle : Nat → Bool) (ms : List TrimMeas) (s : State) :
    (ripeningRound idle ms s).pending = s.pending := by
  simp [ripeningRound]
@[simp] theorem pending_sunClose (n : Nat) (c : Nat) (s : State) :
    (sunClose n c s).pending = s.pending := by
  simp [sunClose]
@[simp] theorem pending_encFirst (e : Nat) (p : Nat) (c : Nat) (f : Frame) (s : State) :
    (encFirst e p c f s).pending = s.pending := by
  simp [encFirst]
@[simp] theorem pending_learnMac (mac : Nat) (p : Nat) (s : State) :
    (learnMac mac p s).pending = s.pending := by
  simp [learnMac]
@[simp] theorem pending_hkUrgentEnds (j : Nat) (ch : Nat) (late : Bool) (code : Nat) (ovr : Bool) (sus : Bool) (s : State) :
    (hkUrgentEnds j ch late code ovr sus s).pending = s.pending := by
  simp [hkUrgentEnds]
@[simp] theorem pending_physReady (bad : Nat) (s : State) :
    (physReady bad s).pending = s.pending := by
  simp [physReady]
@[simp] theorem pending_withhold (n : Nat) (reason : Nat) (group : Nat) (s : State) :
    (withhold n reason group s).pending = s.pending := by
  simp [withhold]
@[simp] theorem pending_gridsIdle (s : State) :
    (gridsIdle s).pending = s.pending := by
  simp [gridsIdle]
@[simp] theorem pending_tickClass (c : Nat) (s : State) :
    (tickClass c s).pending = s.pending := by
  simp [tickClass]
@[simp] theorem pending_addErr (p : Nat) (r : Int) (t : Int) (s : State) :
    (addErr p r t s).pending = s.pending := by
  simp [addErr]
@[simp] theorem pending_actOverCurrent (n : Nat) (s : State) :
    (actOverCurrent n s).pending = s.pending := by
  simp [actOverCurrent]
@[simp] theorem pending_storageReady (bad : Nat) (s : State) :
    (storageReady bad s).pending = s.pending := by
  simp [storageReady]
@[simp] theorem pending_jobStop (j : Nat) (s : State) :
    (jobStop j s).pending = s.pending := by
  simp [jobStop]
@[simp] theorem pending_formatDone (s : State) :
    (formatDone s).pending = s.pending := by
  unfold formatDone; split <;> simp
@[simp] theorem pending_captureTimeout (s : State) :
    (captureTimeout s).pending = s.pending := by
  unfold captureTimeout; split <;> simp
@[simp] theorem pending_txEnd (c : Code) (tag : Nat) (full : Bool) (miso : List Word) (s : State) :
    (txEnd c tag full miso s).pending = s.pending := by
  simp [txEnd]
@[simp] theorem pending_attach (m : Nat) (s : State) :
    (attach m s).pending = s.pending := by
  simp [attach]
@[simp] theorem pending_runSample (n : Nat) (m : Int) (s : State) :
    (runSample n m s).pending = s.pending := by
  simp [runSample]
@[simp] theorem pending_enterRecipe (s : State) :
    (enterRecipe s).pending = s.pending := by
  simp [enterRecipe]
@[simp] theorem pending_serEventData (u : Nat) (kind : Nat) (data : Nat) (s : State) :
    (serEventData u kind data s).pending = s.pending := by
  simp [serEventData]
@[simp] theorem pending_fullFollow (m : Nat) (s : State) :
    (fullFollow m s).pending = s.pending := by
  simp [fullFollow]
@[simp] theorem pending_sramFailed (s : State) :
    (sramFailed s).pending = s.pending := by
  simp [sramFailed]
@[simp] theorem pending_clearErr (p : Nat) (s : State) :
    (clearErr p s).pending = s.pending := by
  simp [clearErr]
@[simp] theorem pending_packetSeen (e : PacketErr) (s : State) :
    (packetSeen e s).pending = s.pending := by
  unfold packetSeen; dsimp only; (repeat' split) <;> simp
@[simp] theorem pending_pageFilled (s : State) :
    (pageFilled s).pending = s.pending := by
  unfold pageFilled; dsimp only; (repeat' split) <;> simp
@[simp] theorem pending_leaveOut (e : Nat) (reason : Nat) (s : State) :
    (leaveOut e reason s).pending = s.pending := by
  simp [leaveOut]
@[simp] theorem pending_endOnTime (ms : Nat) (s : State) :
    (endOnTime ms s).pending = s.pending := by
  simp [endOnTime]
@[simp] theorem pending_portFrame (c : Nat) (p : Nat) (f : Frame) (s : State) :
    (portFrame c p f s).pending = s.pending := by
  unfold portFrame; split <;> simp
@[simp] theorem pending_anaDeliver (c : Nat) (p : Nat) (f : Frame) (g : PortImg) (s : State) :
    (anaDeliver c p f g s).pending = s.pending := by
  unfold anaDeliver; dsimp only; (repeat' split) <;> simp
@[simp] theorem pending_stopProfile (n : Nat) (s : State) :
    (stopProfile n s).pending = s.pending := by
  simp [stopProfile]
@[simp] theorem pending_latchTelemetry (n : Nat) (s : State) :
    (latchTelemetry n s).pending = s.pending := by
  simp [latchTelemetry]
@[simp] theorem pending_pump (p : Nat) (s : State) :
    (pump p s).pending = s.pending := by
  unfold pump; dsimp only; (repeat' split) <;> simp
@[simp] theorem pending_measureSched (s : State) :
    (measureSched s).pending = s.pending := by
  simp [measureSched]
@[simp] theorem pending_enterStorage (s : State) :
    (enterStorage s).pending = s.pending := by
  simp [enterStorage]
@[simp] theorem pending_cmdEnds (n : Nat) (res : Nat) (s : State) :
    (cmdEnds n res s).pending = s.pending := by
  unfold cmdEnds; split <;> simp
@[simp] theorem pending_encLoad (s : State) :
    (encLoad s).pending = s.pending := by
  simp [encLoad]
@[simp] theorem pending_norCut (prog : Bool) (s : State) :
    (norCut prog s).pending = s.pending := by
  unfold norCut; (repeat' split) <;> simp
@[simp] theorem pending_retStop (s : State) :
    (retStop s).pending = s.pending := by
  simp [retStop]
@[simp] theorem pending_nominalTrims (idle : Nat → Bool) (s : State) :
    (nominalTrims idle s).pending = s.pending := by
  simp [nominalTrims]
@[simp] theorem pending_lfoMeasured (err : Int) (s : State) :
    (lfoMeasured err s).pending = s.pending := by
  simp [lfoMeasured]
@[simp] theorem pending_disablePort (p : Nat) (s : State) :
    (disablePort p s).pending = s.pending := by
  unfold disablePort; split <;> simp
@[simp] theorem pending_actSafe (s : State) :
    (actSafe s).pending = s.pending := by
  simp [actSafe]
@[simp] theorem pending_newWheel (e : Nat) (m : Nat) (c : Coded) (s : State) :
    (newWheel e m c s).2.pending = s.pending := by
  unfold newWheel; split <;> simp
@[simp] theorem pending_dnrDone (c : Nat) (f : Frame) (s : State) :
    (dnrDone c f s).2.2.pending = s.pending := by
  unfold dnrDone; (repeat' split) <;> simp
@[simp] theorem pending_alarmSettle (seq : Nat) (s : State) :
    (alarmSettle seq s).pending = s.pending := by
  unfold alarmSettle; split <;> simp
@[simp] theorem pending_applyTrims (idle : Nat → Bool) (s : State) :
    (applyTrims idle s).pending = s.pending := by
  simp [applyTrims]
@[simp] theorem pending_actRind (s : State) :
    (actRind s).pending = s.pending := by
  simp [actRind]
@[simp] theorem pending_vTrap (t : Nat) (cause : Nat) (s : State) :
    (vTrap t cause s).pending = s.pending := by
  simp [vTrap]
@[simp] theorem pending_decaySample (n : Nat) (m : Int) (s : State) :
    (decaySample n m s).pending = s.pending := by
  simp [decaySample]
@[simp] theorem pending_hostStart (c : Nat) (fn : Nat) (ports : List Nat) (s : State) :
    (hostStart c fn ports s).pending = s.pending := by
  simp [hostStart]
@[simp] theorem pending_portDrained (p : Nat) (s : State) :
    (portDrained p s).pending = s.pending := by
  simp [portDrained]
@[simp] theorem pending_setDramLost (s : State) :
    (setDramLost s).pending = s.pending := by
  simp [setDramLost]
@[simp] theorem pending_modelsStart (reason : Nat) (s : State) :
    (modelsStart reason s).pending = s.pending := by
  simp [modelsStart]
@[simp] theorem pending_sunOpen (n : Nat) (s : State) :
    (sunOpen n s).pending = s.pending := by
  simp [sunOpen]
@[simp] theorem pending_spotChecked (ms : List TrimMeas) (ho : State → State) (h : ∀ s, (ho s).pending = s.pending)
    (s : State) : (spotChecked ms ho s).pending = s.pending := by
  unfold spotChecked
  dsimp only
  (repeat' split) <;> simp [h]
@[simp] theorem pending_refSense (uv : Nat) (s : State) :
    (refSense uv s).pending = s.pending := by
  simp [refSense]
@[simp] theorem pending_encBegin (e : Nat) (j : EncJob) (s : State) :
    (encBegin e j s).1.pending = s.pending := by
  unfold encBegin; dsimp only; (repeat' split) <;> simp
@[simp] theorem pending_pressFireDropped (n : Nat) (pf : Nat) (s : State) :
    (pressFireDropped n pf s).pending = s.pending := by
  simp [pressFireDropped]
@[simp] theorem pending_issueUrgent (n : Nat) (s : State) :
    (issueUrgent n s).pending = s.pending := by
  unfold issueUrgent; (repeat' split) <;> simp
@[simp] theorem pending_detectResult (c : Nat) (j : AnaJob) (s : State) : (detectResult c j s).pending = s.pending := by
  unfold detectResult
  dsimp only
  rw [pending_mapSlots _ _ (fun i t s => by split <;> simp), pending_ite, pending_raiseN, pending_State_count, ite_self,
    pending_foldl _ (fun s k => pending_onAna _ _ _),
    pending_mapSlots _ _ (fun i t s => by (repeat' split) <;> simp), pending_onAna, pending_ite, pending_raiseN,
    pending_State_count, ite_self]
@[simp] theorem pending_hkTimer (j : Nat) (s : State) :
    (hkTimer j s).pending = s.pending := by
  simp [hkTimer]
@[simp] theorem pending_i2cDone (st : Nat) (rd : Word) (s : State) :
    (i2cDone st rd s).pending = s.pending := by
  unfold i2cDone; split <;> simp
@[simp] theorem pending_resyncEnds (n : Nat) (w : Nat) (h : Nat) (s : State) :
    (resyncEnds n w h s).pending = s.pending := by
  simp [resyncEnds]
@[simp] theorem pending_enablePort (p : Nat) (s : State) :
    (enablePort p s).pending = s.pending := by
  unfold enablePort; split <;> simp
@[simp] theorem pending_pressJudge (n : Nat) (c : Nat) (f : Frame) (s : State) :
    (pressJudge n c f s).pending = s.pending := by
  unfold pressJudge; simp; split <;> simp
@[simp] theorem pending_fullSeen (e : Nat) (c : Coded) (s : State) :
    (fullSeen e c s).pending = s.pending := by
  simp [fullSeen]
@[simp] theorem pending_renderDone (c : Nat) (f : Frame) (n : NucOut) (s : State) :
    (renderDone c f n s).2.pending = s.pending := by
  simp [renderDone]
@[simp] theorem pending_dramTrained (ok : Bool) (s : State) :
    (dramTrained ok s).pending = s.pending := by
  simp [dramTrained]
@[simp] theorem pending_offerOne (e : Nat) (c : Coded) (n : Nat) (s : State) :
    (offerOne e c n s).pending = s.pending := by
  unfold offerOne; dsimp only; (repeat' split) <;> simp
@[simp] theorem pending_offerCellar (n : Nat) (c : Coded) (s : State) :
    (offerCellar n c s).pending = s.pending := by
  unfold offerCellar; dsimp only; (repeat' split) <;> simp
@[simp] theorem pending_anaResult (c : Nat) (s : State) :
    (anaResult c s).pending = s.pending := by
  unfold anaResult; split <;> simp
@[simp] theorem pending_portsDrained (s : State) :
    (portsDrained s).pending = s.pending := by
  simp [portsDrained]
@[simp] theorem pending_i2cAbandon (s : State) :
    (i2cAbandon s).pending = s.pending := by
  simp [i2cAbandon]
@[simp] theorem pending_pressFollow (before s : State) : (pressFollow before s).pending = s.pending := by
  unfold pressFollow
  refine pending_foldl _ (fun s ch => ?_) _ _
  dsimp only
  (repeat' split) <;> first | rfl | exact pending_foldl _ (fun t n => by split <;> simp) _ _
@[simp] theorem pending_ctxFollow (before : State) (s : State) :
    (ctxFollow before s).pending = s.pending := by
  simp [ctxFollow]
@[simp] theorem pending_cutOnTime (s : State) :
    (cutOnTime s).pending = s.pending := by
  simp [cutOnTime]
@[simp] theorem pending_sunGuard (n : Nat) (c : Nat) (f : Frame) (hot : Nat) (s : State) :
    (sunGuard n c f hot s).pending = s.pending := by
  unfold sunGuard; dsimp only; (repeat' split) <;> simp
@[simp] theorem pending_vInstr (t : Nat) (legal seq : Bool) (f : State → State) (h : ∀ s, (f s).pending = s.pending)
    (s : State) : (vInstr t legal seq f s).pending = s.pending := by
  unfold vInstr
  dsimp only
  (repeat' split) <;> simp [h]
@[simp] theorem pending_txTick (p : Nat) (s : State) :
    (txTick p s).pending = s.pending := by
  unfold txTick; split <;> simp
@[simp] theorem pending_egressTick (s : State) :
    (egressTick s).pending = s.pending := by
  simp [egressTick]
@[simp] theorem pending_pressCapture (n : Nat) (c : Nat) (f : Frame) (x4 : List Nat) (s : State) :
    (pressCapture n c f x4 s).pending = s.pending := by
  unfold pressCapture; (repeat' split) <;> simp
@[simp] theorem pending_chanSample (n : Nat) (m : Int) (s : State) :
    (chanSample n m s).pending = s.pending := by
  unfold chanSample; dsimp only; (repeat' split) <;> simp
@[simp] theorem pending_vJump (t : Nat) (target : Int) (s : State) :
    (vJump t target s).pending = s.pending := by
  simp [vJump]
@[simp] theorem pending_enqueueFrame (p : Nat) (q : Nat) (f : QFrame) (s : State) :
    (enqueueFrame p q f s).pending = s.pending := by
  simp [enqueueFrame]
@[simp] theorem pending_strayPacket (vc : Nat) (e : PacketErr) (s : State) :
    (strayPacket vc e s).pending = s.pending := by
  unfold strayPacket; split <;> simp
@[simp] theorem pending_wheelRepair (m : Nat) (good : Nat) (s : State) :
    (wheelRepair m good s).pending = s.pending := by
  unfold wheelRepair; dsimp only; (repeat' split) <;> simp
@[simp] theorem pending_hkPwmEdge (ch : Nat) (pt : Nat) (s : State) :
    (hkPwmEdge ch pt s).pending = s.pending := by
  simp [hkPwmEdge]
@[simp] theorem pending_hkFeed (n : Nat) (code : Nat) (ovr : Bool) (bad : Bool) (s : State) :
    (hkFeed n code ovr bad s).pending = s.pending := by
  unfold hkFeed; simp; split <;> simp
@[simp] theorem pending_retentionChecked (late : Bool) (dram : Bool) (trims : Bool) (journal : Bool) (s : State) :
    (retentionChecked late dram trims journal s).pending = s.pending := by
  simp [retentionChecked]
@[simp] theorem pending_serEvent (u : Nat) (kind : Nat) (value : Nat) (s : State) :
    (serEvent u kind value s).pending = s.pending := by
  simp [serEvent]
@[simp] theorem pending_otherPacket (vc : Nat) (dt : Nat) (e : PacketErr) (s : State) :
    (otherPacket vc dt e s).pending = s.pending := by
  unfold otherPacket; simp; split <;> simp
@[simp] theorem pending_startHeaterPeriod (s : State) :
    (startHeaterPeriod s).pending = s.pending := by
  simp [startHeaterPeriod]
@[simp] theorem pending_vCode (t : Nat) (c : Code) (s : State) :
    (vCode t c s).pending = s.pending := by
  simp [vCode]
@[simp] theorem pending_unprotAll (m : Nat) (s : State) :
    (unprotAll m s).pending = s.pending := by
  simp [unprotAll]
@[simp] theorem pending_hkFramePoint (c : Nat) (pt : Nat) (s : State) :
    (hkFramePoint c pt s).pending = s.pending := by
  simp [hkFramePoint]
@[simp] theorem pending_headsProbed (answered : Nat) (started : Nat) (s : State) :
    (headsProbed answered started s).pending = s.pending := by
  simp [headsProbed]
@[simp] theorem pending_portsReleased (c : Nat) (s : State) :
    (portsReleased c s).pending = s.pending := by
  simp [portsReleased]
@[simp] theorem pending_ambientStale (s : State) :
    (ambientStale s).pending = s.pending := by
  simp [ambientStale]
@[simp] theorem pending_protect (m : Nat) (k : Nat) (b : Bool) (s : State) :
    (protect m k b s).pending = s.pending := by
  simp [protect]
@[simp] theorem pending_closeWheel (m : Nat) (k : Nat) (st : Nat) (gap : Bool) (s : State) :
    (closeWheel m k st gap s).pending = s.pending := by
  simp [closeWheel]
@[simp] theorem pending_norOpened (ok : Bool) (s : State) :
    (norOpened ok s).pending = s.pending := by
  unfold norOpened; dsimp only; (repeat' split) <;> simp
@[simp] theorem pending_sunWaitEnds (n : Nat) (s : State) :
    (sunWaitEnds n s).pending = s.pending := by
  simp [sunWaitEnds]
@[simp] theorem pending_pressEnds (n : Nat) (res : Nat) (s : State) :
    (pressEnds n res s).pending = s.pending := by
  simp [pressEnds]
@[simp] theorem pending_deliver (c : Nat) (p : Nat) (f : Frame) (n : NucOut) (r : RndOut) (s : State) :
    (deliver c p f n r s).pending = s.pending := by
  unfold deliver; dsimp only; (repeat' split) <;> simp
@[simp] theorem pending_sunRetryStart (n : Nat) (s : State) :
    (sunRetryStart n s).pending = s.pending := by
  simp [sunRetryStart]
@[simp] theorem pending_headerCut (c : Code) (block : Code) (clocks : Nat) (tag : Nat) (s : State) :
    (headerCut c block clocks tag s).pending = s.pending := by
  simp [headerCut]
@[simp] theorem pending_vLink (t : Nat) (rd : Nat) (target : Nat) (s : State) :
    (vLink t rd target s).pending = s.pending := by
  simp [vLink]
@[simp] theorem pending_beginPhase (n : Nat) (k : Nat) (s : State) :
    (beginPhase n k s).pending = s.pending := by
  simp [beginPhase]
@[simp] theorem pending_vSend (p : Nat) (v : VFrame) (s : State) :
    (vSend p v s).pending = s.pending := by
  simp [vSend]
@[simp] theorem pending_vBranchIf (t : Nat) (off : BitVec 18) (c : State → Bool) (s : State) :
    (vBranchIf t off c s).pending = s.pending := by
  simp [vBranchIf]
@[simp] theorem pending_wakeWith (t : Nat) (rd : Nat) (v : Word) (c : Code) (s : State) :
    (wakeWith t rd v c s).pending = s.pending := by
  simp [wakeWith]
@[simp] theorem pending_heaterFollow (before : State) (s : State) :
    (heaterFollow before s).pending = s.pending := by
  simp [heaterFollow]
@[simp] theorem pending_bridgeEdge (n : Nat) (pt : Nat) (s : State) :
    (bridgeEdge n pt s).pending = s.pending := by
  simp [bridgeEdge]
@[simp] theorem pending_freshDiode (raw : Int) (s : State) :
    (freshDiode raw s).pending = s.pending := by
  unfold freshDiode; (repeat' split) <;> simp
@[simp] theorem pending_hkStartup (raws : List Int) (s : State) :
    (hkStartup raws s).pending = s.pending := by
  unfold hkStartup; (repeat' split) <;> simp
@[simp] theorem pending_vBreak (t : Nat) (y1 : State) :
    (vBreak t y1).pending = y1.pending := by
  simp [vBreak]
@[simp] theorem pending_offerFrame (e : Nat) (c : Coded) (s : State) :
    (offerFrame e c s).pending = s.pending := by
  simp [offerFrame]
@[simp] theorem pending_vTset (t : Nat) (ra : Nat) (periodic : Bool) (y1 : State) :
    (vTset t ra periodic y1).pending = y1.pending := by
  simp [vTset]
@[simp] theorem pending_pdelayAnswer (p : Nat) (b : List Nat) (s : State) :
    (pdelayAnswer p b s).pending = s.pending := by
  unfold pdelayAnswer; split <;> simp
@[simp] theorem pending_vYield (t : Nat) (y1 : State) :
    (vYield t y1).pending = y1.pending := by
  simp [vYield]
@[simp] theorem pending_serStore (u : Nat) (c : SerChar) (s : State) :
    (serStore u c s).pending = s.pending := by
  simp [serStore]
@[simp] theorem pending_hkEntryEnds (j : Nat) (r : HkRun) (code : Nat) (ovr : Bool) (sus : Bool) (diag : Bool) (s : State) :
    (hkEntryEnds j r code ovr sus diag s).pending = s.pending := by
  unfold hkEntryEnds; (repeat' split) <;> simp
@[simp] theorem pending_vCsel (t : Nat) (ctx : Nat) (y1 : State) :
    (vCsel t ctx y1).pending = y1.pending := by
  simp [vCsel]
@[simp] theorem pending_serSent (u : Nat) (s : State) :
    (serSent u s).pending = s.pending := by
  simp [serSent]
@[simp] theorem pending_wakeCode (t : Nat) (c : Code) (s : State) :
    (wakeCode t c s).pending = s.pending := by
  simp [wakeCode]
@[simp] theorem pending_writeOut (o : Nat × Nat × COut) (s : State) :
    (writeOut o s).pending = s.pending := by
  unfold writeOut; (repeat' split) <;> simp
@[simp] theorem pending_pressAbort (n : Nat) (res : Nat) (s : State) :
    (pressAbort n res s).pending = s.pending := by
  unfold pressAbort; split <;> simp
@[simp] theorem pending_enterNor (s : State) :
    (enterNor s).pending = s.pending := by
  simp [enterNor]
@[simp] theorem pending_pdelayReq (s : State) :
    (pdelayReq s).pending = s.pending := by
  simp [pdelayReq]
@[simp] theorem pending_vSpawn (t : Nat) (u : Nat) (ra : Nat) (rb : Nat) (y1 : State) :
    (vSpawn t u ra rb y1).pending = y1.pending := by
  simp [vSpawn]
@[simp] theorem pending_vRdt (t : Nat) (rd : Nat) (sel : Nat) (y1 : State) :
    (vRdt t rd sel y1).pending = y1.pending := by
  unfold vRdt; split <;> simp
@[simp] theorem pending_pressBlindStart (n : Nat) (accepted : Bool) (s : State) :
    (pressBlindStart n accepted s).1.pending = s.pending := by
  unfold pressBlindStart; split <;> simp
@[simp] theorem pending_vHalt (t : Nat) (y1 : State) :
    (vHalt t y1).pending = y1.pending := by
  simp [vHalt]
@[simp] theorem pending_vOnCtx (t ctx : Nat) (legal : Bool) (f off : Nat → State → State)
    (h : ∀ c s, (f c s).pending = s.pending) (h2 : ∀ c s, (off c s).pending = s.pending) (s : State) :
    (vOnCtx t ctx legal f off s).pending = s.pending := by
  unfold vOnCtx
  exact pending_vInstr _ _ _ _ (fun s => by dsimp only; split <;> simp [h, h2]) _
@[simp] theorem pending_vEmit (t : Nat) (n : Nat) (ra : Nat) (y1 : State) :
    (vEmit t n ra y1).pending = y1.pending := by
  simp [vEmit]
@[simp] theorem pending_vRtt (t : Nat) (y1 : State) :
    (vRtt t y1).pending = y1.pending := by
  simp [vRtt]
@[simp] theorem pending_vJalr (t : Nat) (rd : Nat) (ra : Nat) (y1 : State) :
    (vJalr t rd ra y1).pending = y1.pending := by
  simp [vJalr]
@[simp] theorem pending_hostPacket (s : State) :
    (hostPacket s).pending = s.pending := by
  unfold hostPacket; split <;> simp
@[simp] theorem pending_bridgeSample (n : Nat) (code : Nat) (ovr : Bool) (sus : Bool) (s : State) :
    (bridgeSample n code ovr sus s).pending = s.pending := by
  unfold bridgeSample; dsimp only; (repeat' split) <;> simp
@[simp] theorem pending_serWoke (u : Nat) (s : State) :
    (serWoke u s).pending = s.pending := by
  simp [serWoke]
@[simp] theorem pending_serIdle (u : Nat) (s : State) :
    (serIdle u s).pending = s.pending := by
  simp [serIdle]
@[simp] theorem pending_shedHeat (s : State) :
    (shedHeat s).pending = s.pending := by
  simp [shedHeat]
@[simp] theorem pending_jobFollow (j : Nat) (s : State) :
    (jobFollow j s).pending = s.pending := by
  unfold jobFollow; (repeat' split) <;> simp
@[simp] theorem pending_vIllegal (t : Nat) (y1 : State) :
    (vIllegal t y1).pending = y1.pending := by
  simp [vIllegal]
@[simp] theorem pending_forward (f : QFrame) (dst : Nat) (vid : Nat) (pcp : Nat) (exempt : Bool) (s : State) :
    (forward f dst vid pcp exempt s).pending = s.pending := by
  unfold forward; split <;> simp
@[simp] theorem pending_encDrop (s : State) :
    (encDrop s).pending = s.pending := by
  simp [encDrop]
@[simp] theorem pending_vJal (t : Nat) (rd : Nat) (target : BitVec 14) (y1 : State) :
    (vJal t rd target y1).pending = y1.pending := by
  simp [vJal]
@[simp] theorem pending_vSet (t : Nat) (rd : Nat) (f : State → Word) (s : State) :
    (vSet t rd f s).pending = s.pending := by
  simp [vSet]
@[simp] theorem pending_serMeasured (u : Nat) (t : Nat) (samples : List Nat) (s : State) :
    (serMeasured u t samples s).pending = s.pending := by
  simp [serMeasured]
@[simp] theorem pending_encServe (k : Nat) (s : State) : (encServe k s).pending = s.pending := by
  induction k generalizing s with
  | zero => rfl
  | succ k ih =>
    unfold encServe
    (repeat' split) <;> simp [ih]
@[simp] theorem pending_vFetch (t : Nat) (rd : Nat) (a : Nat) (f : Word → Word) (s : State) :
    (vFetch t rd a f s).pending = s.pending := by
  unfold vFetch; split <;> simp
@[simp] theorem pending_vMem (t : Nat) (addr : State → Word) (f : Nat → State → State)
    (h : ∀ w s, (f w s).pending = s.pending) (s : State) : (vMem t addr f s).pending = s.pending := by
  unfold vMem
  exact pending_vInstr _ _ _ _ (fun s => by dsimp only; (repeat' split) <;> simp [h]) _
@[simp] theorem pending_vWevt (t rd ra rb : Nat) (s : State) : (vWevt t rd ra rb s).pending = s.pending := by
  unfold vWevt
  exact pending_vInstr _ _ _ _ (fun s => by split <;> simp) _
@[simp] theorem pending_vShift (t : Nat) (rd : Nat) (ra : Nat) (imm : BitVec 18) (f : Word → Nat → Word) (s : State) :
    (vShift t rd ra imm f s).pending = s.pending := by
  simp [vShift]
@[simp] theorem pending_vWfrm (t : Nat) (rd : Nat) (ctx : Nat) (pt : Nat) (sticky : Bool) (y1 : State) :
    (vWfrm t rd ctx pt sticky y1).pending = y1.pending := by
  simp [vWfrm]
@[simp] theorem pending_nextPhase (n : Nat) (s : State) :
    (nextPhase n s).pending = s.pending := by
  simp [nextPhase]
@[simp] theorem pending_hopAckFor (p : Nat) (v : VFrame) (s : State) :
    (hopAckFor p v s).pending = s.pending := by
  simp [hopAckFor]
@[simp] theorem pending_encGo (s : State) :
    (encGo s).pending = s.pending := by
  simp [encGo]
@[simp] theorem pending_heatUpdate (raw : Int) (s : State) :
    (heatUpdate raw s).pending = s.pending := by
  simp [heatUpdate]
@[simp] theorem pending_vGetr (t : Nat) (rd : Nat) (ra : Nat) (y1 : State) :
    (vGetr t rd ra y1).pending = y1.pending := by
  simp [vGetr]
@[simp] theorem pending_govDelaysApply (s : State) :
    (govDelaysApply s).pending = s.pending := by
  simp [govDelaysApply]
@[simp] theorem pending_vSt (t : Nat) (rd : Nat) (ra : Nat) (imm : BitVec 18) (y1 : State) :
    (vSt t rd ra imm y1).pending = y1.pending := by
  simp [vSt]
@[simp] theorem pending_jobStart (j : Nat) (s : State) :
    (jobStart j s).pending = s.pending := by
  simp [jobStart]
@[simp] theorem pending_vImm (t : Nat) (rd : Nat) (ra : Nat) (imm : Word) (f : Word → Word → Word) (s : State) :
    (vImm t rd ra imm f s).pending = s.pending := by
  simp [vImm]
@[simp] theorem pending_pressAbortAll (s : State) :
    (pressAbortAll s).pending = s.pending := by
  simp [pressAbortAll]
@[simp] theorem pending_sendOne (n : Nat) (f : SFrame) (rest : List SFrame) (s : State) :
    (sendOne n f rest s).pending = s.pending := by
  simp [sendOne]
@[simp] theorem pending_vWshg (t : Nat) (rd : Nat) (ctx : Nat) (y1 : State) :
    (vWshg t rd ctx y1).pending = y1.pending := by
  simp [vWshg]
@[simp] theorem pending_flushStream (e : Nat) (s : State) :
    (flushStream e s).pending = s.pending := by
  simp [flushStream]
@[simp] theorem pending_classify (p : Nat) (b : List Nat) (s : State) :
    (classify p b s).pending = s.pending := by
  unfold classify; dsimp only; (repeat' split) <;> simp
@[simp] theorem pending_vAnaq (t rd ctx sel : Nat) (s : State) : (vAnaq t rd ctx sel s).pending = s.pending := by
  unfold vAnaq
  exact pending_vOnCtx _ _ _ _ _ (fun c s => by (repeat' split) <;> simp) (fun c s => rfl) _
@[simp] theorem pending_vSrai (t : Nat) (rd : Nat) (ra : Nat) (imm : BitVec 18) (y1 : State) :
    (vSrai t rd ra imm y1).pending = y1.pending := by
  simp [vSrai]
@[simp] theorem pending_pwmOff (n : Nat) (s : State) :
    (pwmOff n s).pending = s.pending := by
  simp [pwmOff]
@[simp] theorem pending_vAlu (t : Nat) (rd : Nat) (ra : Nat) (rb : Nat) (f : Word → Word → Word) (s : State) :
    (vAlu t rd ra rb f s).pending = s.pending := by
  simp [vAlu]
@[simp] theorem pending_timerReturn (t : Nat) (rd : Nat) (n : Nat) (s : State) :
    (timerReturn t rd n s).pending = s.pending := by
  simp [timerReturn]
@[simp] theorem pending_vGet (t : Nat) (rd : Nat) (page : Nat) (off : Nat) (y1 : State) :
    (vGet t rd page off y1).pending = y1.pending := by
  simp [vGet]
@[simp] theorem pending_sendAcked (p : Nat) (v : VFrame) (max : Nat) (s : State) :
    (sendAcked p v max s).pending = s.pending := by
  simp [sendAcked]
@[simp] theorem pending_shingleEnd (c : Nat) (fn : Nat) (idx : Nat) (s : State) :
    (shingleEnd c fn idx s).pending = s.pending := by
  unfold shingleEnd; exact pending_foldl _ (fun s x => by split <;> simp) _ _
@[simp] theorem pending_pageWritten (e : Nat) (s : State) :
    (pageWritten e s).pending = s.pending := by
  unfold pageWritten; (repeat' split) <;> simp
@[simp] theorem pending_hkConversion (j : Nat) (m : ConvMeas) (s : State) :
    (hkConversion j m s).pending = s.pending := by
  unfold hkConversion; (repeat' split) <;> simp
@[simp] theorem pending_vBcode (t : Nat) (off : BitVec 18) (y1 : State) :
    (vBcode t off y1).pending = y1.pending := by
  simp [vBcode]
@[simp] theorem pending_vLui (t : Nat) (rd : Nat) (imm : BitVec 22) (y1 : State) :
    (vLui t rd imm y1).pending = y1.pending := by
  simp [vLui]
@[simp] theorem pending_sendCtl (p : Nat) (op : Nat) (bid : Nat) (e : Nat) (ctx : Nat) (codec : Nat) (mgrp : Nat) (reason : Nat) (s : State) :
    (sendCtl p op bid e ctx codec mgrp reason s).pending = s.pending := by
  simp [sendCtl]
@[simp] theorem pending_jobsFollow (s : State) :
    (jobsFollow s).pending = s.pending := by
  simp [jobsFollow]
@[simp] theorem pending_wakeTold (src : Nat) (s : State) :
    (wakeTold src s).pending = s.pending := by
  simp [wakeTold]
@[simp] theorem pending_serReceive (u : Nat) (samples : List Nat) (s : State) :
    (serReceive u samples s).pending = s.pending := by
  unfold serReceive; (repeat' split) <;> simp
@[simp] theorem pending_vSlli (t : Nat) (rd : Nat) (ra : Nat) (imm : BitVec 18) (y1 : State) :
    (vSlli t rd ra imm y1).pending = y1.pending := by
  simp [vSlli]
@[simp] theorem pending_relay (p : Nat) (v : VFrame) (s : State) :
    (relay p v s).pending = s.pending := by
  simp [relay]
@[simp] theorem pending_vFnum (t : Nat) (rd : Nat) (ctx : Nat) (y1 : State) :
    (vFnum t rd ctx y1).pending = y1.pending := by
  simp [vFnum]
@[simp] theorem pending_vCode_ (t : Nat) (rd : Nat) (y1 : State) :
    (vCode_ t rd y1).pending = y1.pending := by
  simp [vCode_]
@[simp] theorem pending_ctxWaitsEnd (c : Nat) (s : State) :
    (ctxWaitsEnd c s).pending = s.pending := by
  unfold ctxWaitsEnd; exact pending_foldl _ (fun s x => by split <;> simp) _ _
@[simp] theorem pending_flood (ty : Nat) (pl : List Nat) (s : State) :
    (flood ty pl s).pending = s.pending := by
  simp [flood]
@[simp] theorem pending_vSrli (t : Nat) (rd : Nat) (ra : Nat) (imm : BitVec 18) (y1 : State) :
    (vSrli t rd ra imm y1).pending = y1.pending := by
  simp [vSrli]
@[simp] theorem pending_vAmo (t : Nat) (rd : Nat) (ra : Nat) (rb : Nat) (f : Word → Word → Word) (y1 : State) :
    (vAmo t rd ra rb f y1).pending = y1.pending := by
  simp [vAmo]
@[simp] theorem pending_closeHosted (h : Hosted) (st : Nat) (gap : Bool) (pf : Bool) (write : Bool) (s : State) :
    (closeHosted h st gap pf write s).pending = s.pending := by
  simp [closeHosted]
@[simp] theorem pending_framePoint (c : Nat) (pt : Nat) (fn : Nat) (s : State) :
    (framePoint c pt fn s).pending = s.pending := by
  unfold framePoint; exact pending_foldl _ (fun s x => by dsimp only; (repeat' split) <;> simp) _ _
@[simp] theorem pending_inputsChanged (before : State) (s : State) :
    (inputsChanged before s).pending = s.pending := by
  simp [inputsChanged]
@[simp] theorem pending_alarmResend (k : Nat) (s : State) :
    (alarmResend k s).pending = s.pending := by
  unfold alarmResend; split <;> simp
@[simp] theorem pending_vBranch (t : Nat) (ra : Nat) (rb : Nat) (off : BitVec 18) (c : Word → Word → Bool) (s : State) :
    (vBranch t ra rb off c s).pending = s.pending := by
  simp [vBranch]
@[simp] theorem pending_vLd (t : Nat) (rd : Nat) (ra : Nat) (imm : BitVec 18) (y1 : State) :
    (vLd t rd ra imm y1).pending = y1.pending := by
  simp [vLd]
@[simp] theorem pending_probeTimer (p : Nat) (s : State) :
    (probeTimer p s).pending = s.pending := by
  simp [probeTimer]
@[simp] theorem pending_vBeq (t : Nat) (ra : Nat) (rb : Nat) (off : BitVec 18) (y1 : State) :
    (vBeq t ra rb off y1).pending = y1.pending := by
  simp [vBeq]
@[simp] theorem pending_vBne (t : Nat) (ra : Nat) (rb : Nat) (off : BitVec 18) (y1 : State) :
    (vBne t ra rb off y1).pending = y1.pending := by
  simp [vBne]
@[simp] theorem pending_rindBegin (s : State) :
    (rindBegin s).pending = s.pending := by
  simp [rindBegin]
@[simp] theorem pending_vSra (t : Nat) (rd : Nat) (ra : Nat) (rb : Nat) (y1 : State) :
    (vSra t rd ra rb y1).pending = y1.pending := by
  simp [vSra]
@[simp] theorem pending_vBlt (t : Nat) (ra : Nat) (rb : Nat) (off : BitVec 18) (y1 : State) :
    (vBlt t ra rb off y1).pending = y1.pending := by
  simp [vBlt]
@[simp] theorem pending_vAnd (t : Nat) (rd : Nat) (ra : Nat) (rb : Nat) (y1 : State) :
    (vAnd t rd ra rb y1).pending = y1.pending := by
  simp [vAnd]
@[simp] theorem pending_vMulh (t : Nat) (rd : Nat) (ra : Nat) (rb : Nat) (y1 : State) :
    (vMulh t rd ra rb y1).pending = y1.pending := by
  simp [vMulh]
@[simp] theorem pending_encBreak (c fn : Nat) (s : State) : (encBreak c fn s).pending = s.pending := by
  unfold encBreak
  rw [pending_encGo]
  refine pending_foldl _ (fun s e => ?_) _ _
  split
  · rfl
  · dsimp only
    split <;> simp
@[simp] theorem pending_vOri (t : Nat) (rd : Nat) (ra : Nat) (imm : BitVec 18) (y1 : State) :
    (vOri t rd ra imm y1).pending = y1.pending := by
  simp [vOri]
@[simp] theorem pending_ringCtlFrame (p : Nat) (v : VFrame) (s : State) :
    (ringCtlFrame p v s).pending = s.pending := by
  simp [ringCtlFrame]
@[simp] theorem pending_vBge (t : Nat) (ra : Nat) (rb : Nat) (off : BitVec 18) (y1 : State) :
    (vBge t ra rb off y1).pending = y1.pending := by
  simp [vBge]
@[simp] theorem pending_setCtxSt (c : Nat) (st : CtxSt) (s : State) :
    (setCtxSt c st s).pending = s.pending := by
  simp [setCtxSt]
@[simp] theorem pending_vSub (t : Nat) (rd : Nat) (ra : Nat) (rb : Nat) (y1 : State) :
    (vSub t rd ra rb y1).pending = y1.pending := by
  simp [vSub]
@[simp] theorem pending_vBltu (t : Nat) (ra : Nat) (rb : Nat) (off : BitVec 18) (y1 : State) :
    (vBltu t ra rb off y1).pending = y1.pending := by
  simp [vBltu]
@[simp] theorem pending_hostedEnd (st : Nat) (gap : Bool) (pf : Bool) (write : Bool) (s : State) :
    (hostedEnd st gap pf write s).pending = s.pending := by
  simp [hostedEnd]
@[simp] theorem pending_vAmoswap (t : Nat) (rd : Nat) (ra : Nat) (rb : Nat) (y1 : State) :
    (vAmoswap t rd ra rb y1).pending = y1.pending := by
  simp [vAmoswap]
@[simp] theorem pending_vSltu (t : Nat) (rd : Nat) (ra : Nat) (rb : Nat) (y1 : State) :
    (vSltu t rd ra rb y1).pending = y1.pending := by
  simp [vSltu]
@[simp] theorem pending_vMin (t : Nat) (rd : Nat) (ra : Nat) (rb : Nat) (y1 : State) :
    (vMin t rd ra rb y1).pending = y1.pending := by
  simp [vMin]
@[simp] theorem pending_alarmHandoff (d : Delivery) (s : State) :
    (alarmHandoff d s).2.pending = s.pending := by
  simp [alarmHandoff]
@[simp] theorem pending_vSlti (t : Nat) (rd : Nat) (ra : Nat) (imm : BitVec 18) (y1 : State) :
    (vSlti t rd ra imm y1).pending = y1.pending := by
  simp [vSlti]
@[simp] theorem pending_vSll (t : Nat) (rd : Nat) (ra : Nat) (rb : Nat) (y1 : State) :
    (vSll t rd ra rb y1).pending = y1.pending := by
  simp [vSll]
@[simp] theorem pending_vAdd (t : Nat) (rd : Nat) (ra : Nat) (rb : Nat) (y1 : State) :
    (vAdd t rd ra rb y1).pending = y1.pending := by
  simp [vAdd]
@[simp] theorem pending_periodPhase (n : Nat) (s : State) :
    (periodPhase n s).pending = s.pending := by
  simp [periodPhase]
@[simp] theorem pending_vMax (t : Nat) (rd : Nat) (ra : Nat) (rb : Nat) (y1 : State) :
    (vMax t rd ra rb y1).pending = y1.pending := by
  simp [vMax]
@[simp] theorem pending_vMul (t : Nat) (rd : Nat) (ra : Nat) (rb : Nat) (y1 : State) :
    (vMul t rd ra rb y1).pending = y1.pending := by
  simp [vMul]
@[simp] theorem pending_vSlt (t : Nat) (rd : Nat) (ra : Nat) (rb : Nat) (y1 : State) :
    (vSlt t rd ra rb y1).pending = y1.pending := by
  simp [vSlt]
@[simp] theorem pending_sendGossip (s : State) :
    (sendGossip s).pending = s.pending := by
  simp [sendGossip]
@[simp] theorem pending_vXori (t : Nat) (rd : Nat) (ra : Nat) (imm : BitVec 18) (y1 : State) :
    (vXori t rd ra imm y1).pending = y1.pending := by
  simp [vXori]
@[simp] theorem pending_vSrl (t : Nat) (rd : Nat) (ra : Nat) (rb : Nat) (y1 : State) :
    (vSrl t rd ra rb y1).pending = y1.pending := by
  simp [vSrl]
@[simp] theorem pending_vXor (t : Nat) (rd : Nat) (ra : Nat) (rb : Nat) (y1 : State) :
    (vXor t rd ra rb y1).pending = y1.pending := by
  simp [vXor]
@[simp] theorem pending_mediumGone (m : Nat) (reason : Nat) (s : State) :
    (mediumGone m reason s).pending = s.pending := by
  simp [mediumGone]
@[simp] theorem pending_dataFrame (p : Nat) (b : List Nat) (s : State) :
    (dataFrame p b s).pending = s.pending := by
  simp [dataFrame]
@[simp] theorem pending_conversionComplete (j : Nat) (m : ConvMeas) (s : State) :
    (conversionComplete j m s).pending = s.pending := by
  unfold conversionComplete; split <;> simp
@[simp] theorem pending_timerExpire (t : Nat) (s : State) :
    (timerExpire t s).pending = s.pending := by
  unfold timerExpire; dsimp only; (repeat' split) <;> simp
@[simp] theorem pending_hostEnds (i : Nat) (op : Nat) (tell : Bool) (s : State) :
    (hostEnds i op tell s).pending = s.pending := by
  unfold hostEnds; split <;> simp
@[simp] theorem pending_nucLost (s : State) :
    (nucLost s).pending = s.pending := by
  simp [nucLost]
@[simp] theorem pending_vAmoadd (t : Nat) (rd : Nat) (ra : Nat) (rb : Nat) (y1 : State) :
    (vAmoadd t rd ra rb y1).pending = y1.pending := by
  simp [vAmoadd]
@[simp] theorem pending_openRing (s : State) :
    (openRing s).pending = s.pending := by
  simp [openRing]
@[simp] theorem pending_pointAt (c : Nat) (pt : Nat) (fn : Nat) (s : State) :
    (pointAt c pt fn s).pending = s.pending := by
  simp [pointAt]
@[simp] theorem pending_linkEvt (p : Nat) (up : Bool) (s : State) :
    (linkEvt p up s).pending = s.pending := by
  simp [linkEvt]
@[simp] theorem pending_rcEntry (p : Nat) (v : VFrame) (s : State) :
    (rcEntry p v s).pending = s.pending := by
  simp [rcEntry]
@[simp] theorem pending_buddyOpen (p : Nat) (v : VFrame) (s : State) :
    (buddyOpen p v s).pending = s.pending := by
  unfold buddyOpen; dsimp only; (repeat' split) <;> simp
@[simp] theorem pending_vAndi (t : Nat) (rd : Nat) (ra : Nat) (imm : BitVec 18) (y1 : State) :
    (vAndi t rd ra imm y1).pending = y1.pending := by
  simp [vAndi]
@[simp] theorem pending_vAddi (t : Nat) (rd : Nat) (ra : Nat) (imm : BitVec 18) (y1 : State) :
    (vAddi t rd ra imm y1).pending = y1.pending := by
  simp [vAddi]
@[simp] theorem pending_alarmFrame (p : Nat) (v : VFrame) (s : State) :
    (alarmFrame p v s).pending = s.pending := by
  unfold alarmFrame; dsimp only; (repeat' split) <;> simp
@[simp] theorem pending_beaconFrame (p : Nat) (v : VFrame) (s : State) :
    (beaconFrame p v s).pending = s.pending := by
  simp [beaconFrame]
@[simp] theorem pending_buddyPump (e k : Nat) (s : State) : (buddyPump e k s).pending = s.pending := by
  induction k generalizing s with
  | zero => rfl
  | succ k ih =>
    unfold buddyPump
    (repeat' split) <;> simp [ih]
@[simp] theorem pending_vOr (t : Nat) (rd : Nat) (ra : Nat) (rb : Nat) (y1 : State) :
    (vOr t rd ra rb y1).pending = y1.pending := by
  simp [vOr]
@[simp] theorem pending_endSearch (result : Nat) (last : Nat) (s : State) :
    (endSearch result last s).pending = s.pending := by
  simp [endSearch]
@[simp] theorem pending_vWtim (t : Nat) (rd : Nat) (y1 : State) :
    (vWtim t rd y1).pending = y1.pending := by
  simp [vWtim]
@[simp] theorem pending_encAdvance (c : Nat) (f : Frame) (rows : Nat) (s : State) :
    (encAdvance c f rows s).pending = s.pending := by
  unfold encAdvance
  rw [pending_encGo]
  refine pending_foldl _ (fun s e => ?_) _ _
  split
  · rfl
  · dsimp only
    split
    · rfl
    · split <;> simp
@[simp] theorem pending_buddyEnds (e : Nat) (op : Nat) (tell : Bool) (s : State) :
    (buddyEnds e op tell s).pending = s.pending := by
  unfold buddyEnds; split <;> simp
@[simp] theorem pending_vBgeu (t : Nat) (ra : Nat) (rb : Nat) (off : BitVec 18) (y1 : State) :
    (vBgeu t ra rb off y1).pending = y1.pending := by
  simp [vBgeu]
@[simp] theorem pending_gossipNew (p : Nat) (v : VFrame) (s : State) :
    (gossipNew p v s).pending = s.pending := by
  unfold gossipNew; dsimp only; (repeat' split) <;> simp
@[simp] theorem pending_velvaFollow (before : State) (s : State) :
    (velvaFollow before s).pending = s.pending := by
  simp [velvaFollow]
@[simp] theorem pending_buddyPages (e : Nat) (ps : List CPage) (s : State) :
    (buddyPages e ps s).pending = s.pending := by
  simp [buddyPages]
@[simp] theorem pending_enableCtx (c : Nat) (s : State) :
    (enableCtx c s).pending = s.pending := by
  unfold enableCtx; split <;> simp
@[simp] theorem pending_disableCtx (c : Nat) (s : State) :
    (disableCtx c s).pending = s.pending := by
  unfold disableCtx; split <;> simp
@[simp] theorem pending_cardFollow (s : State) :
    (cardFollow s).pending = s.pending := by
  simp [cardFollow]
@[simp] theorem pending_swLinkUp (p : Nat) (g1000 : Bool) (s : State) :
    (swLinkUp p g1000 s).pending = s.pending := by
  simp [swLinkUp]
@[simp] theorem pending_buddyDrained (e : Nat) (s : State) :
    (buddyDrained e s).pending = s.pending := by
  simp [buddyDrained]
@[simp] theorem pending_ctxDrained (c : Nat) (s : State) :
    (ctxDrained c s).pending = s.pending := by
  simp [ctxDrained]
@[simp] theorem pending_velvaEnable (before : State) (s : State) :
    (velvaEnable before s).pending = s.pending := by
  simp [velvaEnable]
theorem indexCheck_pending (slot ssrc ix : Nat) (s t : State) (h : indexCheck slot ssrc ix s = .ok t) :
    t.pending = s.pending := by
  unfold indexCheck at h
  dsimp only at h
  split at h
  · split at h
    · cases h
      rfl
    · cases h
  · split at h
    · cases h
    · cases h
      rfl
@[simp] theorem pending_sendPacket (k : Nat) (s : State) : (sendPacket k s).pending = s.pending := by
  induction k generalizing s with
  | zero => rfl
  | succ k ih =>
    unfold sendPacket
    split
    · rfl
    · have hp := pending_pick s
      split
      · rename_i h
        rw [h] at hp
        exact hp
      · rename_i h
        rw [h] at hp
        rw [← hp]
        split
        · rfl
        · dsimp only
          split
          · simp [ih]
          · split
            · simp
            · split
              · simp [ih]
              · rename_i hx
                rw [pending_sendOne, pending_tenApply, indexCheck_pending _ _ _ _ _ hx]
@[simp] theorem pending_portLost (p : Nat) (s : State) :
    (portLost p s).pending = s.pending := by
  simp [portLost]
@[simp] theorem pending_rcEnd (p : Nat) (v : VFrame) (s : State) :
    (rcEnd p v s).pending = s.pending := by
  simp [rcEnd]
@[simp] theorem pending_hostBytesIn (i : Nat) (data : List Nat) (s : State) : (hostBytesIn i data s).pending = s.pending := by
  unfold hostBytesIn
  split
  · rfl
  · dsimp only
    split
    · simp
    · split
      · simp
      · next h =>
        simp only [pending_onCel, pending_onWheel]
        split at h
        · cases h; rfl
        · obtain ⟨k, _, hk⟩ := Option.map_eq_some_iff.mp h
          cases hk
          simp
@[simp] theorem pending_commitApply (c : Nat) (fn : Nat) (s : State) :
    (commitApply c fn s).pending = s.pending := by
  simp [commitApply]
@[simp] theorem pending_rollcallTimeout (s : State) :
    (rollcallTimeout s).pending = s.pending := by
  simp [rollcallTimeout]
@[simp] theorem pending_frameEnds (c : Nat) (fn : Nat) (s : State) :
    (frameEnds c fn s).pending = s.pending := by
  simp [frameEnds]
@[simp] theorem pending_pwmPeriod (n : Nat) (s : State) :
    (pwmPeriod n s).pending = s.pending := by
  unfold pwmPeriod; dsimp only; (repeat' split) <;> simp
@[simp] theorem pending_linkEvtFrame (p : Nat) (v : VFrame) (s : State) :
    (linkEvtFrame p v s).pending = s.pending := by
  simp [linkEvtFrame]
@[simp] theorem pending_eject (m : Nat) (s : State) :
    (eject m s).pending = s.pending := by
  simp [eject]
@[simp] theorem pending_sendRcEnd (part : Bool) (s : State) :
    (sendRcEnd part s).pending = s.pending := by
  simp [sendRcEnd]
@[simp] theorem pending_gossipFrame (p : Nat) (v : VFrame) (s : State) :
    (gossipFrame p v s).pending = s.pending := by
  unfold gossipFrame; dsimp only; (repeat' split) <;> simp
@[simp] theorem pending_mediumCommand (m : Nat) (good : Bool) (write : Bool) (e : Nat) (s : State) :
    (mediumCommand m good write e s).pending = s.pending := by
  unfold mediumCommand; dsimp only; (repeat' split) <;> simp
@[simp] theorem pending_buddyPortLost (p : Nat) (s : State) : (buddyPortLost p s).pending = s.pending := by
  unfold buddyPortLost
  dsimp only
  rw [pending_foldl (fun s i => if ((s.cel.hosted[i]?).any fun h => h.port == p) = true then hostEnds i 6 false s else s)
      (fun s x => by rw [pending_ite, pending_hostEnds, ite_self]),
    pending_foldl (fun s e => if ((s.strm e).buddy.any fun b => b.port == p) = true then buddyEnds e 6 false s else s)
      (fun s x => by rw [pending_ite, pending_buddyEnds, ite_self])]
@[simp] theorem pending_velvaErr (p : Nat) (r : Int) (t : Int) (s : State) :
    (velvaErr p r t s).pending = s.pending := by
  simp [velvaErr]
@[simp] theorem pending_acceptFrame (c : Nat) (fn : Nat) (w : Nat) (h : Nat) (kind : Nat) (head : Option Nat) (inPress : Bool) (line : Nat) (fper : Nat) (s : State) :
    (acceptFrame c fn w h kind head inPress line fper s).pending = s.pending := by
  simp [acceptFrame]
@[simp] theorem pending_buddyAcked (p : Nat) (v : VFrame) (s : State) :
    (buddyAcked p v s).pending = s.pending := by
  unfold buddyAcked; split
  · rfl
  · exact pending_foldl _ (fun s x => by (repeat' split) <;> simp) _ _
@[simp] theorem pending_removeFrame (c : Nat) (fn : Nat) (s : State) :
    (removeFrame c fn s).pending = s.pending := by
  unfold removeFrame; dsimp only; (repeat' split) <;> simp
@[simp] theorem pending_buddyStops (e : Nat) (now : Bool) (s : State) :
    (buddyStops e now s).pending = s.pending := by
  unfold buddyStops; split <;> simp
@[simp] theorem pending_storePages (e : Nat) (ps : List CPage) (buf : CPage) (s : State) :
    (storePages e ps buf s).pending = s.pending := by
  unfold storePages; split <;> simp
@[simp] theorem pending_celCmd (cmd : Nat) (m : Nat) (s : State) :
    (celCmd cmd m s).pending = s.pending := by
  unfold celCmd; split <;> simp
@[simp] theorem pending_attemptFails (a : Attempt) (s : State) :
    (attemptFails a s).pending = s.pending := by
  unfold attemptFails; split <;> simp
@[simp] theorem pending_forwardToken (v : VFrame) (s : State) :
    (forwardToken v s).pending = s.pending := by
  simp [forwardToken]
@[simp] theorem pending_buddyFollow (before : State) (s : State) :
    (buddyFollow before s).pending = s.pending := by
  simp [buddyFollow]
@[simp] theorem pending_genLineDone (g : Nat) (s : State) :
    (genLineDone g s).pending = s.pending := by
  unfold genLineDone; split <;> simp
@[simp] theorem pending_buddyDrain (p k : Nat) (s : State) : (buddyDrain p k s).pending = s.pending := by
  induction k generalizing s with
  | zero => rfl
  | succ k ih =>
    unfold buddyDrain
    dsimp only
    split
    · rfl
    · split
      · rfl
      · rw [ih]
        split <;> simp
@[simp] theorem pending_askBuddy (e : Nat) (ruled : List Nat) (c : Coded) (s : State) :
    (askBuddy e ruled c s).pending = s.pending := by
  unfold askBuddy; dsimp only; (repeat' split) <;> simp
@[simp] theorem pending_hopAck (p : Nat) (v : VFrame) (s : State) :
    (hopAck p v s).pending = s.pending := by
  simp [hopAck]
@[simp] theorem pending_ethernetFrame (p : Nat) (b : List Nat) (damaged : Bool) (s : State) :
    (ethernetFrame p b damaged s).2.pending = s.pending := by
  unfold ethernetFrame; (repeat' split) <;> simp
theorem pending_foldl_pair {α β : Type} (f : α × State → β → α × State) (h : ∀ a x, (f a x).2.pending = a.2.pending)
    (l : List β) (a : α × State) : (l.foldl f a).2.pending = a.2.pending := by
  induction l generalizing a with
  | nil => rfl
  | cons b t ih => rw [List.foldl_cons, ih, h]
@[simp] theorem pending_celPfClose (n : Nat) (s : State) : (celPfClose n s).pending = s.pending := by
  unfold celPfClose
  split
  · rfl
  · dsimp only
    rw [pending_raiseN, pending_onCel, pending_hostedEnd, pending_foldl _ (fun s e => by simp)]
    refine pending_foldl_pair _ (fun a e => ?_) _ _
    refine pending_foldl_pair _ (fun a e => ?_) _ _
    split <;> simp
@[simp] theorem pending_putRec (e : Nat) (r : CRec) (s : State) :
    (putRec e r s).pending = s.pending := by
  unfold putRec; dsimp only; (repeat' split) <;> simp
@[simp] theorem pending_buddyRetry (e : Nat) (s : State) :
    (buddyRetry e s).pending = s.pending := by
  unfold buddyRetry; (repeat' split) <;> simp
@[simp] theorem pending_velvaArrive (p : Nat) (v : VFrame) (s : State) :
    (velvaArrive p v s).2.pending = s.pending := by
  simp [velvaArrive]
@[simp] theorem pending_frameDone (c : Nat) (f : Frame) (s : State) :
    (frameDone c f s).pending = s.pending := by
  unfold frameDone; (repeat' split) <;> simp
@[simp] theorem pending_startSearch (s : State) :
    (startSearch s).pending = s.pending := by
  simp [startSearch]
@[simp] theorem pending_breakFrame (c : Nat) (fn : Nat) (reason : Nat) (ends : Bool) (s : State) :
    (breakFrame c fn reason ends s).pending = s.pending := by
  unfold breakFrame; (repeat' split) <;> simp
@[simp] theorem pending_celCloseAll (st : Nat) (gap : Bool) (write : Bool) (s : State) :
    (celCloseAll st gap write s).pending = s.pending := by
  simp [celCloseAll]
@[simp] theorem pending_frameStart (c : Nat) (fn : Nat) (w : Nat) (h : Nat) (kind : Nat) (head : Option Nat) (open_ : Bool) (line : Nat) (fper : Nat) (s : State) :
    (frameStart c fn w h kind head open_ line fper s).2.pending = s.pending := by
  unfold frameStart; (repeat' split) <;> simp
@[simp] theorem pending_attemptTimeout (k : Nat) (s : State) :
    (attemptTimeout k s).pending = s.pending := by
  unfold attemptTimeout; split <;> simp
@[simp] theorem pending_rollcall (p : Nat) (v : VFrame) (s : State) :
    (rollcall p v s).pending = s.pending := by
  simp [rollcall]
@[simp] theorem pending_stopRecording (e : Nat) (s : State) :
    (stopRecording e s).pending = s.pending := by
  unfold stopRecording; dsimp only; (repeat' split) <;> simp
@[simp] theorem pending_attemptsEnd (p : Nat) (s : State) :
    (attemptsEnd p s).pending = s.pending := by
  simp [attemptsEnd]
@[simp] theorem pending_celResume (s : State) :
    (celResume s).pending = s.pending := by
  simp [celResume]
@[simp] theorem pending_celDramLost (s : State) :
    (celDramLost s).pending = s.pending := by
  simp [celDramLost]
@[simp] theorem pending_genStart (g : Nat) (s : State) :
    (genStart g s).pending = s.pending := by
  simp [genStart]
@[simp] theorem pending_swLinkDown (p : Nat) (s : State) :
    (swLinkDown p s).pending = s.pending := by
  simp [swLinkDown]
@[simp] theorem pending_putFrame (e : Nat) (c : Coded) (s : State) :
    (putFrame e c s).pending = s.pending := by
  unfold putFrame; dsimp only; (repeat' split) <;> simp
@[simp] theorem pending_buddyRefused (e : Nat) (p : Nat) (s : State) :
    (buddyRefused e p s).pending = s.pending := by
  unfold buddyRefused; (repeat' split) <;> simp
@[simp] theorem pending_breakRx (n : Nat) (reason : Nat) (ends : Bool) (s : State) :
    (breakRx n reason ends s).pending = s.pending := by
  unfold breakRx; split <;> simp
@[simp] theorem pending_runEnd (s : State) :
    (runEnd s).pending = s.pending := by
  unfold runEnd; dsimp only; (repeat' split) <;> simp
@[simp] theorem pending_breakAll (s : State) :
    (breakAll s).pending = s.pending := by
  simp [breakAll]
@[simp] theorem pending_celRecStop (e : Nat) (s : State) :
    (celRecStop e s).pending = s.pending := by
  simp [celRecStop]
@[simp] theorem pending_velvaHandle (p : Nat) (v : VFrame) (s : State) :
    (velvaHandle p v s).pending = s.pending := by
  unfold velvaHandle; split <;> simp
@[simp] theorem pending_rindEnter (s : State) :
    (rindEnter s).pending = s.pending := by
  simp [rindEnter]
@[simp] theorem pending_putNow (e : Nat) (r : CRec) (s : State) :
    (putNow e r s).pending = s.pending := by
  simp [putNow]
@[simp] theorem pending_buddyData (p : Nat) (v : VFrame) (s : State) :
    (buddyData p v s).pending = s.pending := by
  simp [buddyData]
@[simp] theorem pending_writeFrame (e : Nat) (c : Coded) (s : State) :
    (writeFrame e c s).pending = s.pending := by
  simp [writeFrame]
@[simp] theorem pending_resumeGo (before : State) (s : State) :
    (resumeGo before s).pending = s.pending := by
  simp [resumeGo]
@[simp] theorem pending_safeState (s : State) :
    (safeState s).pending = s.pending := by
  simp [safeState]
@[simp] theorem pending_headSilent (n : Nat) (s : State) :
    (headSilent n s).pending = s.pending := by
  simp [headSilent]
@[simp] theorem pending_cutHead (n : Nat) (s : State) :
    (cutHead n s).pending = s.pending := by
  simp [cutHead]
@[simp] theorem pending_linesLost (n : Nat) (k : Nat) (y : Nat) (s : State) :
    (linesLost n k y s).pending = s.pending := by
  unfold linesLost; (repeat' split) <;> simp
@[simp] theorem pending_dramLostAll (s : State) :
    (dramLostAll s).pending = s.pending := by
  simp [dramLostAll]
@[simp] theorem pending_buddyOpenTimeout (e : Nat) (s : State) :
    (buddyOpenTimeout e s).pending = s.pending := by
  unfold buddyOpenTimeout; split <;> simp
@[simp] theorem pending_retrainFollow (s : State) :
    (retrainFollow s).pending = s.pending := by
  simp [retrainFollow]
@[simp] theorem pending_headStart (p : StartPacket) (e : PacketErr) (s : State) :
    (headStart p e s).pending = s.pending := by
  unfold headStart; simp; (repeat' split) <;> simp
@[simp] theorem pending_retrained (ok : Bool) (s : State) :
    (retrained ok s).2.pending = s.pending := by
  simp [retrained]
@[simp] theorem pending_idrFrame (e : Nat) (c : Coded) (s : State) :
    (idrFrame e c s).pending = s.pending := by
  simp [idrFrame]
@[simp] theorem pending_cutNow (m : HeatMeas) (s : State) :
    (cutNow m s).pending = s.pending := by
  unfold cutNow; split <;> simp
@[simp] theorem pending_lineSeen (n : Nat) (p : LinePacket) (r : RxFrame) (s : State) :
    (lineSeen n p r s).pending = s.pending := by
  simp [lineSeen]
@[simp] theorem pending_beginWait (abrupt : Bool) (s : State) :
    (beginWait abrupt s).pending = s.pending := by
  simp [beginWait]
@[simp] theorem pending_headLost (n : Nat) (s : State) :
    (headLost n s).pending = s.pending := by
  simp [headLost]
@[simp] theorem pending_relocked (lockTime : Nat) (s : State) :
    (relocked lockTime s).pending = s.pending := by
  simp [relocked]
@[simp] theorem pending_buddyAccepted (e : Nat) (p : Nat) (s : State) :
    (buddyAccepted e p s).pending = s.pending := by
  unfold buddyAccepted; split <;> simp
@[simp] theorem pending_headEnd (vc : Nat) (e : PacketErr) (y : Nat) (s : State) :
    (headEnd vc e y s).pending = s.pending := by
  unfold headEnd; simp; (repeat' split) <;> simp
@[simp] theorem pending_lineSlot (n : Nat) (p : LinePacket) (s : State) :
    (lineSlot n p s).pending = s.pending := by
  unfold lineSlot; (repeat' split) <;> simp
@[simp] theorem pending_abruptLoss (s : State) :
    (abruptLoss s).pending = s.pending := by
  simp [abruptLoss]
@[simp] theorem pending_recordFrame (e : Nat) (c : Coded) (s : State) :
    (recordFrame e c s).pending = s.pending := by
  simp [recordFrame]
@[simp] theorem pending_buddyCtl (p : Nat) (v : VFrame) (s : State) :
    (buddyCtl p v s).pending = s.pending := by
  unfold buddyCtl; dsimp only; (repeat' split) <;> simp
@[simp] theorem pending_headLine (p : LinePacket) (s : State) :
    (headLine p s).pending = s.pending := by
  unfold headLine; dsimp only; (repeat' split) <;> simp
@[simp] theorem pending_celFrame (e : Nat) (c : Coded) (s : State) :
    (celFrame e c s).pending = s.pending := by
  simp [celFrame]
@[simp] theorem pending_startRecording (e causes : Nat) (s : State) : (startRecording e causes s).pending = s.pending := by
  unfold startRecording
  dsimp only
  split
  · rw [pending_foldl _ (fun s x => by split <;> simp)]
    simp
  · simp
@[simp] theorem pending_pllLoss (refreshed : Bool) (s : State) :
    (pllLoss refreshed s).pending = s.pending := by
  simp [pllLoss]
@[simp] theorem pending_velvaTake (p : Nat) (v : VFrame) (s : State) :
    (velvaTake p v s).pending = s.pending := by
  unfold velvaTake; split <;> simp
@[simp] theorem pending_celFollow (s : State) :
    (celFollow s).pending = s.pending := by
  simp [celFollow]
@[simp] theorem pending_stripeDone (len : Nat) (nals : List Nat) (s : State) :
    (stripeDone len nals s).pending = s.pending := by
  unfold stripeDone; dsimp only; (repeat' split) <;> simp
@[simp] theorem pending_alarmExpiry (s : State) :
    (alarmExpiry s).pending = s.pending := by
  simp [alarmExpiry]
@[simp] theorem pending_followUp (before : State) (s : State) :
    (followUp before s).pending = s.pending := by
  simp [followUp]
@[simp] theorem pending_markerHandoff (d : Delivery) (s : State) :
    (markerHandoff d s).2.pending = s.pending := by
  simp [markerHandoff]
@[simp] theorem pending_opEnds (id : Nat) (f : State → Code × State) (h : ∀ s, (f s).2.pending = s.pending) (s : State) :
    (opEnds id f s).pending = s.pending := by
  unfold opEnds
  dsimp only
  (repeat' split) <;> simp [h]
@[simp] theorem pending_inputEvent (f : Power → Power) (s : State) :
    (inputEvent f s).pending = s.pending := by
  simp [inputEvent]
@[simp] theorem pending_winWrite (a : Nat) (ws : List Word) (s : State) :
    (winWrite a ws s).pending = s.pending := by
  simp [winWrite]
theorem quiet_clkWrite (a : Nat) (v : Word) (s : State) : QuietOpt (clkWrite a v s) := by
  unfold clkWrite
  repeat' split
  all_goals repeat' first
    | exact quiet_none
    | exact quiet_nil _
    | refine quiet_cons (fun t => ?_) (fun t => ?_) ?_
    | refine quiet_some (fun t => ?_) (fun t => ?_)
  all_goals first
    | exact id_pending _
    | (simp; done)
    | (dsimp only; (repeat' split) <;> simp; done)
theorem quiet_pwrWrite (a : Nat) (v : Word) (s : State) : QuietOpt (pwrWrite a v s) := by
  unfold pwrWrite
  repeat' first
    | exact quiet_nil _
    | refine quiet_cons (fun t => ?_) (fun t => ?_) ?_
  all_goals first
    | exact id_pending _
    | (simp; done)
    | (dsimp only; (repeat' split) <;> first | rfl | (simp; done))
@[simp] theorem pending_handOverLoads (kind : Nat) (s : State) : (handOverLoads kind s).pending = s.pending := by
  unfold handOverLoads; simp; split <;> simp
@[simp] theorem pending_handOverNoted (kind : Nat) (s : State) : (handOverNoted kind s).pending = s.pending := rfl
@[simp] theorem pending_handOver (kind : Nat) (s : State) : (handOver kind s).pending = s.pending := by
  unfold handOver; simp
theorem quiet_startWrite (o : Origin) (a : Nat) (v : Word) (s : State) : QuietOpt (startWrite o a v s) := by
  unfold startWrite
  refine quiet_cons (fun t => ?_) (fun t => rfl) (quiet_cons (fun t => by simp) (fun t => rfl) (quiet_cons (fun t => by simp) (fun t => rfl)
    (quiet_cons (fun t => ?_) (fun t => rfl) (quiet_cons (fun t => ?_) (fun t => rfl) (quiet_nil _)))))
  · simp only [pending_ite, pending_resetTrigger, pending_handOver, ite_self]
  · simp only [pending_ite, pending_rindBegin, ite_self]
  · simp only [pending_raiseIf]
theorem quiet_gutWrite (a : Nat) (v : Word) (s : State) : QuietOpt (gutWrite a v s) := by
  unfold gutWrite
  dsimp only
  repeat' split
  all_goals repeat' first
    | exact quiet_none
    | exact quiet_nil _
    | refine quiet_cons (fun t => ?_) (fun t => ?_) ?_
    | refine quiet_some (fun t => ?_) (fun t => ?_)
  all_goals first
    | exact id_pending _
    | (simp; done)
    | (dsimp only; (repeat' split) <;> simp; done)
theorem quiet_vatWrite (o : Origin) (a : Nat) (v : Word) (s : State) : QuietOpt (vatWrite o a v s) := by
  unfold vatWrite
  repeat' split
  all_goals first | exact quiet_none | refine quiet_some (fun t => ?_) (fun t => ?_)
  all_goals first | exact id_pending _ | (simp; done) | ((repeat' split) <;> simp; done)
theorem quiet_tblWrite (o : Origin) (press : Nat → Bool) (a : Nat) (v : Word) (s : State) : QuietOpt (tblWrite o press a v s) := by
  unfold tblWrite
  dsimp only
  repeat' split
  all_goals repeat' first
    | exact quiet_none
    | exact quiet_nil _
    | refine quiet_cons (fun t => ?_) (fun t => ?_) ?_
    | refine quiet_some (fun t => ?_) (fun t => ?_)
  all_goals first
    | exact id_pending _
    | (simp; done)
    | (dsimp only; (repeat' split) <;> simp; done)
theorem quiet_refWrite (idle : Nat → Bool) (a : Nat) (v : Word) (s : State) : QuietOpt (refWrite idle a v s) := by
  unfold refWrite
  dsimp only
  repeat' split
  all_goals repeat' first
    | exact quiet_none
    | exact quiet_nil _
    | refine quiet_cons (fun t => ?_) (fun t => ?_) ?_
    | refine quiet_some (fun t => ?_) (fun t => ?_)
  all_goals first
    | exact id_pending _
    | (simp; done)
    | (dsimp only; (repeat' split) <;> simp; done)
theorem quiet_convFieldWrite (a b : Nat) (v : Word) (s : State) : QuietOpt (convFieldWrite a b v s) := by
  unfold convFieldWrite
  dsimp only
  repeat' split
  all_goals repeat' first
    | exact quiet_none
    | exact quiet_nil _
    | refine quiet_cons (fun t => ?_) (fun t => ?_) ?_
    | refine quiet_some (fun t => ?_) (fun t => ?_)
  all_goals first
    | exact id_pending _
    | (simp; done)
    | (dsimp only; (repeat' split) <;> simp; done)
theorem quiet_hkWrite (press running : Nat → Bool) (a : Nat) (v : Word) (s : State) : QuietOpt (hkWrite press running a v s) := by
  unfold hkWrite
  split
  · exact quiet_some (fun t => pending_foldl _ (fun s j => by simp) _ _) (fun t => rfl)
  · split
    · exact quiet_some (fun t => rfl) (fun t => rfl)
    · split
      · refine quiet_some (fun t => ?_) (fun t => rfl)
        (repeat' split) <;> simp
      · split
        · exact quiet_convFieldWrite _ _ _ _
        · exact quiet_none
theorem quiet_actWrite (a : Nat) (v : Word) (s : State) : QuietOpt (actWrite a v s) := by
  unfold actWrite
  dsimp only
  repeat' split
  all_goals repeat' first
    | exact quiet_none
    | exact quiet_nil _
    | refine quiet_cons (fun t => ?_) (fun t => ?_) ?_
    | refine quiet_some (fun t => ?_) (fun t => ?_)
  all_goals first
    | exact id_pending _
    | (simp; done)
    | (dsimp only; (repeat' split) <;> simp; done)
theorem quiet_ctxWrite (a : Nat) (v : Word) (s : State) : QuietOpt (ctxWrite a v s) := by
  unfold ctxWrite
  repeat' split
  all_goals repeat' first
    | exact quiet_none
    | exact quiet_nil _
    | refine quiet_cons (fun t => ?_) (fun t => ?_) ?_
    | refine quiet_some (fun t => ?_) (fun t => ?_)
  all_goals first
    | exact id_pending _
    | (simp; done)
    | (dsimp only; (repeat' split) <;> simp; done)
theorem quiet_genWrite (a b : Nat) (v : Word) (s : State) : QuietOpt (genWrite a b v s) := by
  unfold genWrite
  dsimp only
  repeat' split
  all_goals repeat' first
    | exact quiet_none
    | exact quiet_nil _
    | refine quiet_cons (fun t => ?_) (fun t => ?_) ?_
    | refine quiet_some (fun t => ?_) (fun t => ?_)
  all_goals first
    | exact id_pending _
    | (simp; done)
    | (dsimp only; (repeat' split) <;> simp; done)
theorem quiet_headWrite (cut : Nat → State → State) (hc : ∀ n t, (cut n t).pending = t.pending) (a b : Nat) (v : Word) (s : State) : QuietOpt (headWrite cut a b v s) := by
  unfold headWrite
  dsimp only
  repeat' split
  all_goals repeat' first
    | exact quiet_none
    | exact quiet_nil _
    | refine quiet_cons (fun t => ?_) (fun t => ?_) ?_
    | refine quiet_some (fun t => ?_) (fun t => ?_)
  all_goals first
    | exact id_pending _
    | (simp [hc]; done)
    | (dsimp only; (repeat' split) <;> simp [hc]; done)
theorem quiet_intakeWrite (o : Origin) (cut : Nat → State → State) (hc : ∀ n t, (cut n t).pending = t.pending) (a : Nat) (v : Word) (s : State) : QuietOpt (intakeWrite o cut a v s) := by
  unfold intakeWrite
  split
  · exact quiet_some (fun t => by simp) (fun t => rfl)
  · split
    · exact quiet_some (fun t => rfl) (fun t => rfl)
    · split
      · exact quiet_some (fun t => rfl) (fun t => rfl)
      · split
        · exact quiet_genWrite _ _ _ _
        · split
          · exact quiet_headWrite _ hc _ _ _ _
          · exact quiet_none
theorem quiet_playWrite (a : Nat) (v : Word) (s : State) : QuietOpt (playWrite a v s) := by
  unfold playWrite
  dsimp only
  repeat' split
  all_goals repeat' first
    | exact quiet_none
    | exact quiet_nil _
    | refine quiet_cons (fun t => ?_) (fun t => ?_) ?_
    | refine quiet_some (fun t => ?_) (fun t => ?_)
  all_goals first
    | exact id_pending _
    | (simp; done)
    | (dsimp only; (repeat' split) <;> simp; done)
theorem quiet_pressFieldWrite (o : Origin) (a b : Nat) (v : Word) (s : State) : QuietOpt (pressFieldWrite o a b v s) := by
  unfold pressFieldWrite
  dsimp only
  repeat' split
  all_goals repeat' first
    | exact quiet_none
    | exact quiet_nil _
    | refine quiet_cons (fun t => ?_) (fun t => ?_) ?_
    | refine quiet_some (fun t => ?_) (fun t => ?_)
  all_goals first
    | exact id_pending _
    | (simp; done)
    | (dsimp only; (repeat' split) <;> simp; done)
theorem quiet_nucWrite (o : Origin) (a : Nat) (v : Word) (s : State) : QuietOpt (nucWrite o a v s) := by
  unfold nucWrite
  split
  · exact quiet_pressFieldWrite _ _ _ _ _
  · exact quiet_none
theorem quiet_rndFieldWrite (a b : Nat) (v : Word) (s : State) : QuietOpt (rndFieldWrite a b v s) := by
  unfold rndFieldWrite
  dsimp only
  repeat' split
  all_goals repeat' first
    | exact quiet_none
    | exact quiet_nil _
    | refine quiet_cons (fun t => ?_) (fun t => ?_) ?_
    | refine quiet_some (fun t => ?_) (fun t => ?_)
  all_goals first
    | exact id_pending _
    | (simp; done)
    | (dsimp only; (repeat' split) <;> simp; done)
theorem quiet_rndWrite (a : Nat) (v : Word) (s : State) : QuietOpt (rndWrite a v s) := by
  unfold rndWrite
  split
  · exact quiet_rndFieldWrite _ _ _ _
  · split
    · exact quiet_some (fun t => by simp) (fun t => rfl)
    · exact quiet_none
theorem quiet_outFieldWrite (a b : Nat) (v : Word) (s : State) : QuietOpt (outFieldWrite a b v s) := by
  unfold outFieldWrite
  dsimp only
  repeat' split
  all_goals repeat' first
    | exact quiet_none
    | exact quiet_nil _
    | refine quiet_cons (fun t => ?_) (fun t => ?_) ?_
    | refine quiet_some (fun t => ?_) (fun t => ?_)
  all_goals first
    | exact id_pending _
    | (simp; done)
    | (dsimp only; (repeat' split) <;> simp; done)
theorem quiet_outWrite (a : Nat) (v : Word) (s : State) : QuietOpt (outWrite a v s) := by
  unfold outWrite
  split
  · exact quiet_outFieldWrite _ _ _ _
  · exact quiet_none
theorem quiet_encFieldWrite (a b : Nat) (v : Word) (s : State) : QuietOpt (encFieldWrite a b v s) := by
  unfold encFieldWrite
  dsimp only
  repeat' split
  all_goals repeat' first
    | exact quiet_none
    | exact quiet_nil _
    | refine quiet_cons (fun t => ?_) (fun t => ?_) ?_
    | refine quiet_some (fun t => ?_) (fun t => ?_)
  all_goals first
    | exact id_pending _
    | (simp; done)
    | (dsimp only; (repeat' split) <;> simp; done)
theorem quiet_encWrite (a : Nat) (v : Word) (s : State) : QuietOpt (encWrite a v s) := by
  unfold encWrite
  split
  · exact quiet_encFieldWrite _ _ _ _
  · exact quiet_none
theorem quiet_anaFieldWrite (a b : Nat) (v : Word) (s : State) : QuietOpt (anaFieldWrite a b v s) := by
  unfold anaFieldWrite
  dsimp only
  repeat' split
  all_goals repeat' first
    | exact quiet_none
    | exact quiet_nil _
    | refine quiet_cons (fun t => ?_) (fun t => ?_) ?_
    | refine quiet_some (fun t => ?_) (fun t => ?_)
  all_goals first
    | exact id_pending _
    | (simp; done)
    | (dsimp only; (repeat' split) <;> simp; done)
theorem quiet_anaWrite (a : Nat) (v : Word) (s : State) : QuietOpt (anaWrite a v s) := by
  unfold anaWrite
  split
  · exact quiet_some (fun t => rfl) (fun t => rfl)
  · split
    · exact quiet_anaFieldWrite _ _ _ _
    · split
      · exact quiet_some (fun t => rfl) (fun t => rfl)
      · exact quiet_none
theorem quiet_heatWrite (a : Nat) (v : Word) (s : State) : QuietOpt (heatWrite a v s) := by
  unfold heatWrite
  repeat' split
  all_goals repeat' first
    | exact quiet_none
    | exact quiet_nil _
    | refine quiet_cons (fun t => ?_) (fun t => ?_) ?_
    | refine quiet_some (fun t => ?_) (fun t => ?_)
  all_goals first
    | exact id_pending _
    | (simp; done)
    | (dsimp only; (repeat' split) <;> simp; done)
theorem quiet_swWrite (a : Nat) (v : Word) (s : State) : QuietOpt (swWrite a v s) := by
  unfold swWrite
  repeat' split
  all_goals repeat' first
    | exact quiet_none
    | exact quiet_nil _
    | refine quiet_cons (fun t => ?_) (fun t => ?_) ?_
    | refine quiet_some (fun t => ?_) (fun t => ?_)
  all_goals first
    | exact id_pending _
    | (simp; done)
    | (dsimp only; (repeat' split) <;> simp; done)
theorem quiet_vlvWrite (a : Nat) (v : Word) (s : State) : QuietOpt (vlvWrite a v s) := by
  unfold vlvWrite
  repeat' first
    | exact quiet_nil _
    | refine quiet_cons (fun t => ?_) (fun t => ?_) ?_
  all_goals first
    | exact id_pending _
    | (simp; done)
    | (dsimp only; (repeat' split) <;> first | rfl | (simp; done))
theorem quiet_egrWrite (a : Nat) (v : Word) (s : State) : QuietOpt (egrWrite a v s) := by
  unfold egrWrite
  dsimp only
  repeat' split
  all_goals repeat' first
    | exact quiet_none
    | exact quiet_nil _
    | refine quiet_cons (fun t => ?_) (fun t => ?_) ?_
    | refine quiet_some (fun t => ?_) (fun t => ?_)
  all_goals first
    | exact id_pending _
    | (simp; done)
    | (dsimp only; (repeat' split) <;> simp; done)
theorem quiet_celWrite (o : Origin) (a : Nat) (v : Word) (s : State) : QuietOpt (celWrite o a v s) := by
  unfold celWrite
  repeat' split
  all_goals repeat' first
    | exact quiet_none
    | exact quiet_nil _
    | refine quiet_some (fun t => ?_) (fun t => ?_)
    | refine quiet_cons (fun t => ?_) (fun t => ?_) ?_
  all_goals first | exact id_pending _ | (simp; done) | ((repeat' split) <;> simp; done)
theorem quiet_serWrite (u k : Nat) (v : Word) (s : State) : QuietOpt (serWrite u k v s) := by
  unfold serWrite
  repeat' split
  all_goals repeat' first
    | exact quiet_none
    | exact quiet_nil _
    | refine quiet_cons (fun t => ?_) (fun t => ?_) ?_
    | refine quiet_some (fun t => ?_) (fun t => ?_)
  all_goals first
    | exact id_pending _
    | (simp; done)
    | (dsimp only; (repeat' split) <;> simp; done)
theorem quiet_keyWrite (o : Origin) (a : Nat) (v : Word) (s : State) : QuietOpt (keyWrite o a v s) := by
  unfold keyWrite
  dsimp only
  repeat' first
    | exact quiet_nil _
    | refine quiet_cons (fun t => ?_) (fun t => ?_) ?_
  all_goals first
    | exact id_pending _
    | (simp; done)
    | (dsimp only; (repeat' split) <;> first | rfl | (simp; done))
theorem quiet_blockRule (o : Origin) (a : Nat) (v : Word) (s : State) : QuietOpt (blockRule o a v s) := by
  unfold blockRule
  split
  · intro w h
    obtain ⟨x, hx, rfl⟩ := Option.map_eq_some_iff.mp h
    have q := quiet_clkWrite _ _ _ x hx
    exact ⟨fun t => by simp [q.1], q.2⟩
  · exact quiet_orElse (quiet_pwrWrite _ _ _) (quiet_startWrite _ _ _ _)
  · exact quiet_gutWrite _ _ _
  · exact quiet_vatWrite _ _ _ _
  · intro w h
    obtain ⟨x, hx, rfl⟩ := Option.map_eq_some_iff.mp h
    have q := quiet_tblWrite _ _ _ _ _ x hx
    split
    · exact ⟨fun t => by simp [q.1], q.2⟩
    · exact q
  · exact quiet_refWrite _ _ _ _
  · exact quiet_hkWrite _ _ _ _ _
  · intro w h
    obtain ⟨x, hx, rfl⟩ := Option.map_eq_some_iff.mp h
    have q := quiet_actWrite _ _ _ x hx
    split
    · exact ⟨fun t => by simp [q.1], q.2⟩
    · exact q
  · exact quiet_orElse (quiet_orElse (quiet_ctxWrite _ _ _) (quiet_intakeWrite _ _ (fun n t => by simp) _ _ _)) (quiet_playWrite _ _ _)
  · exact quiet_nucWrite _ _ _ _
  · exact quiet_rndWrite _ _ _
  · exact quiet_outWrite _ _ _
  · exact quiet_encWrite _ _ _
  · exact quiet_anaWrite _ _ _
  · exact quiet_heatWrite _ _ _
  · exact quiet_orElse (quiet_swWrite _ _ _) (quiet_vlvWrite _ _ _)
  · exact quiet_egrWrite _ _ _
  · exact quiet_celWrite _ _ _ _
  · exact quiet_serWrite _ _ _ _
  · exact quiet_keyWrite _ _ _ _
  · exact quiet_none
theorem quiet_writeRule (o : Origin) (a : Nat) (v : Word) (s : State) : (writeRule o a v s).Quiet := by
  unfold writeRule
  have q := quiet_blockRule o a v s
  cases h : blockRule o a v s with
  | none => exact ⟨fun _ => rfl, fun _ => rfl⟩
  | some w => exact q w h
@[simp] theorem pending_busWrite (o : Origin) (a : Nat) (v : Word) (s : State) : (busWrite o a v s).2.pending = s.pending := by
  have q := quiet_writeRule o a v s
  unfold busWrite
  dsimp only
  (repeat' split) <;> simp [q.2, pending_applyWrite _ _ _ _ q]
@[simp] theorem pending_rindUp (before : State) :
    (rindUp before).pending = before.pending := by
  simp [rindUp]
@[simp] theorem pending_keyImported (s : State) :
    (keyImported s).pending = s.pending := by
  unfold keyImported; split <;> simp
@[simp] theorem pending_rindCancel (src : Nat) (before : State) :
    (rindCancel src before).pending = before.pending := by
  simp [rindCancel]
@[simp] theorem pending_regWrite (o : Origin) (a : Nat) (v : Word) (s : State) :
    (regWrite o a v s).pending = s.pending := by
  simp [regWrite]
@[simp] theorem pending_inputAppears (f : Power → Power) (s : State) :
    (inputAppears f s).pending = s.pending := by
  simp [inputAppears]
@[simp] theorem pending_wakeSource (src : Nat) (s : State) :
    (wakeSource src s).pending = s.pending := by
  unfold wakeSource; (repeat' split) <;> simp
@[simp] theorem pending_transact (cut : Code) (clocks tag : Nat) (f : Code → Word → State → State)
    (h : ∀ c w s, (f c w s).pending = s.pending) (s : State) : (transact cut clocks tag f s).pending = s.pending := by
  unfold transact
  dsimp only
  (repeat' split) <;> simp [h]
@[simp] theorem pending_vStore (t : Nat) (a : Nat) (v : Word) (s : State) :
    (vStore t a v s).pending = s.pending := by
  unfold vStore; split <;> simp
@[simp] theorem pending_vPut (t : Nat) (rd : Nat) (page : Nat) (off : Nat) (y1 : State) :
    (vPut t rd page off y1).pending = y1.pending := by
  simp [vPut]
@[simp] theorem pending_cpPageRead (tag : BitVec 4) (addr : BitVec 24) (len : Word) (clocks : Nat) (s : State) :
    (cpPageRead tag addr len clocks s).pending = s.pending := by
  simp [cpPageRead]
@[simp] theorem pending_cpBulkRead (tag : BitVec 4) (addr : BitVec 24) (len : Word) (clocks : Nat) (s : State) :
    (cpBulkRead tag addr len clocks s).pending = s.pending := by
  simp [cpBulkRead]
@[simp] theorem pending_cpRead (tag : BitVec 4) (addr : BitVec 24) (clocks : Nat) (s : State) :
    (cpRead tag addr clocks s).pending = s.pending := by
  unfold cpRead
  refine pending_transact _ _ _ _ (fun c w s => ?_) _
  dsimp only
  rw [pending_txEnd]
  simp only [pending_ite]
  split <;> split <;> simp
@[simp] theorem pending_cpStatus (clocks : Nat) (s : State) :
    (cpStatus clocks s).pending = s.pending := by
  simp [cpStatus]
@[simp] theorem pending_cpWrite (tag : BitVec 4) (addr : BitVec 24) (data : Word) (crc : Word) (clocks : Nat) (s : State) :
    (cpWrite tag addr data crc clocks s).pending = s.pending := by
  simp [cpWrite]
@[simp] theorem pending_vPutr (t : Nat) (rd : Nat) (ra : Nat) (y1 : State) :
    (vPutr t rd ra y1).pending = y1.pending := by
  simp [vPutr]
@[simp] theorem pending_cpReserved (tag : BitVec 4) (addr : BitVec 24) (clocks : Nat) (s : State) :
    (cpReserved tag addr clocks s).pending = s.pending := by
  simp [cpReserved]
@[simp] theorem pending_cpPageRelease (tag : BitVec 4) (addr : BitVec 24) (crc : Word) (clocks : Nat) (s : State) :
    (cpPageRelease tag addr crc clocks s).pending = s.pending := by
  simp [cpPageRelease]
@[simp] theorem pending_vFire (t : Nat) (ch : Nat) (prof : Nat) (y1 : State) :
    (vFire t ch prof y1).pending = y1.pending := by
  simp [vFire]
@[simp] theorem pending_cpBulkWrite (tag : BitVec 4) (addr : BitVec 24) (len : Word) (words : List Word) (clocks : Nat) (s : State) :
    (cpBulkWrite tag addr len words clocks s).pending = s.pending := by
  simp [cpBulkWrite]
@[simp] theorem pending_vBank (t : Nat) (tbl : Nat) (y1 : State) :
    (vBank t tbl y1).pending = y1.pending := by
  simp [vBank]
@[simp] theorem pending_vHkt (t : Nat) (mask : Nat) (y1 : State) :
    (vHkt t mask y1).pending = y1.pending := by
  simp [vHkt]
@[simp] theorem pending_vCommit (t : Nat) (ctx : Nat) (y1 : State) :
    (vCommit t ctx y1).pending = y1.pending := by
  simp [vCommit]
@[simp] theorem pending_vatOp (t op a b c : Nat) (imm : BitVec 18) (w : Word) (s : State) : (vatOp t op a b c imm w s).pending = s.pending := by
  unfold vatOp
  split <;> simp
@[simp] theorem pending_vatRun (t : Nat) (w : Word) (s : State) : (vatRun t w s).pending = s.pending := by
  unfold vatRun
  split <;> simp
@[simp] theorem pending_vatIssue (s : State) :
    (vatIssue s).pending = s.pending := by
  unfold vatIssue; split <;> simp
@[simp] theorem pending_clockTick (s : State) :
    (clockTick s).pending = s.pending := by
  simp [clockTick]
@[simp] theorem pending_handedOff (d : Nat) (r : Bool × State) : (handedOff d r).pending = r.2.pending := by
  unfold handedOff
  split <;> simp
@[simp] theorem pending_tick (s : State) : (tick s).pending = s.pending := by
  unfold tick
  dsimp only
  split <;> simp

end Sys2Proof.Machine
end

