-- ==== Sys2Proof/Laws/State.lean ====
section
/-! SUPPORT. One lemma per field of the state and per update of the state: what each update leaves and what it writes. -/

namespace Sys2Proof.Machine

@[simp] theorem setReg_regs (s : State) (a : Nat) (v : Word) : (s.setReg a v).regs = memPut resetWord s.regs a v := rfl
@[simp] theorem setReg_inForce (s : State) (a : Nat) (v : Word) : (s.setReg a v).inForce = s.inForce := rfl
@[simp] theorem setReg_time (s : State) (a : Nat) (v : Word) : (s.setReg a v).time = s.time := rfl
@[simp] theorem setReg_upTicks (s : State) (a : Nat) (v : Word) : (s.setReg a v).upTicks = s.upTicks := rfl
@[simp] theorem setReg_draws (s : State) (a : Nat) (v : Word) : (s.setReg a v).draws = s.draws := rfl
@[simp] theorem setReg_ptpS (s : State) (a : Nat) (v : Word) : (s.setReg a v).ptpS = s.ptpS := rfl
@[simp] theorem setReg_ptpNs (s : State) (a : Nat) (v : Word) : (s.setReg a v).ptpNs = s.ptpNs := rfl
@[simp] theorem setReg_busData (s : State) (a : Nat) (v : Word) : (s.setReg a v).busData = s.busData := rfl
@[simp] theorem setReg_busCode (s : State) (a : Nat) (v : Word) : (s.setReg a v).busCode = s.busCode := rfl
@[simp] theorem setReg_gut (s : State) (a : Nat) (v : Word) : (s.setReg a v).gut = s.gut := rfl
@[simp] theorem setReg_pwr (s : State) (a : Nat) (v : Word) : (s.setReg a v).pwr = s.pwr := rfl
@[simp] theorem setReg_clk (s : State) (a : Nat) (v : Word) : (s.setReg a v).clk = s.clk := rfl
@[simp] theorem setReg_start (s : State) (a : Nat) (v : Word) : (s.setReg a v).start = s.start := rfl
@[simp] theorem setReg_cp (s : State) (a : Nat) (v : Word) : (s.setReg a v).cp = s.cp := rfl
@[simp] theorem setReg_nor (s : State) (a : Nat) (v : Word) : (s.setReg a v).nor = s.nor := rfl
@[simp] theorem setReg_vat (s : State) (a : Nat) (v : Word) : (s.setReg a v).vat = s.vat := rfl
@[simp] theorem setReg_tbl (s : State) (a : Nat) (v : Word) : (s.setReg a v).tbl = s.tbl := rfl
@[simp] theorem setReg_sch (s : State) (a : Nat) (v : Word) : (s.setReg a v).sch = s.sch := rfl
@[simp] theorem setReg_int (s : State) (a : Nat) (v : Word) : (s.setReg a v).int = s.int := rfl
@[simp] theorem setReg_trm (s : State) (a : Nat) (v : Word) : (s.setReg a v).trm = s.trm := rfl
@[simp] theorem setReg_hk (s : State) (a : Nat) (v : Word) : (s.setReg a v).hk = s.hk := rfl
@[simp] theorem setReg_act (s : State) (a : Nat) (v : Word) : (s.setReg a v).act = s.act := rfl
@[simp] theorem setReg_dnr (s : State) (a : Nat) (v : Word) : (s.setReg a v).dnr = s.dnr := rfl
@[simp] theorem setReg_nuc (s : State) (a : Nat) (v : Word) : (s.setReg a v).nuc = s.nuc := rfl
@[simp] theorem setReg_rnd (s : State) (a : Nat) (v : Word) : (s.setReg a v).rnd = s.rnd := rfl
@[simp] theorem setReg_out (s : State) (a : Nat) (v : Word) : (s.setReg a v).out = s.out := rfl
@[simp] theorem setReg_ana (s : State) (a : Nat) (v : Word) : (s.setReg a v).ana = s.ana := rfl
@[simp] theorem setReg_heat (s : State) (a : Nat) (v : Word) : (s.setReg a v).heat = s.heat := rfl
@[simp] theorem setReg_sw (s : State) (a : Nat) (v : Word) : (s.setReg a v).sw = s.sw := rfl
@[simp] theorem setReg_vlv (s : State) (a : Nat) (v : Word) : (s.setReg a v).vlv = s.vlv := rfl
@[simp] theorem setReg_egr (s : State) (a : Nat) (v : Word) : (s.setReg a v).egr = s.egr := rfl
@[simp] theorem setReg_cel (s : State) (a : Nat) (v : Word) : (s.setReg a v).cel = s.cel := rfl
@[simp] theorem setReg_uart (s : State) (a : Nat) (v : Word) : (s.setReg a v).uart = s.uart := rfl
@[simp] theorem setReg_pins (s : State) (a : Nat) (v : Word) : (s.setReg a v).pins = s.pins := rfl
@[simp] theorem setFld_regs (s : State) (a hi lo v : Nat) : (s.setFld a hi lo v).regs = memPut resetWord s.regs a (putBits (s.reg a) hi lo v) := rfl
@[simp] theorem setFld_inForce (s : State) (a hi lo v : Nat) : (s.setFld a hi lo v).inForce = s.inForce := rfl
@[simp] theorem setFld_time (s : State) (a hi lo v : Nat) : (s.setFld a hi lo v).time = s.time := rfl
@[simp] theorem setFld_upTicks (s : State) (a hi lo v : Nat) : (s.setFld a hi lo v).upTicks = s.upTicks := rfl
@[simp] theorem setFld_draws (s : State) (a hi lo v : Nat) : (s.setFld a hi lo v).draws = s.draws := rfl
@[simp] theorem setFld_ptpS (s : State) (a hi lo v : Nat) : (s.setFld a hi lo v).ptpS = s.ptpS := rfl
@[simp] theorem setFld_ptpNs (s : State) (a hi lo v : Nat) : (s.setFld a hi lo v).ptpNs = s.ptpNs := rfl
@[simp] theorem setFld_busData (s : State) (a hi lo v : Nat) : (s.setFld a hi lo v).busData = s.busData := rfl
@[simp] theorem setFld_busCode (s : State) (a hi lo v : Nat) : (s.setFld a hi lo v).busCode = s.busCode := rfl
@[simp] theorem setFld_gut (s : State) (a hi lo v : Nat) : (s.setFld a hi lo v).gut = s.gut := rfl
@[simp] theorem setFld_pwr (s : State) (a hi lo v : Nat) : (s.setFld a hi lo v).pwr = s.pwr := rfl
@[simp] theorem setFld_clk (s : State) (a hi lo v : Nat) : (s.setFld a hi lo v).clk = s.clk := rfl
@[simp] theorem setFld_start (s : State) (a hi lo v : Nat) : (s.setFld a hi lo v).start = s.start := rfl
@[simp] theorem setFld_cp (s : State) (a hi lo v : Nat) : (s.setFld a hi lo v).cp = s.cp := rfl
@[simp] theorem setFld_nor (s : State) (a hi lo v : Nat) : (s.setFld a hi lo v).nor = s.nor := rfl
@[simp] theorem setFld_vat (s : State) (a hi lo v : Nat) : (s.setFld a hi lo v).vat = s.vat := rfl
@[simp] theorem setFld_tbl (s : State) (a hi lo v : Nat) : (s.setFld a hi lo v).tbl = s.tbl := rfl
@[simp] theorem setFld_sch (s : State) (a hi lo v : Nat) : (s.setFld a hi lo v).sch = s.sch := rfl
@[simp] theorem setFld_int (s : State) (a hi lo v : Nat) : (s.setFld a hi lo v).int = s.int := rfl
@[simp] theorem setFld_trm (s : State) (a hi lo v : Nat) : (s.setFld a hi lo v).trm = s.trm := rfl
@[simp] theorem setFld_hk (s : State) (a hi lo v : Nat) : (s.setFld a hi lo v).hk = s.hk := rfl
@[simp] theorem setFld_act (s : State) (a hi lo v : Nat) : (s.setFld a hi lo v).act = s.act := rfl
@[simp] theorem setFld_dnr (s : State) (a hi lo v : Nat) : (s.setFld a hi lo v).dnr = s.dnr := rfl
@[simp] theorem setFld_nuc (s : State) (a hi lo v : Nat) : (s.setFld a hi lo v).nuc = s.nuc := rfl
@[simp] theorem setFld_rnd (s : State) (a hi lo v : Nat) : (s.setFld a hi lo v).rnd = s.rnd := rfl
@[simp] theorem setFld_out (s : State) (a hi lo v : Nat) : (s.setFld a hi lo v).out = s.out := rfl
@[simp] theorem setFld_ana (s : State) (a hi lo v : Nat) : (s.setFld a hi lo v).ana = s.ana := rfl
@[simp] theorem setFld_heat (s : State) (a hi lo v : Nat) : (s.setFld a hi lo v).heat = s.heat := rfl
@[simp] theorem setFld_sw (s : State) (a hi lo v : Nat) : (s.setFld a hi lo v).sw = s.sw := rfl
@[simp] theorem setFld_vlv (s : State) (a hi lo v : Nat) : (s.setFld a hi lo v).vlv = s.vlv := rfl
@[simp] theorem setFld_egr (s : State) (a hi lo v : Nat) : (s.setFld a hi lo v).egr = s.egr := rfl
@[simp] theorem setFld_cel (s : State) (a hi lo v : Nat) : (s.setFld a hi lo v).cel = s.cel := rfl
@[simp] theorem setFld_uart (s : State) (a hi lo v : Nat) : (s.setFld a hi lo v).uart = s.uart := rfl
@[simp] theorem setFld_pins (s : State) (a hi lo v : Nat) : (s.setFld a hi lo v).pins = s.pins := rfl
@[simp] theorem mapClk_regs (s : State) (f : Clock → Clock) : (s.mapClk f).regs = s.regs := rfl
@[simp] theorem mapClk_inForce (s : State) (f : Clock → Clock) : (s.mapClk f).inForce = s.inForce := rfl
@[simp] theorem mapClk_time (s : State) (f : Clock → Clock) : (s.mapClk f).time = s.time := rfl
@[simp] theorem mapClk_upTicks (s : State) (f : Clock → Clock) : (s.mapClk f).upTicks = s.upTicks := rfl
@[simp] theorem mapClk_draws (s : State) (f : Clock → Clock) : (s.mapClk f).draws = s.draws := rfl
@[simp] theorem mapClk_ptpS (s : State) (f : Clock → Clock) : (s.mapClk f).ptpS = s.ptpS := rfl
@[simp] theorem mapClk_ptpNs (s : State) (f : Clock → Clock) : (s.mapClk f).ptpNs = s.ptpNs := rfl
@[simp] theorem mapClk_busData (s : State) (f : Clock → Clock) : (s.mapClk f).busData = s.busData := rfl
@[simp] theorem mapClk_busCode (s : State) (f : Clock → Clock) : (s.mapClk f).busCode = s.busCode := rfl
@[simp] theorem mapClk_gut (s : State) (f : Clock → Clock) : (s.mapClk f).gut = s.gut := rfl
@[simp] theorem mapClk_pwr (s : State) (f : Clock → Clock) : (s.mapClk f).pwr = s.pwr := rfl
@[simp] theorem mapClk_clk (s : State) (f : Clock → Clock) : (s.mapClk f).clk = f s.clk := rfl
@[simp] theorem mapClk_start (s : State) (f : Clock → Clock) : (s.mapClk f).start = s.start := rfl
@[simp] theorem mapClk_cp (s : State) (f : Clock → Clock) : (s.mapClk f).cp = s.cp := rfl
@[simp] theorem mapClk_nor (s : State) (f : Clock → Clock) : (s.mapClk f).nor = s.nor := rfl
@[simp] theorem mapClk_vat (s : State) (f : Clock → Clock) : (s.mapClk f).vat = s.vat := rfl
@[simp] theorem mapClk_tbl (s : State) (f : Clock → Clock) : (s.mapClk f).tbl = s.tbl := rfl
@[simp] theorem mapClk_sch (s : State) (f : Clock → Clock) : (s.mapClk f).sch = s.sch := rfl
@[simp] theorem mapClk_int (s : State) (f : Clock → Clock) : (s.mapClk f).int = s.int := rfl
@[simp] theorem mapClk_trm (s : State) (f : Clock → Clock) : (s.mapClk f).trm = s.trm := rfl
@[simp] theorem mapClk_hk (s : State) (f : Clock → Clock) : (s.mapClk f).hk = s.hk := rfl
@[simp] theorem mapClk_act (s : State) (f : Clock → Clock) : (s.mapClk f).act = s.act := rfl
@[simp] theorem mapClk_dnr (s : State) (f : Clock → Clock) : (s.mapClk f).dnr = s.dnr := rfl
@[simp] theorem mapClk_nuc (s : State) (f : Clock → Clock) : (s.mapClk f).nuc = s.nuc := rfl
@[simp] theorem mapClk_rnd (s : State) (f : Clock → Clock) : (s.mapClk f).rnd = s.rnd := rfl
@[simp] theorem mapClk_out (s : State) (f : Clock → Clock) : (s.mapClk f).out = s.out := rfl
@[simp] theorem mapClk_ana (s : State) (f : Clock → Clock) : (s.mapClk f).ana = s.ana := rfl
@[simp] theorem mapClk_heat (s : State) (f : Clock → Clock) : (s.mapClk f).heat = s.heat := rfl
@[simp] theorem mapClk_sw (s : State) (f : Clock → Clock) : (s.mapClk f).sw = s.sw := rfl
@[simp] theorem mapClk_vlv (s : State) (f : Clock → Clock) : (s.mapClk f).vlv = s.vlv := rfl
@[simp] theorem mapClk_egr (s : State) (f : Clock → Clock) : (s.mapClk f).egr = s.egr := rfl
@[simp] theorem mapClk_cel (s : State) (f : Clock → Clock) : (s.mapClk f).cel = s.cel := rfl
@[simp] theorem mapClk_uart (s : State) (f : Clock → Clock) : (s.mapClk f).uart = s.uart := rfl
@[simp] theorem mapClk_pins (s : State) (f : Clock → Clock) : (s.mapClk f).pins = s.pins := rfl
@[simp] theorem setSrc_regs (s : State) (n : Nat) (x : SrcState) : (s.setSrc n x).regs = s.regs := rfl
@[simp] theorem setSrc_inForce (s : State) (n : Nat) (x : SrcState) : (s.setSrc n x).inForce = s.inForce := rfl
@[simp] theorem setSrc_time (s : State) (n : Nat) (x : SrcState) : (s.setSrc n x).time = s.time := rfl
@[simp] theorem setSrc_upTicks (s : State) (n : Nat) (x : SrcState) : (s.setSrc n x).upTicks = s.upTicks := rfl
@[simp] theorem setSrc_draws (s : State) (n : Nat) (x : SrcState) : (s.setSrc n x).draws = s.draws := rfl
@[simp] theorem setSrc_ptpS (s : State) (n : Nat) (x : SrcState) : (s.setSrc n x).ptpS = s.ptpS := rfl
@[simp] theorem setSrc_ptpNs (s : State) (n : Nat) (x : SrcState) : (s.setSrc n x).ptpNs = s.ptpNs := rfl
@[simp] theorem setSrc_busData (s : State) (n : Nat) (x : SrcState) : (s.setSrc n x).busData = s.busData := rfl
@[simp] theorem setSrc_busCode (s : State) (n : Nat) (x : SrcState) : (s.setSrc n x).busCode = s.busCode := rfl
@[simp] theorem setSrc_gut (s : State) (n : Nat) (x : SrcState) : (s.setSrc n x).gut = { s.gut with srcs := aput s.gut.srcs n x } := rfl
@[simp] theorem setSrc_pwr (s : State) (n : Nat) (x : SrcState) : (s.setSrc n x).pwr = s.pwr := rfl
@[simp] theorem setSrc_clk (s : State) (n : Nat) (x : SrcState) : (s.setSrc n x).clk = s.clk := rfl
@[simp] theorem setSrc_start (s : State) (n : Nat) (x : SrcState) : (s.setSrc n x).start = s.start := rfl
@[simp] theorem setSrc_cp (s : State) (n : Nat) (x : SrcState) : (s.setSrc n x).cp = s.cp := rfl
@[simp] theorem setSrc_nor (s : State) (n : Nat) (x : SrcState) : (s.setSrc n x).nor = s.nor := rfl
@[simp] theorem setSrc_vat (s : State) (n : Nat) (x : SrcState) : (s.setSrc n x).vat = s.vat := rfl
@[simp] theorem setSrc_tbl (s : State) (n : Nat) (x : SrcState) : (s.setSrc n x).tbl = s.tbl := rfl
@[simp] theorem setSrc_sch (s : State) (n : Nat) (x : SrcState) : (s.setSrc n x).sch = s.sch := rfl
@[simp] theorem setSrc_int (s : State) (n : Nat) (x : SrcState) : (s.setSrc n x).int = s.int := rfl
@[simp] theorem setSrc_trm (s : State) (n : Nat) (x : SrcState) : (s.setSrc n x).trm = s.trm := rfl
@[simp] theorem setSrc_hk (s : State) (n : Nat) (x : SrcState) : (s.setSrc n x).hk = s.hk := rfl
@[simp] theorem setSrc_act (s : State) (n : Nat) (x : SrcState) : (s.setSrc n x).act = s.act := rfl
@[simp] theorem setSrc_dnr (s : State) (n : Nat) (x : SrcState) : (s.setSrc n x).dnr = s.dnr := rfl
@[simp] theorem setSrc_nuc (s : State) (n : Nat) (x : SrcState) : (s.setSrc n x).nuc = s.nuc := rfl
@[simp] theorem setSrc_rnd (s : State) (n : Nat) (x : SrcState) : (s.setSrc n x).rnd = s.rnd := rfl
@[simp] theorem setSrc_out (s : State) (n : Nat) (x : SrcState) : (s.setSrc n x).out = s.out := rfl
@[simp] theorem setSrc_ana (s : State) (n : Nat) (x : SrcState) : (s.setSrc n x).ana = s.ana := rfl
@[simp] theorem setSrc_heat (s : State) (n : Nat) (x : SrcState) : (s.setSrc n x).heat = s.heat := rfl
@[simp] theorem setSrc_sw (s : State) (n : Nat) (x : SrcState) : (s.setSrc n x).sw = s.sw := rfl
@[simp] theorem setSrc_vlv (s : State) (n : Nat) (x : SrcState) : (s.setSrc n x).vlv = s.vlv := rfl
@[simp] theorem setSrc_egr (s : State) (n : Nat) (x : SrcState) : (s.setSrc n x).egr = s.egr := rfl
@[simp] theorem setSrc_cel (s : State) (n : Nat) (x : SrcState) : (s.setSrc n x).cel = s.cel := rfl
@[simp] theorem setSrc_uart (s : State) (n : Nat) (x : SrcState) : (s.setSrc n x).uart = s.uart := rfl
@[simp] theorem setSrc_pins (s : State) (n : Nat) (x : SrcState) : (s.setSrc n x).pins = s.pins := rfl
@[simp] theorem draw_regs (s : State) : s.draw.2.regs = s.regs := rfl
@[simp] theorem draw_inForce (s : State) : s.draw.2.inForce = s.inForce := rfl
@[simp] theorem draw_time (s : State) : s.draw.2.time = s.time := rfl
@[simp] theorem draw_upTicks (s : State) : s.draw.2.upTicks = s.upTicks := rfl
@[simp] theorem draw_draws (s : State) : s.draw.2.draws = s.draws + 1 := rfl
@[simp] theorem draw_ptpS (s : State) : s.draw.2.ptpS = s.ptpS := rfl
@[simp] theorem draw_ptpNs (s : State) : s.draw.2.ptpNs = s.ptpNs := rfl
@[simp] theorem draw_busData (s : State) : s.draw.2.busData = s.busData := rfl
@[simp] theorem draw_busCode (s : State) : s.draw.2.busCode = s.busCode := rfl
@[simp] theorem draw_gut (s : State) : s.draw.2.gut = s.gut := rfl
@[simp] theorem draw_pwr (s : State) : s.draw.2.pwr = s.pwr := rfl
@[simp] theorem draw_clk (s : State) : s.draw.2.clk = s.clk := rfl
@[simp] theorem draw_start (s : State) : s.draw.2.start = s.start := rfl
@[simp] theorem draw_cp (s : State) : s.draw.2.cp = s.cp := rfl
@[simp] theorem draw_nor (s : State) : s.draw.2.nor = s.nor := rfl
@[simp] theorem draw_vat (s : State) : s.draw.2.vat = s.vat := rfl
@[simp] theorem draw_tbl (s : State) : s.draw.2.tbl = s.tbl := rfl
@[simp] theorem draw_sch (s : State) : s.draw.2.sch = s.sch := rfl
@[simp] theorem draw_int (s : State) : s.draw.2.int = s.int := rfl
@[simp] theorem draw_trm (s : State) : s.draw.2.trm = s.trm := rfl
@[simp] theorem draw_hk (s : State) : s.draw.2.hk = s.hk := rfl
@[simp] theorem draw_act (s : State) : s.draw.2.act = s.act := rfl
@[simp] theorem draw_dnr (s : State) : s.draw.2.dnr = s.dnr := rfl
@[simp] theorem draw_nuc (s : State) : s.draw.2.nuc = s.nuc := rfl
@[simp] theorem draw_rnd (s : State) : s.draw.2.rnd = s.rnd := rfl
@[simp] theorem draw_out (s : State) : s.draw.2.out = s.out := rfl
@[simp] theorem draw_ana (s : State) : s.draw.2.ana = s.ana := rfl
@[simp] theorem draw_heat (s : State) : s.draw.2.heat = s.heat := rfl
@[simp] theorem draw_sw (s : State) : s.draw.2.sw = s.sw := rfl
@[simp] theorem draw_vlv (s : State) : s.draw.2.vlv = s.vlv := rfl
@[simp] theorem draw_egr (s : State) : s.draw.2.egr = s.egr := rfl
@[simp] theorem draw_cel (s : State) : s.draw.2.cel = s.cel := rfl
@[simp] theorem draw_uart (s : State) : s.draw.2.uart = s.uart := rfl
@[simp] theorem draw_pins (s : State) : s.draw.2.pins = s.pins := rfl
@[simp] theorem settle_regs (s : State) : (settle s).regs = s.regs := rfl
@[simp] theorem settle_inForce (s : State) : (settle s).inForce = s.inForce := rfl
@[simp] theorem settle_time (s : State) : (settle s).time = s.time := rfl
@[simp] theorem settle_upTicks (s : State) : (settle s).upTicks = s.upTicks := rfl
@[simp] theorem settle_draws (s : State) : (settle s).draws = s.draws := rfl
@[simp] theorem settle_ptpS (s : State) : (settle s).ptpS = s.ptpS := rfl
@[simp] theorem settle_ptpNs (s : State) : (settle s).ptpNs = s.ptpNs := rfl
@[simp] theorem settle_busData (s : State) : (settle s).busData = s.busData := rfl
@[simp] theorem settle_busCode (s : State) : (settle s).busCode = s.busCode := rfl
@[simp] theorem settle_gut (s : State) : (settle s).gut = s.gut := rfl
@[simp] theorem settle_pwr (s : State) : (settle s).pwr = s.pwr := rfl
@[simp] theorem settle_clk (s : State) : (settle s).clk = s.clk := rfl
@[simp] theorem settle_start (s : State) : (settle s).start = s.start := rfl
@[simp] theorem settle_cp (s : State) : (settle s).cp = s.cp := rfl
@[simp] theorem settle_nor (s : State) : (settle s).nor = s.nor := rfl
@[simp] theorem settle_vat (s : State) : (settle s).vat = s.vat := rfl
@[simp] theorem settle_tbl (s : State) : (settle s).tbl = s.tbl := rfl
@[simp] theorem settle_sch (s : State) : (settle s).sch = s.sch := rfl
@[simp] theorem settle_int (s : State) : (settle s).int = s.int := rfl
@[simp] theorem settle_trm (s : State) : (settle s).trm = s.trm := rfl
@[simp] theorem settle_hk (s : State) : (settle s).hk = s.hk := rfl
@[simp] theorem settle_act (s : State) : (settle s).act = s.act := rfl
@[simp] theorem settle_dnr (s : State) : (settle s).dnr = s.dnr := rfl
@[simp] theorem settle_nuc (s : State) : (settle s).nuc = s.nuc := rfl
@[simp] theorem settle_rnd (s : State) : (settle s).rnd = s.rnd := rfl
@[simp] theorem settle_out (s : State) : (settle s).out = s.out := rfl
@[simp] theorem settle_ana (s : State) : (settle s).ana = s.ana := rfl
@[simp] theorem settle_heat (s : State) : (settle s).heat = s.heat := rfl
@[simp] theorem settle_sw (s : State) : (settle s).sw = s.sw := rfl
@[simp] theorem settle_vlv (s : State) : (settle s).vlv = s.vlv := rfl
@[simp] theorem settle_egr (s : State) : (settle s).egr = s.egr := rfl
@[simp] theorem settle_cel (s : State) : (settle s).cel = s.cel := rfl
@[simp] theorem settle_uart (s : State) : (settle s).uart = s.uart := rfl
@[simp] theorem settle_pins (s : State) : (settle s).pins = pinsOf s := rfl
@[simp] theorem onThread_regs (t : Nat) (f : Thread → Thread) (s : State) : (onThread t f s).regs = s.regs := rfl
@[simp] theorem onThread_inForce (t : Nat) (f : Thread → Thread) (s : State) : (onThread t f s).inForce = s.inForce := rfl
@[simp] theorem onThread_time (t : Nat) (f : Thread → Thread) (s : State) : (onThread t f s).time = s.time := rfl
@[simp] theorem onThread_upTicks (t : Nat) (f : Thread → Thread) (s : State) : (onThread t f s).upTicks = s.upTicks := rfl
@[simp] theorem onThread_draws (t : Nat) (f : Thread → Thread) (s : State) : (onThread t f s).draws = s.draws := rfl
@[simp] theorem onThread_ptpS (t : Nat) (f : Thread → Thread) (s : State) : (onThread t f s).ptpS = s.ptpS := rfl
@[simp] theorem onThread_ptpNs (t : Nat) (f : Thread → Thread) (s : State) : (onThread t f s).ptpNs = s.ptpNs := rfl
@[simp] theorem onThread_busData (t : Nat) (f : Thread → Thread) (s : State) : (onThread t f s).busData = s.busData := rfl
@[simp] theorem onThread_busCode (t : Nat) (f : Thread → Thread) (s : State) : (onThread t f s).busCode = s.busCode := rfl
@[simp] theorem onThread_gut (t : Nat) (f : Thread → Thread) (s : State) : (onThread t f s).gut = s.gut := rfl
@[simp] theorem onThread_pwr (t : Nat) (f : Thread → Thread) (s : State) : (onThread t f s).pwr = s.pwr := rfl
@[simp] theorem onThread_clk (t : Nat) (f : Thread → Thread) (s : State) : (onThread t f s).clk = s.clk := rfl
@[simp] theorem onThread_start (t : Nat) (f : Thread → Thread) (s : State) : (onThread t f s).start = s.start := rfl
@[simp] theorem onThread_cp (t : Nat) (f : Thread → Thread) (s : State) : (onThread t f s).cp = s.cp := rfl
@[simp] theorem onThread_nor (t : Nat) (f : Thread → Thread) (s : State) : (onThread t f s).nor = s.nor := rfl
@[simp] theorem onThread_vat (t : Nat) (f : Thread → Thread) (s : State) : (onThread t f s).vat = { s.vat with threads := updFrom {} s.vat.threads t f } := rfl
@[simp] theorem onThread_tbl (t : Nat) (f : Thread → Thread) (s : State) : (onThread t f s).tbl = s.tbl := rfl
@[simp] theorem onThread_sch (t : Nat) (f : Thread → Thread) (s : State) : (onThread t f s).sch = s.sch := rfl
@[simp] theorem onThread_int (t : Nat) (f : Thread → Thread) (s : State) : (onThread t f s).int = s.int := rfl
@[simp] theorem onThread_trm (t : Nat) (f : Thread → Thread) (s : State) : (onThread t f s).trm = s.trm := rfl
@[simp] theorem onThread_hk (t : Nat) (f : Thread → Thread) (s : State) : (onThread t f s).hk = s.hk := rfl
@[simp] theorem onThread_act (t : Nat) (f : Thread → Thread) (s : State) : (onThread t f s).act = s.act := rfl
@[simp] theorem onThread_dnr (t : Nat) (f : Thread → Thread) (s : State) : (onThread t f s).dnr = s.dnr := rfl
@[simp] theorem onThread_nuc (t : Nat) (f : Thread → Thread) (s : State) : (onThread t f s).nuc = s.nuc := rfl
@[simp] theorem onThread_rnd (t : Nat) (f : Thread → Thread) (s : State) : (onThread t f s).rnd = s.rnd := rfl
@[simp] theorem onThread_out (t : Nat) (f : Thread → Thread) (s : State) : (onThread t f s).out = s.out := rfl
@[simp] theorem onThread_ana (t : Nat) (f : Thread → Thread) (s : State) : (onThread t f s).ana = s.ana := rfl
@[simp] theorem onThread_heat (t : Nat) (f : Thread → Thread) (s : State) : (onThread t f s).heat = s.heat := rfl
@[simp] theorem onThread_sw (t : Nat) (f : Thread → Thread) (s : State) : (onThread t f s).sw = s.sw := rfl
@[simp] theorem onThread_vlv (t : Nat) (f : Thread → Thread) (s : State) : (onThread t f s).vlv = s.vlv := rfl
@[simp] theorem onThread_egr (t : Nat) (f : Thread → Thread) (s : State) : (onThread t f s).egr = s.egr := rfl
@[simp] theorem onThread_cel (t : Nat) (f : Thread → Thread) (s : State) : (onThread t f s).cel = s.cel := rfl
@[simp] theorem onThread_uart (t : Nat) (f : Thread → Thread) (s : State) : (onThread t f s).uart = s.uart := rfl
@[simp] theorem onThread_pins (t : Nat) (f : Thread → Thread) (s : State) : (onThread t f s).pins = s.pins := rfl
@[simp] theorem onHead_regs (n : Nat) (f : Head → Head) (s : State) : (onHead n f s).regs = s.regs := rfl
@[simp] theorem onHead_inForce (n : Nat) (f : Head → Head) (s : State) : (onHead n f s).inForce = s.inForce := rfl
@[simp] theorem onHead_time (n : Nat) (f : Head → Head) (s : State) : (onHead n f s).time = s.time := rfl
@[simp] theorem onHead_upTicks (n : Nat) (f : Head → Head) (s : State) : (onHead n f s).upTicks = s.upTicks := rfl
@[simp] theorem onHead_draws (n : Nat) (f : Head → Head) (s : State) : (onHead n f s).draws = s.draws := rfl
@[simp] theorem onHead_ptpS (n : Nat) (f : Head → Head) (s : State) : (onHead n f s).ptpS = s.ptpS := rfl
@[simp] theorem onHead_ptpNs (n : Nat) (f : Head → Head) (s : State) : (onHead n f s).ptpNs = s.ptpNs := rfl
@[simp] theorem onHead_busData (n : Nat) (f : Head → Head) (s : State) : (onHead n f s).busData = s.busData := rfl
@[simp] theorem onHead_busCode (n : Nat) (f : Head → Head) (s : State) : (onHead n f s).busCode = s.busCode := rfl
@[simp] theorem onHead_gut (n : Nat) (f : Head → Head) (s : State) : (onHead n f s).gut = s.gut := rfl
@[simp] theorem onHead_pwr (n : Nat) (f : Head → Head) (s : State) : (onHead n f s).pwr = s.pwr := rfl
@[simp] theorem onHead_clk (n : Nat) (f : Head → Head) (s : State) : (onHead n f s).clk = s.clk := rfl
@[simp] theorem onHead_start (n : Nat) (f : Head → Head) (s : State) : (onHead n f s).start = s.start := rfl
@[simp] theorem onHead_cp (n : Nat) (f : Head → Head) (s : State) : (onHead n f s).cp = s.cp := rfl
@[simp] theorem onHead_nor (n : Nat) (f : Head → Head) (s : State) : (onHead n f s).nor = s.nor := rfl
@[simp] theorem onHead_vat (n : Nat) (f : Head → Head) (s : State) : (onHead n f s).vat = s.vat := rfl
@[simp] theorem onHead_tbl (n : Nat) (f : Head → Head) (s : State) : (onHead n f s).tbl = s.tbl := rfl
@[simp] theorem onHead_sch (n : Nat) (f : Head → Head) (s : State) : (onHead n f s).sch = s.sch := rfl
@[simp] theorem onHead_int (n : Nat) (f : Head → Head) (s : State) : (onHead n f s).int = { s.int with heads := upd s.int.heads n f } := rfl
@[simp] theorem onHead_trm (n : Nat) (f : Head → Head) (s : State) : (onHead n f s).trm = s.trm := rfl
@[simp] theorem onHead_hk (n : Nat) (f : Head → Head) (s : State) : (onHead n f s).hk = s.hk := rfl
@[simp] theorem onHead_act (n : Nat) (f : Head → Head) (s : State) : (onHead n f s).act = s.act := rfl
@[simp] theorem onHead_dnr (n : Nat) (f : Head → Head) (s : State) : (onHead n f s).dnr = s.dnr := rfl
@[simp] theorem onHead_nuc (n : Nat) (f : Head → Head) (s : State) : (onHead n f s).nuc = s.nuc := rfl
@[simp] theorem onHead_rnd (n : Nat) (f : Head → Head) (s : State) : (onHead n f s).rnd = s.rnd := rfl
@[simp] theorem onHead_out (n : Nat) (f : Head → Head) (s : State) : (onHead n f s).out = s.out := rfl
@[simp] theorem onHead_ana (n : Nat) (f : Head → Head) (s : State) : (onHead n f s).ana = s.ana := rfl
@[simp] theorem onHead_heat (n : Nat) (f : Head → Head) (s : State) : (onHead n f s).heat = s.heat := rfl
@[simp] theorem onHead_sw (n : Nat) (f : Head → Head) (s : State) : (onHead n f s).sw = s.sw := rfl
@[simp] theorem onHead_vlv (n : Nat) (f : Head → Head) (s : State) : (onHead n f s).vlv = s.vlv := rfl
@[simp] theorem onHead_egr (n : Nat) (f : Head → Head) (s : State) : (onHead n f s).egr = s.egr := rfl
@[simp] theorem onHead_cel (n : Nat) (f : Head → Head) (s : State) : (onHead n f s).cel = s.cel := rfl
@[simp] theorem onHead_uart (n : Nat) (f : Head → Head) (s : State) : (onHead n f s).uart = s.uart := rfl
@[simp] theorem onHead_pins (n : Nat) (f : Head → Head) (s : State) : (onHead n f s).pins = s.pins := rfl
@[simp] theorem onGen_regs (g : Nat) (f : XGen → XGen) (s : State) : (onGen g f s).regs = s.regs := rfl
@[simp] theorem onGen_inForce (g : Nat) (f : XGen → XGen) (s : State) : (onGen g f s).inForce = s.inForce := rfl
@[simp] theorem onGen_time (g : Nat) (f : XGen → XGen) (s : State) : (onGen g f s).time = s.time := rfl
@[simp] theorem onGen_upTicks (g : Nat) (f : XGen → XGen) (s : State) : (onGen g f s).upTicks = s.upTicks := rfl
@[simp] theorem onGen_draws (g : Nat) (f : XGen → XGen) (s : State) : (onGen g f s).draws = s.draws := rfl
@[simp] theorem onGen_ptpS (g : Nat) (f : XGen → XGen) (s : State) : (onGen g f s).ptpS = s.ptpS := rfl
@[simp] theorem onGen_ptpNs (g : Nat) (f : XGen → XGen) (s : State) : (onGen g f s).ptpNs = s.ptpNs := rfl
@[simp] theorem onGen_busData (g : Nat) (f : XGen → XGen) (s : State) : (onGen g f s).busData = s.busData := rfl
@[simp] theorem onGen_busCode (g : Nat) (f : XGen → XGen) (s : State) : (onGen g f s).busCode = s.busCode := rfl
@[simp] theorem onGen_gut (g : Nat) (f : XGen → XGen) (s : State) : (onGen g f s).gut = s.gut := rfl
@[simp] theorem onGen_pwr (g : Nat) (f : XGen → XGen) (s : State) : (onGen g f s).pwr = s.pwr := rfl
@[simp] theorem onGen_clk (g : Nat) (f : XGen → XGen) (s : State) : (onGen g f s).clk = s.clk := rfl
@[simp] theorem onGen_start (g : Nat) (f : XGen → XGen) (s : State) : (onGen g f s).start = s.start := rfl
@[simp] theorem onGen_cp (g : Nat) (f : XGen → XGen) (s : State) : (onGen g f s).cp = s.cp := rfl
@[simp] theorem onGen_nor (g : Nat) (f : XGen → XGen) (s : State) : (onGen g f s).nor = s.nor := rfl
@[simp] theorem onGen_vat (g : Nat) (f : XGen → XGen) (s : State) : (onGen g f s).vat = s.vat := rfl
@[simp] theorem onGen_tbl (g : Nat) (f : XGen → XGen) (s : State) : (onGen g f s).tbl = s.tbl := rfl
@[simp] theorem onGen_sch (g : Nat) (f : XGen → XGen) (s : State) : (onGen g f s).sch = s.sch := rfl
@[simp] theorem onGen_int (g : Nat) (f : XGen → XGen) (s : State) : (onGen g f s).int = { s.int with gens := upd s.int.gens g f } := rfl
@[simp] theorem onGen_trm (g : Nat) (f : XGen → XGen) (s : State) : (onGen g f s).trm = s.trm := rfl
@[simp] theorem onGen_hk (g : Nat) (f : XGen → XGen) (s : State) : (onGen g f s).hk = s.hk := rfl
@[simp] theorem onGen_act (g : Nat) (f : XGen → XGen) (s : State) : (onGen g f s).act = s.act := rfl
@[simp] theorem onGen_dnr (g : Nat) (f : XGen → XGen) (s : State) : (onGen g f s).dnr = s.dnr := rfl
@[simp] theorem onGen_nuc (g : Nat) (f : XGen → XGen) (s : State) : (onGen g f s).nuc = s.nuc := rfl
@[simp] theorem onGen_rnd (g : Nat) (f : XGen → XGen) (s : State) : (onGen g f s).rnd = s.rnd := rfl
@[simp] theorem onGen_out (g : Nat) (f : XGen → XGen) (s : State) : (onGen g f s).out = s.out := rfl
@[simp] theorem onGen_ana (g : Nat) (f : XGen → XGen) (s : State) : (onGen g f s).ana = s.ana := rfl
@[simp] theorem onGen_heat (g : Nat) (f : XGen → XGen) (s : State) : (onGen g f s).heat = s.heat := rfl
@[simp] theorem onGen_sw (g : Nat) (f : XGen → XGen) (s : State) : (onGen g f s).sw = s.sw := rfl
@[simp] theorem onGen_vlv (g : Nat) (f : XGen → XGen) (s : State) : (onGen g f s).vlv = s.vlv := rfl
@[simp] theorem onGen_egr (g : Nat) (f : XGen → XGen) (s : State) : (onGen g f s).egr = s.egr := rfl
@[simp] theorem onGen_cel (g : Nat) (f : XGen → XGen) (s : State) : (onGen g f s).cel = s.cel := rfl
@[simp] theorem onGen_uart (g : Nat) (f : XGen → XGen) (s : State) : (onGen g f s).uart = s.uart := rfl
@[simp] theorem onGen_pins (g : Nat) (f : XGen → XGen) (s : State) : (onGen g f s).pins = s.pins := rfl
@[simp] theorem onCtx_regs (c : Nat) (f : Ctx → Ctx) (s : State) : (onCtx c f s).regs = s.regs := rfl
@[simp] theorem onCtx_inForce (c : Nat) (f : Ctx → Ctx) (s : State) : (onCtx c f s).inForce = s.inForce := rfl
@[simp] theorem onCtx_time (c : Nat) (f : Ctx → Ctx) (s : State) : (onCtx c f s).time = s.time := rfl
@[simp] theorem onCtx_upTicks (c : Nat) (f : Ctx → Ctx) (s : State) : (onCtx c f s).upTicks = s.upTicks := rfl
@[simp] theorem onCtx_draws (c : Nat) (f : Ctx → Ctx) (s : State) : (onCtx c f s).draws = s.draws := rfl
@[simp] theorem onCtx_ptpS (c : Nat) (f : Ctx → Ctx) (s : State) : (onCtx c f s).ptpS = s.ptpS := rfl
@[simp] theorem onCtx_ptpNs (c : Nat) (f : Ctx → Ctx) (s : State) : (onCtx c f s).ptpNs = s.ptpNs := rfl
@[simp] theorem onCtx_busData (c : Nat) (f : Ctx → Ctx) (s : State) : (onCtx c f s).busData = s.busData := rfl
@[simp] theorem onCtx_busCode (c : Nat) (f : Ctx → Ctx) (s : State) : (onCtx c f s).busCode = s.busCode := rfl
@[simp] theorem onCtx_gut (c : Nat) (f : Ctx → Ctx) (s : State) : (onCtx c f s).gut = s.gut := rfl
@[simp] theorem onCtx_pwr (c : Nat) (f : Ctx → Ctx) (s : State) : (onCtx c f s).pwr = s.pwr := rfl
@[simp] theorem onCtx_clk (c : Nat) (f : Ctx → Ctx) (s : State) : (onCtx c f s).clk = s.clk := rfl
@[simp] theorem onCtx_start (c : Nat) (f : Ctx → Ctx) (s : State) : (onCtx c f s).start = s.start := rfl
@[simp] theorem onCtx_cp (c : Nat) (f : Ctx → Ctx) (s : State) : (onCtx c f s).cp = s.cp := rfl
@[simp] theorem onCtx_nor (c : Nat) (f : Ctx → Ctx) (s : State) : (onCtx c f s).nor = s.nor := rfl
@[simp] theorem onCtx_vat (c : Nat) (f : Ctx → Ctx) (s : State) : (onCtx c f s).vat = s.vat := rfl
@[simp] theorem onCtx_tbl (c : Nat) (f : Ctx → Ctx) (s : State) : (onCtx c f s).tbl = s.tbl := rfl
@[simp] theorem onCtx_sch (c : Nat) (f : Ctx → Ctx) (s : State) : (onCtx c f s).sch = { s.sch with ctxs := upd s.sch.ctxs c f } := rfl
@[simp] theorem onCtx_int (c : Nat) (f : Ctx → Ctx) (s : State) : (onCtx c f s).int = s.int := rfl
@[simp] theorem onCtx_trm (c : Nat) (f : Ctx → Ctx) (s : State) : (onCtx c f s).trm = s.trm := rfl
@[simp] theorem onCtx_hk (c : Nat) (f : Ctx → Ctx) (s : State) : (onCtx c f s).hk = s.hk := rfl
@[simp] theorem onCtx_act (c : Nat) (f : Ctx → Ctx) (s : State) : (onCtx c f s).act = s.act := rfl
@[simp] theorem onCtx_dnr (c : Nat) (f : Ctx → Ctx) (s : State) : (onCtx c f s).dnr = s.dnr := rfl
@[simp] theorem onCtx_nuc (c : Nat) (f : Ctx → Ctx) (s : State) : (onCtx c f s).nuc = s.nuc := rfl
@[simp] theorem onCtx_rnd (c : Nat) (f : Ctx → Ctx) (s : State) : (onCtx c f s).rnd = s.rnd := rfl
@[simp] theorem onCtx_out (c : Nat) (f : Ctx → Ctx) (s : State) : (onCtx c f s).out = s.out := rfl
@[simp] theorem onCtx_ana (c : Nat) (f : Ctx → Ctx) (s : State) : (onCtx c f s).ana = s.ana := rfl
@[simp] theorem onCtx_heat (c : Nat) (f : Ctx → Ctx) (s : State) : (onCtx c f s).heat = s.heat := rfl
@[simp] theorem onCtx_sw (c : Nat) (f : Ctx → Ctx) (s : State) : (onCtx c f s).sw = s.sw := rfl
@[simp] theorem onCtx_vlv (c : Nat) (f : Ctx → Ctx) (s : State) : (onCtx c f s).vlv = s.vlv := rfl
@[simp] theorem onCtx_egr (c : Nat) (f : Ctx → Ctx) (s : State) : (onCtx c f s).egr = s.egr := rfl
@[simp] theorem onCtx_cel (c : Nat) (f : Ctx → Ctx) (s : State) : (onCtx c f s).cel = s.cel := rfl
@[simp] theorem onCtx_uart (c : Nat) (f : Ctx → Ctx) (s : State) : (onCtx c f s).uart = s.uart := rfl
@[simp] theorem onCtx_pins (c : Nat) (f : Ctx → Ctx) (s : State) : (onCtx c f s).pins = s.pins := rfl
@[simp] theorem onPort_regs (p : Nat) (f : Port → Port) (s : State) : (onPort p f s).regs = s.regs := rfl
@[simp] theorem onPort_inForce (p : Nat) (f : Port → Port) (s : State) : (onPort p f s).inForce = s.inForce := rfl
@[simp] theorem onPort_time (p : Nat) (f : Port → Port) (s : State) : (onPort p f s).time = s.time := rfl
@[simp] theorem onPort_upTicks (p : Nat) (f : Port → Port) (s : State) : (onPort p f s).upTicks = s.upTicks := rfl
@[simp] theorem onPort_draws (p : Nat) (f : Port → Port) (s : State) : (onPort p f s).draws = s.draws := rfl
@[simp] theorem onPort_ptpS (p : Nat) (f : Port → Port) (s : State) : (onPort p f s).ptpS = s.ptpS := rfl
@[simp] theorem onPort_ptpNs (p : Nat) (f : Port → Port) (s : State) : (onPort p f s).ptpNs = s.ptpNs := rfl
@[simp] theorem onPort_busData (p : Nat) (f : Port → Port) (s : State) : (onPort p f s).busData = s.busData := rfl
@[simp] theorem onPort_busCode (p : Nat) (f : Port → Port) (s : State) : (onPort p f s).busCode = s.busCode := rfl
@[simp] theorem onPort_gut (p : Nat) (f : Port → Port) (s : State) : (onPort p f s).gut = s.gut := rfl
@[simp] theorem onPort_pwr (p : Nat) (f : Port → Port) (s : State) : (onPort p f s).pwr = s.pwr := rfl
@[simp] theorem onPort_clk (p : Nat) (f : Port → Port) (s : State) : (onPort p f s).clk = s.clk := rfl
@[simp] theorem onPort_start (p : Nat) (f : Port → Port) (s : State) : (onPort p f s).start = s.start := rfl
@[simp] theorem onPort_cp (p : Nat) (f : Port → Port) (s : State) : (onPort p f s).cp = s.cp := rfl
@[simp] theorem onPort_nor (p : Nat) (f : Port → Port) (s : State) : (onPort p f s).nor = s.nor := rfl
@[simp] theorem onPort_vat (p : Nat) (f : Port → Port) (s : State) : (onPort p f s).vat = s.vat := rfl
@[simp] theorem onPort_tbl (p : Nat) (f : Port → Port) (s : State) : (onPort p f s).tbl = s.tbl := rfl
@[simp] theorem onPort_sch (p : Nat) (f : Port → Port) (s : State) : (onPort p f s).sch = s.sch := rfl
@[simp] theorem onPort_int (p : Nat) (f : Port → Port) (s : State) : (onPort p f s).int = s.int := rfl
@[simp] theorem onPort_trm (p : Nat) (f : Port → Port) (s : State) : (onPort p f s).trm = s.trm := rfl
@[simp] theorem onPort_hk (p : Nat) (f : Port → Port) (s : State) : (onPort p f s).hk = s.hk := rfl
@[simp] theorem onPort_act (p : Nat) (f : Port → Port) (s : State) : (onPort p f s).act = s.act := rfl
@[simp] theorem onPort_dnr (p : Nat) (f : Port → Port) (s : State) : (onPort p f s).dnr = s.dnr := rfl
@[simp] theorem onPort_nuc (p : Nat) (f : Port → Port) (s : State) : (onPort p f s).nuc = s.nuc := rfl
@[simp] theorem onPort_rnd (p : Nat) (f : Port → Port) (s : State) : (onPort p f s).rnd = s.rnd := rfl
@[simp] theorem onPort_out (p : Nat) (f : Port → Port) (s : State) : (onPort p f s).out = { s.out with ports := upd s.out.ports p f } := rfl
@[simp] theorem onPort_ana (p : Nat) (f : Port → Port) (s : State) : (onPort p f s).ana = s.ana := rfl
@[simp] theorem onPort_heat (p : Nat) (f : Port → Port) (s : State) : (onPort p f s).heat = s.heat := rfl
@[simp] theorem onPort_sw (p : Nat) (f : Port → Port) (s : State) : (onPort p f s).sw = s.sw := rfl
@[simp] theorem onPort_vlv (p : Nat) (f : Port → Port) (s : State) : (onPort p f s).vlv = s.vlv := rfl
@[simp] theorem onPort_egr (p : Nat) (f : Port → Port) (s : State) : (onPort p f s).egr = s.egr := rfl
@[simp] theorem onPort_cel (p : Nat) (f : Port → Port) (s : State) : (onPort p f s).cel = s.cel := rfl
@[simp] theorem onPort_uart (p : Nat) (f : Port → Port) (s : State) : (onPort p f s).uart = s.uart := rfl
@[simp] theorem onPort_pins (p : Nat) (f : Port → Port) (s : State) : (onPort p f s).pins = s.pins := rfl
@[simp] theorem onEnc_regs (e : Nat) (f : EncChan → EncChan) (s : State) : (onEnc e f s).regs = s.regs := rfl
@[simp] theorem onEnc_inForce (e : Nat) (f : EncChan → EncChan) (s : State) : (onEnc e f s).inForce = s.inForce := rfl
@[simp] theorem onEnc_time (e : Nat) (f : EncChan → EncChan) (s : State) : (onEnc e f s).time = s.time := rfl
@[simp] theorem onEnc_upTicks (e : Nat) (f : EncChan → EncChan) (s : State) : (onEnc e f s).upTicks = s.upTicks := rfl
@[simp] theorem onEnc_draws (e : Nat) (f : EncChan → EncChan) (s : State) : (onEnc e f s).draws = s.draws := rfl
@[simp] theorem onEnc_ptpS (e : Nat) (f : EncChan → EncChan) (s : State) : (onEnc e f s).ptpS = s.ptpS := rfl
@[simp] theorem onEnc_ptpNs (e : Nat) (f : EncChan → EncChan) (s : State) : (onEnc e f s).ptpNs = s.ptpNs := rfl
@[simp] theorem onEnc_busData (e : Nat) (f : EncChan → EncChan) (s : State) : (onEnc e f s).busData = s.busData := rfl
@[simp] theorem onEnc_busCode (e : Nat) (f : EncChan → EncChan) (s : State) : (onEnc e f s).busCode = s.busCode := rfl
@[simp] theorem onEnc_gut (e : Nat) (f : EncChan → EncChan) (s : State) : (onEnc e f s).gut = s.gut := rfl
@[simp] theorem onEnc_pwr (e : Nat) (f : EncChan → EncChan) (s : State) : (onEnc e f s).pwr = s.pwr := rfl
@[simp] theorem onEnc_clk (e : Nat) (f : EncChan → EncChan) (s : State) : (onEnc e f s).clk = s.clk := rfl
@[simp] theorem onEnc_start (e : Nat) (f : EncChan → EncChan) (s : State) : (onEnc e f s).start = s.start := rfl
@[simp] theorem onEnc_cp (e : Nat) (f : EncChan → EncChan) (s : State) : (onEnc e f s).cp = s.cp := rfl
@[simp] theorem onEnc_nor (e : Nat) (f : EncChan → EncChan) (s : State) : (onEnc e f s).nor = s.nor := rfl
@[simp] theorem onEnc_vat (e : Nat) (f : EncChan → EncChan) (s : State) : (onEnc e f s).vat = s.vat := rfl
@[simp] theorem onEnc_tbl (e : Nat) (f : EncChan → EncChan) (s : State) : (onEnc e f s).tbl = s.tbl := rfl
@[simp] theorem onEnc_sch (e : Nat) (f : EncChan → EncChan) (s : State) : (onEnc e f s).sch = s.sch := rfl
@[simp] theorem onEnc_int (e : Nat) (f : EncChan → EncChan) (s : State) : (onEnc e f s).int = s.int := rfl
@[simp] theorem onEnc_trm (e : Nat) (f : EncChan → EncChan) (s : State) : (onEnc e f s).trm = s.trm := rfl
@[simp] theorem onEnc_hk (e : Nat) (f : EncChan → EncChan) (s : State) : (onEnc e f s).hk = s.hk := rfl
@[simp] theorem onEnc_act (e : Nat) (f : EncChan → EncChan) (s : State) : (onEnc e f s).act = s.act := rfl
@[simp] theorem onEnc_dnr (e : Nat) (f : EncChan → EncChan) (s : State) : (onEnc e f s).dnr = s.dnr := rfl
@[simp] theorem onEnc_nuc (e : Nat) (f : EncChan → EncChan) (s : State) : (onEnc e f s).nuc = s.nuc := rfl
@[simp] theorem onEnc_rnd (e : Nat) (f : EncChan → EncChan) (s : State) : (onEnc e f s).rnd = s.rnd := rfl
@[simp] theorem onEnc_out (e : Nat) (f : EncChan → EncChan) (s : State) : (onEnc e f s).out = { s.out with chans := upd s.out.chans e f } := rfl
@[simp] theorem onEnc_ana (e : Nat) (f : EncChan → EncChan) (s : State) : (onEnc e f s).ana = s.ana := rfl
@[simp] theorem onEnc_heat (e : Nat) (f : EncChan → EncChan) (s : State) : (onEnc e f s).heat = s.heat := rfl
@[simp] theorem onEnc_sw (e : Nat) (f : EncChan → EncChan) (s : State) : (onEnc e f s).sw = s.sw := rfl
@[simp] theorem onEnc_vlv (e : Nat) (f : EncChan → EncChan) (s : State) : (onEnc e f s).vlv = s.vlv := rfl
@[simp] theorem onEnc_egr (e : Nat) (f : EncChan → EncChan) (s : State) : (onEnc e f s).egr = s.egr := rfl
@[simp] theorem onEnc_cel (e : Nat) (f : EncChan → EncChan) (s : State) : (onEnc e f s).cel = s.cel := rfl
@[simp] theorem onEnc_uart (e : Nat) (f : EncChan → EncChan) (s : State) : (onEnc e f s).uart = s.uart := rfl
@[simp] theorem onEnc_pins (e : Nat) (f : EncChan → EncChan) (s : State) : (onEnc e f s).pins = s.pins := rfl
@[simp] theorem onDnr_regs (c : Nat) (f : Dnr → Dnr) (s : State) : (onDnr c f s).regs = s.regs := rfl
@[simp] theorem onDnr_inForce (c : Nat) (f : Dnr → Dnr) (s : State) : (onDnr c f s).inForce = s.inForce := rfl
@[simp] theorem onDnr_time (c : Nat) (f : Dnr → Dnr) (s : State) : (onDnr c f s).time = s.time := rfl
@[simp] theorem onDnr_upTicks (c : Nat) (f : Dnr → Dnr) (s : State) : (onDnr c f s).upTicks = s.upTicks := rfl
@[simp] theorem onDnr_draws (c : Nat) (f : Dnr → Dnr) (s : State) : (onDnr c f s).draws = s.draws := rfl
@[simp] theorem onDnr_ptpS (c : Nat) (f : Dnr → Dnr) (s : State) : (onDnr c f s).ptpS = s.ptpS := rfl
@[simp] theorem onDnr_ptpNs (c : Nat) (f : Dnr → Dnr) (s : State) : (onDnr c f s).ptpNs = s.ptpNs := rfl
@[simp] theorem onDnr_busData (c : Nat) (f : Dnr → Dnr) (s : State) : (onDnr c f s).busData = s.busData := rfl
@[simp] theorem onDnr_busCode (c : Nat) (f : Dnr → Dnr) (s : State) : (onDnr c f s).busCode = s.busCode := rfl
@[simp] theorem onDnr_gut (c : Nat) (f : Dnr → Dnr) (s : State) : (onDnr c f s).gut = s.gut := rfl
@[simp] theorem onDnr_pwr (c : Nat) (f : Dnr → Dnr) (s : State) : (onDnr c f s).pwr = s.pwr := rfl
@[simp] theorem onDnr_clk (c : Nat) (f : Dnr → Dnr) (s : State) : (onDnr c f s).clk = s.clk := rfl
@[simp] theorem onDnr_start (c : Nat) (f : Dnr → Dnr) (s : State) : (onDnr c f s).start = s.start := rfl
@[simp] theorem onDnr_cp (c : Nat) (f : Dnr → Dnr) (s : State) : (onDnr c f s).cp = s.cp := rfl
@[simp] theorem onDnr_nor (c : Nat) (f : Dnr → Dnr) (s : State) : (onDnr c f s).nor = s.nor := rfl
@[simp] theorem onDnr_vat (c : Nat) (f : Dnr → Dnr) (s : State) : (onDnr c f s).vat = s.vat := rfl
@[simp] theorem onDnr_tbl (c : Nat) (f : Dnr → Dnr) (s : State) : (onDnr c f s).tbl = s.tbl := rfl
@[simp] theorem onDnr_sch (c : Nat) (f : Dnr → Dnr) (s : State) : (onDnr c f s).sch = s.sch := rfl
@[simp] theorem onDnr_int (c : Nat) (f : Dnr → Dnr) (s : State) : (onDnr c f s).int = s.int := rfl
@[simp] theorem onDnr_trm (c : Nat) (f : Dnr → Dnr) (s : State) : (onDnr c f s).trm = s.trm := rfl
@[simp] theorem onDnr_hk (c : Nat) (f : Dnr → Dnr) (s : State) : (onDnr c f s).hk = s.hk := rfl
@[simp] theorem onDnr_act (c : Nat) (f : Dnr → Dnr) (s : State) : (onDnr c f s).act = s.act := rfl
@[simp] theorem onDnr_dnr (c : Nat) (f : Dnr → Dnr) (s : State) : (onDnr c f s).dnr = upd s.dnr c f := rfl
@[simp] theorem onDnr_nuc (c : Nat) (f : Dnr → Dnr) (s : State) : (onDnr c f s).nuc = s.nuc := rfl
@[simp] theorem onDnr_rnd (c : Nat) (f : Dnr → Dnr) (s : State) : (onDnr c f s).rnd = s.rnd := rfl
@[simp] theorem onDnr_out (c : Nat) (f : Dnr → Dnr) (s : State) : (onDnr c f s).out = s.out := rfl
@[simp] theorem onDnr_ana (c : Nat) (f : Dnr → Dnr) (s : State) : (onDnr c f s).ana = s.ana := rfl
@[simp] theorem onDnr_heat (c : Nat) (f : Dnr → Dnr) (s : State) : (onDnr c f s).heat = s.heat := rfl
@[simp] theorem onDnr_sw (c : Nat) (f : Dnr → Dnr) (s : State) : (onDnr c f s).sw = s.sw := rfl
@[simp] theorem onDnr_vlv (c : Nat) (f : Dnr → Dnr) (s : State) : (onDnr c f s).vlv = s.vlv := rfl
@[simp] theorem onDnr_egr (c : Nat) (f : Dnr → Dnr) (s : State) : (onDnr c f s).egr = s.egr := rfl
@[simp] theorem onDnr_cel (c : Nat) (f : Dnr → Dnr) (s : State) : (onDnr c f s).cel = s.cel := rfl
@[simp] theorem onDnr_uart (c : Nat) (f : Dnr → Dnr) (s : State) : (onDnr c f s).uart = s.uart := rfl
@[simp] theorem onDnr_pins (c : Nat) (f : Dnr → Dnr) (s : State) : (onDnr c f s).pins = s.pins := rfl
@[simp] theorem onNuc_regs (c : Nat) (f : Nuc → Nuc) (s : State) : (onNuc c f s).regs = s.regs := rfl
@[simp] theorem onNuc_inForce (c : Nat) (f : Nuc → Nuc) (s : State) : (onNuc c f s).inForce = s.inForce := rfl
@[simp] theorem onNuc_time (c : Nat) (f : Nuc → Nuc) (s : State) : (onNuc c f s).time = s.time := rfl
@[simp] theorem onNuc_upTicks (c : Nat) (f : Nuc → Nuc) (s : State) : (onNuc c f s).upTicks = s.upTicks := rfl
@[simp] theorem onNuc_draws (c : Nat) (f : Nuc → Nuc) (s : State) : (onNuc c f s).draws = s.draws := rfl
@[simp] theorem onNuc_ptpS (c : Nat) (f : Nuc → Nuc) (s : State) : (onNuc c f s).ptpS = s.ptpS := rfl
@[simp] theorem onNuc_ptpNs (c : Nat) (f : Nuc → Nuc) (s : State) : (onNuc c f s).ptpNs = s.ptpNs := rfl
@[simp] theorem onNuc_busData (c : Nat) (f : Nuc → Nuc) (s : State) : (onNuc c f s).busData = s.busData := rfl
@[simp] theorem onNuc_busCode (c : Nat) (f : Nuc → Nuc) (s : State) : (onNuc c f s).busCode = s.busCode := rfl
@[simp] theorem onNuc_gut (c : Nat) (f : Nuc → Nuc) (s : State) : (onNuc c f s).gut = s.gut := rfl
@[simp] theorem onNuc_pwr (c : Nat) (f : Nuc → Nuc) (s : State) : (onNuc c f s).pwr = s.pwr := rfl
@[simp] theorem onNuc_clk (c : Nat) (f : Nuc → Nuc) (s : State) : (onNuc c f s).clk = s.clk := rfl
@[simp] theorem onNuc_start (c : Nat) (f : Nuc → Nuc) (s : State) : (onNuc c f s).start = s.start := rfl
@[simp] theorem onNuc_cp (c : Nat) (f : Nuc → Nuc) (s : State) : (onNuc c f s).cp = s.cp := rfl
@[simp] theorem onNuc_nor (c : Nat) (f : Nuc → Nuc) (s : State) : (onNuc c f s).nor = s.nor := rfl
@[simp] theorem onNuc_vat (c : Nat) (f : Nuc → Nuc) (s : State) : (onNuc c f s).vat = s.vat := rfl
@[simp] theorem onNuc_tbl (c : Nat) (f : Nuc → Nuc) (s : State) : (onNuc c f s).tbl = s.tbl := rfl
@[simp] theorem onNuc_sch (c : Nat) (f : Nuc → Nuc) (s : State) : (onNuc c f s).sch = s.sch := rfl
@[simp] theorem onNuc_int (c : Nat) (f : Nuc → Nuc) (s : State) : (onNuc c f s).int = s.int := rfl
@[simp] theorem onNuc_trm (c : Nat) (f : Nuc → Nuc) (s : State) : (onNuc c f s).trm = s.trm := rfl
@[simp] theorem onNuc_hk (c : Nat) (f : Nuc → Nuc) (s : State) : (onNuc c f s).hk = s.hk := rfl
@[simp] theorem onNuc_act (c : Nat) (f : Nuc → Nuc) (s : State) : (onNuc c f s).act = s.act := rfl
@[simp] theorem onNuc_dnr (c : Nat) (f : Nuc → Nuc) (s : State) : (onNuc c f s).dnr = s.dnr := rfl
@[simp] theorem onNuc_nuc (c : Nat) (f : Nuc → Nuc) (s : State) : (onNuc c f s).nuc = { s.nuc with ctxs := upd s.nuc.ctxs c f } := rfl
@[simp] theorem onNuc_rnd (c : Nat) (f : Nuc → Nuc) (s : State) : (onNuc c f s).rnd = s.rnd := rfl
@[simp] theorem onNuc_out (c : Nat) (f : Nuc → Nuc) (s : State) : (onNuc c f s).out = s.out := rfl
@[simp] theorem onNuc_ana (c : Nat) (f : Nuc → Nuc) (s : State) : (onNuc c f s).ana = s.ana := rfl
@[simp] theorem onNuc_heat (c : Nat) (f : Nuc → Nuc) (s : State) : (onNuc c f s).heat = s.heat := rfl
@[simp] theorem onNuc_sw (c : Nat) (f : Nuc → Nuc) (s : State) : (onNuc c f s).sw = s.sw := rfl
@[simp] theorem onNuc_vlv (c : Nat) (f : Nuc → Nuc) (s : State) : (onNuc c f s).vlv = s.vlv := rfl
@[simp] theorem onNuc_egr (c : Nat) (f : Nuc → Nuc) (s : State) : (onNuc c f s).egr = s.egr := rfl
@[simp] theorem onNuc_cel (c : Nat) (f : Nuc → Nuc) (s : State) : (onNuc c f s).cel = s.cel := rfl
@[simp] theorem onNuc_uart (c : Nat) (f : Nuc → Nuc) (s : State) : (onNuc c f s).uart = s.uart := rfl
@[simp] theorem onNuc_pins (c : Nat) (f : Nuc → Nuc) (s : State) : (onNuc c f s).pins = s.pins := rfl
@[simp] theorem onPress_regs (n : Nat) (f : Press → Press) (s : State) : (onPress n f s).regs = s.regs := rfl
@[simp] theorem onPress_inForce (n : Nat) (f : Press → Press) (s : State) : (onPress n f s).inForce = s.inForce := rfl
@[simp] theorem onPress_time (n : Nat) (f : Press → Press) (s : State) : (onPress n f s).time = s.time := rfl
@[simp] theorem onPress_upTicks (n : Nat) (f : Press → Press) (s : State) : (onPress n f s).upTicks = s.upTicks := rfl
@[simp] theorem onPress_draws (n : Nat) (f : Press → Press) (s : State) : (onPress n f s).draws = s.draws := rfl
@[simp] theorem onPress_ptpS (n : Nat) (f : Press → Press) (s : State) : (onPress n f s).ptpS = s.ptpS := rfl
@[simp] theorem onPress_ptpNs (n : Nat) (f : Press → Press) (s : State) : (onPress n f s).ptpNs = s.ptpNs := rfl
@[simp] theorem onPress_busData (n : Nat) (f : Press → Press) (s : State) : (onPress n f s).busData = s.busData := rfl
@[simp] theorem onPress_busCode (n : Nat) (f : Press → Press) (s : State) : (onPress n f s).busCode = s.busCode := rfl
@[simp] theorem onPress_gut (n : Nat) (f : Press → Press) (s : State) : (onPress n f s).gut = s.gut := rfl
@[simp] theorem onPress_pwr (n : Nat) (f : Press → Press) (s : State) : (onPress n f s).pwr = s.pwr := rfl
@[simp] theorem onPress_clk (n : Nat) (f : Press → Press) (s : State) : (onPress n f s).clk = s.clk := rfl
@[simp] theorem onPress_start (n : Nat) (f : Press → Press) (s : State) : (onPress n f s).start = s.start := rfl
@[simp] theorem onPress_cp (n : Nat) (f : Press → Press) (s : State) : (onPress n f s).cp = s.cp := rfl
@[simp] theorem onPress_nor (n : Nat) (f : Press → Press) (s : State) : (onPress n f s).nor = s.nor := rfl
@[simp] theorem onPress_vat (n : Nat) (f : Press → Press) (s : State) : (onPress n f s).vat = s.vat := rfl
@[simp] theorem onPress_tbl (n : Nat) (f : Press → Press) (s : State) : (onPress n f s).tbl = s.tbl := rfl
@[simp] theorem onPress_sch (n : Nat) (f : Press → Press) (s : State) : (onPress n f s).sch = s.sch := rfl
@[simp] theorem onPress_int (n : Nat) (f : Press → Press) (s : State) : (onPress n f s).int = s.int := rfl
@[simp] theorem onPress_trm (n : Nat) (f : Press → Press) (s : State) : (onPress n f s).trm = s.trm := rfl
@[simp] theorem onPress_hk (n : Nat) (f : Press → Press) (s : State) : (onPress n f s).hk = s.hk := rfl
@[simp] theorem onPress_act (n : Nat) (f : Press → Press) (s : State) : (onPress n f s).act = s.act := rfl
@[simp] theorem onPress_dnr (n : Nat) (f : Press → Press) (s : State) : (onPress n f s).dnr = s.dnr := rfl
@[simp] theorem onPress_nuc (n : Nat) (f : Press → Press) (s : State) : (onPress n f s).nuc = { s.nuc with press := upd s.nuc.press n f } := rfl
@[simp] theorem onPress_rnd (n : Nat) (f : Press → Press) (s : State) : (onPress n f s).rnd = s.rnd := rfl
@[simp] theorem onPress_out (n : Nat) (f : Press → Press) (s : State) : (onPress n f s).out = s.out := rfl
@[simp] theorem onPress_ana (n : Nat) (f : Press → Press) (s : State) : (onPress n f s).ana = s.ana := rfl
@[simp] theorem onPress_heat (n : Nat) (f : Press → Press) (s : State) : (onPress n f s).heat = s.heat := rfl
@[simp] theorem onPress_sw (n : Nat) (f : Press → Press) (s : State) : (onPress n f s).sw = s.sw := rfl
@[simp] theorem onPress_vlv (n : Nat) (f : Press → Press) (s : State) : (onPress n f s).vlv = s.vlv := rfl
@[simp] theorem onPress_egr (n : Nat) (f : Press → Press) (s : State) : (onPress n f s).egr = s.egr := rfl
@[simp] theorem onPress_cel (n : Nat) (f : Press → Press) (s : State) : (onPress n f s).cel = s.cel := rfl
@[simp] theorem onPress_uart (n : Nat) (f : Press → Press) (s : State) : (onPress n f s).uart = s.uart := rfl
@[simp] theorem onPress_pins (n : Nat) (f : Press → Press) (s : State) : (onPress n f s).pins = s.pins := rfl
@[simp] theorem onRnd_regs (c : Nat) (f : Rnd → Rnd) (s : State) : (onRnd c f s).regs = s.regs := rfl
@[simp] theorem onRnd_inForce (c : Nat) (f : Rnd → Rnd) (s : State) : (onRnd c f s).inForce = s.inForce := rfl
@[simp] theorem onRnd_time (c : Nat) (f : Rnd → Rnd) (s : State) : (onRnd c f s).time = s.time := rfl
@[simp] theorem onRnd_upTicks (c : Nat) (f : Rnd → Rnd) (s : State) : (onRnd c f s).upTicks = s.upTicks := rfl
@[simp] theorem onRnd_draws (c : Nat) (f : Rnd → Rnd) (s : State) : (onRnd c f s).draws = s.draws := rfl
@[simp] theorem onRnd_ptpS (c : Nat) (f : Rnd → Rnd) (s : State) : (onRnd c f s).ptpS = s.ptpS := rfl
@[simp] theorem onRnd_ptpNs (c : Nat) (f : Rnd → Rnd) (s : State) : (onRnd c f s).ptpNs = s.ptpNs := rfl
@[simp] theorem onRnd_busData (c : Nat) (f : Rnd → Rnd) (s : State) : (onRnd c f s).busData = s.busData := rfl
@[simp] theorem onRnd_busCode (c : Nat) (f : Rnd → Rnd) (s : State) : (onRnd c f s).busCode = s.busCode := rfl
@[simp] theorem onRnd_gut (c : Nat) (f : Rnd → Rnd) (s : State) : (onRnd c f s).gut = s.gut := rfl
@[simp] theorem onRnd_pwr (c : Nat) (f : Rnd → Rnd) (s : State) : (onRnd c f s).pwr = s.pwr := rfl
@[simp] theorem onRnd_clk (c : Nat) (f : Rnd → Rnd) (s : State) : (onRnd c f s).clk = s.clk := rfl
@[simp] theorem onRnd_start (c : Nat) (f : Rnd → Rnd) (s : State) : (onRnd c f s).start = s.start := rfl
@[simp] theorem onRnd_cp (c : Nat) (f : Rnd → Rnd) (s : State) : (onRnd c f s).cp = s.cp := rfl
@[simp] theorem onRnd_nor (c : Nat) (f : Rnd → Rnd) (s : State) : (onRnd c f s).nor = s.nor := rfl
@[simp] theorem onRnd_vat (c : Nat) (f : Rnd → Rnd) (s : State) : (onRnd c f s).vat = s.vat := rfl
@[simp] theorem onRnd_tbl (c : Nat) (f : Rnd → Rnd) (s : State) : (onRnd c f s).tbl = s.tbl := rfl
@[simp] theorem onRnd_sch (c : Nat) (f : Rnd → Rnd) (s : State) : (onRnd c f s).sch = s.sch := rfl
@[simp] theorem onRnd_int (c : Nat) (f : Rnd → Rnd) (s : State) : (onRnd c f s).int = s.int := rfl
@[simp] theorem onRnd_trm (c : Nat) (f : Rnd → Rnd) (s : State) : (onRnd c f s).trm = s.trm := rfl
@[simp] theorem onRnd_hk (c : Nat) (f : Rnd → Rnd) (s : State) : (onRnd c f s).hk = s.hk := rfl
@[simp] theorem onRnd_act (c : Nat) (f : Rnd → Rnd) (s : State) : (onRnd c f s).act = s.act := rfl
@[simp] theorem onRnd_dnr (c : Nat) (f : Rnd → Rnd) (s : State) : (onRnd c f s).dnr = s.dnr := rfl
@[simp] theorem onRnd_nuc (c : Nat) (f : Rnd → Rnd) (s : State) : (onRnd c f s).nuc = s.nuc := rfl
@[simp] theorem onRnd_rnd (c : Nat) (f : Rnd → Rnd) (s : State) : (onRnd c f s).rnd = { s.rnd with ctxs := upd s.rnd.ctxs c f } := rfl
@[simp] theorem onRnd_out (c : Nat) (f : Rnd → Rnd) (s : State) : (onRnd c f s).out = s.out := rfl
@[simp] theorem onRnd_ana (c : Nat) (f : Rnd → Rnd) (s : State) : (onRnd c f s).ana = s.ana := rfl
@[simp] theorem onRnd_heat (c : Nat) (f : Rnd → Rnd) (s : State) : (onRnd c f s).heat = s.heat := rfl
@[simp] theorem onRnd_sw (c : Nat) (f : Rnd → Rnd) (s : State) : (onRnd c f s).sw = s.sw := rfl
@[simp] theorem onRnd_vlv (c : Nat) (f : Rnd → Rnd) (s : State) : (onRnd c f s).vlv = s.vlv := rfl
@[simp] theorem onRnd_egr (c : Nat) (f : Rnd → Rnd) (s : State) : (onRnd c f s).egr = s.egr := rfl
@[simp] theorem onRnd_cel (c : Nat) (f : Rnd → Rnd) (s : State) : (onRnd c f s).cel = s.cel := rfl
@[simp] theorem onRnd_uart (c : Nat) (f : Rnd → Rnd) (s : State) : (onRnd c f s).uart = s.uart := rfl
@[simp] theorem onRnd_pins (c : Nat) (f : Rnd → Rnd) (s : State) : (onRnd c f s).pins = s.pins := rfl
@[simp] theorem onAna_regs (c : Nat) (f : Ana → Ana) (s : State) : (onAna c f s).regs = s.regs := rfl
@[simp] theorem onAna_inForce (c : Nat) (f : Ana → Ana) (s : State) : (onAna c f s).inForce = s.inForce := rfl
@[simp] theorem onAna_time (c : Nat) (f : Ana → Ana) (s : State) : (onAna c f s).time = s.time := rfl
@[simp] theorem onAna_upTicks (c : Nat) (f : Ana → Ana) (s : State) : (onAna c f s).upTicks = s.upTicks := rfl
@[simp] theorem onAna_draws (c : Nat) (f : Ana → Ana) (s : State) : (onAna c f s).draws = s.draws := rfl
@[simp] theorem onAna_ptpS (c : Nat) (f : Ana → Ana) (s : State) : (onAna c f s).ptpS = s.ptpS := rfl
@[simp] theorem onAna_ptpNs (c : Nat) (f : Ana → Ana) (s : State) : (onAna c f s).ptpNs = s.ptpNs := rfl
@[simp] theorem onAna_busData (c : Nat) (f : Ana → Ana) (s : State) : (onAna c f s).busData = s.busData := rfl
@[simp] theorem onAna_busCode (c : Nat) (f : Ana → Ana) (s : State) : (onAna c f s).busCode = s.busCode := rfl
@[simp] theorem onAna_gut (c : Nat) (f : Ana → Ana) (s : State) : (onAna c f s).gut = s.gut := rfl
@[simp] theorem onAna_pwr (c : Nat) (f : Ana → Ana) (s : State) : (onAna c f s).pwr = s.pwr := rfl
@[simp] theorem onAna_clk (c : Nat) (f : Ana → Ana) (s : State) : (onAna c f s).clk = s.clk := rfl
@[simp] theorem onAna_start (c : Nat) (f : Ana → Ana) (s : State) : (onAna c f s).start = s.start := rfl
@[simp] theorem onAna_cp (c : Nat) (f : Ana → Ana) (s : State) : (onAna c f s).cp = s.cp := rfl
@[simp] theorem onAna_nor (c : Nat) (f : Ana → Ana) (s : State) : (onAna c f s).nor = s.nor := rfl
@[simp] theorem onAna_vat (c : Nat) (f : Ana → Ana) (s : State) : (onAna c f s).vat = s.vat := rfl
@[simp] theorem onAna_tbl (c : Nat) (f : Ana → Ana) (s : State) : (onAna c f s).tbl = s.tbl := rfl
@[simp] theorem onAna_sch (c : Nat) (f : Ana → Ana) (s : State) : (onAna c f s).sch = s.sch := rfl
@[simp] theorem onAna_int (c : Nat) (f : Ana → Ana) (s : State) : (onAna c f s).int = s.int := rfl
@[simp] theorem onAna_trm (c : Nat) (f : Ana → Ana) (s : State) : (onAna c f s).trm = s.trm := rfl
@[simp] theorem onAna_hk (c : Nat) (f : Ana → Ana) (s : State) : (onAna c f s).hk = s.hk := rfl
@[simp] theorem onAna_act (c : Nat) (f : Ana → Ana) (s : State) : (onAna c f s).act = s.act := rfl
@[simp] theorem onAna_dnr (c : Nat) (f : Ana → Ana) (s : State) : (onAna c f s).dnr = s.dnr := rfl
@[simp] theorem onAna_nuc (c : Nat) (f : Ana → Ana) (s : State) : (onAna c f s).nuc = s.nuc := rfl
@[simp] theorem onAna_rnd (c : Nat) (f : Ana → Ana) (s : State) : (onAna c f s).rnd = s.rnd := rfl
@[simp] theorem onAna_out (c : Nat) (f : Ana → Ana) (s : State) : (onAna c f s).out = s.out := rfl
@[simp] theorem onAna_ana (c : Nat) (f : Ana → Ana) (s : State) : (onAna c f s).ana = upd s.ana c f := rfl
@[simp] theorem onAna_heat (c : Nat) (f : Ana → Ana) (s : State) : (onAna c f s).heat = s.heat := rfl
@[simp] theorem onAna_sw (c : Nat) (f : Ana → Ana) (s : State) : (onAna c f s).sw = s.sw := rfl
@[simp] theorem onAna_vlv (c : Nat) (f : Ana → Ana) (s : State) : (onAna c f s).vlv = s.vlv := rfl
@[simp] theorem onAna_egr (c : Nat) (f : Ana → Ana) (s : State) : (onAna c f s).egr = s.egr := rfl
@[simp] theorem onAna_cel (c : Nat) (f : Ana → Ana) (s : State) : (onAna c f s).cel = s.cel := rfl
@[simp] theorem onAna_uart (c : Nat) (f : Ana → Ana) (s : State) : (onAna c f s).uart = s.uart := rfl
@[simp] theorem onAna_pins (c : Nat) (f : Ana → Ana) (s : State) : (onAna c f s).pins = s.pins := rfl
@[simp] theorem onChan_regs (n : Nat) (f : Chan → Chan) (s : State) : (onChan n f s).regs = s.regs := rfl
@[simp] theorem onChan_inForce (n : Nat) (f : Chan → Chan) (s : State) : (onChan n f s).inForce = s.inForce := rfl
@[simp] theorem onChan_time (n : Nat) (f : Chan → Chan) (s : State) : (onChan n f s).time = s.time := rfl
@[simp] theorem onChan_upTicks (n : Nat) (f : Chan → Chan) (s : State) : (onChan n f s).upTicks = s.upTicks := rfl
@[simp] theorem onChan_draws (n : Nat) (f : Chan → Chan) (s : State) : (onChan n f s).draws = s.draws := rfl
@[simp] theorem onChan_ptpS (n : Nat) (f : Chan → Chan) (s : State) : (onChan n f s).ptpS = s.ptpS := rfl
@[simp] theorem onChan_ptpNs (n : Nat) (f : Chan → Chan) (s : State) : (onChan n f s).ptpNs = s.ptpNs := rfl
@[simp] theorem onChan_busData (n : Nat) (f : Chan → Chan) (s : State) : (onChan n f s).busData = s.busData := rfl
@[simp] theorem onChan_busCode (n : Nat) (f : Chan → Chan) (s : State) : (onChan n f s).busCode = s.busCode := rfl
@[simp] theorem onChan_gut (n : Nat) (f : Chan → Chan) (s : State) : (onChan n f s).gut = s.gut := rfl
@[simp] theorem onChan_pwr (n : Nat) (f : Chan → Chan) (s : State) : (onChan n f s).pwr = s.pwr := rfl
@[simp] theorem onChan_clk (n : Nat) (f : Chan → Chan) (s : State) : (onChan n f s).clk = s.clk := rfl
@[simp] theorem onChan_start (n : Nat) (f : Chan → Chan) (s : State) : (onChan n f s).start = s.start := rfl
@[simp] theorem onChan_cp (n : Nat) (f : Chan → Chan) (s : State) : (onChan n f s).cp = s.cp := rfl
@[simp] theorem onChan_nor (n : Nat) (f : Chan → Chan) (s : State) : (onChan n f s).nor = s.nor := rfl
@[simp] theorem onChan_vat (n : Nat) (f : Chan → Chan) (s : State) : (onChan n f s).vat = s.vat := rfl
@[simp] theorem onChan_tbl (n : Nat) (f : Chan → Chan) (s : State) : (onChan n f s).tbl = s.tbl := rfl
@[simp] theorem onChan_sch (n : Nat) (f : Chan → Chan) (s : State) : (onChan n f s).sch = s.sch := rfl
@[simp] theorem onChan_int (n : Nat) (f : Chan → Chan) (s : State) : (onChan n f s).int = s.int := rfl
@[simp] theorem onChan_trm (n : Nat) (f : Chan → Chan) (s : State) : (onChan n f s).trm = s.trm := rfl
@[simp] theorem onChan_hk (n : Nat) (f : Chan → Chan) (s : State) : (onChan n f s).hk = s.hk := rfl
@[simp] theorem onChan_act (n : Nat) (f : Chan → Chan) (s : State) : (onChan n f s).act = { s.act with chans := upd s.act.chans n f } := rfl
@[simp] theorem onChan_dnr (n : Nat) (f : Chan → Chan) (s : State) : (onChan n f s).dnr = s.dnr := rfl
@[simp] theorem onChan_nuc (n : Nat) (f : Chan → Chan) (s : State) : (onChan n f s).nuc = s.nuc := rfl
@[simp] theorem onChan_rnd (n : Nat) (f : Chan → Chan) (s : State) : (onChan n f s).rnd = s.rnd := rfl
@[simp] theorem onChan_out (n : Nat) (f : Chan → Chan) (s : State) : (onChan n f s).out = s.out := rfl
@[simp] theorem onChan_ana (n : Nat) (f : Chan → Chan) (s : State) : (onChan n f s).ana = s.ana := rfl
@[simp] theorem onChan_heat (n : Nat) (f : Chan → Chan) (s : State) : (onChan n f s).heat = s.heat := rfl
@[simp] theorem onChan_sw (n : Nat) (f : Chan → Chan) (s : State) : (onChan n f s).sw = s.sw := rfl
@[simp] theorem onChan_vlv (n : Nat) (f : Chan → Chan) (s : State) : (onChan n f s).vlv = s.vlv := rfl
@[simp] theorem onChan_egr (n : Nat) (f : Chan → Chan) (s : State) : (onChan n f s).egr = s.egr := rfl
@[simp] theorem onChan_cel (n : Nat) (f : Chan → Chan) (s : State) : (onChan n f s).cel = s.cel := rfl
@[simp] theorem onChan_uart (n : Nat) (f : Chan → Chan) (s : State) : (onChan n f s).uart = s.uart := rfl
@[simp] theorem onChan_pins (n : Nat) (f : Chan → Chan) (s : State) : (onChan n f s).pins = s.pins := rfl
@[simp] theorem onConv_regs (j : Nat) (f : HkConv → HkConv) (s : State) : (onConv j f s).regs = s.regs := rfl
@[simp] theorem onConv_inForce (j : Nat) (f : HkConv → HkConv) (s : State) : (onConv j f s).inForce = s.inForce := rfl
@[simp] theorem onConv_time (j : Nat) (f : HkConv → HkConv) (s : State) : (onConv j f s).time = s.time := rfl
@[simp] theorem onConv_upTicks (j : Nat) (f : HkConv → HkConv) (s : State) : (onConv j f s).upTicks = s.upTicks := rfl
@[simp] theorem onConv_draws (j : Nat) (f : HkConv → HkConv) (s : State) : (onConv j f s).draws = s.draws := rfl
@[simp] theorem onConv_ptpS (j : Nat) (f : HkConv → HkConv) (s : State) : (onConv j f s).ptpS = s.ptpS := rfl
@[simp] theorem onConv_ptpNs (j : Nat) (f : HkConv → HkConv) (s : State) : (onConv j f s).ptpNs = s.ptpNs := rfl
@[simp] theorem onConv_busData (j : Nat) (f : HkConv → HkConv) (s : State) : (onConv j f s).busData = s.busData := rfl
@[simp] theorem onConv_busCode (j : Nat) (f : HkConv → HkConv) (s : State) : (onConv j f s).busCode = s.busCode := rfl
@[simp] theorem onConv_gut (j : Nat) (f : HkConv → HkConv) (s : State) : (onConv j f s).gut = s.gut := rfl
@[simp] theorem onConv_pwr (j : Nat) (f : HkConv → HkConv) (s : State) : (onConv j f s).pwr = s.pwr := rfl
@[simp] theorem onConv_clk (j : Nat) (f : HkConv → HkConv) (s : State) : (onConv j f s).clk = s.clk := rfl
@[simp] theorem onConv_start (j : Nat) (f : HkConv → HkConv) (s : State) : (onConv j f s).start = s.start := rfl
@[simp] theorem onConv_cp (j : Nat) (f : HkConv → HkConv) (s : State) : (onConv j f s).cp = s.cp := rfl
@[simp] theorem onConv_nor (j : Nat) (f : HkConv → HkConv) (s : State) : (onConv j f s).nor = s.nor := rfl
@[simp] theorem onConv_vat (j : Nat) (f : HkConv → HkConv) (s : State) : (onConv j f s).vat = s.vat := rfl
@[simp] theorem onConv_tbl (j : Nat) (f : HkConv → HkConv) (s : State) : (onConv j f s).tbl = s.tbl := rfl
@[simp] theorem onConv_sch (j : Nat) (f : HkConv → HkConv) (s : State) : (onConv j f s).sch = s.sch := rfl
@[simp] theorem onConv_int (j : Nat) (f : HkConv → HkConv) (s : State) : (onConv j f s).int = s.int := rfl
@[simp] theorem onConv_trm (j : Nat) (f : HkConv → HkConv) (s : State) : (onConv j f s).trm = s.trm := rfl
@[simp] theorem onConv_hk (j : Nat) (f : HkConv → HkConv) (s : State) : (onConv j f s).hk = { s.hk with convs := upd s.hk.convs j f } := rfl
@[simp] theorem onConv_act (j : Nat) (f : HkConv → HkConv) (s : State) : (onConv j f s).act = s.act := rfl
@[simp] theorem onConv_dnr (j : Nat) (f : HkConv → HkConv) (s : State) : (onConv j f s).dnr = s.dnr := rfl
@[simp] theorem onConv_nuc (j : Nat) (f : HkConv → HkConv) (s : State) : (onConv j f s).nuc = s.nuc := rfl
@[simp] theorem onConv_rnd (j : Nat) (f : HkConv → HkConv) (s : State) : (onConv j f s).rnd = s.rnd := rfl
@[simp] theorem onConv_out (j : Nat) (f : HkConv → HkConv) (s : State) : (onConv j f s).out = s.out := rfl
@[simp] theorem onConv_ana (j : Nat) (f : HkConv → HkConv) (s : State) : (onConv j f s).ana = s.ana := rfl
@[simp] theorem onConv_heat (j : Nat) (f : HkConv → HkConv) (s : State) : (onConv j f s).heat = s.heat := rfl
@[simp] theorem onConv_sw (j : Nat) (f : HkConv → HkConv) (s : State) : (onConv j f s).sw = s.sw := rfl
@[simp] theorem onConv_vlv (j : Nat) (f : HkConv → HkConv) (s : State) : (onConv j f s).vlv = s.vlv := rfl
@[simp] theorem onConv_egr (j : Nat) (f : HkConv → HkConv) (s : State) : (onConv j f s).egr = s.egr := rfl
@[simp] theorem onConv_cel (j : Nat) (f : HkConv → HkConv) (s : State) : (onConv j f s).cel = s.cel := rfl
@[simp] theorem onConv_uart (j : Nat) (f : HkConv → HkConv) (s : State) : (onConv j f s).uart = s.uart := rfl
@[simp] theorem onConv_pins (j : Nat) (f : HkConv → HkConv) (s : State) : (onConv j f s).pins = s.pins := rfl
@[simp] theorem onSer_regs (u : Nat) (f : Uart → Uart) (s : State) : (onSer u f s).regs = s.regs := rfl
@[simp] theorem onSer_inForce (u : Nat) (f : Uart → Uart) (s : State) : (onSer u f s).inForce = s.inForce := rfl
@[simp] theorem onSer_time (u : Nat) (f : Uart → Uart) (s : State) : (onSer u f s).time = s.time := rfl
@[simp] theorem onSer_upTicks (u : Nat) (f : Uart → Uart) (s : State) : (onSer u f s).upTicks = s.upTicks := rfl
@[simp] theorem onSer_draws (u : Nat) (f : Uart → Uart) (s : State) : (onSer u f s).draws = s.draws := rfl
@[simp] theorem onSer_ptpS (u : Nat) (f : Uart → Uart) (s : State) : (onSer u f s).ptpS = s.ptpS := rfl
@[simp] theorem onSer_ptpNs (u : Nat) (f : Uart → Uart) (s : State) : (onSer u f s).ptpNs = s.ptpNs := rfl
@[simp] theorem onSer_busData (u : Nat) (f : Uart → Uart) (s : State) : (onSer u f s).busData = s.busData := rfl
@[simp] theorem onSer_busCode (u : Nat) (f : Uart → Uart) (s : State) : (onSer u f s).busCode = s.busCode := rfl
@[simp] theorem onSer_gut (u : Nat) (f : Uart → Uart) (s : State) : (onSer u f s).gut = s.gut := rfl
@[simp] theorem onSer_pwr (u : Nat) (f : Uart → Uart) (s : State) : (onSer u f s).pwr = s.pwr := rfl
@[simp] theorem onSer_clk (u : Nat) (f : Uart → Uart) (s : State) : (onSer u f s).clk = s.clk := rfl
@[simp] theorem onSer_start (u : Nat) (f : Uart → Uart) (s : State) : (onSer u f s).start = s.start := rfl
@[simp] theorem onSer_cp (u : Nat) (f : Uart → Uart) (s : State) : (onSer u f s).cp = s.cp := rfl
@[simp] theorem onSer_nor (u : Nat) (f : Uart → Uart) (s : State) : (onSer u f s).nor = s.nor := rfl
@[simp] theorem onSer_vat (u : Nat) (f : Uart → Uart) (s : State) : (onSer u f s).vat = s.vat := rfl
@[simp] theorem onSer_tbl (u : Nat) (f : Uart → Uart) (s : State) : (onSer u f s).tbl = s.tbl := rfl
@[simp] theorem onSer_sch (u : Nat) (f : Uart → Uart) (s : State) : (onSer u f s).sch = s.sch := rfl
@[simp] theorem onSer_int (u : Nat) (f : Uart → Uart) (s : State) : (onSer u f s).int = s.int := rfl
@[simp] theorem onSer_trm (u : Nat) (f : Uart → Uart) (s : State) : (onSer u f s).trm = s.trm := rfl
@[simp] theorem onSer_hk (u : Nat) (f : Uart → Uart) (s : State) : (onSer u f s).hk = s.hk := rfl
@[simp] theorem onSer_act (u : Nat) (f : Uart → Uart) (s : State) : (onSer u f s).act = s.act := rfl
@[simp] theorem onSer_dnr (u : Nat) (f : Uart → Uart) (s : State) : (onSer u f s).dnr = s.dnr := rfl
@[simp] theorem onSer_nuc (u : Nat) (f : Uart → Uart) (s : State) : (onSer u f s).nuc = s.nuc := rfl
@[simp] theorem onSer_rnd (u : Nat) (f : Uart → Uart) (s : State) : (onSer u f s).rnd = s.rnd := rfl
@[simp] theorem onSer_out (u : Nat) (f : Uart → Uart) (s : State) : (onSer u f s).out = s.out := rfl
@[simp] theorem onSer_ana (u : Nat) (f : Uart → Uart) (s : State) : (onSer u f s).ana = s.ana := rfl
@[simp] theorem onSer_heat (u : Nat) (f : Uart → Uart) (s : State) : (onSer u f s).heat = s.heat := rfl
@[simp] theorem onSer_sw (u : Nat) (f : Uart → Uart) (s : State) : (onSer u f s).sw = s.sw := rfl
@[simp] theorem onSer_vlv (u : Nat) (f : Uart → Uart) (s : State) : (onSer u f s).vlv = s.vlv := rfl
@[simp] theorem onSer_egr (u : Nat) (f : Uart → Uart) (s : State) : (onSer u f s).egr = s.egr := rfl
@[simp] theorem onSer_cel (u : Nat) (f : Uart → Uart) (s : State) : (onSer u f s).cel = s.cel := rfl
@[simp] theorem onSer_uart (u : Nat) (f : Uart → Uart) (s : State) : (onSer u f s).uart = upd s.uart u f := rfl
@[simp] theorem onSer_pins (u : Nat) (f : Uart → Uart) (s : State) : (onSer u f s).pins = s.pins := rfl
@[simp] theorem onTable_regs (n : Nat) (f : Table → Table) (s : State) : (onTable n f s).regs = s.regs := rfl
@[simp] theorem onTable_inForce (n : Nat) (f : Table → Table) (s : State) : (onTable n f s).inForce = s.inForce := rfl
@[simp] theorem onTable_time (n : Nat) (f : Table → Table) (s : State) : (onTable n f s).time = s.time := rfl
@[simp] theorem onTable_upTicks (n : Nat) (f : Table → Table) (s : State) : (onTable n f s).upTicks = s.upTicks := rfl
@[simp] theorem onTable_draws (n : Nat) (f : Table → Table) (s : State) : (onTable n f s).draws = s.draws := rfl
@[simp] theorem onTable_ptpS (n : Nat) (f : Table → Table) (s : State) : (onTable n f s).ptpS = s.ptpS := rfl
@[simp] theorem onTable_ptpNs (n : Nat) (f : Table → Table) (s : State) : (onTable n f s).ptpNs = s.ptpNs := rfl
@[simp] theorem onTable_busData (n : Nat) (f : Table → Table) (s : State) : (onTable n f s).busData = s.busData := rfl
@[simp] theorem onTable_busCode (n : Nat) (f : Table → Table) (s : State) : (onTable n f s).busCode = s.busCode := rfl
@[simp] theorem onTable_gut (n : Nat) (f : Table → Table) (s : State) : (onTable n f s).gut = s.gut := rfl
@[simp] theorem onTable_pwr (n : Nat) (f : Table → Table) (s : State) : (onTable n f s).pwr = s.pwr := rfl
@[simp] theorem onTable_clk (n : Nat) (f : Table → Table) (s : State) : (onTable n f s).clk = s.clk := rfl
@[simp] theorem onTable_start (n : Nat) (f : Table → Table) (s : State) : (onTable n f s).start = s.start := rfl
@[simp] theorem onTable_cp (n : Nat) (f : Table → Table) (s : State) : (onTable n f s).cp = s.cp := rfl
@[simp] theorem onTable_nor (n : Nat) (f : Table → Table) (s : State) : (onTable n f s).nor = s.nor := rfl
@[simp] theorem onTable_vat (n : Nat) (f : Table → Table) (s : State) : (onTable n f s).vat = s.vat := rfl
@[simp] theorem onTable_tbl (n : Nat) (f : Table → Table) (s : State) : (onTable n f s).tbl = { s.tbl with tabs := aput s.tbl.tabs n (f (s.table n)) } := rfl
@[simp] theorem onTable_sch (n : Nat) (f : Table → Table) (s : State) : (onTable n f s).sch = s.sch := rfl
@[simp] theorem onTable_int (n : Nat) (f : Table → Table) (s : State) : (onTable n f s).int = s.int := rfl
@[simp] theorem onTable_trm (n : Nat) (f : Table → Table) (s : State) : (onTable n f s).trm = s.trm := rfl
@[simp] theorem onTable_hk (n : Nat) (f : Table → Table) (s : State) : (onTable n f s).hk = s.hk := rfl
@[simp] theorem onTable_act (n : Nat) (f : Table → Table) (s : State) : (onTable n f s).act = s.act := rfl
@[simp] theorem onTable_dnr (n : Nat) (f : Table → Table) (s : State) : (onTable n f s).dnr = s.dnr := rfl
@[simp] theorem onTable_nuc (n : Nat) (f : Table → Table) (s : State) : (onTable n f s).nuc = s.nuc := rfl
@[simp] theorem onTable_rnd (n : Nat) (f : Table → Table) (s : State) : (onTable n f s).rnd = s.rnd := rfl
@[simp] theorem onTable_out (n : Nat) (f : Table → Table) (s : State) : (onTable n f s).out = s.out := rfl
@[simp] theorem onTable_ana (n : Nat) (f : Table → Table) (s : State) : (onTable n f s).ana = s.ana := rfl
@[simp] theorem onTable_heat (n : Nat) (f : Table → Table) (s : State) : (onTable n f s).heat = s.heat := rfl
@[simp] theorem onTable_sw (n : Nat) (f : Table → Table) (s : State) : (onTable n f s).sw = s.sw := rfl
@[simp] theorem onTable_vlv (n : Nat) (f : Table → Table) (s : State) : (onTable n f s).vlv = s.vlv := rfl
@[simp] theorem onTable_egr (n : Nat) (f : Table → Table) (s : State) : (onTable n f s).egr = s.egr := rfl
@[simp] theorem onTable_cel (n : Nat) (f : Table → Table) (s : State) : (onTable n f s).cel = s.cel := rfl
@[simp] theorem onTable_uart (n : Nat) (f : Table → Table) (s : State) : (onTable n f s).uart = s.uart := rfl
@[simp] theorem onTable_pins (n : Nat) (f : Table → Table) (s : State) : (onTable n f s).pins = s.pins := rfl
@[simp] theorem onEntry_regs (f : JEntry → JEntry) (s : State) : (onEntry f s).regs = s.regs := rfl
@[simp] theorem onEntry_inForce (f : JEntry → JEntry) (s : State) : (onEntry f s).inForce = s.inForce := rfl
@[simp] theorem onEntry_time (f : JEntry → JEntry) (s : State) : (onEntry f s).time = s.time := rfl
@[simp] theorem onEntry_upTicks (f : JEntry → JEntry) (s : State) : (onEntry f s).upTicks = s.upTicks := rfl
@[simp] theorem onEntry_draws (f : JEntry → JEntry) (s : State) : (onEntry f s).draws = s.draws := rfl
@[simp] theorem onEntry_ptpS (f : JEntry → JEntry) (s : State) : (onEntry f s).ptpS = s.ptpS := rfl
@[simp] theorem onEntry_ptpNs (f : JEntry → JEntry) (s : State) : (onEntry f s).ptpNs = s.ptpNs := rfl
@[simp] theorem onEntry_busData (f : JEntry → JEntry) (s : State) : (onEntry f s).busData = s.busData := rfl
@[simp] theorem onEntry_busCode (f : JEntry → JEntry) (s : State) : (onEntry f s).busCode = s.busCode := rfl
@[simp] theorem onEntry_gut (f : JEntry → JEntry) (s : State) : (onEntry f s).gut = s.gut := rfl
@[simp] theorem onEntry_pwr (f : JEntry → JEntry) (s : State) : (onEntry f s).pwr = s.pwr := rfl
@[simp] theorem onEntry_clk (f : JEntry → JEntry) (s : State) : (onEntry f s).clk = s.clk := rfl
@[simp] theorem onEntry_start (f : JEntry → JEntry) (s : State) : (onEntry f s).start = { s.start with journal := upd s.start.journal 0 f } := rfl
@[simp] theorem onEntry_cp (f : JEntry → JEntry) (s : State) : (onEntry f s).cp = s.cp := rfl
@[simp] theorem onEntry_nor (f : JEntry → JEntry) (s : State) : (onEntry f s).nor = s.nor := rfl
@[simp] theorem onEntry_vat (f : JEntry → JEntry) (s : State) : (onEntry f s).vat = s.vat := rfl
@[simp] theorem onEntry_tbl (f : JEntry → JEntry) (s : State) : (onEntry f s).tbl = s.tbl := rfl
@[simp] theorem onEntry_sch (f : JEntry → JEntry) (s : State) : (onEntry f s).sch = s.sch := rfl
@[simp] theorem onEntry_int (f : JEntry → JEntry) (s : State) : (onEntry f s).int = s.int := rfl
@[simp] theorem onEntry_trm (f : JEntry → JEntry) (s : State) : (onEntry f s).trm = s.trm := rfl
@[simp] theorem onEntry_hk (f : JEntry → JEntry) (s : State) : (onEntry f s).hk = s.hk := rfl
@[simp] theorem onEntry_act (f : JEntry → JEntry) (s : State) : (onEntry f s).act = s.act := rfl
@[simp] theorem onEntry_dnr (f : JEntry → JEntry) (s : State) : (onEntry f s).dnr = s.dnr := rfl
@[simp] theorem onEntry_nuc (f : JEntry → JEntry) (s : State) : (onEntry f s).nuc = s.nuc := rfl
@[simp] theorem onEntry_rnd (f : JEntry → JEntry) (s : State) : (onEntry f s).rnd = s.rnd := rfl
@[simp] theorem onEntry_out (f : JEntry → JEntry) (s : State) : (onEntry f s).out = s.out := rfl
@[simp] theorem onEntry_ana (f : JEntry → JEntry) (s : State) : (onEntry f s).ana = s.ana := rfl
@[simp] theorem onEntry_heat (f : JEntry → JEntry) (s : State) : (onEntry f s).heat = s.heat := rfl
@[simp] theorem onEntry_sw (f : JEntry → JEntry) (s : State) : (onEntry f s).sw = s.sw := rfl
@[simp] theorem onEntry_vlv (f : JEntry → JEntry) (s : State) : (onEntry f s).vlv = s.vlv := rfl
@[simp] theorem onEntry_egr (f : JEntry → JEntry) (s : State) : (onEntry f s).egr = s.egr := rfl
@[simp] theorem onEntry_cel (f : JEntry → JEntry) (s : State) : (onEntry f s).cel = s.cel := rfl
@[simp] theorem onEntry_uart (f : JEntry → JEntry) (s : State) : (onEntry f s).uart = s.uart := rfl
@[simp] theorem onEntry_pins (f : JEntry → JEntry) (s : State) : (onEntry f s).pins = s.pins := rfl
@[simp] theorem onHeat_regs (f : Heat → Heat) (s : State) : (onHeat f s).regs = s.regs := rfl
@[simp] theorem onHeat_inForce (f : Heat → Heat) (s : State) : (onHeat f s).inForce = s.inForce := rfl
@[simp] theorem onHeat_time (f : Heat → Heat) (s : State) : (onHeat f s).time = s.time := rfl
@[simp] theorem onHeat_upTicks (f : Heat → Heat) (s : State) : (onHeat f s).upTicks = s.upTicks := rfl
@[simp] theorem onHeat_draws (f : Heat → Heat) (s : State) : (onHeat f s).draws = s.draws := rfl
@[simp] theorem onHeat_ptpS (f : Heat → Heat) (s : State) : (onHeat f s).ptpS = s.ptpS := rfl
@[simp] theorem onHeat_ptpNs (f : Heat → Heat) (s : State) : (onHeat f s).ptpNs = s.ptpNs := rfl
@[simp] theorem onHeat_busData (f : Heat → Heat) (s : State) : (onHeat f s).busData = s.busData := rfl
@[simp] theorem onHeat_busCode (f : Heat → Heat) (s : State) : (onHeat f s).busCode = s.busCode := rfl
@[simp] theorem onHeat_gut (f : Heat → Heat) (s : State) : (onHeat f s).gut = s.gut := rfl
@[simp] theorem onHeat_pwr (f : Heat → Heat) (s : State) : (onHeat f s).pwr = s.pwr := rfl
@[simp] theorem onHeat_clk (f : Heat → Heat) (s : State) : (onHeat f s).clk = s.clk := rfl
@[simp] theorem onHeat_start (f : Heat → Heat) (s : State) : (onHeat f s).start = s.start := rfl
@[simp] theorem onHeat_cp (f : Heat → Heat) (s : State) : (onHeat f s).cp = s.cp := rfl
@[simp] theorem onHeat_nor (f : Heat → Heat) (s : State) : (onHeat f s).nor = s.nor := rfl
@[simp] theorem onHeat_vat (f : Heat → Heat) (s : State) : (onHeat f s).vat = s.vat := rfl
@[simp] theorem onHeat_tbl (f : Heat → Heat) (s : State) : (onHeat f s).tbl = s.tbl := rfl
@[simp] theorem onHeat_sch (f : Heat → Heat) (s : State) : (onHeat f s).sch = s.sch := rfl
@[simp] theorem onHeat_int (f : Heat → Heat) (s : State) : (onHeat f s).int = s.int := rfl
@[simp] theorem onHeat_trm (f : Heat → Heat) (s : State) : (onHeat f s).trm = s.trm := rfl
@[simp] theorem onHeat_hk (f : Heat → Heat) (s : State) : (onHeat f s).hk = s.hk := rfl
@[simp] theorem onHeat_act (f : Heat → Heat) (s : State) : (onHeat f s).act = s.act := rfl
@[simp] theorem onHeat_dnr (f : Heat → Heat) (s : State) : (onHeat f s).dnr = s.dnr := rfl
@[simp] theorem onHeat_nuc (f : Heat → Heat) (s : State) : (onHeat f s).nuc = s.nuc := rfl
@[simp] theorem onHeat_rnd (f : Heat → Heat) (s : State) : (onHeat f s).rnd = s.rnd := rfl
@[simp] theorem onHeat_out (f : Heat → Heat) (s : State) : (onHeat f s).out = s.out := rfl
@[simp] theorem onHeat_ana (f : Heat → Heat) (s : State) : (onHeat f s).ana = s.ana := rfl
@[simp] theorem onHeat_heat (f : Heat → Heat) (s : State) : (onHeat f s).heat = f s.heat := rfl
@[simp] theorem onHeat_sw (f : Heat → Heat) (s : State) : (onHeat f s).sw = s.sw := rfl
@[simp] theorem onHeat_vlv (f : Heat → Heat) (s : State) : (onHeat f s).vlv = s.vlv := rfl
@[simp] theorem onHeat_egr (f : Heat → Heat) (s : State) : (onHeat f s).egr = s.egr := rfl
@[simp] theorem onHeat_cel (f : Heat → Heat) (s : State) : (onHeat f s).cel = s.cel := rfl
@[simp] theorem onHeat_uart (f : Heat → Heat) (s : State) : (onHeat f s).uart = s.uart := rfl
@[simp] theorem onHeat_pins (f : Heat → Heat) (s : State) : (onHeat f s).pins = s.pins := rfl
@[simp] theorem onSw_regs (f : Switch → Switch) (s : State) : (onSw f s).regs = s.regs := rfl
@[simp] theorem onSw_inForce (f : Switch → Switch) (s : State) : (onSw f s).inForce = s.inForce := rfl
@[simp] theorem onSw_time (f : Switch → Switch) (s : State) : (onSw f s).time = s.time := rfl
@[simp] theorem onSw_upTicks (f : Switch → Switch) (s : State) : (onSw f s).upTicks = s.upTicks := rfl
@[simp] theorem onSw_draws (f : Switch → Switch) (s : State) : (onSw f s).draws = s.draws := rfl
@[simp] theorem onSw_ptpS (f : Switch → Switch) (s : State) : (onSw f s).ptpS = s.ptpS := rfl
@[simp] theorem onSw_ptpNs (f : Switch → Switch) (s : State) : (onSw f s).ptpNs = s.ptpNs := rfl
@[simp] theorem onSw_busData (f : Switch → Switch) (s : State) : (onSw f s).busData = s.busData := rfl
@[simp] theorem onSw_busCode (f : Switch → Switch) (s : State) : (onSw f s).busCode = s.busCode := rfl
@[simp] theorem onSw_gut (f : Switch → Switch) (s : State) : (onSw f s).gut = s.gut := rfl
@[simp] theorem onSw_pwr (f : Switch → Switch) (s : State) : (onSw f s).pwr = s.pwr := rfl
@[simp] theorem onSw_clk (f : Switch → Switch) (s : State) : (onSw f s).clk = s.clk := rfl
@[simp] theorem onSw_start (f : Switch → Switch) (s : State) : (onSw f s).start = s.start := rfl
@[simp] theorem onSw_cp (f : Switch → Switch) (s : State) : (onSw f s).cp = s.cp := rfl
@[simp] theorem onSw_nor (f : Switch → Switch) (s : State) : (onSw f s).nor = s.nor := rfl
@[simp] theorem onSw_vat (f : Switch → Switch) (s : State) : (onSw f s).vat = s.vat := rfl
@[simp] theorem onSw_tbl (f : Switch → Switch) (s : State) : (onSw f s).tbl = s.tbl := rfl
@[simp] theorem onSw_sch (f : Switch → Switch) (s : State) : (onSw f s).sch = s.sch := rfl
@[simp] theorem onSw_int (f : Switch → Switch) (s : State) : (onSw f s).int = s.int := rfl
@[simp] theorem onSw_trm (f : Switch → Switch) (s : State) : (onSw f s).trm = s.trm := rfl
@[simp] theorem onSw_hk (f : Switch → Switch) (s : State) : (onSw f s).hk = s.hk := rfl
@[simp] theorem onSw_act (f : Switch → Switch) (s : State) : (onSw f s).act = s.act := rfl
@[simp] theorem onSw_dnr (f : Switch → Switch) (s : State) : (onSw f s).dnr = s.dnr := rfl
@[simp] theorem onSw_nuc (f : Switch → Switch) (s : State) : (onSw f s).nuc = s.nuc := rfl
@[simp] theorem onSw_rnd (f : Switch → Switch) (s : State) : (onSw f s).rnd = s.rnd := rfl
@[simp] theorem onSw_out (f : Switch → Switch) (s : State) : (onSw f s).out = s.out := rfl
@[simp] theorem onSw_ana (f : Switch → Switch) (s : State) : (onSw f s).ana = s.ana := rfl
@[simp] theorem onSw_heat (f : Switch → Switch) (s : State) : (onSw f s).heat = s.heat := rfl
@[simp] theorem onSw_sw (f : Switch → Switch) (s : State) : (onSw f s).sw = f s.sw := rfl
@[simp] theorem onSw_vlv (f : Switch → Switch) (s : State) : (onSw f s).vlv = s.vlv := rfl
@[simp] theorem onSw_egr (f : Switch → Switch) (s : State) : (onSw f s).egr = s.egr := rfl
@[simp] theorem onSw_cel (f : Switch → Switch) (s : State) : (onSw f s).cel = s.cel := rfl
@[simp] theorem onSw_uart (f : Switch → Switch) (s : State) : (onSw f s).uart = s.uart := rfl
@[simp] theorem onSw_pins (f : Switch → Switch) (s : State) : (onSw f s).pins = s.pins := rfl
@[simp] theorem onVlv_regs (f : Velva → Velva) (s : State) : (onVlv f s).regs = s.regs := rfl
@[simp] theorem onVlv_inForce (f : Velva → Velva) (s : State) : (onVlv f s).inForce = s.inForce := rfl
@[simp] theorem onVlv_time (f : Velva → Velva) (s : State) : (onVlv f s).time = s.time := rfl
@[simp] theorem onVlv_upTicks (f : Velva → Velva) (s : State) : (onVlv f s).upTicks = s.upTicks := rfl
@[simp] theorem onVlv_draws (f : Velva → Velva) (s : State) : (onVlv f s).draws = s.draws := rfl
@[simp] theorem onVlv_ptpS (f : Velva → Velva) (s : State) : (onVlv f s).ptpS = s.ptpS := rfl
@[simp] theorem onVlv_ptpNs (f : Velva → Velva) (s : State) : (onVlv f s).ptpNs = s.ptpNs := rfl
@[simp] theorem onVlv_busData (f : Velva → Velva) (s : State) : (onVlv f s).busData = s.busData := rfl
@[simp] theorem onVlv_busCode (f : Velva → Velva) (s : State) : (onVlv f s).busCode = s.busCode := rfl
@[simp] theorem onVlv_gut (f : Velva → Velva) (s : State) : (onVlv f s).gut = s.gut := rfl
@[simp] theorem onVlv_pwr (f : Velva → Velva) (s : State) : (onVlv f s).pwr = s.pwr := rfl
@[simp] theorem onVlv_clk (f : Velva → Velva) (s : State) : (onVlv f s).clk = s.clk := rfl
@[simp] theorem onVlv_start (f : Velva → Velva) (s : State) : (onVlv f s).start = s.start := rfl
@[simp] theorem onVlv_cp (f : Velva → Velva) (s : State) : (onVlv f s).cp = s.cp := rfl
@[simp] theorem onVlv_nor (f : Velva → Velva) (s : State) : (onVlv f s).nor = s.nor := rfl
@[simp] theorem onVlv_vat (f : Velva → Velva) (s : State) : (onVlv f s).vat = s.vat := rfl
@[simp] theorem onVlv_tbl (f : Velva → Velva) (s : State) : (onVlv f s).tbl = s.tbl := rfl
@[simp] theorem onVlv_sch (f : Velva → Velva) (s : State) : (onVlv f s).sch = s.sch := rfl
@[simp] theorem onVlv_int (f : Velva → Velva) (s : State) : (onVlv f s).int = s.int := rfl
@[simp] theorem onVlv_trm (f : Velva → Velva) (s : State) : (onVlv f s).trm = s.trm := rfl
@[simp] theorem onVlv_hk (f : Velva → Velva) (s : State) : (onVlv f s).hk = s.hk := rfl
@[simp] theorem onVlv_act (f : Velva → Velva) (s : State) : (onVlv f s).act = s.act := rfl
@[simp] theorem onVlv_dnr (f : Velva → Velva) (s : State) : (onVlv f s).dnr = s.dnr := rfl
@[simp] theorem onVlv_nuc (f : Velva → Velva) (s : State) : (onVlv f s).nuc = s.nuc := rfl
@[simp] theorem onVlv_rnd (f : Velva → Velva) (s : State) : (onVlv f s).rnd = s.rnd := rfl
@[simp] theorem onVlv_out (f : Velva → Velva) (s : State) : (onVlv f s).out = s.out := rfl
@[simp] theorem onVlv_ana (f : Velva → Velva) (s : State) : (onVlv f s).ana = s.ana := rfl
@[simp] theorem onVlv_heat (f : Velva → Velva) (s : State) : (onVlv f s).heat = s.heat := rfl
@[simp] theorem onVlv_sw (f : Velva → Velva) (s : State) : (onVlv f s).sw = s.sw := rfl
@[simp] theorem onVlv_vlv (f : Velva → Velva) (s : State) : (onVlv f s).vlv = f s.vlv := rfl
@[simp] theorem onVlv_egr (f : Velva → Velva) (s : State) : (onVlv f s).egr = s.egr := rfl
@[simp] theorem onVlv_cel (f : Velva → Velva) (s : State) : (onVlv f s).cel = s.cel := rfl
@[simp] theorem onVlv_uart (f : Velva → Velva) (s : State) : (onVlv f s).uart = s.uart := rfl
@[simp] theorem onVlv_pins (f : Velva → Velva) (s : State) : (onVlv f s).pins = s.pins := rfl
@[simp] theorem onEgr_regs (f : Egress → Egress) (s : State) : (onEgr f s).regs = s.regs := rfl
@[simp] theorem onEgr_inForce (f : Egress → Egress) (s : State) : (onEgr f s).inForce = s.inForce := rfl
@[simp] theorem onEgr_time (f : Egress → Egress) (s : State) : (onEgr f s).time = s.time := rfl
@[simp] theorem onEgr_upTicks (f : Egress → Egress) (s : State) : (onEgr f s).upTicks = s.upTicks := rfl
@[simp] theorem onEgr_draws (f : Egress → Egress) (s : State) : (onEgr f s).draws = s.draws := rfl
@[simp] theorem onEgr_ptpS (f : Egress → Egress) (s : State) : (onEgr f s).ptpS = s.ptpS := rfl
@[simp] theorem onEgr_ptpNs (f : Egress → Egress) (s : State) : (onEgr f s).ptpNs = s.ptpNs := rfl
@[simp] theorem onEgr_busData (f : Egress → Egress) (s : State) : (onEgr f s).busData = s.busData := rfl
@[simp] theorem onEgr_busCode (f : Egress → Egress) (s : State) : (onEgr f s).busCode = s.busCode := rfl
@[simp] theorem onEgr_gut (f : Egress → Egress) (s : State) : (onEgr f s).gut = s.gut := rfl
@[simp] theorem onEgr_pwr (f : Egress → Egress) (s : State) : (onEgr f s).pwr = s.pwr := rfl
@[simp] theorem onEgr_clk (f : Egress → Egress) (s : State) : (onEgr f s).clk = s.clk := rfl
@[simp] theorem onEgr_start (f : Egress → Egress) (s : State) : (onEgr f s).start = s.start := rfl
@[simp] theorem onEgr_cp (f : Egress → Egress) (s : State) : (onEgr f s).cp = s.cp := rfl
@[simp] theorem onEgr_nor (f : Egress → Egress) (s : State) : (onEgr f s).nor = s.nor := rfl
@[simp] theorem onEgr_vat (f : Egress → Egress) (s : State) : (onEgr f s).vat = s.vat := rfl
@[simp] theorem onEgr_tbl (f : Egress → Egress) (s : State) : (onEgr f s).tbl = s.tbl := rfl
@[simp] theorem onEgr_sch (f : Egress → Egress) (s : State) : (onEgr f s).sch = s.sch := rfl
@[simp] theorem onEgr_int (f : Egress → Egress) (s : State) : (onEgr f s).int = s.int := rfl
@[simp] theorem onEgr_trm (f : Egress → Egress) (s : State) : (onEgr f s).trm = s.trm := rfl
@[simp] theorem onEgr_hk (f : Egress → Egress) (s : State) : (onEgr f s).hk = s.hk := rfl
@[simp] theorem onEgr_act (f : Egress → Egress) (s : State) : (onEgr f s).act = s.act := rfl
@[simp] theorem onEgr_dnr (f : Egress → Egress) (s : State) : (onEgr f s).dnr = s.dnr := rfl
@[simp] theorem onEgr_nuc (f : Egress → Egress) (s : State) : (onEgr f s).nuc = s.nuc := rfl
@[simp] theorem onEgr_rnd (f : Egress → Egress) (s : State) : (onEgr f s).rnd = s.rnd := rfl
@[simp] theorem onEgr_out (f : Egress → Egress) (s : State) : (onEgr f s).out = s.out := rfl
@[simp] theorem onEgr_ana (f : Egress → Egress) (s : State) : (onEgr f s).ana = s.ana := rfl
@[simp] theorem onEgr_heat (f : Egress → Egress) (s : State) : (onEgr f s).heat = s.heat := rfl
@[simp] theorem onEgr_sw (f : Egress → Egress) (s : State) : (onEgr f s).sw = s.sw := rfl
@[simp] theorem onEgr_vlv (f : Egress → Egress) (s : State) : (onEgr f s).vlv = s.vlv := rfl
@[simp] theorem onEgr_egr (f : Egress → Egress) (s : State) : (onEgr f s).egr = f s.egr := rfl
@[simp] theorem onEgr_cel (f : Egress → Egress) (s : State) : (onEgr f s).cel = s.cel := rfl
@[simp] theorem onEgr_uart (f : Egress → Egress) (s : State) : (onEgr f s).uart = s.uart := rfl
@[simp] theorem onEgr_pins (f : Egress → Egress) (s : State) : (onEgr f s).pins = s.pins := rfl
@[simp] theorem onCel_regs (f : Cellar → Cellar) (s : State) : (onCel f s).regs = s.regs := rfl
@[simp] theorem onCel_inForce (f : Cellar → Cellar) (s : State) : (onCel f s).inForce = s.inForce := rfl
@[simp] theorem onCel_time (f : Cellar → Cellar) (s : State) : (onCel f s).time = s.time := rfl
@[simp] theorem onCel_upTicks (f : Cellar → Cellar) (s : State) : (onCel f s).upTicks = s.upTicks := rfl
@[simp] theorem onCel_draws (f : Cellar → Cellar) (s : State) : (onCel f s).draws = s.draws := rfl
@[simp] theorem onCel_ptpS (f : Cellar → Cellar) (s : State) : (onCel f s).ptpS = s.ptpS := rfl
@[simp] theorem onCel_ptpNs (f : Cellar → Cellar) (s : State) : (onCel f s).ptpNs = s.ptpNs := rfl
@[simp] theorem onCel_busData (f : Cellar → Cellar) (s : State) : (onCel f s).busData = s.busData := rfl
@[simp] theorem onCel_busCode (f : Cellar → Cellar) (s : State) : (onCel f s).busCode = s.busCode := rfl
@[simp] theorem onCel_gut (f : Cellar → Cellar) (s : State) : (onCel f s).gut = s.gut := rfl
@[simp] theorem onCel_pwr (f : Cellar → Cellar) (s : State) : (onCel f s).pwr = s.pwr := rfl
@[simp] theorem onCel_clk (f : Cellar → Cellar) (s : State) : (onCel f s).clk = s.clk := rfl
@[simp] theorem onCel_start (f : Cellar → Cellar) (s : State) : (onCel f s).start = s.start := rfl
@[simp] theorem onCel_cp (f : Cellar → Cellar) (s : State) : (onCel f s).cp = s.cp := rfl
@[simp] theorem onCel_nor (f : Cellar → Cellar) (s : State) : (onCel f s).nor = s.nor := rfl
@[simp] theorem onCel_vat (f : Cellar → Cellar) (s : State) : (onCel f s).vat = s.vat := rfl
@[simp] theorem onCel_tbl (f : Cellar → Cellar) (s : State) : (onCel f s).tbl = s.tbl := rfl
@[simp] theorem onCel_sch (f : Cellar → Cellar) (s : State) : (onCel f s).sch = s.sch := rfl
@[simp] theorem onCel_int (f : Cellar → Cellar) (s : State) : (onCel f s).int = s.int := rfl
@[simp] theorem onCel_trm (f : Cellar → Cellar) (s : State) : (onCel f s).trm = s.trm := rfl
@[simp] theorem onCel_hk (f : Cellar → Cellar) (s : State) : (onCel f s).hk = s.hk := rfl
@[simp] theorem onCel_act (f : Cellar → Cellar) (s : State) : (onCel f s).act = s.act := rfl
@[simp] theorem onCel_dnr (f : Cellar → Cellar) (s : State) : (onCel f s).dnr = s.dnr := rfl
@[simp] theorem onCel_nuc (f : Cellar → Cellar) (s : State) : (onCel f s).nuc = s.nuc := rfl
@[simp] theorem onCel_rnd (f : Cellar → Cellar) (s : State) : (onCel f s).rnd = s.rnd := rfl
@[simp] theorem onCel_out (f : Cellar → Cellar) (s : State) : (onCel f s).out = s.out := rfl
@[simp] theorem onCel_ana (f : Cellar → Cellar) (s : State) : (onCel f s).ana = s.ana := rfl
@[simp] theorem onCel_heat (f : Cellar → Cellar) (s : State) : (onCel f s).heat = s.heat := rfl
@[simp] theorem onCel_sw (f : Cellar → Cellar) (s : State) : (onCel f s).sw = s.sw := rfl
@[simp] theorem onCel_vlv (f : Cellar → Cellar) (s : State) : (onCel f s).vlv = s.vlv := rfl
@[simp] theorem onCel_egr (f : Cellar → Cellar) (s : State) : (onCel f s).egr = s.egr := rfl
@[simp] theorem onCel_cel (f : Cellar → Cellar) (s : State) : (onCel f s).cel = f s.cel := rfl
@[simp] theorem onCel_uart (f : Cellar → Cellar) (s : State) : (onCel f s).uart = s.uart := rfl
@[simp] theorem onCel_pins (f : Cellar → Cellar) (s : State) : (onCel f s).pins = s.pins := rfl

end Sys2Proof.Machine
end

