-- ==== Sys2Proof/Laws/Raise.lean ====
section
/-! SUPPORT. Raising an event changes the gutter and the registers it counts in, and nothing else. -/

namespace Sys2Proof.Machine

/-- The state without its registers and its gutter. -/
def State.bare (s : State) : State := { s with regs := [], gut := {} }

@[simp] theorem bare_setReg (s : State) (a : Nat) (v : Word) : (s.setReg a v).bare = s.bare := rfl
@[simp] theorem bare_setFld (s : State) (a hi lo v : Nat) : (s.setFld a hi lo v).bare = s.bare := rfl
@[simp] theorem bare_count (s : State) (a hi lo n : Nat) : (s.count a hi lo n).bare = s.bare := rfl
@[simp] theorem bare_setSrc (s : State) (n : Nat) (x : SrcState) : (s.setSrc n x).bare = s.bare := rfl
theorem bare_ite (c : Prop) [Decidable c] (x y : State) : (if c then x else y).bare = if c then x.bare else y.bare := by
  split <;> rfl
@[simp] theorem bare_peakBacklog (s : State) : (peakBacklog s).bare = s.bare := by
  unfold peakBacklog; simp
@[simp] theorem bare_capture (n : Nat) (d : Word) (b : Nat) (s : State) : (capture n d b s).bare = s.bare := by
  unfold capture; simp
@[simp] theorem bare_summaryTaken (n : Nat) (d : Word) (s : State) : (summaryTaken n d s).bare = s.bare := rfl
@[simp] theorem bare_suppress (n : Nat) (d : Word) (s : State) : (suppress n d s).bare = s.bare := by
  unfold suppress; simp
@[simp] theorem bare_stormLimit (n : Nat) (d : Word) (b : Nat) (s : State) : (stormLimit n d b s).bare = s.bare := by
  unfold stormLimit; simp only [bare_ite]; (repeat' split) <;> simp
@[simp] theorem bare_occur (n : Nat) (d : Word) (b : Nat) (s : State) : (occur n d b s).bare = s.bare := by
  unfold occur; simp only []; (repeat' split) <;> simp
@[simp] theorem bare_raise (n : Nat) (d : Word) (s : State) : (raise n d s).bare = s.bare := by
  unfold raise; split
  · rfl
  · simp
@[simp] theorem bare_raiseN (n d : Nat) (s : State) : (raiseN n d s).bare = s.bare := bare_raise _ _ _
@[simp] theorem bare_raiseIf (b : Bool) (n d : Nat) (s : State) : (raiseIf b n d s).bare = s.bare := by
  unfold raiseIf; split <;> simp

theorem pending_of_bare {x y : State} (h : x.bare = y.bare) : x.pending = y.pending := by
  have h2 := congrArg State.pending h
  exact h2
theorem inForce_of_bare {x y : State} (h : x.bare = y.bare) : x.inForce = y.inForce := by
  have h2 := congrArg State.inForce h
  exact h2
theorem time_of_bare {x y : State} (h : x.bare = y.bare) : x.time = y.time := by
  have h2 := congrArg State.time h
  exact h2
theorem upTicks_of_bare {x y : State} (h : x.bare = y.bare) : x.upTicks = y.upTicks := by
  have h2 := congrArg State.upTicks h
  exact h2
theorem draws_of_bare {x y : State} (h : x.bare = y.bare) : x.draws = y.draws := by
  have h2 := congrArg State.draws h
  exact h2
theorem ptpS_of_bare {x y : State} (h : x.bare = y.bare) : x.ptpS = y.ptpS := by
  have h2 := congrArg State.ptpS h
  exact h2
theorem ptpNs_of_bare {x y : State} (h : x.bare = y.bare) : x.ptpNs = y.ptpNs := by
  have h2 := congrArg State.ptpNs h
  exact h2
theorem busData_of_bare {x y : State} (h : x.bare = y.bare) : x.busData = y.busData := by
  have h2 := congrArg State.busData h
  exact h2
theorem busCode_of_bare {x y : State} (h : x.bare = y.bare) : x.busCode = y.busCode := by
  have h2 := congrArg State.busCode h
  exact h2
theorem pwr_of_bare {x y : State} (h : x.bare = y.bare) : x.pwr = y.pwr := by
  have h2 := congrArg State.pwr h
  exact h2
theorem clk_of_bare {x y : State} (h : x.bare = y.bare) : x.clk = y.clk := by
  have h2 := congrArg State.clk h
  exact h2
theorem start_of_bare {x y : State} (h : x.bare = y.bare) : x.start = y.start := by
  have h2 := congrArg State.start h
  exact h2
theorem cp_of_bare {x y : State} (h : x.bare = y.bare) : x.cp = y.cp := by
  have h2 := congrArg State.cp h
  exact h2
theorem nor_of_bare {x y : State} (h : x.bare = y.bare) : x.nor = y.nor := by
  have h2 := congrArg State.nor h
  exact h2
theorem vat_of_bare {x y : State} (h : x.bare = y.bare) : x.vat = y.vat := by
  have h2 := congrArg State.vat h
  exact h2
theorem tbl_of_bare {x y : State} (h : x.bare = y.bare) : x.tbl = y.tbl := by
  have h2 := congrArg State.tbl h
  exact h2
theorem sch_of_bare {x y : State} (h : x.bare = y.bare) : x.sch = y.sch := by
  have h2 := congrArg State.sch h
  exact h2
theorem int_of_bare {x y : State} (h : x.bare = y.bare) : x.int = y.int := by
  have h2 := congrArg State.int h
  exact h2
theorem trm_of_bare {x y : State} (h : x.bare = y.bare) : x.trm = y.trm := by
  have h2 := congrArg State.trm h
  exact h2
theorem hk_of_bare {x y : State} (h : x.bare = y.bare) : x.hk = y.hk := by
  have h2 := congrArg State.hk h
  exact h2
theorem act_of_bare {x y : State} (h : x.bare = y.bare) : x.act = y.act := by
  have h2 := congrArg State.act h
  exact h2
theorem dnr_of_bare {x y : State} (h : x.bare = y.bare) : x.dnr = y.dnr := by
  have h2 := congrArg State.dnr h
  exact h2
theorem nuc_of_bare {x y : State} (h : x.bare = y.bare) : x.nuc = y.nuc := by
  have h2 := congrArg State.nuc h
  exact h2
theorem rnd_of_bare {x y : State} (h : x.bare = y.bare) : x.rnd = y.rnd := by
  have h2 := congrArg State.rnd h
  exact h2
theorem out_of_bare {x y : State} (h : x.bare = y.bare) : x.out = y.out := by
  have h2 := congrArg State.out h
  exact h2
theorem ana_of_bare {x y : State} (h : x.bare = y.bare) : x.ana = y.ana := by
  have h2 := congrArg State.ana h
  exact h2
theorem heat_of_bare {x y : State} (h : x.bare = y.bare) : x.heat = y.heat := by
  have h2 := congrArg State.heat h
  exact h2
theorem sw_of_bare {x y : State} (h : x.bare = y.bare) : x.sw = y.sw := by
  have h2 := congrArg State.sw h
  exact h2
theorem vlv_of_bare {x y : State} (h : x.bare = y.bare) : x.vlv = y.vlv := by
  have h2 := congrArg State.vlv h
  exact h2
theorem egr_of_bare {x y : State} (h : x.bare = y.bare) : x.egr = y.egr := by
  have h2 := congrArg State.egr h
  exact h2
theorem cel_of_bare {x y : State} (h : x.bare = y.bare) : x.cel = y.cel := by
  have h2 := congrArg State.cel h
  exact h2
theorem uart_of_bare {x y : State} (h : x.bare = y.bare) : x.uart = y.uart := by
  have h2 := congrArg State.uart h
  exact h2
theorem pins_of_bare {x y : State} (h : x.bare = y.bare) : x.pins = y.pins := by
  have h2 := congrArg State.pins h
  exact h2
@[simp] theorem raise_pending (n : Nat) (d : Word) (s : State) : (raise n d s).pending = s.pending := pending_of_bare (bare_raise n d s)
@[simp] theorem raiseN_pending (n d : Nat) (s : State) : (raiseN n d s).pending = s.pending := pending_of_bare (bare_raiseN n d s)
@[simp] theorem raiseIf_pending (b : Bool) (n d : Nat) (s : State) : (raiseIf b n d s).pending = s.pending := pending_of_bare (bare_raiseIf b n d s)
@[simp] theorem count_pending (s : State) (a hi lo n : Nat) : (s.count a hi lo n).pending = s.pending := rfl
@[simp] theorem raise_inForce (n : Nat) (d : Word) (s : State) : (raise n d s).inForce = s.inForce := inForce_of_bare (bare_raise n d s)
@[simp] theorem raiseN_inForce (n d : Nat) (s : State) : (raiseN n d s).inForce = s.inForce := inForce_of_bare (bare_raiseN n d s)
@[simp] theorem raiseIf_inForce (b : Bool) (n d : Nat) (s : State) : (raiseIf b n d s).inForce = s.inForce := inForce_of_bare (bare_raiseIf b n d s)
@[simp] theorem count_inForce (s : State) (a hi lo n : Nat) : (s.count a hi lo n).inForce = s.inForce := rfl
@[simp] theorem raise_time (n : Nat) (d : Word) (s : State) : (raise n d s).time = s.time := time_of_bare (bare_raise n d s)
@[simp] theorem raiseN_time (n d : Nat) (s : State) : (raiseN n d s).time = s.time := time_of_bare (bare_raiseN n d s)
@[simp] theorem raiseIf_time (b : Bool) (n d : Nat) (s : State) : (raiseIf b n d s).time = s.time := time_of_bare (bare_raiseIf b n d s)
@[simp] theorem count_time (s : State) (a hi lo n : Nat) : (s.count a hi lo n).time = s.time := rfl
@[simp] theorem raise_upTicks (n : Nat) (d : Word) (s : State) : (raise n d s).upTicks = s.upTicks := upTicks_of_bare (bare_raise n d s)
@[simp] theorem raiseN_upTicks (n d : Nat) (s : State) : (raiseN n d s).upTicks = s.upTicks := upTicks_of_bare (bare_raiseN n d s)
@[simp] theorem raiseIf_upTicks (b : Bool) (n d : Nat) (s : State) : (raiseIf b n d s).upTicks = s.upTicks := upTicks_of_bare (bare_raiseIf b n d s)
@[simp] theorem count_upTicks (s : State) (a hi lo n : Nat) : (s.count a hi lo n).upTicks = s.upTicks := rfl
@[simp] theorem raise_draws (n : Nat) (d : Word) (s : State) : (raise n d s).draws = s.draws := draws_of_bare (bare_raise n d s)
@[simp] theorem raiseN_draws (n d : Nat) (s : State) : (raiseN n d s).draws = s.draws := draws_of_bare (bare_raiseN n d s)
@[simp] theorem raiseIf_draws (b : Bool) (n d : Nat) (s : State) : (raiseIf b n d s).draws = s.draws := draws_of_bare (bare_raiseIf b n d s)
@[simp] theorem count_draws (s : State) (a hi lo n : Nat) : (s.count a hi lo n).draws = s.draws := rfl
@[simp] theorem raise_ptpS (n : Nat) (d : Word) (s : State) : (raise n d s).ptpS = s.ptpS := ptpS_of_bare (bare_raise n d s)
@[simp] theorem raiseN_ptpS (n d : Nat) (s : State) : (raiseN n d s).ptpS = s.ptpS := ptpS_of_bare (bare_raiseN n d s)
@[simp] theorem raiseIf_ptpS (b : Bool) (n d : Nat) (s : State) : (raiseIf b n d s).ptpS = s.ptpS := ptpS_of_bare (bare_raiseIf b n d s)
@[simp] theorem count_ptpS (s : State) (a hi lo n : Nat) : (s.count a hi lo n).ptpS = s.ptpS := rfl
@[simp] theorem raise_ptpNs (n : Nat) (d : Word) (s : State) : (raise n d s).ptpNs = s.ptpNs := ptpNs_of_bare (bare_raise n d s)
@[simp] theorem raiseN_ptpNs (n d : Nat) (s : State) : (raiseN n d s).ptpNs = s.ptpNs := ptpNs_of_bare (bare_raiseN n d s)
@[simp] theorem raiseIf_ptpNs (b : Bool) (n d : Nat) (s : State) : (raiseIf b n d s).ptpNs = s.ptpNs := ptpNs_of_bare (bare_raiseIf b n d s)
@[simp] theorem count_ptpNs (s : State) (a hi lo n : Nat) : (s.count a hi lo n).ptpNs = s.ptpNs := rfl
@[simp] theorem raise_busData (n : Nat) (d : Word) (s : State) : (raise n d s).busData = s.busData := busData_of_bare (bare_raise n d s)
@[simp] theorem raiseN_busData (n d : Nat) (s : State) : (raiseN n d s).busData = s.busData := busData_of_bare (bare_raiseN n d s)
@[simp] theorem raiseIf_busData (b : Bool) (n d : Nat) (s : State) : (raiseIf b n d s).busData = s.busData := busData_of_bare (bare_raiseIf b n d s)
@[simp] theorem count_busData (s : State) (a hi lo n : Nat) : (s.count a hi lo n).busData = s.busData := rfl
@[simp] theorem raise_busCode (n : Nat) (d : Word) (s : State) : (raise n d s).busCode = s.busCode := busCode_of_bare (bare_raise n d s)
@[simp] theorem raiseN_busCode (n d : Nat) (s : State) : (raiseN n d s).busCode = s.busCode := busCode_of_bare (bare_raiseN n d s)
@[simp] theorem raiseIf_busCode (b : Bool) (n d : Nat) (s : State) : (raiseIf b n d s).busCode = s.busCode := busCode_of_bare (bare_raiseIf b n d s)
@[simp] theorem count_busCode (s : State) (a hi lo n : Nat) : (s.count a hi lo n).busCode = s.busCode := rfl
@[simp] theorem raise_pwr (n : Nat) (d : Word) (s : State) : (raise n d s).pwr = s.pwr := pwr_of_bare (bare_raise n d s)
@[simp] theorem raiseN_pwr (n d : Nat) (s : State) : (raiseN n d s).pwr = s.pwr := pwr_of_bare (bare_raiseN n d s)
@[simp] theorem raiseIf_pwr (b : Bool) (n d : Nat) (s : State) : (raiseIf b n d s).pwr = s.pwr := pwr_of_bare (bare_raiseIf b n d s)
@[simp] theorem count_pwr (s : State) (a hi lo n : Nat) : (s.count a hi lo n).pwr = s.pwr := rfl
@[simp] theorem raise_clk (n : Nat) (d : Word) (s : State) : (raise n d s).clk = s.clk := clk_of_bare (bare_raise n d s)
@[simp] theorem raiseN_clk (n d : Nat) (s : State) : (raiseN n d s).clk = s.clk := clk_of_bare (bare_raiseN n d s)
@[simp] theorem raiseIf_clk (b : Bool) (n d : Nat) (s : State) : (raiseIf b n d s).clk = s.clk := clk_of_bare (bare_raiseIf b n d s)
@[simp] theorem count_clk (s : State) (a hi lo n : Nat) : (s.count a hi lo n).clk = s.clk := rfl
@[simp] theorem raise_start (n : Nat) (d : Word) (s : State) : (raise n d s).start = s.start := start_of_bare (bare_raise n d s)
@[simp] theorem raiseN_start (n d : Nat) (s : State) : (raiseN n d s).start = s.start := start_of_bare (bare_raiseN n d s)
@[simp] theorem raiseIf_start (b : Bool) (n d : Nat) (s : State) : (raiseIf b n d s).start = s.start := start_of_bare (bare_raiseIf b n d s)
@[simp] theorem count_start (s : State) (a hi lo n : Nat) : (s.count a hi lo n).start = s.start := rfl
@[simp] theorem raise_cp (n : Nat) (d : Word) (s : State) : (raise n d s).cp = s.cp := cp_of_bare (bare_raise n d s)
@[simp] theorem raiseN_cp (n d : Nat) (s : State) : (raiseN n d s).cp = s.cp := cp_of_bare (bare_raiseN n d s)
@[simp] theorem raiseIf_cp (b : Bool) (n d : Nat) (s : State) : (raiseIf b n d s).cp = s.cp := cp_of_bare (bare_raiseIf b n d s)
@[simp] theorem count_cp (s : State) (a hi lo n : Nat) : (s.count a hi lo n).cp = s.cp := rfl
@[simp] theorem raise_nor (n : Nat) (d : Word) (s : State) : (raise n d s).nor = s.nor := nor_of_bare (bare_raise n d s)
@[simp] theorem raiseN_nor (n d : Nat) (s : State) : (raiseN n d s).nor = s.nor := nor_of_bare (bare_raiseN n d s)
@[simp] theorem raiseIf_nor (b : Bool) (n d : Nat) (s : State) : (raiseIf b n d s).nor = s.nor := nor_of_bare (bare_raiseIf b n d s)
@[simp] theorem count_nor (s : State) (a hi lo n : Nat) : (s.count a hi lo n).nor = s.nor := rfl
@[simp] theorem raise_vat (n : Nat) (d : Word) (s : State) : (raise n d s).vat = s.vat := vat_of_bare (bare_raise n d s)
@[simp] theorem raiseN_vat (n d : Nat) (s : State) : (raiseN n d s).vat = s.vat := vat_of_bare (bare_raiseN n d s)
@[simp] theorem raiseIf_vat (b : Bool) (n d : Nat) (s : State) : (raiseIf b n d s).vat = s.vat := vat_of_bare (bare_raiseIf b n d s)
@[simp] theorem count_vat (s : State) (a hi lo n : Nat) : (s.count a hi lo n).vat = s.vat := rfl
@[simp] theorem raise_tbl (n : Nat) (d : Word) (s : State) : (raise n d s).tbl = s.tbl := tbl_of_bare (bare_raise n d s)
@[simp] theorem raiseN_tbl (n d : Nat) (s : State) : (raiseN n d s).tbl = s.tbl := tbl_of_bare (bare_raiseN n d s)
@[simp] theorem raiseIf_tbl (b : Bool) (n d : Nat) (s : State) : (raiseIf b n d s).tbl = s.tbl := tbl_of_bare (bare_raiseIf b n d s)
@[simp] theorem count_tbl (s : State) (a hi lo n : Nat) : (s.count a hi lo n).tbl = s.tbl := rfl
@[simp] theorem raise_sch (n : Nat) (d : Word) (s : State) : (raise n d s).sch = s.sch := sch_of_bare (bare_raise n d s)
@[simp] theorem raiseN_sch (n d : Nat) (s : State) : (raiseN n d s).sch = s.sch := sch_of_bare (bare_raiseN n d s)
@[simp] theorem raiseIf_sch (b : Bool) (n d : Nat) (s : State) : (raiseIf b n d s).sch = s.sch := sch_of_bare (bare_raiseIf b n d s)
@[simp] theorem count_sch (s : State) (a hi lo n : Nat) : (s.count a hi lo n).sch = s.sch := rfl
@[simp] theorem raise_int (n : Nat) (d : Word) (s : State) : (raise n d s).int = s.int := int_of_bare (bare_raise n d s)
@[simp] theorem raiseN_int (n d : Nat) (s : State) : (raiseN n d s).int = s.int := int_of_bare (bare_raiseN n d s)
@[simp] theorem raiseIf_int (b : Bool) (n d : Nat) (s : State) : (raiseIf b n d s).int = s.int := int_of_bare (bare_raiseIf b n d s)
@[simp] theorem count_int (s : State) (a hi lo n : Nat) : (s.count a hi lo n).int = s.int := rfl
@[simp] theorem raise_trm (n : Nat) (d : Word) (s : State) : (raise n d s).trm = s.trm := trm_of_bare (bare_raise n d s)
@[simp] theorem raiseN_trm (n d : Nat) (s : State) : (raiseN n d s).trm = s.trm := trm_of_bare (bare_raiseN n d s)
@[simp] theorem raiseIf_trm (b : Bool) (n d : Nat) (s : State) : (raiseIf b n d s).trm = s.trm := trm_of_bare (bare_raiseIf b n d s)
@[simp] theorem count_trm (s : State) (a hi lo n : Nat) : (s.count a hi lo n).trm = s.trm := rfl
@[simp] theorem raise_hk (n : Nat) (d : Word) (s : State) : (raise n d s).hk = s.hk := hk_of_bare (bare_raise n d s)
@[simp] theorem raiseN_hk (n d : Nat) (s : State) : (raiseN n d s).hk = s.hk := hk_of_bare (bare_raiseN n d s)
@[simp] theorem raiseIf_hk (b : Bool) (n d : Nat) (s : State) : (raiseIf b n d s).hk = s.hk := hk_of_bare (bare_raiseIf b n d s)
@[simp] theorem count_hk (s : State) (a hi lo n : Nat) : (s.count a hi lo n).hk = s.hk := rfl
@[simp] theorem raise_act (n : Nat) (d : Word) (s : State) : (raise n d s).act = s.act := act_of_bare (bare_raise n d s)
@[simp] theorem raiseN_act (n d : Nat) (s : State) : (raiseN n d s).act = s.act := act_of_bare (bare_raiseN n d s)
@[simp] theorem raiseIf_act (b : Bool) (n d : Nat) (s : State) : (raiseIf b n d s).act = s.act := act_of_bare (bare_raiseIf b n d s)
@[simp] theorem count_act (s : State) (a hi lo n : Nat) : (s.count a hi lo n).act = s.act := rfl
@[simp] theorem raise_dnr (n : Nat) (d : Word) (s : State) : (raise n d s).dnr = s.dnr := dnr_of_bare (bare_raise n d s)
@[simp] theorem raiseN_dnr (n d : Nat) (s : State) : (raiseN n d s).dnr = s.dnr := dnr_of_bare (bare_raiseN n d s)
@[simp] theorem raiseIf_dnr (b : Bool) (n d : Nat) (s : State) : (raiseIf b n d s).dnr = s.dnr := dnr_of_bare (bare_raiseIf b n d s)
@[simp] theorem count_dnr (s : State) (a hi lo n : Nat) : (s.count a hi lo n).dnr = s.dnr := rfl
@[simp] theorem raise_nuc (n : Nat) (d : Word) (s : State) : (raise n d s).nuc = s.nuc := nuc_of_bare (bare_raise n d s)
@[simp] theorem raiseN_nuc (n d : Nat) (s : State) : (raiseN n d s).nuc = s.nuc := nuc_of_bare (bare_raiseN n d s)
@[simp] theorem raiseIf_nuc (b : Bool) (n d : Nat) (s : State) : (raiseIf b n d s).nuc = s.nuc := nuc_of_bare (bare_raiseIf b n d s)
@[simp] theorem count_nuc (s : State) (a hi lo n : Nat) : (s.count a hi lo n).nuc = s.nuc := rfl
@[simp] theorem raise_rnd (n : Nat) (d : Word) (s : State) : (raise n d s).rnd = s.rnd := rnd_of_bare (bare_raise n d s)
@[simp] theorem raiseN_rnd (n d : Nat) (s : State) : (raiseN n d s).rnd = s.rnd := rnd_of_bare (bare_raiseN n d s)
@[simp] theorem raiseIf_rnd (b : Bool) (n d : Nat) (s : State) : (raiseIf b n d s).rnd = s.rnd := rnd_of_bare (bare_raiseIf b n d s)
@[simp] theorem count_rnd (s : State) (a hi lo n : Nat) : (s.count a hi lo n).rnd = s.rnd := rfl
@[simp] theorem raise_out (n : Nat) (d : Word) (s : State) : (raise n d s).out = s.out := out_of_bare (bare_raise n d s)
@[simp] theorem raiseN_out (n d : Nat) (s : State) : (raiseN n d s).out = s.out := out_of_bare (bare_raiseN n d s)
@[simp] theorem raiseIf_out (b : Bool) (n d : Nat) (s : State) : (raiseIf b n d s).out = s.out := out_of_bare (bare_raiseIf b n d s)
@[simp] theorem count_out (s : State) (a hi lo n : Nat) : (s.count a hi lo n).out = s.out := rfl
@[simp] theorem raise_ana (n : Nat) (d : Word) (s : State) : (raise n d s).ana = s.ana := ana_of_bare (bare_raise n d s)
@[simp] theorem raiseN_ana (n d : Nat) (s : State) : (raiseN n d s).ana = s.ana := ana_of_bare (bare_raiseN n d s)
@[simp] theorem raiseIf_ana (b : Bool) (n d : Nat) (s : State) : (raiseIf b n d s).ana = s.ana := ana_of_bare (bare_raiseIf b n d s)
@[simp] theorem count_ana (s : State) (a hi lo n : Nat) : (s.count a hi lo n).ana = s.ana := rfl
@[simp] theorem raise_heat (n : Nat) (d : Word) (s : State) : (raise n d s).heat = s.heat := heat_of_bare (bare_raise n d s)
@[simp] theorem raiseN_heat (n d : Nat) (s : State) : (raiseN n d s).heat = s.heat := heat_of_bare (bare_raiseN n d s)
@[simp] theorem raiseIf_heat (b : Bool) (n d : Nat) (s : State) : (raiseIf b n d s).heat = s.heat := heat_of_bare (bare_raiseIf b n d s)
@[simp] theorem count_heat (s : State) (a hi lo n : Nat) : (s.count a hi lo n).heat = s.heat := rfl
@[simp] theorem raise_sw (n : Nat) (d : Word) (s : State) : (raise n d s).sw = s.sw := sw_of_bare (bare_raise n d s)
@[simp] theorem raiseN_sw (n d : Nat) (s : State) : (raiseN n d s).sw = s.sw := sw_of_bare (bare_raiseN n d s)
@[simp] theorem raiseIf_sw (b : Bool) (n d : Nat) (s : State) : (raiseIf b n d s).sw = s.sw := sw_of_bare (bare_raiseIf b n d s)
@[simp] theorem count_sw (s : State) (a hi lo n : Nat) : (s.count a hi lo n).sw = s.sw := rfl
@[simp] theorem raise_vlv (n : Nat) (d : Word) (s : State) : (raise n d s).vlv = s.vlv := vlv_of_bare (bare_raise n d s)
@[simp] theorem raiseN_vlv (n d : Nat) (s : State) : (raiseN n d s).vlv = s.vlv := vlv_of_bare (bare_raiseN n d s)
@[simp] theorem raiseIf_vlv (b : Bool) (n d : Nat) (s : State) : (raiseIf b n d s).vlv = s.vlv := vlv_of_bare (bare_raiseIf b n d s)
@[simp] theorem count_vlv (s : State) (a hi lo n : Nat) : (s.count a hi lo n).vlv = s.vlv := rfl
@[simp] theorem raise_egr (n : Nat) (d : Word) (s : State) : (raise n d s).egr = s.egr := egr_of_bare (bare_raise n d s)
@[simp] theorem raiseN_egr (n d : Nat) (s : State) : (raiseN n d s).egr = s.egr := egr_of_bare (bare_raiseN n d s)
@[simp] theorem raiseIf_egr (b : Bool) (n d : Nat) (s : State) : (raiseIf b n d s).egr = s.egr := egr_of_bare (bare_raiseIf b n d s)
@[simp] theorem count_egr (s : State) (a hi lo n : Nat) : (s.count a hi lo n).egr = s.egr := rfl
@[simp] theorem raise_cel (n : Nat) (d : Word) (s : State) : (raise n d s).cel = s.cel := cel_of_bare (bare_raise n d s)
@[simp] theorem raiseN_cel (n d : Nat) (s : State) : (raiseN n d s).cel = s.cel := cel_of_bare (bare_raiseN n d s)
@[simp] theorem raiseIf_cel (b : Bool) (n d : Nat) (s : State) : (raiseIf b n d s).cel = s.cel := cel_of_bare (bare_raiseIf b n d s)
@[simp] theorem count_cel (s : State) (a hi lo n : Nat) : (s.count a hi lo n).cel = s.cel := rfl
@[simp] theorem raise_uart (n : Nat) (d : Word) (s : State) : (raise n d s).uart = s.uart := uart_of_bare (bare_raise n d s)
@[simp] theorem raiseN_uart (n d : Nat) (s : State) : (raiseN n d s).uart = s.uart := uart_of_bare (bare_raiseN n d s)
@[simp] theorem raiseIf_uart (b : Bool) (n d : Nat) (s : State) : (raiseIf b n d s).uart = s.uart := uart_of_bare (bare_raiseIf b n d s)
@[simp] theorem count_uart (s : State) (a hi lo n : Nat) : (s.count a hi lo n).uart = s.uart := rfl
@[simp] theorem raise_pins (n : Nat) (d : Word) (s : State) : (raise n d s).pins = s.pins := pins_of_bare (bare_raise n d s)
@[simp] theorem raiseN_pins (n d : Nat) (s : State) : (raiseN n d s).pins = s.pins := pins_of_bare (bare_raiseN n d s)
@[simp] theorem raiseIf_pins (b : Bool) (n d : Nat) (s : State) : (raiseIf b n d s).pins = s.pins := pins_of_bare (bare_raiseIf b n d s)
@[simp] theorem count_pins (s : State) (a hi lo n : Nat) : (s.count a hi lo n).pins = s.pins := rfl

end Sys2Proof.Machine
end

