-- ==== Sys2Proof/Laws/Reject.lean ====
section
/-! SUPPORT. A rejected register write keeps nothing, but at REF_CMD and ACT_CMD: no other block rule acts on a rejection. -/

set_option linter.unusedTactic false
set_option linter.unreachableTactic false
set_option linter.unusedSimpArgs false

namespace Sys2Proof.Machine

/-- Every rule that an answer holds acts on acceptance only. -/
def Drops (o : Option WriteRule) : Prop := ∀ w, o = some w → w.rej = id
theorem drops_none : Drops none := fun _ h => by cases h
theorem drops_some {w : WriteRule} (h : w.rej = id) : Drops (some w) := fun _ e => by cases e; exact h
theorem drops_nil (a : Nat) : Drops (([] : List (Nat × WriteRule)).lookup a) := drops_none
theorem drops_cons {a b : Nat} {x : WriteRule} {l : List (Nat × WriteRule)} (h : x.rej = id) (hl : Drops (l.lookup a)) :
    Drops (((b, x) :: l).lookup a) := by
  rw [List.lookup_cons]
  split
  · exact drops_some h
  · exact hl
theorem drops_orElse {x : Option WriteRule} {f : Unit → Option WriteRule} (hx : Drops x) (hf : Drops (f ())) :
    Drops (x.orElse f) := by
  cases x with
  | none => exact hf
  | some w => exact hx

theorem drops_clkWrite (a : Nat) (v : Word) (s : State) : Drops (clkWrite a v s) := by
  unfold clkWrite
  repeat' split
  all_goals repeat' first
    | exact drops_none
    | exact drops_nil _
    | refine drops_cons rfl ?_
    | exact drops_some rfl

theorem drops_pwrWrite (a : Nat) (v : Word) (s : State) : Drops (pwrWrite a v s) := by
  unfold pwrWrite
  repeat' split
  all_goals repeat' first
    | exact drops_none
    | exact drops_nil _
    | refine drops_cons rfl ?_
    | exact drops_some rfl

theorem drops_startWrite (o : Origin) (a : Nat) (v : Word) (s : State) : Drops (startWrite o a v s) := by
  unfold startWrite
  repeat' split
  all_goals repeat' first
    | exact drops_none
    | exact drops_nil _
    | refine drops_cons rfl ?_
    | exact drops_some rfl

theorem drops_gutWrite (a : Nat) (v : Word) (s : State) : Drops (gutWrite a v s) := by
  unfold gutWrite
  repeat' split
  all_goals repeat' first
    | exact drops_none
    | exact drops_nil _
    | refine drops_cons rfl ?_
    | exact drops_some rfl

theorem drops_vatWrite (o : Origin) (a : Nat) (v : Word) (s : State) : Drops (vatWrite o a v s) := by
  unfold vatWrite
  repeat' split
  all_goals repeat' first
    | exact drops_none
    | exact drops_nil _
    | refine drops_cons rfl ?_
    | exact drops_some rfl

theorem drops_tblWrite (o : Origin) (press : Nat → Bool) (a : Nat) (v : Word) (s : State) : Drops (tblWrite o press a v s) := by
  unfold tblWrite
  repeat' split
  all_goals repeat' first
    | exact drops_none
    | exact drops_nil _
    | refine drops_cons rfl ?_
    | exact drops_some rfl

theorem drops_refWrite (idle : Nat → Bool) (a : Nat) (v : Word) (s : State) (h : a ≠ REF_CMD) : Drops (refWrite idle a v s) := by
  unfold refWrite
  split
  · exact drops_some rfl
  · exact drops_none

theorem drops_convFieldWrite (a b : Nat) (v : Word) (s : State) : Drops (convFieldWrite a b v s) := by
  unfold convFieldWrite
  repeat' split
  all_goals repeat' first
    | exact drops_none
    | exact drops_nil _
    | refine drops_cons rfl ?_
    | exact drops_some rfl

theorem drops_hkWrite (press running : Nat → Bool) (a : Nat) (v : Word) (s : State) : Drops (hkWrite press running a v s) := by
  unfold hkWrite
  split
  · exact drops_some rfl
  · split
    · exact drops_some rfl
    · split
      · exact drops_some rfl
      · split
        · exact drops_convFieldWrite _ _ _ _
        · exact drops_none

theorem drops_actWrite (a : Nat) (v : Word) (s : State) (h : a ≠ ACT_CMD) : Drops (actWrite a v s) := by
  unfold actWrite
  rw [if_neg h]
  repeat' split
  all_goals repeat' first
    | exact drops_none
    | exact drops_nil _
    | refine drops_cons rfl ?_
    | exact drops_some rfl

theorem drops_ctxWrite (a : Nat) (v : Word) (s : State) : Drops (ctxWrite a v s) := by
  unfold ctxWrite
  repeat' split
  all_goals repeat' first
    | exact drops_none
    | exact drops_nil _
    | refine drops_cons rfl ?_
    | exact drops_some rfl

theorem drops_genWrite (a b : Nat) (v : Word) (s : State) : Drops (genWrite a b v s) := by
  unfold genWrite
  repeat' split
  all_goals repeat' first
    | exact drops_none
    | exact drops_nil _
    | refine drops_cons rfl ?_
    | exact drops_some rfl

theorem drops_headWrite (cut : Nat → State → State) (a b : Nat) (v : Word) (s : State) : Drops (headWrite cut a b v s) := by
  unfold headWrite
  repeat' split
  all_goals repeat' first
    | exact drops_none
    | exact drops_nil _
    | refine drops_cons rfl ?_
    | exact drops_some rfl

theorem drops_intakeWrite (o : Origin) (cut : Nat → State → State) (a : Nat) (v : Word) (s : State) : Drops (intakeWrite o cut a v s) := by
  unfold intakeWrite
  split
  · exact drops_some rfl
  · split
    · exact drops_some rfl
    · split
      · exact drops_some rfl
      · split
        · exact drops_genWrite _ _ _ _
        · split
          · exact drops_headWrite _ _ _ _ _
          · exact drops_none

theorem drops_playWrite (a : Nat) (v : Word) (s : State) : Drops (playWrite a v s) := by
  unfold playWrite
  repeat' split
  all_goals repeat' first
    | exact drops_none
    | exact drops_nil _
    | refine drops_cons rfl ?_
    | exact drops_some rfl

theorem drops_pressFieldWrite (o : Origin) (a b : Nat) (v : Word) (s : State) : Drops (pressFieldWrite o a b v s) := by
  unfold pressFieldWrite
  repeat' split
  all_goals repeat' first
    | exact drops_none
    | exact drops_nil _
    | refine drops_cons rfl ?_
    | exact drops_some rfl

theorem drops_nucWrite (o : Origin) (a : Nat) (v : Word) (s : State) : Drops (nucWrite o a v s) := by
  unfold nucWrite
  split
  · exact drops_pressFieldWrite _ _ _ _ _
  · exact drops_none

theorem drops_rndFieldWrite (a b : Nat) (v : Word) (s : State) : Drops (rndFieldWrite a b v s) := by
  unfold rndFieldWrite
  repeat' split
  all_goals repeat' first
    | exact drops_none
    | exact drops_nil _
    | refine drops_cons rfl ?_
    | exact drops_some rfl

theorem drops_rndWrite (a : Nat) (v : Word) (s : State) : Drops (rndWrite a v s) := by
  unfold rndWrite
  split
  · exact drops_rndFieldWrite _ _ _ _
  · split
    · exact drops_some rfl
    · exact drops_none

theorem drops_outFieldWrite (a b : Nat) (v : Word) (s : State) : Drops (outFieldWrite a b v s) := by
  unfold outFieldWrite
  repeat' split
  all_goals repeat' first
    | exact drops_none
    | exact drops_nil _
    | refine drops_cons rfl ?_
    | exact drops_some rfl

theorem drops_outWrite (a : Nat) (v : Word) (s : State) : Drops (outWrite a v s) := by
  unfold outWrite
  split
  · exact drops_outFieldWrite _ _ _ _
  · exact drops_none

theorem drops_encFieldWrite (a b : Nat) (v : Word) (s : State) : Drops (encFieldWrite a b v s) := by
  unfold encFieldWrite
  repeat' split
  all_goals repeat' first
    | exact drops_none
    | exact drops_nil _
    | refine drops_cons rfl ?_
    | exact drops_some rfl

theorem drops_encWrite (a : Nat) (v : Word) (s : State) : Drops (encWrite a v s) := by
  unfold encWrite
  split
  · exact drops_encFieldWrite _ _ _ _
  · exact drops_none

theorem drops_anaFieldWrite (a b : Nat) (v : Word) (s : State) : Drops (anaFieldWrite a b v s) := by
  unfold anaFieldWrite
  repeat' split
  all_goals repeat' first
    | exact drops_none
    | exact drops_nil _
    | refine drops_cons rfl ?_
    | exact drops_some rfl

theorem drops_anaWrite (a : Nat) (v : Word) (s : State) : Drops (anaWrite a v s) := by
  unfold anaWrite
  split
  · exact drops_some rfl
  · split
    · exact drops_anaFieldWrite _ _ _ _
    · split
      · exact drops_some rfl
      · exact drops_none

theorem drops_heatWrite (a : Nat) (v : Word) (s : State) : Drops (heatWrite a v s) := by
  unfold heatWrite
  repeat' split
  all_goals repeat' first
    | exact drops_none
    | exact drops_nil _
    | refine drops_cons rfl ?_
    | exact drops_some rfl

theorem drops_swWrite (a : Nat) (v : Word) (s : State) : Drops (swWrite a v s) := by
  unfold swWrite
  repeat' split
  all_goals repeat' first
    | exact drops_none
    | exact drops_nil _
    | refine drops_cons rfl ?_
    | exact drops_some rfl

theorem drops_vlvWrite (a : Nat) (v : Word) (s : State) : Drops (vlvWrite a v s) := by
  unfold vlvWrite
  repeat' split
  all_goals repeat' first
    | exact drops_none
    | exact drops_nil _
    | refine drops_cons rfl ?_
    | exact drops_some rfl

theorem drops_egrWrite (a : Nat) (v : Word) (s : State) : Drops (egrWrite a v s) := by
  unfold egrWrite
  repeat' split
  all_goals repeat' first
    | exact drops_none
    | exact drops_nil _
    | refine drops_cons rfl ?_
    | exact drops_some rfl

theorem drops_celWrite (o : Origin) (a : Nat) (v : Word) (s : State) : Drops (celWrite o a v s) := by
  unfold celWrite
  repeat' split
  all_goals repeat' first
    | exact drops_none
    | exact drops_nil _
    | refine drops_cons rfl ?_
    | exact drops_some rfl

theorem drops_serWrite (u k : Nat) (v : Word) (s : State) : Drops (serWrite u k v s) := by
  unfold serWrite
  repeat' split
  all_goals repeat' first
    | exact drops_none
    | exact drops_nil _
    | refine drops_cons rfl ?_
    | exact drops_some rfl

theorem drops_keyWrite (o : Origin) (a : Nat) (v : Word) (s : State) : Drops (keyWrite o a v s) := by
  unfold keyWrite
  repeat' split
  all_goals repeat' first
    | exact drops_none
    | exact drops_nil _
    | refine drops_cons rfl ?_
    | exact drops_some rfl

theorem drops_blockRule (o : Origin) (a : Nat) (v : Word) (s : State) (h1 : a ≠ REF_CMD) (h2 : a ≠ ACT_CMD) :
    Drops (blockRule o a v s) := by
  unfold blockRule
  split
  · intro w h
    obtain ⟨x, hx, rfl⟩ := Option.map_eq_some_iff.mp h
    exact drops_clkWrite _ _ _ x hx
  · exact drops_orElse (drops_pwrWrite _ _ _) (drops_startWrite _ _ _ _)
  · exact drops_gutWrite _ _ _
  · exact drops_vatWrite _ _ _ _
  · intro w h
    obtain ⟨x, hx, rfl⟩ := Option.map_eq_some_iff.mp h
    have q := drops_tblWrite _ _ _ _ _ x hx
    split
    · exact q
    · exact q
  · exact drops_refWrite _ _ _ _ h1
  · exact drops_hkWrite _ _ _ _ _
  · intro w h
    obtain ⟨x, hx, rfl⟩ := Option.map_eq_some_iff.mp h
    have q := drops_actWrite _ _ _ h2 x hx
    split
    · exact q
    · exact q
  · exact drops_orElse (drops_orElse (drops_ctxWrite _ _ _) (drops_intakeWrite _ _ _ _ _)) (drops_playWrite _ _ _)
  · exact drops_nucWrite _ _ _ _
  · exact drops_rndWrite _ _ _
  · exact drops_outWrite _ _ _
  · exact drops_encWrite _ _ _
  · exact drops_anaWrite _ _ _
  · exact drops_heatWrite _ _ _
  · exact drops_orElse (drops_swWrite _ _ _) (drops_vlvWrite _ _ _)
  · exact drops_egrWrite _ _ _
  · exact drops_celWrite _ _ _ _
  · exact drops_serWrite _ _ _ _
  · exact drops_keyWrite _ _ _ _
  · exact drops_none

/-- Away from REF_CMD and ACT_CMD a rejection has no effect of its own. -/
theorem writeRule_rej (o : Origin) (a : Nat) (v : Word) (s : State) (h1 : a ≠ REF_CMD) (h2 : a ≠ ACT_CMD) :
    (writeRule o a v s).rej = id := by
  unfold writeRule
  have q := drops_blockRule o a v s h1 h2
  cases h : blockRule o a v s with
  | none => rfl
  | some w => exact q w h


end Sys2Proof.Machine
end

