-- ==== Sys2Proof/Laws/Store.lean ====
section
/-! SUPPORT. Laws of the sparse memories: a read after a write, and the canonical form that every write keeps. -/

namespace Sys2Proof.Machine

theorem memGet_nil (d : Nat → Word) (a : Nat) : memGet d [] a = d a := rfl

theorem memGet_cons (d : Nat → Word) (k : Nat) (w : Word) (m : Store) (a : Nat) :
    memGet d ((k, w) :: m) a = if a = k then w else memGet d m a := by
  unfold memGet
  rw [List.lookup_cons]
  by_cases h : a = k
  · simp [h]
  · rw [if_neg h, beq_eq_false_iff_ne.mpr h]

/-- The entries of a store that rises from `a` lie at `a` or above, so below it the default is read. -/
theorem memGet_below (d : Nat → Word) (m : Store) (lo a : Nat) (h : risingFrom lo m = true) (ha : a < lo) :
    memGet d m a = d a := by
  induction m generalizing lo with
  | nil => rfl
  | cons p t ih =>
    obtain ⟨k, w⟩ := p
    simp only [risingFrom, Bool.and_eq_true, decide_eq_true_eq] at h
    rw [memGet_cons, if_neg (by omega)]
    exact ih _ h.2 (by omega)

theorem memGet_memPut_ne (d : Nat → Word) (m : Store) (a b : Nat) (v : Word) (h : b ≠ a) :
    memGet d (memPut d m a v) b = memGet d m b := by
  induction m with
  | nil => unfold memPut; split <;> simp [memGet_cons, h]
  | cons p t ih =>
    obtain ⟨k, w⟩ := p
    unfold memPut
    split
    · split
      · rfl
      · rw [memGet_cons, if_neg h]
    · split
      · rename_i h2
        subst h2
        split <;> simp [memGet_cons, h]
      · rw [memGet_cons, memGet_cons, ih]

/-- In a canonical store a read after a write gives the word written. -/
theorem memGet_memPut_same (d : Nat → Word) (m : Store) (lo a : Nat) (v : Word) (h : risingFrom lo m = true) :
    memGet d (memPut d m a v) a = v := by
  induction m generalizing lo with
  | nil => unfold memPut; split <;> simp_all [memGet_cons, memGet_nil]
  | cons p t ih =>
    obtain ⟨k, w⟩ := p
    simp only [risingFrom, Bool.and_eq_true, decide_eq_true_eq] at h
    unfold memPut
    split
    · split
      · rename_i h1 h2
        rw [memGet_cons, if_neg (by omega), memGet_below d t (k + 1) a h.2 (by omega), h2]
      · rw [memGet_cons, if_pos rfl]
    · split
      · rename_i h2
        subst h2
        split
        · rename_i h3
          rw [memGet_below d t (a + 1) a h.2 (by omega), h3]
        · rw [memGet_cons, if_pos rfl]
      · rw [memGet_cons, if_neg (by omega)]
        exact ih _ h.2

theorem risingFrom_memPut (d : Nat → Word) (m : Store) (lo a : Nat) (v : Word) (h : risingFrom lo m = true) (ha : lo ≤ a) :
    risingFrom lo (memPut d m a v) = true := by
  induction m generalizing lo with
  | nil => unfold memPut; split <;> simp [risingFrom, ha]
  | cons p t ih =>
    obtain ⟨k, w⟩ := p
    simp only [risingFrom, Bool.and_eq_true, decide_eq_true_eq] at h
    unfold memPut
    split
    · split
      · simp [risingFrom, h]
      · simp only [risingFrom, Bool.and_eq_true, decide_eq_true_eq]
        exact ⟨ha, by omega, h.2⟩
    · split
      · rename_i h1 h2
        subst h2
        split
        · cases t with
          | nil => rfl
          | cons q u =>
            obtain ⟨j, x⟩ := q
            simp only [risingFrom, Bool.and_eq_true, decide_eq_true_eq] at h ⊢
            exact ⟨by omega, h.2.2⟩
        · simp [risingFrom, h]
      · simp only [risingFrom, Bool.and_eq_true, decide_eq_true_eq]
        exact ⟨h.1, ih _ h.2 (by omega)⟩

theorem all_memPut (d : Nat → Word) (m : Store) (a : Nat) (v : Word) (h : (m.all fun p => p.2 != d p.1) = true) :
    ((memPut d m a v).all fun p => p.2 != d p.1) = true := by
  induction m with
  | nil => unfold memPut; split <;> simp_all
  | cons p t ih =>
    obtain ⟨k, w⟩ := p
    simp only [List.all_cons, Bool.and_eq_true] at h
    unfold memPut
    split
    · split <;> simp_all
    · split
      · split <;> simp_all
      · simp only [List.all_cons, Bool.and_eq_true]
        exact ⟨h.1, ih h.2⟩

/-- A write keeps the canonical form. -/
theorem memPut_wf (d : Nat → Word) (m : Store) (a : Nat) (v : Word) (h : Memory.wf d m = true) :
    Memory.wf d (memPut d m a v) = true := by
  simp only [Memory.wf, Bool.and_eq_true] at h ⊢
  exact ⟨risingFrom_memPut d m 0 a v h.1 (Nat.zero_le _), all_memPut d m a v h.2⟩

theorem memPutList_wf (d : Nat → Word) (m : Store) (a k : Nat) (vs : List Word) (h : Memory.wf d m = true) :
    Memory.wf d (memPutList d m a k vs) = true := by
  induction vs generalizing m a with
  | nil => exact h
  | cons v t ih => exact ih _ _ (memPut_wf d m a v h)

theorem memGet_put_wf (d : Nat → Word) (m : Store) (a : Nat) (v : Word) (h : Memory.wf d m = true) :
    memGet d (memPut d m a v) a = v := by
  simp only [Memory.wf, Bool.and_eq_true] at h
  exact memGet_memPut_same d m 0 a v h.1

/-- A write of consecutive words leaves the words before and after them. -/
theorem memGet_memPutList_out (d : Nat → Word) (m : Store) (a k b : Nat) (vs : List Word)
    (h : ∀ i, i < vs.length → b ≠ a + k * i) : memGet d (memPutList d m a k vs) b = memGet d m b := by
  induction vs generalizing m a with
  | nil => rfl
  | cons v t ih =>
    have h0 : b ≠ a := by simpa using h 0 (by simp)
    rw [memPutList, ih _ _ (fun i hi => ?_), memGet_memPut_ne d m a b v h0]
    have := h (i + 1) (by simp; omega)
    rw [Nat.mul_add, Nat.mul_one] at this
    omega

theorem reset_wf (d : Nat → Word) : Memory.wf d [] = true := rfl

end Sys2Proof.Machine
end

