-- ==== Sys2Proof/Laws/Vat.lean ====
section
/-! SUPPORT. Laws of the Vat's threads: what a change of one thread does to the others, and what issuing, going on and writing a
register leave. -/

namespace Sys2Proof.Machine

theorem nth_updFrom {α : Type} (d : α) (l : List α) (k j : Nat) (f : α → α) :
    nth d (updFrom d l k f) j = if j = k then f (nth d l j) else nth d l j := by
  induction l generalizing k j with
  | nil =>
    induction k generalizing j with
    | zero => cases j <;> simp [updFrom, nth]
    | succ k ih =>
      cases j with
      | zero => simp [updFrom, nth]
      | succ j =>
        have := ih j
        simp only [nth, updFrom, List.getD_cons_succ, Nat.add_right_cancel_iff] at this ⊢
        exact this
  | cons x t ih =>
    cases k with
    | zero => cases j <;> simp [updFrom, nth]
    | succ k =>
      cases j with
      | zero => simp [updFrom, nth]
      | succ j =>
        have := ih k j
        simp only [nth, updFrom, List.getD_cons_succ, Nat.add_right_cancel_iff] at this ⊢
        exact this

theorem thread_onThread (t u : Nat) (f : Thread → Thread) (s : State) :
    (onThread t f s).thread u = if u = t then f (s.thread u) else s.thread u := nth_updFrom ({} : Thread) s.vat.threads t u f

@[simp] theorem thread_onThread_same (t : Nat) (f : Thread → Thread) (s : State) : (onThread t f s).thread t = f (s.thread t) := by
  rw [thread_onThread, if_pos rfl]

theorem thread_onThread_ne (t u : Nat) (f : Thread → Thread) (s : State) (h : u ≠ t) :
    (onThread t f s).thread u = s.thread u := by
  rw [thread_onThread, if_neg h]

theorem vreg_zero (s : State) (t : Nat) : s.vreg t 0 = 0 := rfl

theorem vreg_setV (t r u q : Nat) (v : Word) (s : State) :
    (setV t r v s).vreg u q = if u = t ∧ q = r ∧ q ≠ 0 then v else s.vreg u q := by
  unfold setV State.vreg
  by_cases hr : r = 0
  · subst hr
    simp only [if_true]
    by_cases hq : q = 0
    · simp [hq]
    · simp [hq]
  · simp only [if_neg hr, thread_onThread]
    by_cases hu : u = t
    · subst hu
      simp only [if_true, nth_updFrom]
      by_cases hq : q = r
      · subst hq; simp [hr]
      · simp [hq]
    · simp [hu]

theorem thread_setV (t r u : Nat) (v : Word) (s : State) :
    { (setV t r v s).thread u with regs := [] } = { s.thread u with regs := [] } := by
  unfold setV
  split
  · rfl
  · rw [thread_onThread]; split <;> rfl

theorem thread_setV_ne (t r u : Nat) (v : Word) (s : State) (h : u ≠ t) : (setV t r v s).thread u = s.thread u := by
  unfold setV
  split
  · rfl
  · rw [thread_onThread_ne _ _ _ _ h]

theorem thread_vGo (t pc u : Nat) (s : State) : (vGo t pc s).thread u =
    if u = t then { s.thread u with pc, wait := none, state := if (s.thread u).stepping then .stopped else .running, stepping := false }
    else s.thread u := by
  unfold vGo; rw [thread_onThread]

theorem vreg_vGo (t pc u q : Nat) (s : State) : (vGo t pc s).vreg u q = s.vreg u q := by
  unfold State.vreg; rw [thread_vGo]
  by_cases h : u = t <;> simp [h]

theorem thread_vIssued (t u : Nat) (s : State) :
    (vIssued t s).thread u = { s.thread u with yieldFor := (s.thread u).yieldFor.filter (· != t) } := by
  unfold vIssued State.thread nth
  simp only [State.count, State.setFld, State.setReg]
  rw [List.getD_eq_getElem?_getD, List.getElem?_map, List.getD_eq_getElem?_getD]
  cases s.vat.threads[u]? <;> rfl

@[simp] theorem vreg_vIssued (t u q : Nat) (s : State) : (vIssued t s).vreg u q = s.vreg u q := by
  unfold State.vreg; rw [thread_vIssued]

@[simp] theorem codeWords_vIssued (t : Nat) (s : State) : (vIssued t s).codeWords = s.codeWords := rfl
@[simp] theorem dm_vIssued (t : Nat) (s : State) : (vIssued t s).vat.dm = s.vat.dm := rfl
@[simp] theorem pc_vIssued (t u : Nat) (s : State) : ((vIssued t s).thread u).pc = (s.thread u).pc := by rw [thread_vIssued]

/-- An eligible thread can issue. -/
theorem runs_of_eligible {t : Nat} {s : State} (h : s.eligible t = true) : s.runs t = true := by
  unfold State.eligible at h
  exact (Bool.and_eq_true_iff.mp h).1

/-- An instruction of an eligible thread, with legal fields, that does not go on at the end of the code. -/
theorem vInstr_runs (t : Nat) (f : State → State) (s : State) (h : s.eligible t = true) (h2 : (s.thread t).pc + 1 < s.codeWords) :
    vInstr t true true f s = f (vIssued t s) := by
  unfold vInstr
  have : ¬ s.codeWords ≤ (s.thread t).pc + 1 := by omega
  simp [h, this]

theorem vInstr_jumps (t : Nat) (f : State → State) (s : State) (h : s.eligible t = true) :
    vInstr t true false f s = f (vIssued t s) := by
  unfold vInstr
  simp [h]

/-! What each register-writing instruction is: one `vSet` or `vShift`. -/

section
variable (t : Fin 8) (rd ra rb : Fin 16) (imm : BitVec 18) (s : State)

theorem exec_add_set : exec (.add t rd ra rb) s = done (vSet t rd (fun s => (s.vreg t ra) + (s.vreg t rb)) s) := by
  rw [exec_add]; unfold execAdd vAdd vAlu; rfl
theorem exec_sub_set : exec (.sub t rd ra rb) s = done (vSet t rd (fun s => (s.vreg t ra) - (s.vreg t rb)) s) := by
  rw [exec_sub]; unfold execSub vSub vAlu; rfl
theorem exec_and_set : exec (.and t rd ra rb) s = done (vSet t rd (fun s => (s.vreg t ra) &&& (s.vreg t rb)) s) := by
  rw [exec_and]; unfold execAnd vAnd vAlu; rfl
theorem exec_or_set : exec (.or t rd ra rb) s = done (vSet t rd (fun s => (s.vreg t ra) ||| (s.vreg t rb)) s) := by
  rw [exec_or]; unfold execOr vOr vAlu; rfl
theorem exec_xor_set : exec (.xor t rd ra rb) s = done (vSet t rd (fun s => (s.vreg t ra) ^^^ (s.vreg t rb)) s) := by
  rw [exec_xor]; unfold execXor vXor vAlu; rfl
theorem exec_sll_set : exec (.sll t rd ra rb) s = done (vSet t rd (fun s => (s.vreg t ra) <<< shamt (s.vreg t rb)) s) := by
  rw [exec_sll]; unfold execSll vSll vAlu; rfl
theorem exec_srl_set : exec (.srl t rd ra rb) s = done (vSet t rd (fun s => (s.vreg t ra) >>> shamt (s.vreg t rb)) s) := by
  rw [exec_srl]; unfold execSrl vSrl vAlu; rfl
theorem exec_sra_set : exec (.sra t rd ra rb) s = done (vSet t rd (fun s => (s.vreg t ra).sshiftRight (shamt (s.vreg t rb))) s) := by
  rw [exec_sra]; unfold execSra vSra vAlu; rfl
theorem exec_slt_set : exec (.slt t rd ra rb) s = done (vSet t rd (fun s => flagW (sltW (s.vreg t ra) (s.vreg t rb))) s) := by
  rw [exec_slt]; unfold execSlt vSlt vAlu; rfl
theorem exec_sltu_set : exec (.sltu t rd ra rb) s = done (vSet t rd (fun s => flagW ((s.vreg t ra).ult (s.vreg t rb))) s) := by
  rw [exec_sltu]; unfold execSltu vSltu vAlu; rfl
theorem exec_min_set : exec (.min t rd ra rb) s = done (vSet t rd (fun s => if sltW (s.vreg t rb) (s.vreg t ra) then (s.vreg t rb) else (s.vreg t ra)) s) := by
  rw [exec_min]; unfold execMin vMin vAlu; rfl
theorem exec_max_set : exec (.max t rd ra rb) s = done (vSet t rd (fun s => if sltW (s.vreg t ra) (s.vreg t rb) then (s.vreg t rb) else (s.vreg t ra)) s) := by
  rw [exec_max]; unfold execMax vMax vAlu; rfl
theorem exec_mul_set : exec (.mul t rd ra rb) s = done (vSet t rd (fun s => (s.vreg t ra) * (s.vreg t rb)) s) := by
  rw [exec_mul]; unfold execMul vMul vAlu; rfl
theorem exec_mulh_set : exec (.mulh t rd ra rb) s = done (vSet t rd (fun s => mulhW (s.vreg t ra) (s.vreg t rb)) s) := by
  rw [exec_mulh]; unfold execMulh vMulh vAlu; rfl
theorem exec_addi_set : exec (.addi t rd ra imm) s = done (vSet t rd (fun s => (s.vreg t ra) + (imm.signExtend 32)) s) := by
  rw [exec_addi]; unfold execAddi vAddi vImm; rfl
theorem exec_andi_set : exec (.andi t rd ra imm) s = done (vSet t rd (fun s => (s.vreg t ra) &&& (imm.zeroExtend 32)) s) := by
  rw [exec_andi]; unfold execAndi vAndi vImm; rfl
theorem exec_ori_set : exec (.ori t rd ra imm) s = done (vSet t rd (fun s => (s.vreg t ra) ||| (imm.zeroExtend 32)) s) := by
  rw [exec_ori]; unfold execOri vOri vImm; rfl
theorem exec_xori_set : exec (.xori t rd ra imm) s = done (vSet t rd (fun s => (s.vreg t ra) ^^^ (imm.zeroExtend 32)) s) := by
  rw [exec_xori]; unfold execXori vXori vImm; rfl
theorem exec_slti_set : exec (.slti t rd ra imm) s = done (vSet t rd (fun s => flagW (sltW (s.vreg t ra) (imm.signExtend 32))) s) := by
  rw [exec_slti]; unfold execSlti vSlti vImm; rfl
theorem exec_slli_shift : exec (.slli t rd ra imm) s = done (vShift t rd ra imm (fun a n => a <<< n) s) := by
  rw [exec_slli]; unfold execSlli vSlli; rfl
theorem exec_srli_shift : exec (.srli t rd ra imm) s = done (vShift t rd ra imm (fun a n => a >>> n) s) := by
  rw [exec_srli]; unfold execSrli vSrli; rfl
theorem exec_srai_shift : exec (.srai t rd ra imm) s = done (vShift t rd ra imm (fun a n => a.sshiftRight n) s) := by
  rw [exec_srai]; unfold execSrai vSrai; rfl
theorem exec_lui_set (imm22 : BitVec 22) : exec (.lui t rd imm22) s = done (vSet t rd (fun _ => imm22.zeroExtend 32 <<< 10) s) := by
  rw [exec_lui]; unfold execLui vLui; rfl
theorem exec_code_set : exec (.code t rd) s = done (vSet t rd (fun s => word (s.thread t).lastCode) s) := by
  rw [exec_code]; unfold execCode vCode_; rfl

end

/-- A thread that has issued an instruction, written `rd` and gone on at `pc`: what has changed is exactly that. -/
theorem wentOn_vGo (t : Fin 8) (pc : Nat) (rd : Fin 16) (v : Word) (s : State) :
    WentOn t pc s (settle (vGo t pc (setV t rd v (vIssued t s)))) ∧ Sets t rd v s (settle (vGo t pc (setV t rd v (vIssued t s)))) ∧
      (settle (vGo t pc (setV t rd v (vIssued t s)))).vat.dm = s.vat.dm := by
  have hth : ∀ x u, (settle x).thread u = x.thread u := fun _ _ => rfl
  have hv : ∀ x u r, (settle x).vreg u r = x.vreg u r := fun _ _ _ => rfl
  refine ⟨⟨?_, ?_, ?_, ?_, ?_, ?_, ?_, ?_⟩, ?_, ?_⟩
  · unfold vGo setV; split <;> rfl
  · intro a ha
    have : ∀ x, (setV t rd v x).regs = x.regs := by intro x; unfold setV; split <;> rfl
    show memGet resetWord (setV t rd v (vIssued t s)).regs a = _
    rw [this]
    exact memGet_memPut_ne _ _ _ _ _ ha
  · intro u hu
    have hu' : u.val ≠ t.val := fun h => hu (Fin.ext h)
    refine ⟨fun r => ?_, ?_, ?_⟩
    · rw [hv, vreg_vGo, vreg_setV, vreg_vIssued]; simp [hu']
    · rw [hth, thread_vGo, if_neg hu', thread_setV_ne _ _ _ _ _ hu', pc_vIssued]
    · rw [hth, thread_vGo, if_neg hu', thread_setV_ne _ _ _ _ _ hu', thread_vIssued]
  · unfold vGo setV; split <;> rfl
  · unfold vGo setV; split <;> rfl
  · rw [hth, thread_vGo, if_pos rfl]
  · rw [hth, thread_vGo, if_pos rfl]
  · rw [hth, thread_vGo, if_pos rfl]
    have h := congrArg Thread.stepping (thread_setV t rd t v (vIssued t s))
    have h3 : ((setV t rd v (vIssued t s)).thread t).stepping = (s.thread t).stepping := by
      refine Eq.trans h ?_
      show ((vIssued t s).thread t).stepping = _
      rw [thread_vIssued]
    simp only [h3]
  · intro r
    rw [hv, vreg_vGo, vreg_setV, vreg_vIssued]
    by_cases h : r = rd
    · subst h
      by_cases h0 : r = 0
      · subst h0; simp
      · have : r.val ≠ 0 := fun h => h0 (Fin.ext h)
        simp [h0, this]
    · have : r.val ≠ rd.val := fun hh => h (Fin.ext hh)
      simp [h, this]
  · unfold vGo setV; split <;> rfl

theorem wentOn_set (t : Fin 8) (rd : Fin 16) (v : Word) (s : State) :
    WentOn t ((s.thread t).pc + 1) s (settle (vNext t (setV t rd v (vIssued t s)))) ∧
      Sets t rd v s (settle (vNext t (setV t rd v (vIssued t s)))) ∧
      (settle (vNext t (setV t rd v (vIssued t s)))).vat.dm = s.vat.dm := by
  have h : ((setV t rd v (vIssued t s)).thread t).pc = (s.thread t).pc :=
    (congrArg Thread.pc (thread_setV t rd t v (vIssued t s))).trans (pc_vIssued t t s)
  unfold vNext
  rw [h]
  exact wentOn_vGo t _ rd v s

/-- The same without a register written. -/
theorem wentOn_goes (t : Fin 8) (pc : Nat) (s : State) :
    WentOn t pc s (settle (vGo t pc (vIssued t s))) ∧ (∀ r : Fin 16, (settle (vGo t pc (vIssued t s))).vreg t r = s.vreg t r) ∧
      (settle (vGo t pc (vIssued t s))).vat.dm = s.vat.dm := by
  obtain ⟨h1, h2, h3⟩ := wentOn_vGo t pc 0 0 s
  have e : setV t (0 : Fin 16) 0 (vIssued t s) = vIssued t s := rfl
  rw [e] at h1 h2 h3
  refine ⟨h1, fun r => ?_, h3⟩
  rw [h2 r, if_neg (fun h => h.2 h.1)]

end Sys2Proof.Machine
end

