-- ==== Sys2Proof/WellFormed.lean ====
section
/-! DEFINITION. Which commands can be sent: the bounds of the operands whose types are wider than the values that the
environment or a sender can give. -/

namespace Sys2Proof

/-- A Velva frame's fields fit the header (Table 20.3). -/
abbrev VFrame.wf (v : VFrame) : Prop :=
  v.ty < 16 ∧ v.flags < 256 ∧ v.origin < 2 ^ 64 ∧ v.hops < 256 ∧ v.ohop < 256 ∧ v.seq < 65536 ∧ v.pl.length ≤ 1440 ∧
    ∀ x ∈ v.pl, x < 256

/-- A step's report names heads H0 to H5. -/
abbrev StepReport.wf : StepReport → Bool
  | .work => true
  | .checks _ _ _ => true
  | .heads answered started => decide (answered < 64) && decide (started < 64)

/-- Measured trims name their items in rising order, each once. -/
abbrev trimsWf (ms : List TrimMeas) : Prop := ms.Pairwise fun a b => a.item < b.item

/-- The command can be sent. -/
def WellFormed : Instr → Bool
  | .registerWrite .. | .w1cWrite .. | .rcRead .. | .acInputValid | .acInputInvalid => true
  | .poeInputValid cls type events => decide (1 ≤ cls.granted ∧ cls.granted ≤ 8 ∧ type < 8 ∧ events < 8)
  | .poeInputInvalid | .brownout | .powerOnReset | .busPUpdate .. | .pwrShedHeat | .pwrShedBoost
  | .pwrEavesForced | .boostReadmit | .heaterReadmit | .pwrGovWrite .. | .eavesRel .. | .htrOcClr ..
  | .hsupOcClr .. | .pwrHtrWrite .. | .heaterPeriod | .heaterOnTimeEnd .. | .pwrHtrOc | .pwrHsupOc
  | .railPgLoss .. | .hbusOverload | .hbusRetry .. | .clkSlipWarn | .clkPllLoss .. | .clkXoFail
  | .pllRelock .. | .relockTimeout | .clockFailRecovery | .eavesDivisorChange | .clkSwForced | .dramLostClear ..
  | .lfoMeasureStart | .lfoMeasureDone .. | .lfoMeasureTimeout | .lfoRemeasure | .supplyQualify .. | .crystalStart ..
  | .pllLock .. | .dramTrainingDone .. => true
  | .startStepDone r => r.wf
  | .startStepFail bad answered => decide (bad < 64 ∧ answered < 64)
  | .stepRetry => true
  | .spotCheckDone ms => decide (trimsWf ms)
  | .initialCalibrationDone ms => decide (trimsWf ms)
  | .hostGo .. | .hostWaitExpiry | .softReset .. | .resetNLow | .resetNRise | .startKick ..
  | .hbHostLost | .watchdogReset | .rindReq .. | .rindEntryComplete | .rindWake .. | .rindTimerExpiry
  | .journalCopyWritten .. | .norEraseDone .. | .status .. | .read .. | .write .. | .bulkRead ..
  | .bulkWrite .. | .pageRead .. | .pageRelease .. => true
  | .reservedOp op _ _ clocks => decide (7 ≤ op.toNat ∧ 32 ≤ clocks)
  | .keyStageWrite .. | .keyImport .. | .keyImportDone | .keyClear .. | .keyLockSet .. | .dispatch
  | .vectorRead .. | .pendClear .. | .gutSrcWrite .. | .stormRefill .. | .irqPulseEnd .. | .journalRecordWritten ..
  | .reportLine | .alarmHandoff | .markerHandoff | .add .. | .sub .. | .and ..
  | .or .. | .xor .. | .sll .. | .srl .. | .sra .. | .slt ..
  | .sltu .. | .min .. | .max .. | .mul .. | .mulh .. | .addi ..
  | .andi .. | .ori .. | .xori .. | .slli .. | .srli .. | .srai ..
  | .slti .. | .lui .. | .ld .. | .st .. | .amoadd .. | .amoswap ..
  | .halt .. | .brk .. | .rtt .. | .beq .. | .bne .. | .blt ..
  | .bge .. | .bltu .. | .bgeu .. | .jal .. | .jalr .. | .bcode ..
  | .spawn .. | .fnum .. | .rdt .. | .get .. | .put .. | .getr ..
  | .putr .. | .code .. | .wfrm .. | .wshg .. | .wevt .. | .wevtTimeout ..
  | .tset .. | .wtim .. | .threadTimerExpiry .. | .yield .. | .csel .. | .commit ..
  | .fire .. | .hkt .. | .bank .. | .anaq .. | .emit .. | .threadStart ..
  | .threadStop .. | .threadResume .. | .threadStep .. | .vatRegWrite .. | .vatLoadWrite .. | .check ..
  | .recipeCheckDone | .stopall .. | .clear .. | .store .. | .imageStoreDone .. => true
  | .frameStart p _ => decide (p.vc < 16 ∧ p.f < 65536)
  | .imageLine p => decide (p.vc < 16 ∧ p.kind < 3 ∧ ∀ x ∈ p.px, x < 16384)
  | .frameEnd vc _ _ => decide (vc < 16)
  | .intDtUnknown vc _ _ => decide (vc < 16)
  | .intVcUnmapped vc _ => decide (vc < 16)
  | .deskewSequence | .intHeadLost .. | .intLinkDown | .intHeadDisagree .. | .telemetrySample | .contextEnable ..
  | .contextDisable .. | .intCommitWrite .. | .runEnd .. | .intHncfgWrite .. | .intLinkWrite .. | .intMapWrite ..
  | .biasWrite .. | .i2cPush .. | .i2cCommandDone .. | .i2cResultRead .. | .play .. | .generatorFrame ..
  | .xloadWrite .. | .stagingOpen .. | .tblLoadWrite .. | .load .. | .tableLoadDone | .swap ..
  | .discard .. | .retrain .. | .retrainDone .. | .tableRead .. | .trimRefFault | .refFaultClear => true
  | .ripeningRound ms => decide (trimsWf ms)
  | .trimDtTest => true
  | .trimFullDone ms => decide (trimsWf ms)
  | .trimStale .. | .full .. | .apply .. | .nominal .. | .abort .. | .refTrimWrite ..
  | .refLoadWrite .. | .refSaveRead | .hkTrigcmd .. | .hkPeriodTimer .. | .hkRunStart .. | .conversionComplete ..
  | .urgentRequest .. | .hkStale .. | .hkDiagStart .. | .hkDiagStop .. | .hkDiagEnd | .hkTrigWrite .. => true
  | .startupSeqTrigger raws _ => decide (raws.length = 13)
  | .actCmdFire .. | .actCmdStop .. | .actCmdClear .. | .pwmPeriodStart .. | .actDecayTo .. | .actOc ..
  | .actClamp .. | .actPairWrite .. | .actCfgWrite .. | .prsGo .. | .sunTimer .. | .capture ..
  | .pressCaptureTimeout | .cancel .. | .sunRel .. | .forget .. | .agcBuildDone .. | .rndWpub ..
  | .portEnable .. | .portDisable .. | .encoderStripeDone .. | .idr .. | .snap .. | .encRcWrite ..
  | .analysisResult .. | .analysisEnable .. | .analysisDisable .. | .homog .. | .zones .. | .trackRead ..
  | .heatUpdate .. | .heatAmbWrite .. | .ambientStale | .heatEnforce | .heatRelease | .thermalRestart => true
  | .ethernetFrame _ b _ => decide (14 ≤ b.length ∧ ∀ x ∈ b, x < 256)
  | .swPtpSetlo .. | .swPtpAdj .. | .ptpTimeRead .. | .pdelayReq | .swLinkUp .. | .swLinkDown .. => true
  | .rollcall _ v => decide (v.wf)
  | .rcEntry _ v => decide (v.wf)
  | .rcEnd _ v => decide (v.wf)
  | .gossip _ v => decide (v.wf)
  | .beacon _ v => decide (v.wf)
  | .alarm _ v => decide (v.wf)
  | .hopAck _ v => decide (v.wf)
  | .linkEvt _ v => decide (v.wf)
  | .ringCtl _ v => decide (v.wf)
  | .probe _ v => decide (v.wf)
  | .buddyCtl _ v => decide (v.wf)
  | .buddyData _ v => decide (v.wf)
  | .hopAckTimeout .. | .alarmResend .. | .probeTimer .. | .gossipTimer | .beaconTimer | .vlvUplinkLost => true
  | .vlvDisagree kind k => decide (k < (if kind.val < 2 then 2 else if kind.val = 2 then 256 else 1))
  | .velvaOnlyTimeout .. | .autoRollcall | .rollcallTimeout | .start .. | .rcAbort .. | .forgetEntry ..
  | .forgetAll .. | .cntClr .. | .tenMpub .. | .sesStageWrite .. | .sesWrite .. | .sesOn ..
  | .sesOff .. | .sesClear .. | .packetSend .. | .egressTick | .sesStall .. | .cardInsert
  | .cardRemove => true
  | .mediumOpenDone _ o => decide (o.wrate < 256 ∧ o.preEol < 16 ∧ o.lifeA < 16 ∧ o.lifeB < 16)
  | .mediumCommandDone .. | .format .. | .cellarFormatDone | .eject .. | .attach .. | .unprotAll ..
  | .protect .. | .unprotect .. | .alarmTimeExpiry | .celRecStop .. | .pageWritten .. | .buddyOpenTimeout ..
  | .buddyRetry .. | .celPfClose .. | .wheelRepairDone .. | .retStart .. | .retStop .. | .retrievalPageFilled
  | .celRetStall | .jobStart .. | .jobStop .. => true
  | .characterReceived _ b => decide (∀ x ∈ b, x < 8)
  | .uartRxRead .. | .uartRxwRead .. | .uartTxWrite .. | .uartTxwWrite .. | .characterSent .. | .deHoldEnd ..
  | .turnEnd .. | .abrArm .. => true
  | .autoBaudDone _ b _ => decide (∀ x ∈ b, x < 8)
  | .idleTimeout .. | .rxflush .. | .txflush .. | .generatorLine .. | .pwmOffEdge .. | .ripeningSlot ..
  | .dramRetrainingDone | .observedReachableLost .. | .alwaysOnSupplyLost | .chargerAtVset .. => true

end Sys2Proof
end

