-- ==== Sys2Proof/Tests/Slice0.lean ====
section
/-! SUPPORT. Small checks of the model, and a witness for the hypotheses of each statement: concrete states and operands
that meet them, clause by clause. -/

namespace Sys2Proof.Tests

set_option Elab.async false

open Sys2Proof Sys2Proof.Machine

/-! ### States -/

/-- A unit in Run after its hand-over to the host. -/
def unit : State := { State.reset with
  start := { State.reset.start with phase := .up, step := 14, handover := 1, norOpen := true }
  clk := { State.reset.clk with xoOk := true, pllLock := true, lfValid := true }
  pwr := { State.reset.pwr with acValid := true, busGood := true, busUp := true, pg := 255 } }

/-- A unit whose start works on step `n`. -/
def inStep (n : Nat) : State := { State.reset with start := { State.reset.start with step := n } }

/-- A unit in Run and in the wait for its clock. -/
def waiting : State := { unit with clk := { unit.clk with waiting := true } }

/-- Register `a` of the unit holds `v`. -/
def withReg (a : Nat) (v : Word) : State := unit.setReg a v

/-- The unit in a long operation. -/
def inOp (id arg : Nat) (s : State) : State := { s with cp := { s.cp with op := some ⟨id, arg, 0⟩ } }

theorem may_host {p : Nat} {s : State} (h1 : s.portOn = true) (h2 : s.refused p = false) : May .host p s := ⟨h1, h2⟩

theorem open_host {p : Nat} {s : State} (h1 : s.portOn = true) (h2 : s.refused p = false) (h3 : s.closing = false) :
    Open .host p s := ⟨⟨h1, h2⟩, (fun h => by cases h), h3⟩
/-! ### Witnesses: the machine, the bus, power -/

theorem witness_StepRunsTheFrontCommand : ({ State.reset with pending := [.cardInsert] } : State).pending = .cardInsert :: [] := rfl

theorem witness_EmptyQueueLetsATickPass : State.reset.pending = [] ∧ State.reset.clocksRun = false ∧ unit.pending = [] ∧
    unit.clocksRun = true := by decide

theorem witness_EveryStepMakesThePinsFollow : ∃ t, step State.reset = .next t := ⟨_, rfl⟩

theorem witness_AbsentRegistersAnswerEAddr :
    (May .host ((0x160000 : BitVec 24).toNat / 0x10000) unit ∧ unit.pageBusy .host (0x160000 : BitVec 24).toNat = false ∧
      regAt (0x160000 : BitVec 24).toNat = none ∧ (0x160000 : BitVec 24).toNat % 4 = 0) ∧
    (May .host ((0x150003 : BitVec 24).toNat / 0x10000) unit ∧ unit.pageBusy .host (0x150003 : BitVec 24).toNat = false ∧
      (0x150003 : BitVec 24).toNat % 4 ≠ 0) ∧ 0x160000 ≤ (0x160000 : BitVec 24).toNat := by
  repeat' first | exact may_host (by decide) (by decide) | refine And.intro ?_ ?_ | decide

theorem witness_WritesKeepTheOrderOfTheChecks :
    (inOp 6 0 unit).pageBusy (.vat 0) 0x040000 = true ∧
    (unit.pageBusy .host CLK_CFG = false ∧ 0x19 % 4 ≠ 0) ∧
    ((regAt 0).map fun r => r.win != .write && r.readOnly) = some true ∧
    ((regAt CLK_CFG).map fun r => r.win != .write && !r.readOnly && (r.reservedSet 0xFFFFFFFF || r.outOfRange 0xFFFFFFFF)) = some true ∧
    unit.closing = false ∧ (blockRule .host CLK_CFG 0xFFFFFFFF unit).isNone = true := by decide

theorem witness_LegalWritesStoreTheirFields :
    Open .host (0x18 / 0x10000) unit ∧ ((regAt 0x18).map fun r => r.win != .write && !r.readOnly && !r.reservedSet 1 && !r.outOfRange 1) = some true ∧
    (blockRule .host 0x18 1 unit).isNone = true := by
  repeat' first | exact open_host (by decide) (by decide) (by decide) | refine And.intro ?_ ?_ | decide

theorem witness_RejectedWritesChangeNothing :
    (May .host (CLK_CFG / 0x10000) unit ∧ unit.writeCode .host CLK_CFG 0xFFFFFFFF ≠ .ok) ∧
    (May .host (REF_CMD / 0x10000) unit ∧ unit.writeCode .host REF_CMD 0xFFFFFFFF ≠ .ok) ∧
    (May .host (ACT_CMD / 0x10000) unit ∧ unit.writeCode .host ACT_CMD 0xFFFFFFFF ≠ .ok) := by
  repeat' first | exact may_host (by decide) (by decide) | refine And.intro ?_ ?_ | decide

theorem witness_ReadingAnRcRegisterClearsIt :
    May .host (CLK_CNT / 0x10000) unit ∧ unit.pageBusy .host CLK_CNT = false ∧
    ((regAt CLK_CNT).map fun r => r.win != .read && r.flds.any fun f => f.acc == .rc) = some true := by
  repeat' first | exact may_host (by decide) (by decide) | refine And.intro ?_ ?_ | decide

/-- The power entry, changed. -/
def power (f : Power → Power) (s : State) : State := { s with pwr := f s.pwr }

/-- The start, changed. -/
def starts (f : Start → Start) (s : State) : State := { s with start := f s.start }

/-- The clock, changed. -/
def clocks (f : Clock → Clock) (s : State) : State := { s with clk := f s.clk }

/-- The unit is in the given phase. -/
def inPhase (p : Phase) (s : State) : State := starts (fun x => { x with phase := p }) s

theorem witness_InputsComeAndGo :
    (State.reset.start.phase ≠ .cold ∧ State.reset.start.step1Hold = false ∧ State.reset.pwr.acValid = false ∧ State.reset.pwr.poeValid = false ∧
      State.reset.pwr.powerFail = false) ∧
    ((inPhase .cold State.reset).start.phase = .cold ∧ (power (fun x => { x with powerFail := true }) State.reset).pwr.powerFail = true) ∧
    ((starts (fun x => { x with step1Hold := true }) State.reset).start.step1Hold = true) ∧
    (unit.start.phase ≠ .cold ∧ unit.pwr.acValid = true ∧ unit.pwr.poeValid = false ∧ unit.pwr.powerFail = false) ∧
    ((power (fun x => { x with poeValid := true }) unit).pwr.poeValid = true ∧ (power (fun x => { x with poeValid := true }) unit).pwr.acValid = true) ∧
    ((inPhase .cold unit).start.phase = .cold ∧ (inPhase .cold unit).pwr.acValid = true) ∧ (1 : Nat) ≤ 8 := by decide

/-- The excess governs. -/
def exceeding : State := power (fun x => { x with exceeded := true }) unit

theorem witness_GovernorShedsAndReadmits :
    (unit.measures = true ∧ (inStep 1).measures = false) ∧
    (exceeding.govRuns = true ∧ exceeding.pwr.heatShed = false ∧ exceeding.pwr.boostLim = false ∧ exceeding.pwr.eavesForced = false ∧ unit.govRuns = false) ∧
    ((power (fun x => { x with boostLim := true }) unit).boostFits = true ∧ (power (fun x => { x with boostLim := true }) unit).pwr.boostLim = true ∧
      unit.handedOver = true ∧ unit.pwr.powerFail = false ∧ unit.pwr.boostLim = false) ∧
    (power (fun x => { x with heatShed := true }) unit).heaterFits = true ∧ (power (fun x => { x with heatShed := true }) unit).pwr.heatShed = true := by decide

/-- The heater is enabled, its output on, its current seen or not. -/
def heating (seen reached : Bool) : State := power (fun x => { x with
  htrOn := true, htrDuty := 10, htrSeen := seen, htrReached := reached, hsupOn := true, hbusFold := true }) (unit.setReg PWR_HTR 0x164)

theorem witness_HeaterHeadSupplyAndHbus :
    ((heating true true).htrAllowed = true ∧ unit.htrAllowed = false) ∧
    ((heating false false).pwr.htrOn = true ∧ (heating false false).pwr.htrSeen = false) ∧
    ((heating true false).pwr.htrSeen = true ∧ 10 ≤ (heating true false).pwr.htrDuty ∧ (heating true false).isStale 15 = false ∧ unit.pwr.htrOn = false) ∧
    ((heating true true).pwr.hsupOn = true ∧ unit.pwr.hsupOn = false) ∧ (unit.pwr.busUp = true ∧ State.reset.pwr.busUp = false) ∧
    ((heating true true).pwr.hbusFold = true ∧ unit.pwr.hbusFold = false) ∧ (unit.railWatched 7 = true ∧ State.reset.railWatched 7 = false) := by decide

theorem witness_PowerRegistersAct :
    Open .host 0x02 unit ∧ (Fits PWR_GOV 0x0002031E ∧ bits (0x0002031E : Word) 23 16 < bits (0x0002031E : Word) 15 8 ∧
      bits (0x0002031E : Word) 15 8 < bits (0x0002031E : Word) 7 0 * 10) ∧
    (Fits PWR_GOV 0x0003031E ∧ bits (0x0003031E : Word) 15 8 ≤ bits (0x0003031E : Word) 23 16 ∧
      Fits PWR_GOV 0x00020A01 ∧ bits (0x00020A01 : Word) 7 0 * 10 ≤ bits (0x00020A01 : Word) 15 8) ∧
    (unit.pwr.powerFail = false ∧ 1600 ≤ unit.effLimit ∧ unit.pwr.eavesForced = false ∧ (power (fun x => { x with eavesForced := true }) unit).pwr.eavesForced = true ∧
      1600 ≤ (power (fun x => { x with eavesForced := true }) unit).effLimit ∧
      (power (fun x => { x with powerFail := true }) unit).pwr.powerFail = true ∧ Open .host 0x02 (power (fun x => { x with powerFail := true }) unit) ∧
      Open .host 0x02 (power (fun x => { x with eavesForced := true }) unit)) ∧ Fits PWR_HTR 0x164 := by
  repeat' first | exact open_host (by decide) (by decide) (by decide) | exact fits_of_legal (by decide) | refine And.intro ?_ ?_ | decide

/-! ### Witnesses: clocks, starts, resets, Rind -/

theorem witness_ClockLossesStopTheUnit :
    (unit.pllUsed = true ∧ unit.stopped = false ∧ unit.clk.xoFailed = false) ∧
    (waiting.pllUsed = true ∧ waiting.stopped = true ∧ (clocks (fun c => { c with xoFailed := true }) waiting).clk.xoFailed = true ∧
      (clocks (fun c => { c with xoFailed := true }) waiting).pllUsed = true ∧ (inStep 2).pllUsed = false) ∧
    ((inStep 3).start.phase = .start ∧ (inStep 3).start.step = 3) ∧
    ((starts (fun x => { x with phase := .waking, wakeStep := 3 }) unit).start.wakeStep = 3) ∧
    (unit.portOn = true ∧ unit.inRind = false ∧ (inPhase .rind unit).inRind = true) := by decide

/-- A wait after a loss of the PLL's clock at the given times. -/
def lostClock (l : List Nat) : State := clocks (fun c => { c with waiting := true, lost := true, losses := l }) unit

/-- The DRAM retrains. -/
def retraining (s : State) : State := clocks (fun c => { c with retraining := true, bgTrain := true }) s

/-- The head's temperature asks for Eaves. -/
def tooHot : State := { unit with heat := { unit.heat with enforced := true } }

theorem witness_ClocksReturn :
    (waiting.clk.waiting = true ∧ waiting.clk.xoFailed = false ∧ waiting.clk.retraining = false ∧ waiting.start.trig = 0 ∧ waiting.clk.lost = false) ∧
    (starts (fun x => { x with trig := 4 }) waiting).start.trig ≠ 0 ∧
    ((lostClock [0]).clk.losses.length ≤ (lostClock [0]).fld CLK_CFG 7 4) ∧
    ((lostClock (List.replicate 16 0)).clk.lost = true ∧ (lostClock (List.replicate 16 0)).fld CLK_CFG 7 4 < (lostClock (List.replicate 16 0)).clk.losses.length) ∧
    ((clocks (fun c => { c with xoFailed := true }) waiting).clk.xoFailed = true ∧ unit.clk.waiting = false) ∧
    ((retraining waiting).clk.waiting = true ∧ (retraining waiting).clk.retraining = true) ∧
    ((retraining unit).clk.waiting = false ∧ (retraining unit).clk.bgTrain = true ∧ unit.clk.bgTrain = false) ∧
    (Open .host 0x01 unit ∧ unit.clk.retraining = false ∧ Open .host 0x01 (retraining (unit.setReg CLK_FLAGS 0x20)) ∧
      (retraining (unit.setReg CLK_FLAGS 0x20)).dramLost = true ∧ (retraining (unit.setReg CLK_FLAGS 0x20)).clk.bgTrain = true) ∧
    (tooHot.live = true ∧ tooHot.eavesWanted tooHot.heat.enforced ≠ tooHot.clk.eaves ∧ unit.live = true ∧
      unit.eavesWanted unit.heat.enforced = unit.clk.eaves ∧ (inStep 1).live = false) := by
  repeat' first | exact open_host (by decide) (by decide) (by decide) | refine And.intro ?_ ?_ | decide

theorem witness_LfoIsMeasured :
    (State.reset.start.phase ≠ .cold ∧ State.reset.clk.lfValid = false ∧ State.reset.clk.lfFail = false ∧ State.reset.clk.lfCounting = false ∧
      (inPhase .cold State.reset).start.phase = .cold) ∧
    ((clocks (fun c => { c with lfCounting := true }) unit).clk.lfCounting = true ∧ (-800 : Int) ≤ 800 ∧ (800 : Int) < 801 ∧ (-801 : Int) < -800) ∧
    ((clocks (fun c => { c with lfFail := true }) unit).clk.lfFail = true ∧ unit.clk.lfValid = true) := by decide

theorem witness_StartStepsPass :
    ((power (fun _ => unit.pwr) (inStep 1)).atStep 1 = true ∧ unit.pwr.acValid = true ∧ 800 ≤ unit.pwr.avail ∧
      (inStep 1).atStep 1 = true ∧ (inStep 1).pwr.acValid = false ∧ (inStep 1).pwr.poeValid = false) ∧
    (∀ n ∈ [2, 3, 4, 5, 6, 7, 8, 9, 10, 11, 12], (inStep n).atStep n = true ∧ (inStep n).atStep 1 = false) ∧
    ((starts (fun x => { x with phase := .waking, wakeStep := 2 }) unit).atWake 2 = true ∧ (starts (fun x => { x with phase := .waking, wakeStep := 3 }) unit).atWake 3 = true) ∧
    (inStep 4).start.trimsOk = false ∧
    ((starts (fun x => { x with trimsOk := true }) (inStep 12)).trimSource = 2 ∧ spotAgrees [] (inStep 12).trim = true) ∧ (inStep 12).trimSource = 3 ∧
    (unit.atStep 1 = false ∧ unit.atStep 2 = false ∧ unit.atWake 2 = false ∧ unit.atStep 3 = false ∧ unit.atWake 3 = false ∧ unit.atStep 5 = false ∧
      unit.atStep 12 = false ∧ unit.atStep unit.start.step = false) := by decide

/-- A trim record is held for step 12. -/
def restored : State := { inStep 12 with trm := { (inStep 12).trm with held := some (List.replicate 24 0), pendRestore := true } }

theorem witness_StartStepsPass_restore : restored.atStep 12 = true ∧ restored.trimSource = 1 ∧ restored.trm.held = some (List.replicate 24 0) ∧
    spotAgrees [] (fun i => nth 0 (List.replicate 24 (0 : Word)) (6 + i)) = true := by decide

theorem witness_FailedStepsFallBack :
    (∀ n ∈ [1, 2, 3, 5, 6, 7, 8, 9, 10, 11, 12], (inStep n).atStep n = true) ∧ (inStep 1).start.step1Fails < 2 ∧
    2 ≤ (starts (fun x => { x with step1Fails := 2 }) (inStep 1)).start.step1Fails ∧
    (starts (fun x => { x with phase := .waking, wakeStep := 2 }) unit).atWake (starts (fun x => { x with phase := .waking, wakeStep := 2 }) unit).start.wakeStep = true ∧
    ((starts (fun x => { x with waitRetry := true }) (inStep 2)).start.waitRetry = true ∧ (inStep 2).start.waitRetry = false) ∧
    (inStep 5).start.dramPath + 1 < (inStep 5).dramPaths.length ∧
    (starts (fun x => { x with dramPath := 1 }) (inStep 5)).dramPaths.length ≤ 2 ∧
    ((inStep 6).start.sramRetried = false ∧ (starts (fun x => { x with sramRetried := true }) (inStep 6)).start.sramRetried = true) ∧
    ((starts (fun x => { x with trimsOk := true }) (inStep 12)).trimSource = 2 ∧ spotAgrees [⟨0, 0x7FFF, 0⟩] (inStep 12).trim = false) ∧
    ((inStep 12).trimSource = 3 ∧ (inStep 12).start.calRepeat = false) ∧ plausible 15 0xFFFF 1 = false := by decide

/-- The host's heartbeat is armed. -/
def beating : State := withReg START_HB 0x00010001

theorem witness_ResetTriggersReset :
    (unit.start.phase ≠ .cold ∧ unit.start.phase ≠ .cut ∧ unit.stopped = false ∧ unit.early = false ∧ State.reset.early = true ∧ State.reset.stopped = false) ∧
    (waiting.stopped = true ∧ waiting.clk.xoFailed = false ∧ waiting.start.phase = .up) ∧
    ((clocks (fun c => { c with xoFailed := true }) waiting).stopped = true ∧ (clocks (fun c => { c with xoFailed := true }) waiting).clk.xoFailed = true) ∧
    (inPhase .cold unit).start.phase = .cold ∧
    ((inPhase .cut unit).start.phase = .cut ∧ unit.clk.lfValid = true ∧ (inPhase .cut State.reset).clk.lfValid = false) ∧
    Open .host 0x02 unit ∧
    ((starts (fun x => { x with hostLost := true }) beating).hbArmed = true ∧ (starts (fun x => { x with hostLost := true }) beating).start.hostLost = true ∧
      beating.flag START_HB 16 = true ∧ unit.hbArmed = false ∧ unit.start.wdDue = false) := by
  repeat' first | exact open_host (by decide) (by decide) (by decide) | refine And.intro ?_ ?_ | decide

theorem witness_ResetsKeepTable45 :
    unit.inRind = false ∧ unit.early = false ∧ unit.start.trig = 0 ∧ startStepOf 0 = 1 ∧ startStepOf 3 ≠ 1 := by decide

theorem witness_HandOverAndHeartbeat :
    Open .host 0x02 (inStep 13) ∧ (inStep 13).start.step = 13 ∧
    (Open .host 0x02 (inStep 8) ∧ (inStep 8).start.step ≠ 13 ∧ (inStep 8).handedOver = false) ∧ (Open .host 0x02 unit ∧ unit.handedOver = true) ∧
    ((inStep 13).atStep 13 = true ∧ (inStep 13).fld START_HOSTWAIT 15 0 ≠ 0 ∧ (inStep 13).start.noStandalone = false ∧
      (inStep 13).pending.head?.any isHostGo = false ∧
      (inStep 13).vat.step8 = none ∧ ({ inStep 13 with vat := { (inStep 13).vat with step8 := some 2 } } : State).vat.step8.isSome = true) ∧
    (unit.atStep 13 = false ∧ ({ inStep 13 with pending := [.hostGo .host] } : State).pending.head?.any isHostGo = true) ∧
    (Fits START_KICK 1 ∧ bits (1 : Word) 7 0 = (unit.fld START_KICK 7 0 + 1) % 256 ∧ bits (0 : Word) 7 0 ≠ (unit.fld START_KICK 7 0 + 1) % 256) ∧
    (beating.hbArmed = true ∧ beating.start.hostLost = false ∧ unit.hbArmed = false) := by
  repeat' first | exact open_host (by decide) (by decide) (by decide) | exact fits_of_legal (by decide) | refine And.intro ?_ ?_ | decide

/-- Every wake source is enabled, and the ports. -/
def wakeful : State := ((((withReg START_WAKE 0x7F).setReg (UART_CFG 0) 0x80000000).setReg (UART_CFG 3) 0x80000000).setReg START_RIND_T 1)

/-- A copy of the journal is being written. -/
def copying : State := starts (fun x => { x with norWrites := [⟨[], 0, 1⟩] }) unit

theorem witness_RindAndItsWakes :
    (Open .host 0x02 wakeful ∧ wakeful.rindCode = .ok ∧ Fits START_STATE (putBits (wakeful.reg START_STATE) 0 0 1) ∧
      Open .host 0x02 (starts (fun x => { x with step := 8, phase := .start }) wakeful) ∧ (starts (fun x => { x with step := 8, phase := .start }) wakeful).rindCode = .eState) ∧
    ((inPhase .entering unit).rindReady = true ∧ unit.rindReady = false) ∧
    (wakeful.flag START_WAKE 0 = true ∧ wakeful.flag START_WAKE 6 = true ∧ wakeful.serEn 3 = true ∧ wakeful.serEn 0 = true ∧
      (inPhase .rind wakeful).start.phase = .rind ∧ (inPhase .entering wakeful).start.phase = .entering) ∧
    (wakeful.fld START_RIND_T 19 0 ≠ 0 ∧ wakeful.flag START_WAKE 1 = true ∧ unit.start.phase = .up) ∧
    (copying.norProgram = some .copy ∧ copying.start.norWrites = ⟨[], 0, 1⟩ :: [] ∧ unit.norProgram ≠ some .copy) ∧
    (unit.portOn = true ∧ unit.handedOver = true ∧ (inPhase .cold unit).portOn = false ∧ (inStep 8).handedOver = false ∧ (inStep 8).portOn = true) := by
  repeat' first | exact open_host (by decide) (by decide) (by decide) | exact fits_of_legal (by decide) | refine And.intro ?_ ?_ | decide

/-! ### Witnesses: the control port and the Gutter -/

theorem witness_PortSingleTransactions :
    (unit.portOn = true ∧ unit.flag START_WAKE 2 = false ∧ wakeful.flag START_WAKE 2 = true ∧ wakeful.start.phase ≠ .rind ∧ wakeful.start.phase ≠ .entering) ∧
    (unit.refused ((0xFF0000 : BitVec 24).toNat / 0x10000) = false ∧ (32 : Nat) ≤ 32 ∧ (104 : Nat) ≤ 104 ∧ (103 : Nat) < 104 ∧ (4 : Nat) ≤ 4 ∧ (31 : Nat) < 32) ∧
    crcWord [] + 1 ≠ crcWord [] ∧ (inOp 1 0 unit).refused ((0 : BitVec 24).toNat / 0x10000) = true ∧ (inPhase .cold unit).portOn = false := by decide

/-- Two pages wait to be read. -/
def paged : State := { unit with cp := { unit.cp with pages := [⟨[1], 1⟩, ⟨[2], 2⟩] } }

theorem witness_PortBulkAndPages :
    (unit.portOn = true ∧ unit.flag START_WAKE 2 = false) ∧
    (unit.refused ((0x18 : BitVec 24).toNat / 0x10000) = false ∧ ([1] : List Word).length < 2 ^ 32 ∧ 32 * (1 + 3) + 8 ≤ 136 ∧ 32 ≤ 32 ∧ 32 < 32 * (0 + 3) + 8) ∧
    crcWord [] + 1 ≠ crcWord [] ∧
    (paged.refused 0x13 = false ∧ paged.closing = false ∧ paged.cp.pages ≠ [] ∧ unit.cp.pages = []) ∧
    ((inOp 4 0 unit).refused 0x13 = true ∧ (inOp 1 0 unit).refused ((0x050000 : BitVec 24).toNat / 0x10000) = true) := by decide

/-- A 128-bit key is staged, with its check value. -/
def keyed (k : Nat) : State := inOp 5 (511 + 512 * 1)
  { unit with cp := { unit.cp with stage := List.replicate 7 1, kcv := k } }

/-- Thread 0 of a unit with a program runs. -/
def threaded (s : State) : State := { s with vat := { s.vat with threads := { ({} : Thread) with state := .running } :: List.replicate 7 {} } }

theorem open_vat {p : Nat} {s : State} (t : Fin 8) (h1 : s.runs t = true) (h2 : s.opOnPage p = false) (h3 : s.closing = false) :
    Open (.vat t) p s := ⟨h1, fun _ => h2, h3⟩

theorem witness_KeyCommands :
    (May .host 0x15 unit ∧ unit.closing = false ∧ unit.flag KEY_LOCK 0 = false ∧ (List.replicate 11 (0 : Word)).length = 11 ∧
      (List.replicate 8 (0 : Word)).length ≠ 7 ∧ (List.replicate 8 (0 : Word)).length ≠ 11) ∧
    (May .host 0x15 (inPhase .entering unit) ∧ (inPhase .entering unit).closing = true) ∧
    (Open .host 0x15 { unit with cp := { unit.cp with stage := List.replicate 7 1 } } ∧ keyLen 1 = 7 ∧ keyLen 2 = 11 ∧ keyLen 0 = 0 ∧ unit.cp.stage = []) ∧
    (unit.live = true ∧ (keyed 0).cp.op = some ⟨5, 511 + 512 * 1, 0⟩ ∧ unit.cp.op = none ∧ (inOp 4 0 unit).cp.op = some ⟨4, 0, 0⟩) ∧
    (Open .host 0x15 (withReg KEY_LOCK 1) ∧ (withReg KEY_LOCK 1).flag KEY_LOCK 0 = true ∧ Open (.vat 0) 0x15 (threaded unit) ∧
      (threaded unit).flag KEY_LOCK 0 = false) := by
  repeat' first | exact may_host (by decide) (by decide) | exact open_host (by decide) (by decide) (by decide) |
    exact open_vat 0 (by decide) (by decide) (by decide) | refine And.intro ?_ ?_ | decide

theorem witness_KeyCommands_check :
    keyCheckValue ((keyed (keyCheckValue (List.replicate 4 1))).cp.stage.take (keyLen ((511 + 512 * 1) / 512) - 3)) =
      (keyed (keyCheckValue (List.replicate 4 1))).cp.kcv ∧
    keyCheckValue ((keyed (keyCheckValue (List.replicate 4 1) + 1)).cp.stage.take (keyLen ((511 + 512 * 1) / 512) - 3)) ≠
      (keyed (keyCheckValue (List.replicate 4 1) + 1)).cp.kcv := by
  have h : ∀ n, (keyed n).cp.stage.take (keyLen ((511 + 512 * 1) / 512) - 3) = List.replicate 4 1 := fun _ => by rfl
  rw [h, h]
  generalize keyCheckValue (List.replicate 4 1) = k
  exact ⟨rfl, Nat.ne_of_lt (Nat.lt_succ_self _)⟩

/-- Source `n` holds a capture. -/
def captured (n : Nat) : State := unit.setSrc n { cap := some ⟨7, 0, 0⟩ }

/-- A delivery of source 1. -/
def delivery : Delivery := ⟨1, 2, 0, 0, false, 0, 0, 0⟩

/-- A delivery waits in every queue. -/
def queued : State := { withReg GUT_D6CFG 0x8 with
  start := { unit.start with norOpen := true }
  gut := { unit.gut with d3 := [delivery], d4 := [delivery], d5 := [delivery], d6 := [delivery] } }

/-- Source 511 is limited, with the given tokens and suppressions. -/
def stormy (tokens supp : Nat) (at_ : Option Nat) : State := (withReg (GUT_SRC 511) 0x100).setSrc 511 { tokens, supp, suppAt := at_ }

theorem witness_GutterWorks :
    (unit.live = true ∧ (captured 511).nextCapture = some (511, ⟨7, 0, 0⟩) ∧ unit.nextCapture = none) ∧ (Open .host 0x03 unit ∧ Fits (GUT_PEND 15) 0x80000000) ∧
    (Fits (GUT_SRC 511) 0x800000 ∧ ((bit (0x800000 : Word) 22 || decide (b2n (bit (0x800000 : Word) 24) + b2n (bit (0x800000 : Word) 25) + b2n (bit (0x800000 : Word) 26) ≤ 1)) &&
        bits (0x800000 : Word) 31 24 &&& fixedRoute 511 == fixedRoute 511) = true ∧
      Fits (GUT_SRC 511) 0x03000000 ∧ ((bit (0x03000000 : Word) 22 || decide (b2n (bit (0x03000000 : Word) 24) + b2n (bit (0x03000000 : Word) 25) + b2n (bit (0x03000000 : Word) 26) ≤ 1)) &&
        bits (0x03000000 : Word) 31 24 &&& fixedRoute 511 == fixedRoute 511) = false) ∧
    ((stormy 3 0 none).live = true ∧ (stormy 3 0 none).srcStorm 511 ≠ 0 ∧ ((stormy 3 0 none).src 511).tokens < 4 ∧ ((stormy 3 0 none).src 511).supp = 0 ∧
      ((stormy 0 1 (some 0)).src 511).supp ≠ 0 ∧ ((stormy 0 1 (some 0)).src 511).suppAt = some (stormy 0 1 (some 0)).time ∧
      ((stormy 0 1 none).src 511).suppAt ≠ some (stormy 0 1 none).time ∧ 4 ≤ ((stormy 4 0 none).src 511).tokens ∧ (withReg (GUT_SRC 511) 0).srcStorm 511 = 0) ∧
    (queued.live = true ∧ queued.gut.d5 = delivery :: [] ∧ queued.norProgram = some .record ∧ unit.norProgram ≠ some .record) ∧
    (queued.gut.d6 = delivery :: [] ∧ queued.gut.d3 = delivery :: [] ∧ queued.gut.d4 = delivery :: [] ∧
      unit.gut.d3 = [] ∧ unit.gut.d4 = [] ∧ unit.gut.d6 = []) ∧
    (let s := queued.setReg (UART_CFG 0) 0x80000000
     let u := s.fld GUT_D6CFG 1 0
     (s.live && s.flag GUT_D6CFG 3 && s.serEn u && (s.ser u).txq.isEmpty && (s.ser u).tx.isNone) = true ∧ (queued.live && queued.serEn 0) = false) := by
  repeat' first | exact open_host (by decide) (by decide) (by decide) | exact fits_of_legal (by decide) | refine And.intro ?_ ?_ | decide

/-! ### Witnesses: Vat -/

/-- Two words of code are installed; thread 0 runs at `pc`, with 1 in V1 and `v` in V2. -/
def running (pc : Nat) (v : Word := 0) : State := { unit with vat := { unit.vat with
  img := some ⟨1, 0, 0, 2, 0⟩
  threads := { ({} : Thread) with state := .running, pc := pc, regs := [0, 1, v, 0, 0, 0, 0, 0, 0, 0, 0, 0, 0, 0, 0, 0] } ::
    List.replicate 7 {} } }

theorem witness_VatArithmeticWritesRd : Ready 0 (running 0) ∧ (31 : BitVec 18).toNat < 32 := by
  unfold Ready; decide

theorem witness_VatMemoryAccesses :
    Ready 0 (running 0) ∧ (((running 0).vreg 0 0 + (0x3FFC : BitVec 18).signExtend 32).toNat % 4 = 0 ∧
      ((running 0).vreg 0 0 + (0x3FFC : BitVec 18).signExtend 32).toNat < 16384) ∧
    (((running 0 0x3FFC).vreg 0 2).toNat % 4 = 0 ∧ ((running 0 0x3FFC).vreg 0 2).toNat < 16384) ∧
    (((running 0).vreg 0 1 + (0 : BitVec 18).signExtend 32).toNat % 4 ≠ 0 ∧ 16384 ≤ ((running 0).vreg 0 0 + (0x4000 : BitVec 18).signExtend 32).toNat) ∧
    (((running 0).vreg 0 1).toNat % 4 ≠ 0 ∧ 16384 ≤ ((running 0 0x4000).vreg 0 2).toNat) := by
  unfold Ready; decide

theorem witness_VatBranchesGoWhereTheySay :
    ((running 0).eligible 0 = true ∧ (running 0).vreg 0 0 = (running 0).vreg 0 0 ∧ (running 0).vreg 0 0 ≠ (running 0).vreg 0 1 ∧
      ((running 0).vreg 0 0).toInt < ((running 0).vreg 0 1).toInt ∧ ((running 0).vreg 0 0).toNat < ((running 0).vreg 0 1).toNat) ∧
    (((running 0).thread 0).lastCode = 0 ∧ ((onThread 0 (fun th => { th with lastCode := 1 }) (running 0)).thread 0).lastCode ≠ 0) ∧
    (0 ≤ ((running 0).thread 0).pc + (1 : BitVec 18).toInt ∧ ((running 0).thread 0).pc + (1 : BitVec 18).toInt < (running 0).codeWords) ∧
    (((running 0).thread 0).pc + (-1 : BitVec 18).toInt < 0 ∧ ((running 0).codeWords : Int) ≤ ((running 0).thread 0).pc + (2 : BitVec 18).toInt) ∧
    (((running 0).thread 0).pc + 1 < (running 0).codeWords ∧ (running 1).codeWords ≤ ((running 1).thread 0).pc + 1) ∧
    ((1 : BitVec 14).toNat < (running 0).codeWords ∧ (running 0).codeWords ≤ (2 : BitVec 14).toNat ∧
      ((running 0).vreg 0 1).toNat < (running 0).codeWords ∧ (running 0).codeWords ≤ ((running 0 2).vreg 0 2).toNat) ∧
    ((running 0).thread 0).inTrap = false ∧ ((onThread 0 (fun th => { th with inTrap := true }) (running 0)).thread 0).inTrap = true ∧
    ((onThread 0 (fun th => { th with inTrap := true }) (running 0)).thread 0).epc + 1 < (running 0).codeWords ∧
    (running 0).codeWords ≤ ((onThread 0 (fun th => { th with inTrap := true, epc := 1 }) (running 0)).thread 0).epc + 1 := by decide

theorem witness_VatTrapsAsTable75 :
    (running 1).eligible 0 = true ∧ (32 ≤ (32 : BitVec 18).toNat ∧ (31 : BitVec 18).toNat < 32 ∧ (running 1).codeWords ≤ ((running 1).thread 0).pc + 1) ∧
    (((running 1 0x3FFC).vreg 0 2 + (0 : BitVec 18).signExtend 32).toNat % 4 = 0 ∧ ((running 1 0x3FFC).vreg 0 2 + (0 : BitVec 18).signExtend 32).toNat < 16384) ∧
    ((running 1).flag (VAT_TTRAP 0) 31 && !((running 1).thread 0).inTrap) = false ∧
    (((running 1).setReg (VAT_TTRAP 0) 0x80000000).flag (VAT_TTRAP 0) 31 && !((running 1).thread 0).inTrap) = true := by decide

/-- Context 7 is on, its analysis enabled. -/
def onCtx7 (s : State) : State := { s.setReg (ANA_CTL 7) 0x80000000 with
  sch := { s.sch with ctxs := s.sch.ctxs.set 7 { ({} : Ctx) with st := .on } } }

theorem witness_VatBusInstructions :
    Ready 0 (onCtx7 (running 0)) ∧ (onCtx7 (running 0)).ctxOf 0 7 = some 7 ∧ (onCtx7 (running 0)).ctxOf 0 8 = some 0 ∧
    (onCtx7 (running 0)).ctxEnabled 7 = true ∧ (vIssued 0 (onCtx7 (running 0))).flag (ANA_CTL 7) 31 = true ∧ (onCtx7 (running 0)).ctxEnabled 0 = false := by
  unfold Ready; decide

/-- Thread 0 with a change. -/
def th0 (f : Thread → Thread) : State := onThread 0 f (onCtx7 (running 0))

theorem witness_VatControlAndWaits :
    (Ready 0 (running 0 2) ∧ ((running 0 2).thread 7).state = .stopped ∧ ((running 0 2).vreg 0 1).toNat < (running 0 2).codeWords ∧
      (running 0 2).codeWords ≤ ((running 0 2).vreg 0 2).toNat) ∧
    (Ready 0 (th0 id) ∧ (th0 id).ctxOf 0 7 = some 7 ∧ (th0 id).ctxEnabled 7 = true ∧ (th0 id).ctxOf 0 8 = some 0 ∧ (th0 id).ctxEnabled 0 = false ∧
      ((th0 fun th => { th with counts := [(31, (1, 9))] }).thread 0).count (4 * 7 + 3) = (1, 9) ∧
      ((th0 fun th => { th with counts := [(31, (2, 9))] }).thread 0).count (4 * 7 + 3) = (2, 9) ∧
      ((th0 id).thread 0).count (4 * 7 + 3) = (0, 0) ∧ (vIssued 0 (th0 id)).d2Source 0 = none) ∧
    (((th0 id).thread 0).period = 0 ∧ ((th0 fun th => { th with period := 1 }).thread 0).period ≠ 0 ∧ ((th0 fun th => { th with period := 1 }).thread 0).missed = 0 ∧
      ((th0 fun th => { th with period := 1, missed := 1, periodic := true }).thread 0).missed ≠ 0 ∧
      ((th0 fun th => { th with period := 1, missed := 1, periodic := true }).thread 0).periodic = true ∧
      ((th0 fun th => { th with period := 1, missed := 1 }).thread 0).periodic = false) ∧
    ((th0 id).live = true ∧ ((th0 fun th => { th with wait := some (.event 1 2 (some 5)) }).thread 0).wait = some (.event 1 2 (some 5)) ∧
      (th0 fun th => { th with wait := some (.event 1 2 (some 5)) }).d2Source 0 = none ∧ (inStep 1).live = false) := by
  unfold Ready; decide +kernel

/-- A source is pending and routed to thread 0's queue. -/
def presenting : State := (onCtx7 (running 0)).setReg (GUT_SRC 3) 0x04800000 |>.setReg (GUT_PEND 0) 0x8

theorem witness_VatControlAndWaits_event : (vIssued 0 presenting).d2Source 0 = some 3 ∧
    (onThread 0 (fun th => { th with wait := some (.event 1 2 (some 5)) }) presenting).d2Source 0 = some 3 := by decide +kernel

/-- A NOR image is installed and staged. -/
def storable : State := { running 0 with vat := { (running 0).vat with stagedIsInstalled := true } }

/-- An image is being stored to slot `k`. -/
def storing (k : Nat) : State := { unit with vat := { unit.vat with storeBusy := true, storeSlot := k } }

theorem witness_VatHostCommands :
    (Open .host 0x04 (running 0) ∧ Origin.host ≠ .vat 1 ∧ (running 0).vat.img.isSome = true ∧ ((running 0).thread 1).idle = true ∧
      (1 : BitVec 14).toNat < (running 0).codeWords ∧ (running 0).codeWords ≤ (2 : BitVec 14).toNat ∧ ((running 0).thread 1).state = .stopped ∧
      ((running 0).thread 0).idle = false ∧ ((running 0).thread 0).state ≠ .stopped ∧ unit.vat.img.isSome = false) ∧
    (unit.vat.storeBusy = false ∧ unit.fld VAT_LADDR 14 0 + 4096 ≤ 20528 ∧ 20528 < (withReg VAT_LADDR 20528).fld VAT_LADDR 14 0 + 1 ∧
      Open .host 0x04 (storing 2) ∧ (storing 2).vat.storeBusy = true) ∧
    (Open .host 0x04 unit ∧ unit.allIdle = true ∧ (running 0).allIdle = false ∧ Open .host 0x04 storable ∧ storable.vat.storeBusy = false ∧
      storable.vat.stagedIsInstalled = true ∧ storable.inEffect 12 = false ∧ storable.vat.img.map (·.origin) = some 1 ∧
      unit.vat.stagedIsInstalled = false) ∧ (Open (.vat 0) 0x04 (running 0)) ∧
    (unit.live = true ∧ (inOp 6 3 unit).cp.op = some ⟨6, 3, 0⟩ ∧ (inStep 1).live = false) ∧
    ((storing 3).vat.storeBusy = true ∧ (storing 2).live = true) := by
  repeat' first | exact open_host (by decide) (by decide) (by decide) |
    exact open_vat 0 (by decide) (by decide) (by decide) | refine And.intro ?_ ?_ | decide

/-! ### Witnesses: intake -/

/-- Head H5 and head H0 are enabled; H0 receives a frame. -/
def receivingOf (r : RxFrame) : State := { withReg (INT_HCFG 0) 0x80000010 |>.setReg (INT_HCFG 5) 0x85400077 with
  int := { unit.int with linkUp := true, deskewOk := true, heads := [{ obs := .streaming, rx := some r }, {}, {}, {}, {}, {}] } }

/-- H0's frame of two columns and two lines, its next line, and whether it was accepted. -/
def rxAt (next : Nat) (acc : Bool) : RxFrame := { fn := 0, started := true, accepted := acc, resync := false, w := 2, h := 2, next }

/-- H0 receives its frame, one line short of its end. -/
def receiving (acc : Bool) : State := receivingOf (rxAt 1 acc)

/-- The last line of a frame of two columns and two lines. -/
def lastLine : LinePacket := { vc := 0, y := 1, kind := 0, px := [1, 16383], err := .none }

theorem witness_PacketsGoToTheirHead :
    ((inStep 1).live = false ∧ unit.live = true ∧ readable .eccUnc (packetSeen .eccUnc unit) = false) ∧
    ((receiving true).live = true ∧ readable .none (packetSeen .none (receiving true)) = true ∧
      (packetSeen .none (receiving true)).headOfVc ((packetSeen .none (receiving true)).vcOf 7) = none ∧
      (packetSeen .none (receiving true)).headOfVc ((packetSeen .none (receiving true)).vcOf 0) = some 0) ∧
    (quietType 0x2D = false ∧ 0x2D = [0x2D, 0x2B, 0x2C].getD ((packetSeen .none (receiving true)).headKind 0) 0 ∧ quietType 0x2B = false) ∧
    (lastLine.kind = (packetSeen .none (receiving true)).headKind 0 ∧ ({ lastLine with kind := 1 } : LinePacket).kind ≠ (packetSeen .none (receiving true)).headKind 0) ∧
    (((packetSeen .none (receiving true)).head 0).rx = some (rxAt 1 true) ∧ ({ lastLine with y := 0 } : LinePacket).y < (rxAt 1 true).next ∧
      (rxAt 1 true).next = lastLine.y ∧ (rxAt 1 true).resync = false ∧ (rxAt 1 true).accepted = true ∧ (rxAt 1 true).broken = false ∧
      lastLine.y < (rxAt 1 true).h ∧ lastLine.px.length = (rxAt 1 true).w ∧ (packetSeen .none (receiving true)).ctxOfHead 0 = some 0) ∧
    (((packetSeen .none (receivingOf (rxAt 2 true))).head 0).rx = some (rxAt 2 true) ∧ (rxAt 2 true).next = (rxAt 2 true).h ∧ 2 ≤ (rxAt 2 true).h ∧
      (rxAt 2 false).accepted = false ∧ (packetSeen .none (receivingOf (rxAt 2 true))).ctxOfHead 0 = some 0 ∧
      ((packetSeen .none ((receiving true).setReg (INT_HCFG 0) 0x80000010)).head 5).rx = none) ∧
    ((receiving true).headEn 0 = true ∧ ((receiving true).head 0).obs = .streaming ∧ unit.headEn 0 = false ∧ (List.range 6).any (receiving true).headEn = true ∧
      (List.range 6).any unit.headEn = false) ∧
    ((receiving true).disagreement 5 ≠ 0 ∧ ((receiving true).head 5).dis = false ∧ unit.disagreement 5 = 0) := by decide +kernel

/-- Context `c` is in the given state. -/
def ctxIn (c : Nat) (st : CtxSt) (s : State) : State := { s with sch := { s.sch with ctxs := s.sch.ctxs.set c { ({} : Ctx) with st := st } } }

/-- Generator 1's mode is `m`, and a frame of two lines of it is being received. -/
def playing (m : Word) (next : Nat := 0) : State := { withReg (INT_XCFG 1) (m <<< 28) with
  int := { unit.int with gens := [{}, { rx := some (rxAt next true) }] } }

/-- An I2C command waits, `n` times. -/
def i2cWaits (n : Nat) : State := { unit with int := { unit.int with i2c := List.replicate n ⟨0, 0x10, 0, false, 0, 0⟩ } }

/-- A run of the pipe is in progress, its frame known or not. -/
def piping (known : Bool) : State := { unit with sch := { unit.sch with
  run := some ⟨0, 5, 0, 0, 0⟩
  ctxs := unit.sch.ctxs.set 0 { ({} : Ctx) with st := .on, frames := if known then [{ fn := 5, w := 2, h := 2, kind := 0, shingle := false, hs := 2, bank := [], tabs := [], head := none, stampS := 0, stampNs := 0 }] else [] } } }

theorem witness_IntakeRegistersAct :
    (Open .host 0x09 unit ∧ (unit.ctx 7).st = .off ∧ ((ctxIn 7 .on unit).ctx 7).st = .on ∧ ((ctxIn 7 .stopping unit).ctx 7).st = .stopping) ∧
    (Fits INT_COMMIT 0x80 ∧ (ctxIn 7 .on unit).commitCode 0x80 = .ok ∧ unit.commitCode 0x80 ≠ .ok) ∧
    ((piping true).live = true ∧ (piping true).sch.run = some ⟨0, 5, 0, 0, 0⟩ ∧ (piping false).frame? 0 5 = none ∧ ((piping true).frame? 0 5).isSome = true ∧ unit.sch.run = none) ∧
    (Fits (INT_HCFG 5) 0x80400077 ∧ unit.mappedActive 5 = false ∧ unit.headEn 0 = false ∧ bits (0x80400077 : Word) 27 24 ≤ 3 ∧
      kindAllowed 5 (bits 0x80400077 23 22) = true ∧ 8 ≤ bits (0x80400077 : Word) 6 0 ∧ bits (0x80400077 : Word) 6 0 ≤ 0x77 ∧
      bits (0x80400007 : Word) 6 0 < 8 ∧ (ctxIn 0 .on unit).mappedActive 0 = true ∧ bits (0x01000010 : Word) 27 24 ≠ (ctxIn 0 .on unit).fld (INT_HCFG 0) 27 24) ∧
    (Fits INT_LINK 0x28E40096 ∧ (List.range 6).any unit.headEn = false ∧ laneMapOk 0x28E40096 = true ∧ laneMapOk 0x10000000 = false ∧
      (List.range 6).any (receiving true).headEn = true ∧ Open .host 0x09 (receiving true)) ∧
    (Fits INT_MAP 0xFFFFFFFF ∧ mapOk 0xFFFFFFFF = true ∧ mapOk 0 = false ∧ bits (0xFFFFFFFF : Word) 3 0 ≠ (ctxIn 0 .on unit).source 0 ∧ Open .host 0x09 (ctxIn 0 .on unit)) ∧
    (Fits (INT_HBIAS 3) 0 ∧ bits (0 : Word) 15 0 ≤ unit.fld (INT_HBLIM 3) 15 0 ∧ (withReg (INT_HBLIM 3) 5).fld (INT_HBLIM 3) 15 0 < bits (6 : Word) 15 0) ∧
    (Fits (INT_HIREF 3) 40000 ∧ 1000 ≤ bits (40000 : Word) 15 0 ∧ bits (40000 : Word) 15 0 ≤ 40000 ∧ Fits (INT_HIREF 0) 0 ∧
      bits (0 : Word) 15 0 = 0 ∧ bit 0 31 = false ∧ bits (999 : Word) 15 0 < 1000) ∧
    (Fits INT_I2CCMD 0x90770000 ∧ bits (0x90770000 : Word) 28 26 ≠ 0 ∧ (i2cWaits 7).int.i2c.length < 8 ∧ 8 ≤ (i2cWaits 8).int.i2c.length ∧
      bit 0x80770000 31 = true ∧ bits (0x80770000 : Word) 28 26 = 0) ∧
    ((i2cWaits 1).live = true ∧ (i2cWaits 1).int.i2c.find? (fun e => !e.done) = some ⟨0, 0x10, 0, false, 0, 0⟩ ∧ unit.int.i2c.find? (fun e => !e.done) = none) ∧
    ((withReg (INT_XCFG 1) (1 <<< 28)).fld (INT_XCFG 1) 29 28 = 1 ∧ (unit.gen 1).rx = none ∧ unit.fld (INT_XCFG 1) 29 28 ≠ 1) ∧
    ((playing 2).fld (INT_XCFG 1) 29 28 = 2 ∧ unit.fld (INT_XCFG 1) 29 28 ≠ 2) ∧
    ((playing 2).live = true ∧ ((playing 2).gen 1).rx = some (rxAt 0 true) ∧ 0 + 1 < (rxAt 0 true).h ∧ ((playing 2 1).gen 1).rx = some (rxAt 1 true) ∧
      (rxAt 1 true).h ≤ 1 + 1) := by
  repeat' first | exact open_host (by decide) (by decide) (by decide) | exact fits_of_legal (by decide) | refine And.intro ?_ ?_ | decide +kernel

/-! ### Witnesses: the table store and the trims -/

/-- Table 0x30's staging is open, with the word address `la`. -/
def staged (la : Word) : State := { withReg TBL_LADDR la with tbl := { unit.tbl with isOpen := true, ltbl := 0x30 } }

theorem witness_StagingStoresAndDiscards :
    Open .host 0x05 (staged 0) ∧ (staged 0).tbl.isOpen = true ∧ (staged 0).fld TBL_LADDR 21 0 + (List.replicate 264 (0 : Word)).length ≤ 8 + bankWords 0x30 ∧
    8 + bankWords 0x30 < (staged 0).fld TBL_LADDR 21 0 + (List.replicate 265 (0 : Word)).length ∧ unit.tbl.isOpen = false ∧ Open .host 0x05 unit := by
  repeat' first | exact open_host (by decide) (by decide) (by decide) | refine And.intro ?_ ?_ | decide +kernel

/-- The whole image of NUC table 3 is staged: one pixel's two words, zero, with their CRC-32. -/
def wholeImage : State := { staged 10 with tbl := { (staged 10).tbl with ltbl := 3, image :=
  [(0, 0x54424C31), (1, 0x03010000), (2, 0x00010001), (3, 2), (5, 0x6522DF69)] } }

/-- Table 0x30's inactive bank is VALID. -/
def loaded : State := onTable 0x30 (fun t => t.setBank t.inactiveIx { st := .valid }) unit

theorem witness_TableStoreCommands :
    (Open .host 0x05 unit ∧ Open (.vat 0) 0x05 (threaded unit) ∧ tableType (0x30 : BitVec 8).toNat ≠ 0 ∧ tableType (0xFF : BitVec 8).toNat = 0 ∧ unit.tbl.isOpen = false ∧
      ((unit.table 0x30).bank (unit.table 0x30).inactiveIx).st = .empty ∧ tableType (3 : BitVec 8).toNat = 1 ∧ unit.pressNow 3 = false ∧
      Open .host 0x05 (staged 0) ∧ (staged 0).tbl.isOpen = true) ∧
    ((inOp 1 0 wholeImage).live = true ∧ (inOp 1 0 wholeImage).cp.op = some ⟨1, 0, 0⟩ ∧ (inOp 1 0 unit).loadCode ≠ .ok) ∧
    (loaded.swapRefused 0x30 = false ∧ Open .host 0x05 loaded ∧ unit.swapRefused 0x30 = true) ∧
    (unit.dramLost = false ∧ (withReg CLK_FLAGS 0x20).dramLost = true ∧ Open .host 0x05 (withReg CLK_FLAGS 0x20)) ∧
    ((inOp 3 0 unit).cp.op = some ⟨3, 0, 0⟩ ∧ unit.cp.op = none ∧ (inStep 1).live = false) := by
  repeat' first | exact open_host (by decide) (by decide) (by decide) |
    exact open_vat 0 (by decide) (by decide) (by decide) | refine And.intro ?_ ?_ | decide +kernel

theorem witness_TableStoreCommands_load : (inOp 1 0 wholeImage).loadCode = .ok := by decide +kernel

/-- The trims, changed. -/
def trims (f : Trims → Trims) (s : State) : State := { s with trm := f s.trm }

/-- A full run was made at 100 °C above the present T_NOW's reading, DT on. -/
def farAway : State := trims (fun t => { t with tFull := 100000 }) (withReg REF_CFG 0x10001)

/-- The reference has failed. -/
def failed : State := trims (fun t => { t with refFault := true }) unit

/-- A full run is in progress. -/
def fullRun : State := trims (fun t => { t with fullBusy := true }) unit

theorem witness_TrimsFollowTheirMeasurements :
    (unit.measures = true ∧ unit.trm.refFault = false ∧ failed.trm.refFault = true ∧ failed.trm.refBad = none ∧ (inStep 1).measures = false ∧
      (trims (fun t => { t with refBad := some 0 }) unit).trm.refBad ≠ none) ∧
    (unit.trm.fullBusy = false ∧ (withReg REF_CFG 0x8000).flag REF_CFG 15 = true ∧ (withReg REF_CFG 0x8000).ripens = true ∧ fullRun.trm.fullBusy = true) ∧
    (unit.isNominal 15 = false ∧ unit.chanIdle 3 = true ∧ plausible 15 0x4000 0 = true ∧ withinJump 1 15 0x40000000 0x4000 0 = true ∧
      ((unit.trm.deferred.lookup 15).getD (unit.trim 15)) = 0x40000000 ∧ plausible 15 0x3F09 0 = false ∧ plausible 15 0x40F6 0 = true ∧
      withinJump 1 15 0x40000000 0x40F6 0 = false ∧ nth 0 unit.trm.rejects 15 + 1 ≠ 4 ∧ nth 0 (List.replicate 16 3) 15 + 1 = 4 ∧
      (trims (fun t => { t with nominal := 0xFFFF }) unit).isNominal 15 = true) ∧
    (farAway.flag REF_CFG 16 = true ∧ farAway.fld REF_CFG 7 0 * 50 < ((farAway.tNow.1 : Int) - farAway.trm.tFull).natAbs ∧ farAway.ripens = true ∧
      (withReg REF_CFG 0).flag REF_CFG 16 = false) ∧
    (unit.inRind = false ∧ (inPhase .rind unit).inRind = true) ∧
    (fullRun.live = true ∧ fullRun.trm.refFault = false ∧ fullRun.ripens = true) ∧
    (unit.live = true ∧ unit.trm.stale / 2 ^ 15 % 2 = 0 ∧ (trims (fun t => { t with stale := 2 ^ 15 }) unit).trm.stale / 2 ^ 15 % 2 ≠ 0) := by
  decide +kernel

theorem witness_TrimCommandsAndWords :
    (Open .host 0x06 unit ∧ unit.start.step ≠ 12 ∧ unit.trm.fullBusy = false ∧ unit.trm.refFault = false ∧ Open .host 0x06 fullRun ∧
      fullRun.trm.fullBusy = true ∧ fullRun.start.step ≠ 12 ∧ Open .host 0x06 failed ∧ failed.trm.refFault = true) ∧ (Open .host 0x06 (inStep 12) ∧ (inStep 12).start.step = 12) ∧
    (Fits (REF_TRIM 15) 0x40F60000 ∧ plausible 15 (trimGain 0x40F60000) (trimOffset 0x40F60000) = true ∧
      plausible 15 (trimGain 0x40F70000) (trimOffset 0x40F70000) = false) ∧ (unit.chanIdle 0 = true ∧ (11 : Nat) ≤ 11 ∧ ¬ ((10 : Nat) = 15 ∨ (11 : Nat) ≤ 10)) ∧
    (1 ≤ (List.replicate 4096 (0 : Word)).length ∧ 4096 < (List.replicate 4097 (0 : Word)).length) ∧ unit.trm.load = none ∧
    ((trims (fun t => { t with load := some [] }) unit).trm.load = some [] ∧ (trims (fun t => { t with load := some [] }) unit).applyCode ≠ .ok ∧
      Open .host 0x06 (trims (fun t => { t with load := some [] }) unit)) ∧
    (inStep 8).start.step < 12 ∧ ¬ (unit.start.step < 12 ∨ unit.start.step = 15) ∧ Open .host 0x06 (inStep 8) := by
  repeat' first | exact open_host (by decide) (by decide) (by decide) | exact fits_of_legal (by decide) | refine And.intro ?_ ?_ | decide +kernel

/-- The body of a trim record of this unit: its header and a nominal trim for every item. -/
def recordBody : List Word := [0x54524D31, word (at_ 1 16 + 24), word (Config.unitId % 2 ^ 32), word (Config.unitId / 2 ^ 32), 0, 0] ++
  List.replicate 16 0x40000000 ++ [0]

/-- The record with its CRC-32. -/
def record : List Word := recordBody ++ [word (crc32Words recordBody)]

theorem crc32Byte_lt (c b : Nat) (hc : c < 2 ^ 32) (hb : b < 2 ^ 32) : crc32Byte c b < 2 ^ 32 := by
  unfold crc32Byte
  have step : ∀ (l : List Nat) (c : Nat), c < 2 ^ 32 →
      l.foldl (fun c _ => if c % 2 = 1 then (c / 2) ^^^ 0xEDB88320 else c / 2) c < 2 ^ 32 := by
    intro l
    induction l with
    | nil => intro c h; exact h
    | cons _ t ih =>
      intro c h
      refine ih _ ?_
      dsimp only
      split
      · exact Nat.xor_lt_two_pow (by omega) (by decide)
      · omega
  exact step _ _ (Nat.xor_lt_two_pow hc hb)

theorem wordBytes_lt (w : Word) : ∀ b ∈ wordBytes w, b < 2 ^ 32 := by
  intro b hb
  have h := w.isLt
  simp only [wordBytes, List.mem_cons, List.not_mem_nil, or_false] at hb
  unfold bits at hb
  rcases hb with rfl | rfl | rfl | rfl <;> exact lt_of_lt_of_le (Nat.mod_lt _ (by decide)) (by decide)

theorem crc32Words_lt (ws : List Word) : crc32Words ws < 2 ^ 32 := by
  unfold crc32Words crc32
  refine Nat.xor_lt_two_pow ?_ (by decide)
  have step : ∀ (l : List Nat) (c : Nat), (∀ b ∈ l, b < 2 ^ 32) → c < 2 ^ 32 → l.foldl crc32Byte c < 2 ^ 32 := by
    intro l
    induction l with
    | nil => intro c _ h; exact h
    | cons a t ih =>
      intro c hl h
      exact ih _ (fun b hb => hl b (List.mem_cons_of_mem _ hb)) (crc32Byte_lt c a h (hl a List.mem_cons_self))
  refine step _ _ (fun b hb => ?_) (by decide)
  obtain ⟨w, _, hw⟩ := List.mem_flatMap.mp hb
  exact wordBytes_lt w b hw

theorem witness_TrimCommandsAndWords_apply :
    (trims (fun t => { t with load := some record }) unit).trm.load = some record ∧
    (trims (fun t => { t with load := some record }) unit).applyCode = .ok ∧
    (trims (fun t => { t with load := some record }) (inStep 8)).applyCode = .ok := by
  have h : ∀ s : State, s.start.step ≠ 12 → (trims (fun t => { t with load := some record }) s).applyCode = .ok := by
    intro s hs
    have e1 : (List.range 16).all (fun i => plausible i (trimGain (nth 0 record (6 + i))) (trimOffset (nth 0 record (6 + i)))) = true := by rfl
    have e2 : record.take 23 = recordBody := by rfl
    have e3 : (nth 0 record 23).toNat = crc32Words recordBody := by
      show (word (crc32Words recordBody)).toNat = _
      unfold word
      rw [BitVec.toNat_ofNat]
      exact Nat.mod_eq_of_lt (crc32Words_lt _)
    unfold State.applyCode
    show (if s.start.step = 12 then Code.eState else _) = Code.ok
    rw [if_neg hs, if_neg (show ¬ record.length ≠ 24 by decide), e1, e2, e3, if_neg, if_neg]
    · simp
    · have g0 : nth 0 record 0 = 0x54524D31 := rfl
      have g1 : nth 0 record 1 = word (at_ 1 16 + 24) := rfl
      have g2 : nth 0 record 2 = word (Config.unitId % 2 ^ 32) := rfl
      have g3 : nth 0 record 3 = word (Config.unitId / 2 ^ 32) := rfl
      dsimp only
      rw [g0, g1, g2, g3]; simp
  exact ⟨rfl, h unit (by decide), h (inStep 8) (by decide)⟩
/-! ### Witnesses: housekeeping, actuators, presses -/

/-- Actuator channel `n` of the unit, changed. -/
def chanWith (n : Nat) (f : Chan → Chan) : State := onChan n f unit

/-- Converter `j` with a change. -/
def convWith (j : Nat) (f : HkConv → HkConv) (s : State) : State := onConv j f s

/-- A run of one entry of input 31. -/
def oneEntry : HkRun := { ents := [0x1F], wins := [0x3FFF0000], len := 1, trim := 0x40000000, num := 1 }

/-- HK_DIAG injects into input 31. -/
def injecting : State := withReg HK_DIAG 0x801F0000

theorem witness_ConversionsGiveTheirResults :
    ((convWith 2 (fun c => { c with run := some oneEntry }) unit).live = true ∧ (inStep 1).live = false ∧
      ((convWith 2 (fun c => { c with run := some oneEntry }) unit).conv 2).doing = .entry oneEntry) ∧
    ((convWith 2 (fun c => { c with urgent := some (3, true) }) unit).conv 2).doing = .urgent 3 true ∧
    ((convWith 2 (fun c => { c with ripening := true }) unit).conv 2).doing = .ripening ∧ (unit.conv 2).doing = .nothing ∧
    (injecting.injected 31 = true ∧ injecting.hkSettling 31 ⟨0, false⟩ = false ∧ unit.injected 31 = false) ∧
    (roundHalfAway ((16 * (-1) - trimOffset 0x40000000) * trimGain 0x40000000) (2 ^ 18) < 0 ∧
      0x3FFF < roundHalfAway ((16 * 16384 - trimOffset 0x40000000) * trimGain 0x40000000) (2 ^ 18) ∧
      roundHalfAway ((16 * 16383 - trimOffset 0x40000000) * trimGain 0x40000000) (2 ^ 18) = 0x3FFF) ∧
    ((inStep 4).start.phase = .start ∧ (inStep 4).measures = true ∧ unit.start.phase ≠ .start) ∧
    (unit.live = true ∧ unit.isStale 26 = false ∧ unit.isStale 7 = false ∧ unit.isStale 13 = false ∧
      ({ unit with hk := { unit.hk with stale := 2 ^ 26 } } : State).isStale 26 = true) := by
  decide +kernel

theorem witness_HkTriggersAndInjection :
    (Open .host 0x07 (convWith 2 (fun c => { c with trig := 0x10000000 }) unit) ∧ (4 : BitVec 3).getLsbD 2 = true ∧
      bits ((convWith 2 (fun c => { c with trig := 0x10000000 }) unit).conv 2).trig 31 28 = 1 ∧
      (∀ j ∈ [0, 1], (4 : BitVec 3).getLsbD j = false)) ∧ (bits (unit.conv 0).trig 31 28 = 2 ∧ (1 : BitVec 3).getLsbD 0 = true ∧
      bits ((convWith 2 (fun c => { c with trig := 0x10000000 }) unit).conv 2).trig 31 28 ≠ 2) ∧
    (unit.live = true ∧ (inStep 1).live = false ∧ (unit.conv 0).run = none ∧ (unit.conv 0).delaying = false ∧ (withReg (HK_CFG 0) 16).fld (HK_CFG 0) 4 0 ≠ 0 ∧
      (withReg (HK_CFG 0) 0).fld (HK_CFG 0) 4 0 = 0 ∧ ((convWith 0 (fun c => { c with run := some oneEntry }) unit).conv 0).run ≠ none ∧
      ((convWith 0 (fun c => { c with delaying := true }) unit).conv 0).delaying = true) ∧
    ((chanWith 1 fun c => { c with st := .run, reqDue := true }).live = true ∧ ((chanWith 1 fun c => { c with st := .run, reqDue := true }).chan 1).reqDue = true ∧
      ((chanWith 1 fun c => { c with st := .run, reqDue := true }).chan 1).st ≠ .idle ∧ (chanWith 1 fun c => { c with st := .run, reqDue := true }).isSlave 1 = false ∧
      (chanWith 1 fun c => { c with st := .run, reqDue := true }).slaveOf 1 = none ∧ (unit.chan 1).reqDue = false) ∧
    ((withReg HK_URG 0x4).urgConv 0 = some 0 ∧ (unit.conv 0).ripening = false ∧ ((withReg HK_URG 0x4).conv 0).urgent = none ∧
      ((convWith 0 (fun c => { c with urgent := some (1, false) }) (withReg HK_URG 0x4)).conv 0).urgent ≠ none ∧
      (convWith 0 (fun c => { c with urgent := some (1, false) }) (withReg HK_URG 0x4)).urgConv 0 = some 0) ∧
    ((convWith 0 (fun c => { c with slot := 33 }) (withReg REF_CFG 0x8000)).ripeOn = true ∧
      ((convWith 0 (fun c => { c with slot := 33 }) (withReg REF_CFG 0x8000)).conv 0).isIdle = true ∧
      33 ≤ (convWith 0 (fun c => { c with slot := 33 }) (withReg REF_CFG 0x8000)).hkSlot 0 ∧ (withReg REF_CFG 0).ripeOn = false) ∧
    (Open .host 0x07 unit ∧ Fits (HK_TRIG 2) 0x37400FFF ∧ Fits (HK_TRIG 0) 0x43000000 ∧ Fits (HK_TRIG 1) 0x10000FFF ∧
      bits (0x37400FFF : Word) 27 24 ≤ 7 ∧ bits (0x37400FFF : Word) 23 22 ≤ 1 ∧ bits (0x43000000 : Word) 27 24 ≤ 3 ∧ 3 < bits (0x44000000 : Word) 27 24) ∧
    (Fits (HK_PER 2) 1000000 ∧ hkMinPer (unit.fld (HK_CFG 2) 4 0) (unit.conv 2).lp ≤ bits (1000000 : Word) 19 0 ∧
      bits (0 : Word) 19 0 < hkMinPer (unit.fld (HK_CFG 2) 4 0) (unit.conv 2).lp) ∧
    (Fits HK_DIAG (diagWord true 31 1023) ∧ unit.flag HK_DIAG 31 = false ∧ Fits HK_DIAG (diagWord true 3 0) ∧ unit.pressNow 3 = false ∧
      unit.runsProfile 3 = false ∧ Fits HK_DIAG (diagWord false 31 0)) ∧
    (injecting.live = true ∧ injecting.flag HK_DIAG 31 = true ∧ injecting.fld HK_DIAG 20 16 = 31 ∧ Open .host 0x07 injecting ∧
      Open .host 0x07 (chanWith 3 fun c => { c with st := .run }) ∧ (chanWith 3 fun c => { c with st := .run }).runsProfile 3 = true) := by
  repeat' first | exact open_host (by decide) (by decide) (by decide) | exact fits_of_legal (by decide) | refine And.intro ?_ ?_ | decide +kernel

/-- The actuator channels 0 and 2 are fit for FIRE of profile 0, with the boost ready or not. -/
def fit (boost : Bool) : State := { ((withReg HK_URG 0x444).setReg (ACT_PPH 0 0) 0x06400064).setReg (ACT_PPH 31 0) 1 with
  hk := { unit.hk with last := if boost then [(12, ⟨16000, 0⟩)] else [] } }

/-- The channels are paired. -/
def paired : State := withReg ACT_PAIR 3

/-- Channel 3 is in DECAY, a FIRE pending or not. -/
def decaying (pend : Bool) : State := chanWith 3 fun c => { c with st := .decay, pend := if pend then some {} else none }

theorem witness_ActuatorCommands :
    (Open .host 0x08 (fit true) ∧ ((fit true).fireCode 0 0).1 = .ok ∧ ((fit true).fireCode 2 31).1 = .ok ∧ (fit false).fireCode 0 0 = (.eState, true) ∧
      ((chanWith 3 fun c => { c with oc := true }).fireCode 3 0).1 ≠ .ok ∧ ((chanWith 3 fun c => { c with oc := true }).fireCode 3 0).2 = false) ∧
    (Open .host 0x08 (chanWith 3 fun c => { c with st := .run }) ∧ unit.isSlave 3 = false ∧ unit.flag (ACT_CHCFG 3) 8 = true ∧
      ((chanWith 3 fun c => { c with st := .run }).chan 3).st = .run ∧
      ((decaying true).chan 3).st = .decay ∧ ((decaying true).chan 3).pend ≠ none ∧ ((decaying false).chan 3).pend = none ∧ (unit.chan 3).st = .idle) ∧
    (Open .host 0x08 paired ∧ paired.isSlave 1 = true ∧ paired.isSlave 3 = true ∧ (withReg (ACT_CHCFG 0) 0).flag (ACT_CHCFG 0) 8 = false) ∧
    (Fits ACT_PAIR 0 ∧ unit.pairCode 0 = .ok ∧ (decaying false).pairCode 2 ≠ .ok) ∧
    (Fits (ACT_CHCFG 3) 0x1FF ∧ bit 0x1FF 8 = true ∧ Fits (ACT_CHCFG 0) 0x001 ∧ bit 0x001 8 = false ∧ (unit.chan (unit.master 0)).st = .idle ∧
      unit.paired 0 = false ∧ ((chanWith 0 fun c => { c with st := .run }).chan ((chanWith 0 fun c => { c with st := .run }).master 0)).st ≠ .idle) ∧
    (Fits ACT_PWM 0x09C400FF ∧ bits (0x09C400FF : Word) 7 0 ≤ bits (0x09C400FF : Word) 27 16 / 4 ∧
      (∀ n ∈ List.range 4, (unit.chan n).st = .idle) ∧ bits (0x000400FF : Word) 27 16 / 4 < bits (0x000400FF : Word) 7 0) := by
  repeat' first | exact open_host (by decide) (by decide) (by decide) | exact fits_of_legal (by decide) | refine And.intro ?_ ?_ | decide +kernel

/-- Channel 3 runs one phase of the given word, its first period over. -/
def phased (w : Word) (ended : Bool) : State := chanWith 3 fun c => { c with st := .run, started := true, ended, prof := { c.prof with phs := [w] } }

theorem witness_ActuatorPeriodsAndFaults :
    (unit.live = true ∧ (inStep 1).live = false ∧ unit.isSlave 3 = false ∧ paired.isSlave 3 = true) ∧
    ((unit.chan 3).started = false ∧ ((phased 0x10001 true).chan 3).started = true ∧
      phEnd (((phased 0x10001 true).chan 3).prof.ph 0) = true ∧ ((phased 0x10001 true).chan 3).ended = true ∧ ((phased 0x10001 false).chan 3).ended = false ∧
      phDur (((phased 0x10001 false).chan 3).prof.ph 0) * 500 ≤ (0 + 1) * (phased 0x10001 false).fld ACT_PWM 27 16 ∧
      phEnd (((phased 1 false).chan 3).prof.ph 0) = false ∧ phDur (((phased 1 false).chan 3).prof.ph 0) ≠ 0x7FFF ∧
      (0 + 1) * (phased 0x7FFE false).fld ACT_PWM 27 16 < phDur (((phased 0x7FFE false).chan 3).prof.ph 0) * 500) ∧
    ((unit.chan 3).prof.last ≤ (unit.chan 3).phase ∧ 0 < ((chanWith 3 fun c => { c with prof := { c.prof with hdr := 7 } }).chan 3).prof.last) ∧
    (((chanWith 3 fun c => { c with st := .run, driving := true }).chan 3).driving = true ∧ (unit.chan 3).driving = false) ∧
    (((decaying false).chan 3).st = .decay ∧ (unit.chan 3).st ≠ .decay) ∧
    ((paired.chan (paired.master 3)).st = .idle ∧ paired.master 3 = 2 ∧ ((onChan 2 (fun c => { c with st := .run }) paired).chan 2).st = .run ∧
      ((chanWith 3 fun c => { c with st := .decay, endedNow := true }).chan 3).endedNow = true ∧ ((decaying false).chan 3).endedNow = false) ∧
    (unit.portOn = true ∧ unit.act.clamp = false ∧ 100 * unit.fld ACT_BST 9 0 + 3000 < 100 * unit.fld ACT_BST 9 0 + 3001 ∧
      ({ unit with act := { unit.act with clamp := true } } : State).act.clamp = true ∧ (inPhase .cold unit).portOn = false) := by decide +kernel

/-- The press of head `n` is in the given state. -/
def press (n : Nat) (f : Press → Press) (s : State) : State := onPress n f s

/-- Head 0's press waits for the sun, its channel fit to open it or not. -/
def sunWait (fits boost : Bool) : State := press 0 (fun p => { p with st := .sun }) ((fit boost).setReg (ACT_PPH 1 0) (if fits then 1 else 0))

/-- Head 3's press is due and fired. -/
def due3 : State := press 3 (fun p => { p with st := .due, fired := true, reason := 4 }) unit

theorem witness_PressCommands :
    (Open .host 0x0B due3 ∧ (due3.pressOf 3).st = .due ∧ (due3.pressOf 3).fired = true ∧ due3.injected 3 = false ∧ due3.injected 7 = false ∧
      Open .host 0x0B unit ∧ (unit.pressOf 3).st ≠ .due) ∧
    (unit.ctxOfHead 3 = some 3 ∧ (unit.chan (unit.fld (PRS_CFG 3) 29 28)).pend.isSome = false ∧ unit.pressBlocked 3 = false ∧
      (chanWith 0 fun c => { c with oc := true }).pressBlocked 3 = true ∧ ((decaying true).chan ((decaying true).setReg (PRS_CFG 3) 0x30000000 |>.fld (PRS_CFG 3) 29 28)).pend.isSome = true) ∧
    (((unit.ctx 0).frames.reverse.find? fun g => !g.begun) = none ∧ (((piping true).ctx 0).frames.reverse.find? fun g => !g.begun).isSome = true) ∧
    (((press 3 (fun p => { p with st := .sun }) unit).pressOf 3).st = .sun ∧ (unit.pressOf 3).st ≠ .sun ∧ Open .host 0x0B (press 3 (fun p => { p with st := .sun }) unit)) ∧
    (unit.live = true ∧ (inStep 1).live = false) ∧
    (((sunWait true true).pressOf 0).st = .sun ∧ ((sunWait true true).pressOf 0).openDue = false ∧ ((sunWait true true).pressOf 0).openFired = false ∧
      (sunWait true true).fld (PRS_CFG 0) 29 28 = 0 ∧ (sunWait true true).fld (PRS_CFG 0) 22 18 = 1 ∧ ((sunWait true true).fireCode 0 1).1 = .ok ∧
      ((sunWait false true).fireCode 0 1).1 ≠ .ok ∧ ((sunWait false true).fireCode 0 1).2 = false ∧ (sunWait true false).fireCode 0 1 = (.eState, true)) ∧
    (((receiving true).setReg (PRS_CFG 0) 0x80000000 |>.flag (PRS_CFG 0) 31) = true ∧ ((receiving true).head 0).obs = .streaming ∧ (unit.pressOf 0).st = .idle ∧
      Open .host 0x0B ((receiving true).setReg (PRS_CFG 0) 0x80000000) ∧ unit.flag (PRS_CFG 0) 31 = false) ∧ Open (.vat 0) 0x0B (threaded unit) ∧
    (unit.cp.op = none ∧ (inOp 2 3 due3).cp.op = some ⟨2, 3, 0⟩ ∧ ((inOp 2 3 due3).pressOf 3).st = .due ∧ ((inOp 2 3 due3).pressOf 3).reason = 4 ∧
      ((inOp 2 3 unit).pressOf 3).st ≠ .due) := by
  repeat' first | exact open_host (by decide) (by decide) (by decide) |
    exact open_vat 0 (by decide) (by decide) (by decide) | refine And.intro ?_ ?_ | decide +kernel

/-! ### Witnesses: rendering, outputs, analysis, the heat model -/

/-- A stripe of encoder 15's frame is in the encoder, the frame's last or not. -/
def coding (stripes : Nat) : State := { unit with out := { unit.out with
  cur := some 15, chans := unit.out.chans.set 15 { jobs := [{ port := 0, ctx := 0, fn := 0, w := 64, h := 64, mgrp := 0, synth := false, sun := false,
                                                              stampS := 0, stampNs := 0, stripes := stripes }] } } }

/-- Output port 0 is in the given state. -/
def portIn (st : PortSt) : State := { unit with out := { unit.out with ports := unit.out.ports.set 0 { st } } }

theorem witness_OutputsAndEncoderWork :
    (unit.live = true ∧ (inStep 1).live = false) ∧ (Open .host 0x0C unit ∧ Fits RND_WPUBR 3 ∧ nth false unit.rnd.pubPend 0 = false ∧ nth false unit.rnd.pubPend 1 = false) ∧
    (bit 2 1 = true ∧ nth false ({ unit with rnd := { unit.rnd with pubPend := [false, true] } } : State).rnd.pubPend 1 = true) ∧
    (Open .host 0x0D (ctxIn 0 .on unit) ∧ Fits (OUT_CTL 7) (withEn true 0) ∧ (ctxIn 0 .on unit).portCtlCode 7 (withEn true 0) = .ok ∧
      unit.portCtlCode 7 (withEn true 0) ≠ .ok ∧
      Fits (OUT_CTL 7) (withEn false 0) ∧ unit.portCtlCode 7 (withEn false 0) = .ok ∧ (portIn .on).portCtlCode 0 (withEn false 0x01000000) ≠ .ok) ∧
    ((unit.port 7).st = .off ∧ ((portIn .on).port 0).st = .on ∧ ((portIn .draining).port 0).st = .draining) ∧
    (Open .host 0x0E unit ∧ (withReg (ENC_CFG 15) 0x3C100000).codec 15 = 3 ∧ unit.codec 15 ≠ 3 ∧ Fits (ENC_RC 15) 0x010000FF ∧ bits (0x010000FF : Word) 31 24 ≠ 0 ∧
      bits (0 : Word) 31 24 = 0 ∧ bits (0x010000FF : Word) 31 24 = unit.decim 15 ∧ bits (0x020000FF : Word) 31 24 ≠ unit.decim 15 ∧ Fits (ENC_RC 15) 0x020000FF) ∧
    (unit.tbl.suspended = false ∧ ({ unit with tbl := { unit.tbl with suspended := true } } : State).tbl.suspended = true) ∧
    (encStripe 0 [] unit).1 = none ∧ (encStripe 0 [] (coding 2)).1 = none ∧ (∃ c, (encStripe 0 [] (coding 1)).1 = some (15, c)) := by
  repeat' first | exact open_host (by decide) (by decide) (by decide) | exact fits_of_legal (by decide) | exact ⟨_, rfl⟩ | refine And.intro ?_ ?_ | decide +kernel

/-- Context `c`'s analysis with a change. -/
def anaWith (c : Nat) (f : Ana → Ana) (s : State) : State := onAna c f s

/-- The analysis of one frame, of picture `fn`. -/
def job (synth : Bool) (fn : Nat) : AnaJob := { port := 0, w := 1, h := 1, fmt := 0, v := [0], excluded := [false], fn := fn, t := 0, synth := synth, bank := [], win := (0, 0, 1, 1, 1, 1) }

/-- Context 7's analysis is in the given state, its last picture 8, and waits to judge picture `fn`. -/
def judging (st : ModelSt) (synth : Bool) (fn : Nat) : State := anaWith 7 (fun a => { a with st, lastFn := some 8, job := some (job synth fn) }) unit

theorem witness_AnalysisWorks :
    (unit.live = true ∧ unit.tbl.suspended = false ∧ (inStep 1).live = false ∧ (unit.anaOf 7).job = none) ∧
    (((judging .off true 9).anaOf 7).job = some (job true 9) ∧ (((onAna 7 (fun a => a.resulted (job true 9)) (judging .off true 9)).count (ANA_CNT 7) 31 16).anaOf 7).st = .off) ∧
    ((((onAna 7 (fun a => a.resulted (job true 9)) (judging .learning true 9)).count (ANA_CNT 7) 31 16).anaOf 7).st = .learning ∧ (job true 9).synth = true ∧ (job false 9).synth = false) ∧
    (let a := ((onAna 7 (fun a => a.resulted (job false 9)) (judging .run false 9)).count (ANA_CNT 7) 31 16).anaOf 7
     a.st = .run ∧ a.lastFn = some 8 ∧ fnAhead 8 9 ≤ bits ((job false 9).cw (ANA_ABS 7)) 7 0 ∧ bits ((job false 1009).cw (ANA_ABS 7)) 7 0 < fnAhead 8 1009) ∧
    (Open .host 0x0F unit ∧ Fits (ANA_CTL 7) (withEn true 0) ∧ Fits (ANA_CTL 7) (withEn false 0) ∧ unit.flag (ANA_CTL 7) 31 = false ∧
      (onCtx7 unit).flag (ANA_CTL 7) 31 = true) ∧
    ((unit.anaOf 7).hpend = false ∧ (unit.anaOf 7).zpend = false ∧ ((anaWith 7 (fun a => { a with hpend := true, zpend := true }) unit).anaOf 7).hpend = true ∧
      ((anaWith 7 (fun a => { a with hpend := true, zpend := true }) unit).anaOf 7).zpend = true) := by
  repeat' first | exact open_host (by decide) (by decide) (by decide) | exact fits_of_legal (by decide) | refine And.intro ?_ ?_ | decide +kernel

/-- The heat model with a change. -/
def heatWith (f : Heat → Heat) (s : State) : State := onHeat f s

theorem witness_HeatModelWorks :
    (unit.measures = true ∧ unit.start.phase ≠ .start ∧ unit.live = true ∧ unit.heat.fresh = true ∧ (heatWith (fun h => { h with fresh := false }) unit).heat.fresh = false ∧
      (inStep 1).measures = false ∧ (inStep 4).start.phase = .start ∧ (inPhase .cold unit).live = false ∧ (inPhase .cold unit).start.phase ≠ .start) ∧
    (unit.heat.warn = false ∧ ((withReg HEAT_TH 0).fld HEAT_TH 31 16 : Int) ≤ (withReg HEAT_TH 0).heat.hot.2 ∧
      unit.heat.hot.2 < (unit.fld HEAT_TH 31 16 : Int) ∧ (heatWith (fun h => { h with warn := true }) unit).heat.warn = true ∧
      unit.heat.hot.2 < (unit.fld HEAT_TH 31 16 : Int) - unit.hyst ∧
      ((withReg HEAT_TH 0).fld HEAT_TH 31 16 : Int) - (withReg HEAT_TH 0).hyst ≤ (withReg HEAT_TH 0).heat.hot.2) ∧
    (unit.heat.ask = false ∧ ((withReg HEAT_TH 0).fld HEAT_TH 15 0 : Int) ≤ (withReg HEAT_TH 0).heat.hot.2 ∧
      unit.heat.hot.2 < (unit.fld HEAT_TH 15 0 : Int) ∧ unit.heat.broken = 0 ∧ (heatWith (fun h => { h with ask := true }) unit).heat.ask = true ∧
      unit.heat.hot.2 < (unit.fld HEAT_TH 15 0 : Int) - unit.hyst ∧ (heatWith (fun h => { h with broken := 1 }) unit).heat.broken ≠ 0) ∧
    (unit.cutDecided = none ∧ ((withReg HEAT_TH2 0).cutDecided).isSome = true) ∧
    (Open .host 0x10 unit ∧ Fits HEAT_AMB 23315 ∧ Fits HEAT_AMB 38315 ∧ bits (38315 : Word) 15 0 ≤ 38315 ∧ bits (23314 : Word) 15 0 < 23315 ∧
      38315 < bits (38316 : Word) 15 0) ∧ unit.handedOver = true ∧
    ((heatWith (fun h => { h with ask := true }) unit).heat.ask = true ∧ unit.heat.enforced = false) ∧
    ((heatWith (fun h => { h with enforced := true }) unit).heat.enforced = true ∧ (heatWith (fun h => { h with enforced := true }) unit).heat.ask = false) := by
  repeat' first | exact open_host (by decide) (by decide) (by decide) | exact fits_of_legal (by decide) | refine And.intro ?_ ?_ | decide +kernel

/-! ### Witnesses: the switch and Velva -/

/-- Ports P0 and P1 are up, Velva is on, the unit is the head. -/
def chained (f : SwPort → SwPort := id) : State := { withReg VLV_CFG 0xC00A0000 with
  sw := { unit.sw with ports := [f { link := true }, f { link := true }, {}] } }

/-- A Velva frame of type `ty` from unit 9, two hops away. -/
def vframe (ty : Nat) : VFrame := ⟨ty, 0, 9, 2, 0, 1, []⟩

/-- The frame's header as it is sent. -/
def vheader : List Nat := [0x1C, 0, 0, 0] ++ toBe 9 8 ++ [2, 0, 0, 1]

/-- The Ethernet frame that carries it. -/
def vether : List Nat := toBe velvaMac 6 ++ [2, 0, 0, 0, 0, 9, 0x88, 0xB5] ++ vheader ++ toBe (vheader.foldl crc16Byte 0xFFFF) 2

/-- A wrong frame of Velva, and one of another protocol. -/
def vbroken : List Nat := vether.set 20 9

theorem witness_SwitchTimeFramesAndLinks :
    (unit.portUp 2 = false ∧ chained.portUp 1 = true ∧ be (toBe 5 6) 0 6 ≠ velvaMac ∧ (chained.setReg VLV_CFG 0).vlvEn = false) ∧
    (be vether 0 6 = velvaMac ∧ (etherType vether).2.1 = chained.fld VLV_ETYPE 15 0 ∧ chained.vlvEn = true ∧
      (match chained.velvaParse vether with | .ok v => v == vframe 12 | .error _ => false) = true ∧
      be vbroken 0 6 = velvaMac ∧ (etherType vbroken).2.1 = chained.fld VLV_ETYPE 15 0 ∧
      (match chained.velvaParse vbroken with | .ok _ => false | .error b => b) = true) ∧
    (Open .host 0x11 unit ∧ Fits SW_PTP_SETLO 999999999 ∧ (999999999 : Word).toNat < 1000000000 ∧ 1000000000 ≤ (1000000000 : Word).toNat ∧
      Fits SW_PTP_ADJ 0x80000000) ∧ (unit.swUp = true ∧ (inPhase .cold unit).swUp = false) ∧ unit.fld SW_PTP_CFG 1 0 ≠ 2 ∧
    ((unit.swPort 2).link = false ∧ (clearErr 1 unit).ringEn = false ∧ (chained.swPort 1).link = true) ∧
    (let s := (withReg VLV_CFG 0xE00A0000).setReg (SW_PCTL 1) 0xA0000001
     (s.swPort 1).link = false ∧ s.swUp = true ∧ (clearErr 1 s).ringEn = true ∧ (clearErr 1 s).role 1 ≠ 0) ∧
    (unit.start.phyOff.testBit 2 = false ∧ (starts (fun x => { x with phyOff := 7 }) unit).start.phyOff.testBit 2 = true) := by
  repeat' first | exact open_host (by decide) (by decide) (by decide) | exact fits_of_legal (by decide) | refine And.intro ?_ ?_ | decide +kernel

theorem witness_VelvaFramesAreTaken :
    unit.portUp 0 = false ∧ chained.portUp 0 = true ∧ (velvaErr 0 (-1) 0 (chained.count (SW_PRXC 0) 31 0)).vlvPort 0 = true ∧
    (velvaErr 2 (-1) 0 (chained.count (SW_PRXC 2) 31 0)).vlvPort 2 = false ∧
    ((velvaErr 1 (-1) 0 ((chained fun x => { x with quar := true, txErr := 255, rxErr := 255 }).count (SW_PRXC 1) 31 0)).vlvPort 1 = true ∧
      ((velvaErr 1 (-1) 0 ((chained fun x => { x with quar := true, txErr := 255, rxErr := 255 }).count (SW_PRXC 1) 31 0)).swPort 1).quar = true ∧ (vframe 1).ty ≠ 6 ∧
      (vframe 1).ty ≠ 7 ∧ (vframe 1).ty ≠ 12) ∧ ((velvaErr 0 (-1) 0 (chained.count (SW_PRXC 0) 31 0)).swPort 0).quar = false := by decide +kernel

/-- Velva's state, changed. -/
def velvaWith (f : Velva → Velva) (s : State) : State := { s with vlv := f s.vlv }

/-- Two attempts wait for their HOP_ACK. -/
def attempting : State := velvaWith (fun v => { v with attempts := [⟨0, vframe 6, 1, 8⟩, ⟨1, vframe 6, 8, 8⟩] }) unit

theorem witness_VelvaTimersAct :
    (unit.swUp = true ∧ (inPhase .cold unit).swUp = false ∧ unit.vlv.attempts[0]? = none ∧ attempting.vlv.attempts[0]? = some ⟨0, vframe 6, 1, 8⟩ ∧
      attempting.vlv.attempts[1]? = some ⟨1, vframe 6, 8, 8⟩ ∧ 1 < 8) ∧
    ((velvaWith (fun v => { v with resends := [(1, vframe 6, 2)] }) unit).vlv.resends[0]? = some (1, vframe 6, 2) ∧ unit.vlv.resends[0]? = none) ∧
    (((chained fun x => { x with quar := true }).swPort 1).quar = true ∧ (chained fun x => { x with quar := true }).vlvPort 1 = true ∧ (unit.swPort 1).quar = false) ∧
    (chained.vlvEn = true ∧ chained.swUp = true ∧ (chained.setReg (SW_PCTL 1) 0xA0000001).uplinkOwn = true ∧ (chained.setReg VLV_CFG 0).vlvEn = false) ∧
    (1 ≠ 3 ∧ unit.disagrees 1 1 = false ∧ (velvaWith (fun v => { v with reported := [(4, 0)] }) unit).vlv.reported.contains (4, 0) = true ∧
      (withReg (VLV_EXP_LO 0) 5).disagrees 2 0 = true ∧ (withReg (VLV_EXP_LO 0) 5).vlv.reported.contains (2, 0) = false) ∧
    (((chained fun x => { x with velvaOnly := true }).swPort 1).velvaOnly = true ∧ (chained fun x => { x with velvaOnly := true }).portUp 1 = true ∧
      (unit.swPort 1).velvaOnly = false) ∧
    ((velvaWith (fun v => { v with autoRc := true }) chained).vlv.autoRc = true ∧ chained.isHead = true ∧ chained.vlv.rcBusy = false ∧
      (velvaWith (fun v => { v with autoRc := true, rcBusy := true }) chained).vlv.rcBusy = true ∧ unit.vlv.autoRc = false) ∧
    (((chained fun x => { x with obsOk := true }).swPort 1).obsOk = true ∧ (unit.swPort 1).obsOk = false) := by decide +kernel

theorem witness_VelvaCommandsAct :
    (Open .host 0x11 chained ∧ chained.isHead = true ∧ chained.vlvEn = true ∧ chained.vlv.rcBusy = false) ∧ (Open .host 0x11 unit ∧ unit.isHead = false) ∧
    (Open .host 0x11 (velvaWith (fun v => { v with rcBusy := true }) chained) ∧ (velvaWith (fun v => { v with rcBusy := true }) chained).vlv.rcBusy = true) := by
  repeat' first | exact open_host (by decide) (by decide) (by decide) | refine And.intro ?_ ?_ | decide +kernel

/-! ### Witnesses: sessions and the Cellar -/

/-- A session entry that R462 accepts: IPv4, the smallest packet. -/
def entry : List Word := [0, 5, 1, 7, 0, 0, 1, 256, 0, 0, 0, 0, 0, 0, 0, 0, 1, 0, 0, 0, 0, 0, 0, 0]

/-- Session `n` is `x`, its tenant and encoder enabled, key 5 held. -/
def session (n : Nat) (x : Session) : State := { ((withReg SES_SEL (word n)).setReg (TEN_CFG 0) 0x80000005).setReg (ENC_CFG 0) 0x8C100000 with
  egr := { unit.egr with sessions := [(n, x)], stage := some entry }, cp := { unit.cp with keys := [(5, ⟨1, []⟩)] } }

/-- A frame that waits to be sent, begun or not. -/
def sframe (b : Bool) : SFrame := { chan := 0, seq := 0, pkts := [[.coded 0 0 0 100], [.coded 0 0 100 20]], bits := 960, begun := b, key := 5, at_ := 0, ptp := 0 }

/-- Session 0 sends a frame. -/
def sending (b : Bool) (roc : Nat := 0) : State := session 0 { st := .sending, words := entry, queue := [sframe b], roc }

/-- A frame in the pipe saw the masks before the newest version of group 0. -/
def masked : State := { unit with
  out := { unit.out with masks := unit.out.masks.set 0 { ver := 1 } }
  sch := { unit.sch with ctxs := unit.sch.ctxs.set 0 { ({} : Ctx) with st := .on, frames := [{ fn := 5, w := 2, h := 2, kind := 0, shingle := false, hs := 2, bank := [(OUT_FMT 0, 0)], tabs := [], head := none, stampS := 0, stampNs := 0, ports := [0] }] } } }

theorem witness_SessionsAndEgressWork :
    (Open .host 0x12 unit ∧ entry.length = 24 ∧ (List.replicate 25 (0 : Word)).length ≠ 24) ∧
    (Open .host 0x12 (session 4095 {}) ∧ (session 4095 {}).fld SES_SEL 11 0 = 4095 ∧ (session 4095 {}).egr.stage = some entry ∧ ({} : Session).live = false ∧
      entryBad entry = false ∧ entryBad (List.replicate 24 0) = true) ∧ unit.egr.stage = none ∧ ({ st := .sending } : Session).live = true ∧
    ((session 4095 { st := .off, words := entry }).sesCode 2 = .ok ∧ ((session 4095 { st := .off, words := entry }).ses 4095).st = .off ∧
      ((session 4095 { st := .off, words := entry }).setReg (TEN_CFG 0) 0).sesCode 2 = .eCtx ∧
      ((session 4095 { st := .waitIdr, words := entry }).ses 4095).st = .waitIdr ∧ ((session 4095 {}).ses 4095).st = .empty ∧
      Open .host 0x12 (session 4095 { st := .off, words := entry })) ∧
    (((dropQueued none 0 (sending true)).ses 0).queue.any fun f => (dropQueued none 0 (sending true)).keyHeld f.key) = true ∧
    (((dropQueued none 0 (sending false)).ses 0).queue.any fun f => (dropQueued none 0 (sending false)).keyHeld f.key) = false ∧
    (Fits TEN_MPUBR 0xFF ∧ (∀ g ∈ List.range 8, unit.maskBusy g = false) ∧ bit 0xFF 0 = true ∧
      masked.maskBusy 0 = true ∧ Open .host 0x12 masked) ∧
    (unit.egr.host = [] ∧ unit.serves = true) ∧
    (0 ≤ (sending true).egrTok ∧ (sending true).serves = true ∧ (pick (sending true)).1 = some 0 ∧
      ((pick (sending true)).2.ses 0).queue = sframe true :: [] ∧ ((pick (sending true)).2.ses 0).roc < 2 ^ 32 ∧ (sframe true).begun = true ∧
      2 ^ 32 ≤ ((pick (sending true (2 ^ 32))).2.ses 0).roc ∧
      (match (let x := (pick (sending false)).2
              let y := x.ses 0
              indexCheck (x.tenKey y.tenant) y.ssrc (y.roc * 65536 + y.seq) x) with | .ok _ => true | .error _ => false) = true) ∧
    ((pick unit).1 = none ∧ 0 ≤ unit.egrTok ∧ ({ unit with egr := { unit.egr with tok := -1 } } : State).egrTok < 0) ∧
    (unit.live = true ∧ unit.handedOver = true ∧ (inStep 1).live = false) ∧
    (((session 4095 { st := .sending, words := entry, queue := [sframe false] }).ses 4095).queue = sframe false :: [] ∧
      ((session 4095 { st := .sending, words := entry, queue := [sframe false] }).ses 4095).src = 0 ∧ (sframe false).begun = false) := by
  repeat' first | exact open_host (by decide) (by decide) (by decide) | exact fits_of_legal (by decide) | refine And.intro ?_ ?_ | decide +kernel

/-- Medium `m` with a change. -/
def medium (m : Nat) (f : Medium → Medium) (s : State) : State := onMed m f s

/-- Stream `e` with a change. -/
def stream (e : Nat) (f : CelStream → CelStream) (s : State) : State := onStrm e f s

/-- Medium 1 is ready after `n` failed commands, and stream 15 records on it. -/
def writes (n : Nat) : State := stream 15 (fun x => { x with dest := 2, recording := true }) (medium 1 (fun x => { x with st := .ready, fails := n }) unit)

/-- What a failed opening reports. -/
def badOpen : MediumOpen := { good := false, capMiB := 0, wrate := 0, preEol := 0, lifeA := 0, lifeB := 0, label := none, index := none }

theorem witness_CellarMediaCommands :
    (unit.clk.waiting = false ∧ unit.inRind = false ∧ waiting.clk.waiting = true ∧ ((medium 1 (fun x => { x with st := .opening }) unit).med 1).st = .opening ∧
      (unit.med 1).st ≠ .opening ∧ badOpen.good = false) ∧
    ((writes 2).live = true ∧ ((writes 2).med 1).st = .ready ∧ (unit.med 1).st = .absent ∧
      (let x := onMed 1 (fun y => { y with fails := y.fails + 1 }) ((writes 2).count (CEL_MCNT 1) 31 24)
       3 ≤ (x.med 1).fails) ∧
      (let x := onMed 1 (fun y => { y with fails := y.fails + 1 }) ((writes 1).count (CEL_MCNT 1) 31 24)
       (x.med 1).fails < 3 ∧ (x.strm 15).dest = 1 + 1)) ∧
    (let s := medium 1 (fun x => { x with st := .unformatted, capMiB := 65536 }) unit
     Open .host 0x13 s ∧ (s.med 1).st = .unformatted ∧ s.medUsed 1 = false ∧ 64 ≤ wheelsOf (s.med 1).capMiB ∧ Open .host 0x13 unit) ∧
    (((medium 1 (fun x => { x with st := .off }) unit).med 1).st = .off ∧ (unit.med 1).st ≠ .off ∧ ((writes 0).med 1).st ≠ .absent) ∧
    (({ unit with cel := { unit.cel with fmt := some 1 } } : State).cel.fmt = some 1 ∧ ({ writes 0 with cel := { (writes 0).cel with fmt := some 1 } } : State).cel.fmt = some 1 ∧
      unit.cel.fmt = none) ∧
    (Fits CEL_WCMD (wheelWord 1 1 0x1FFFF) ∧ Fits CEL_WCMD (wheelWord 2 0 0) ∧
      (0x1FFFF : BitVec 17).toNat < ((medium 1 (fun x => { x with nw := 0x20000 }) unit).med 1).nw ∧ (unit.med 1).nw ≤ (0 : BitVec 17).toNat) ∧
    ((medium 1 (fun x => { x with wheels := [(5, {})] }) unit).med 1).wheels.lookup 5 ≠ none ∧ (unit.med 1).wheels.lookup 5 = none := by
  repeat' first | exact open_host (by decide) (by decide) (by decide) | exact fits_of_legal (by decide) | refine And.intro ?_ ?_ | decide +kernel

/-- Stream 15 has opened a record at a buddy, accepted or not, with the given frames unacknowledged. -/
def buddied (accepted : Bool) (un : List (VFrame × Nat)) : State := stream 15 (fun x => { x with buddy := some { port := 1, accepted, unacked := un } }) unit

/-- A record of a buddy is hosted. -/
def hosting : State := { unit with cel := { unit.cel with hosted := List.replicate 3 { port := 0, origin := 0, bid := 0, chan := 0, wheel := (0, 0) } } }

/-- Medium 1's wheel 5 is open, of this unit or another. -/
def openWheel (foreign : Bool) : State := medium 1 (fun x => { x with st := .full, wheels := [(5, { st := 1, foreign })] }) unit

theorem witness_CellarRecords :
    (unit.live = true ∧ (inStep 1).live = false ∧ ((stream 15 (fun x => { x with recording := true }) unit).strm 15).recording = true ∧
      ((stream 15 (fun x => { x with recording := true }) unit).strm 15).causes = 0 ∧ (unit.strm 15).recording = false) ∧
    (unit.serves = true ∧ (inStep 1).serves = false ∧ 15 < 16 ∧ unit.cel.hosted[18 - 16]? = none ∧ hosting.serves = true ∧
      hosting.cel.hosted[18 - 16]? = some { port := 0, origin := 0, bid := 0, chan := 0, wheel := (0, 0) }) ∧
    (((buddied false []).strm 15).buddy = some { port := 1, accepted := false, unacked := [] } ∧ (unit.strm 15).buddy = none) ∧
    (((buddied true [(vframe 10, 8), (vframe 10, 1)]).strm 15).buddy = some { port := 1, accepted := true, unacked := [(vframe 10, 8), (vframe 10, 1)] } ∧
      ((velvaErr 1 0 8 (buddied true [(vframe 10, 7)])).strm 15).buddy ≠ none) ∧
    (({ unit with cel := { unit.cel with pf := true } } : State).cel.pf = true ∧ unit.cel.pf = false) ∧
    (((openWheel false).med 1).st = .full ∧ (unit.med 1).st = .absent ∧
      ((openWheel false).med 1).wheels.find? (fun p => p.2.st == 1 && !(openWheel false).wheelBusy 1 p.1) = some (5, { st := 1 }) ∧
      ((openWheel true).med 1).wheels.find? (fun p => p.2.st == 1 && !(openWheel true).wheelBusy 1 p.1) = some (5, { st := 1, foreign := true }) ∧
      (unit.med 1).wheels.find? (fun p => p.2.st == 1 && !unit.wheelBusy 1 p.1) = none) := by decide +kernel

/-- A retrieval runs over the given wheels of medium 1, whose wheel 5 has one page, from page `page`. -/
def retrieving (ws : List Nat) (pages : List PageBuf) (page : Nat := 0) : State := { medium 1 (fun x => { x with st := .ready, wheels := [(5, { st := 2, npages := 1 })] }) unit with
  cel := { (medium 1 (fun x => { x with st := .ready, wheels := [(5, { st := 2, npages := 1 })] }) unit).cel with ret := { st := 1, med := 1, wheels := ws, page } }
  cp := { unit.cp with pages := pages } }

theorem witness_CellarRetrieves :
    (Open .host 0x13 unit ∧ unit.cel.ret.st ≠ 1 ∧ ((medium 1 (fun x => { x with st := .ready }) (withReg CEL_RSEL 0x80000000)).med
      ((medium 1 (fun x => { x with st := .ready }) (withReg CEL_RSEL 0x80000000)).fld CEL_RSEL 31 31)).st = .ready ∧
      Open .host 0x13 (medium 1 (fun x => { x with st := .ready }) (withReg CEL_RSEL 0x80000000))) ∧
    (Open .host 0x13 (retrieving [] []) ∧ (retrieving [] []).cel.ret.st = 1) ∧
    ((retrieving [5] []).serves = true ∧ (retrieving [5] []).cel.pf = false ∧ (retrieving [5] []).cel.ret.wheels = 5 :: [] ∧ (retrieving [5] []).cp.pages.length < 4 ∧
      (retrieving [5] []).cel.ret.page < (((retrieving [5] []).med (retrieving [5] []).cel.ret.med).wheel 5).npages ∧
      (((retrieving [5, 6] [] 1).med 1).wheel 5).npages ≤ (retrieving [5, 6] [] 1).cel.ret.page ∧ (retrieving [5, 6] [] 1).cel.ret.wheels = 5 :: [6]) ∧
    (retrieving [] []).cel.ret.wheels = [] ∧
    (4 ≤ (retrieving [5] (List.replicate 4 ⟨[], 0⟩)).cp.pages.length ∧ (retrieving [5] (List.replicate 4 ⟨[], 0⟩)).cel.ret.stallTold = false) ∧
    ((session 0 { st := .waitIdr, words := 0x00100000 :: entry.tail }).jobCode 7 1 = .ok ∧ unit.jobCode 7 1 ≠ .ok ∧
      (session 0 { st := .waitIdr, words := entry }).jobCode 7 1 = .eState ∧
      (({ unit with cel := { unit.cel with jobs := unit.cel.jobs.map fun j => { j with st := 1 } } } : State).cel.jobs.map (·.st)).getD 7 0 = 1) := by
  repeat' first | exact open_host (by decide) (by decide) (by decide) | refine And.intro ?_ ?_ | decide +kernel

/-! ### Witnesses: the serial ports and the reads with an effect -/

/-- Port 3 is enabled, with a change. -/
def serial (f : Uart → Uart := id) : State := onSer 3 f (withReg (UART_CFG 3) 0x80000000)

/-- The samples of the character 0x55 with eight data bits and no parity. -/
def char55 : List Nat := [0, 7, 0, 7, 0, 7, 0, 7, 0, 7]

/-- Port 3 waits for the character 0x55 to measure its rate. -/
def measuring : State := serial.setReg (UART_ABR 3) 0x80000055

theorem witness_UartsReceive :
    (serial.live = true ∧ serial.serEn 3 = true ∧ serial.flag (UART_ABR 3) 31 = false ∧ serial.flag (UART_CFG 3) 26 = false ∧ unit.serEn 3 = false ∧
      serDecode (serial.reg (UART_CFG 3)) char55 = some ⟨0x55, false, false, false, false⟩ ∧ serDecode (serial.reg (UART_CFG 3)) [] = none) ∧
    (64 ≤ ((serial fun x => { x with rx := List.replicate 64 0 }).ser 3).rx.length ∧ (serial.ser 3).rx.length < 64) ∧
    (measuring.live = true ∧ measuring.serEn 3 = true ∧ measuring.flag (UART_ABR 3) 31 = true ∧ measuring.fld (UART_ABR 3) 7 0 = 0x55 ∧
      abrP (measuring.reg (UART_CFG 3)) 0x55 ≠ 0 ∧ serDecode (measuring.reg (UART_CFG 3)) char55 = some ⟨0x55, false, false, false, false⟩ ∧
      667 ≤ (2 * (16 * 1000) + abrP (measuring.reg (UART_CFG 3)) 0x55) / (2 * abrP (measuring.reg (UART_CFG 3)) 0x55) ∧
      (2 * (16 * 1000) + abrP (measuring.reg (UART_CFG 3)) 0x55) / (2 * abrP (measuring.reg (UART_CFG 3)) 0x55) ≤ 6666667 ∧
      (2 * (16 * 1) + abrP (measuring.reg (UART_CFG 3)) 0x55) / (2 * abrP (measuring.reg (UART_CFG 3)) 0x55) < 667) ∧
    (((serial fun x => { x with idleTold := false }).setReg (UART_CFG 3) 0x8000FF00).live = true ∧
      ((serial fun x => { x with idleTold := false }).setReg (UART_CFG 3) 0x8000FF00).serEn 3 = true ∧
      ((serial fun x => { x with idleTold := false }).setReg (UART_CFG 3) 0x8000FF00).fld (UART_CFG 3) 15 8 ≠ 0 ∧
      (((serial fun x => { x with idleTold := false }).setReg (UART_CFG 3) 0x8000FF00).ser 3).idleTold = false ∧ (serial.ser 3).idleTold = true) ∧
    (Open .host 0x14 serial ∧ Fits (UART_ABR 3) 0x80000055 ∧ 4 ≤ abrP (serial.reg (UART_CFG 3)) (bits 0x80000055 7 0) ∧
      bit 0x800000FF 31 = true ∧ abrP (serial.reg (UART_CFG 3)) (bits 0x800000FF 7 0) < 4) := by
  repeat' first | exact open_host (by decide) (by decide) (by decide) | exact fits_of_legal (by decide) | refine And.intro ?_ ?_ | decide +kernel

/-- Port 3 writes a report line. -/
def reporting : State := (serial fun x => { x with line := 5 }).setReg GUT_D6CFG 0xB

theorem witness_UartsSend :
    (Open .host 0x14 serial ∧ Fits (UART_TX 3) 0xFF ∧ serial.serEn 3 = true ∧ serial.serLine 3 = false ∧ reporting.serEn 3 = true ∧ reporting.serLine 3 = true ∧
      Open .host 0x14 reporting ∧ ((serial fun x => { x with txq := List.replicate 63 0 }).ser 3).txq.length ≤ 63 ∧
      63 < ((serial fun x => { x with txq := List.replicate 64 0 }).ser 3).txq.length ∧ unit.serEn 3 = false ∧ Open .host 0x14 unit) ∧
    ((serial.ser 3).txq.length + (List.replicate 64 (0xFF : Word)).length ≤ 64 ∧ ((List.replicate 64 (0xFF : Word)).all fun w => w.toNat == bits w 7 0) = true ∧
      (256 : Word).toNat ≠ bits (256 : Word) 7 0 ∧ ¬ (List.replicate 65 (0 : Word)).length ≤ 64 ∧
      64 < ((serial fun x => { x with txq := [0] }).ser 3).txq.length + (List.replicate 64 (0xFF : Word)).length) ∧
    (serial.live = true ∧ (serial.ser 3).tx = none ∧ ((serial fun x => { x with tx := some (5, 0), txq := [1] }).ser 3).tx ≠ none ∧
      ((serial fun x => { x with tx := some (5, 0), txq := [1] }).ser 3).txq ≠ [] ∧ ((serial fun x => { x with tx := some (5, 0) }).ser 3).txq = []) ∧
    (((serial fun x => { x with de := true }).ser 3).de = true ∧ ((serial fun x => { x with de := true }).ser 3).tx = none ∧
      ((serial fun x => { x with de := true }).ser 3).txq = [] ∧ (serial.ser 3).de = false) ∧ (inStep 1).live = false := by
  repeat' first | exact open_host (by decide) (by decide) (by decide) | exact fits_of_legal (by decide) | refine And.intro ?_ ?_ | decide +kernel

theorem witness_ReadsWithEffectAndWindows :
    (May .host 0x03 unit ∧ May .host 0x09 unit ∧ May .host 0x11 unit ∧ May .host 0x14 unit ∧ May .host 0x05 unit ∧ May .host 0x06 unit ∧ May .host 0x0F unit) ∧
    (unit.i2cResult 0 = none ∧ ({ unit with int := { unit.int with i2c := [⟨0, 0, 0, true, 0, 0⟩] } } : State).i2cResult 0 = some ⟨0, 0, 0, true, 0, 0⟩) ∧
    (((withReg TBL_RSEL 0x80000000).tblRead (min 256 257)).1 = .ok ∧ (unit.tblRead (min 1 257)).1 ≠ .ok ∧ (unit.trackRead (min 256 257)).1 = .ok ∧
      ((withReg ANA_TADDR 511).trackRead (min 2 257)).1 ≠ .ok) ∧
    (Open .host 0x09 unit ∧ unit.fld INT_XLADDR 31 31 = 0 ∧ (unit.gen 0).rx = none ∧
      unit.fld INT_XLADDR 22 0 + (List.replicate 4096 (0 : Word)).length ≤ ceilDiv (unit.fld (INT_XGEOM 0) 31 16 * unit.fld (INT_XGEOM 0) 15 0) 2 ∧
      ((playing 1).gen 1).rx ≠ none ∧ ((playing 1).setReg INT_XLADDR 0x80000000).fld INT_XLADDR 31 31 = 1 ∧ Open .host 0x09 ((playing 1).setReg INT_XLADDR 0x80000000) ∧
      ceilDiv ((withReg INT_XLADDR 163840).fld (INT_XGEOM 0) 31 16 * (withReg INT_XLADDR 163840).fld (INT_XGEOM 0) 15 0) 2 <
        (withReg INT_XLADDR 163840).fld INT_XLADDR 22 0 + 1) := by
  repeat' first | exact may_host (by decide) (by decide) | exact open_host (by decide) (by decide) (by decide) | refine And.intro ?_ ?_ | decide +kernel

theorem witness_FollowUpsReachOnly : (0x02FFFF : Nat) < 0x030000 := by decide

/-! ### Ill-formed commands are refused -/

/-- A Velva frame whose hop count does not fit its field. -/
def badFrame : VFrame := { vframe 1 with hops := 256 }

theorem test_ill_formed_values : WellFormed (.poeInputValid ⟨0, 9⟩ 0 0) = false ∧ WellFormed (.startStepDone (.heads 64 0)) = false ∧
    WellFormed (.startStepFail 64 0) = false ∧ WellFormed (.reservedOp 6 0 0 32) = false ∧ WellFormed (.vlvDisagree 0 2) = false ∧
    WellFormed (.frameEnd 16 .none 0) = false ∧ WellFormed (.intDtUnknown 16 0 .none) = false ∧ WellFormed (.intVcUnmapped 16 .none) = false ∧
    WellFormed (.imageLine { lastLine with px := [16384] }) = false ∧ WellFormed (.ethernetFrame 0 [256] false) = false ∧
    WellFormed (.startupSeqTrigger [] ⟨0, false, 0, false⟩) = false ∧ WellFormed (.characterReceived 0 [8]) = false ∧ WellFormed (.autoBaudDone 0 [8] 0) = false := by
  decide +kernel

theorem test_ill_formed_lists : WellFormed (.spotCheckDone [⟨1, 0, 0⟩, ⟨0, 0, 0⟩]) = false ∧ WellFormed (.initialCalibrationDone [⟨0, 0, 0⟩, ⟨0, 0, 0⟩]) = false ∧
    WellFormed (.ripeningRound [⟨1, 0, 0⟩, ⟨0, 0, 0⟩]) = false ∧ WellFormed (.trimFullDone [⟨1, 0, 0⟩, ⟨0, 0, 0⟩]) = false := by decide

theorem test_ill_formed_records : WellFormed (.mediumOpenDone 0 { badOpen with wrate := 256 }) = false ∧
    WellFormed (.frameStart ⟨16, 1, 1000, 3333⟩ .none) = false := by decide

theorem test_ill_formed_frames : WellFormed (.rollcall 0 badFrame) = false ∧ WellFormed (.rcEntry 0 badFrame) = false ∧ WellFormed (.rcEnd 0 badFrame) = false ∧
    WellFormed (.gossip 0 badFrame) = false ∧ WellFormed (.beacon 0 badFrame) = false ∧ WellFormed (.alarm 0 badFrame) = false ∧
    WellFormed (.hopAck 0 badFrame) = false ∧ WellFormed (.linkEvt 0 badFrame) = false ∧ WellFormed (.ringCtl 0 badFrame) = false ∧
    WellFormed (.probe 0 badFrame) = false ∧ WellFormed (.buddyCtl 0 badFrame) = false ∧ WellFormed (.buddyData 0 badFrame) = false := by decide

theorem test_well_formed : WellFormed (.poeInputValid ⟨7, 8⟩ 7 7) = true ∧ WellFormed (.imageLine lastLine) = true ∧ WellFormed (.rollcall 0 (vframe 1)) = true := by
  decide +kernel

/-! ### Worked examples of the spec -/

/-- 00_scope, "Decoding a rejected write". -/
theorem test_write_codes : unit.writeCode .host 0x0D0042 0x82200000 = .eAlign ∧ unit.writeCode .host 0x0D0040 0x82200000 = .eCtx ∧
    (ctxIn 2 .on unit).writeCode .host 0x0D0040 0x82200000 = .ok ∧ unit.writeCode .host 0x0D0040 0x00000100 = .eRange := by decide +kernel

/-- 05_control_port, "Writing and reading back the host power limit": the CRC word and the trailer. -/
theorem test_port_crc : crcWord [0x2302000C, 0x00000FA0] = 0x33C0CC3F ∧ crc16 [0x1402000C, 0x00000FA0] = 0x4DFB := by decide +kernel

/-- The status words of the same example: after the STATUS read, after the write, after a write with a wrong CRC word. -/
theorem test_port_status :
    (txEnd .ok 0 true [] unit).statusWord = 0xA000000E ∧ (txEnd .ok 3 true [] unit).statusWord = 0xA000300E ∧
    (txEnd .eCrc 3 true [] unit).statusWord = 0xA006300E := by decide +kernel

/-- 10_references_and_ripening, "Reading a trim word": the trim moves by an eighth of the difference, and 0x4030 is rejected. -/
theorem test_ripening : (ripen (fun _ => true) ⟨0, 0x4020, -24⟩ { unit with trm := { unit.trm with vals := unit.trm.vals.set 0 0x4012FFE8 } }).trm.deferred.lookup 0 = some 0x4014FFE8 ∧
    withinJump 1 0 0x4012FFE8 0x4030 (-24) = false := by decide +kernel

/-- 11_housekeeping_adc, "Reading a trimmed result". -/
theorem test_hk_result : hkResult 0x4012FFE8 8000 = (8010, false) := by decide +kernel

/-- 13_sensor_intake, "Substrate temperature of a frame". -/
theorem test_substrate : telemetryCk (unit.reg (INT_HTSCAL 0)) 8010 = 29426 ∧ telemetryCk (unit.reg (INT_HTSCAL 0)) 7980 = 29403 := by decide +kernel

/-- 14_raw_denoise, Table 14.5. -/
theorem test_temporal : dnrThreshold 4 0x3800 = 18 ∧ dnrThreshold 4 0x0800 = 64 ∧ temporal 4 18 32012 32000 = (32003, false) ∧
    temporal 4 18 32032 32000 = (32004, false) ∧ temporal 4 14 32032 32000 = (32032, true) := by decide +kernel

/-- 15_nuc_and_press, "One pixel through correction and radiometry". -/
theorem test_correction : drift 32 (-4) 30315 20 = 20 ∧ correct ⟨-10, 0x4333, 32, -4, 0⟩ 30315 20 33536 = 33564 := by decide +kernel

/-- 16_render_colour_fusion, "A thermal pixel from corrected count to COLOUR". -/
theorem test_agc : filterStep 2074880 2083072 4 = 2076928 ∧ linValue 8105 8297 32900 = 2559 := by decide +kernel

/-- 01_engine_at_the_post, Table 1.7: the clocks of a shingle. -/
theorem test_shingles : runClocks true 32 640 512 = 12992 ∧ runClocks true 32 1920 1080 = 38592 := by decide

/-- 06_gutter: the report line of HB_HOST_LOST, `#E,018,00000000,00` with CR and LF. -/
theorem test_report_line : reportLine ⟨0x18, 0, 0, 0, false, 0, 0, 0⟩ =
    "#E,018,00000000,00".toList.map Char.toNat ++ [0x0D, 0x0A] := by decide +kernel

/-- 07_vat_machine, Table 7.12: ANDI keeps the low half, SLT sets 1, SLLI moves it to bit 1. -/
theorem test_guard : (match execAndi 0 3 1 0xFFFF (running 0) with | .next s => s.vreg 0 3 | _ => 0) = 1 ∧
    (match execSlt 0 4 0 1 (running 0) with | .next s => s.vreg 0 4 | _ => 0) = 1 ∧
    (match execSlli 0 4 1 1 (running 0) with | .next s => s.vreg 0 4 | _ => 0) = 2 := by decide +kernel

/-- 02_power_entry, "A frosty morning": 70 % passes R37's test and full duty does not. -/
theorem test_readmission :
    ({ (withReg PWR_HTR 0x146) with pwr := { unit.pwr with busP := 2240, busMv := 12000, htrMa := 2000, acValid := false, poeValid := true, grantClass := 6 } } : State).heaterFits = true ∧
    ({ (withReg PWR_HTR 0x164) with pwr := { unit.pwr with busP := 2240, busMv := 12000, htrMa := 2000, acValid := false, poeValid := true, grantClass := 6 } } : State).heaterFits = false := by
  decide +kernel

/-- A command puts its effect before those that wait, and an empty queue lets a tick pass. -/
theorem test_step : (match step { unit with pending := [.resetNRise, .cardInsert] } with | .next s => s.pending | _ => []) = [.cardInsert] ∧
    (match step unit with | .next s => s.time | _ => 0) = 1 := by decide +kernel

end Sys2Proof.Tests
end

section
/-! Proofs about the register bus (00_scope.md): what a refused access leaves. -/

namespace Sys2Proof.Machine

/-! ### Refused accesses as commands -/

@[simp] theorem turnedAway_busCode (o : Origin) (c : Code) (s : State) : (turnedAway o c s).busCode = c := by cases o <;> rfl
@[simp] theorem turnedAway_trm (o : Origin) (c : Code) (s : State) : (turnedAway o c s).trm = s.trm := by cases o <;> rfl
@[simp] theorem turnedAway_act (o : Origin) (c : Code) (s : State) : (turnedAway o c s).act = s.act := by cases o <;> rfl

/-- A refused write leaves the state it met, or what the register's own rule makes of that state on a refusal. -/
theorem exec_registerWrite_refused {o : Origin} {a : BitVec 24} {v : Word} {s : State} (ho : May o (a.toNat / 0x10000) s)
    (hne : s.writeCode o a.toNat v ≠ .ok) :
    ∃ x, (x = s ∨ x = (writeRule o a.toNat v s).rej s) ∧
      exec (.registerWrite o a v) s = .next (turnedAway o (s.writeCode o a.toNat v) x) := by
  rw [exec_registerWrite, execRegisterWrite, done, regWrite, access_may o _ _ s ho, busWrite]
  cases hr : regAt a.toNat with
  | none => exact ⟨s, .inl rfl, rfl⟩
  | some r =>
    dsimp only
    rw [if_neg hne]
    split
    · exact ⟨_, .inr rfl, rfl⟩
    · exact ⟨s, .inl rfl, rfl⟩

/-- Only REF_CMD and ACT_CMD have a rule that acts on a refusal, so any other refused write changes nothing (R6). -/
theorem exec_registerWrite_turnedAway {o : Origin} {a : BitVec 24} {v : Word} {s : State} (ho : May o (a.toNat / 0x10000) s)
    (hne : s.writeCode o a.toNat v ≠ .ok) (href : a.toNat ≠ REF_CMD) (hact : a.toNat ≠ ACT_CMD) :
    exec (.registerWrite o a v) s = .next (turnedAway o (s.writeCode o a.toNat v) s) := by
  obtain ⟨x, hx, h⟩ := exec_registerWrite_refused ho hne
  rw [writeRule_rej o a.toNat v s href hact] at hx
  rw [h, show x = s from hx.elim id id]

/-- A refused read takes nothing and returns a zero word. -/
theorem exec_rcRead_refused {o : Origin} {a : BitVec 24} {s : State} (ho : May o (a.toNat / 0x10000) s)
    (hne : s.readCode o a.toNat ≠ .ok) :
    exec (.rcRead o a) s = .next (settle (seenBy o { s with busCode := s.readCode o a.toNat, busData := [0] })) := by
  rw [exec_rcRead, execRcRead, done, regRead, access_may o _ _ s ho, busRead]
  dsimp only
  rw [if_neg hne]

/-- An access that write and read alike refuse with the same code changes nothing but the answer. -/
theorem exec_access_turnedAway {o : Origin} {a : BitVec 24} {v : Word} {s : State} {c : Code} (ho : May o (a.toNat / 0x10000) s)
    (hw : s.writeCode o a.toNat v = c) (hd : s.readCode o a.toNat = c) (hne : c ≠ .ok) (href : a.toNat ≠ REF_CMD)
    (hact : a.toNat ≠ ACT_CMD) :
    exec (.registerWrite o a v) s = .next (turnedAway o c s) ∧
    exec (.rcRead o a) s = .next (settle (seenBy o { s with busCode := c, busData := [0] })) := by
  have hwrite := exec_registerWrite_turnedAway ho (hw ▸ hne) href hact
  have hread := exec_rcRead_refused ho (hd ▸ hne)
  rw [hw] at hwrite
  rw [hd] at hread
  exact ⟨hwrite, hread⟩

/-! ### Absent and misaligned addresses (R1 to R3) -/

theorem pageRegs_unimplemented {p : Nat} (h : 0x16 ≤ p) : pageRegs p = [] := by
  unfold pageRegs
  split
  case h_23 => rfl
  all_goals omega

theorem regAt_unimplemented {a : Nat} (h : 0x160000 ≤ a) : regAt a = none := by
  rw [regAt, pageRegs_unimplemented (by omega)]
  rfl

theorem writeCode_absent {o : Origin} {a : Nat} {s : State} (v : Word) (hb : s.pageBusy o a = false) (hr : regAt a = none)
    (ha : a % 4 = 0) : s.writeCode o a v = .eAddr := by
  simp [State.writeCode, hr, hb, ha, firstCode]

theorem readCode_absent {o : Origin} {a : Nat} {s : State} (hb : s.pageBusy o a = false) (hr : regAt a = none)
    (ha : a % 4 = 0) : s.readCode o a = .eAddr := by
  simp [State.readCode, hr, hb, ha, firstCode]

theorem writeCode_misaligned {o : Origin} {a : Nat} {s : State} (v : Word) (hb : s.pageBusy o a = false) (ha : a % 4 ≠ 0) :
    s.writeCode o a v = .eAlign := by
  have hm : (a % 4 != 0) = true := bne_iff_ne.mpr ha
  unfold State.writeCode
  split <;> simp only [hb, hm, chk_false, chk_true, firstCode_ok] <;> rfl

theorem readCode_misaligned {o : Origin} {a : Nat} {s : State} (hb : s.pageBusy o a = false) (ha : a % 4 ≠ 0) :
    s.readCode o a = .eAlign := by
  have hm : (a % 4 != 0) = true := bne_iff_ne.mpr ha
  unfold State.readCode
  split <;> simp only [hb, hm, chk_false, chk_true, firstCode_ok] <;> rfl

theorem regAt_refCmd : regAt REF_CMD ≠ none := by decide
theorem regAt_actCmd : regAt ACT_CMD ≠ none := by decide

/-! ### The two rules that act on a refusal (R215, R250) -/

/-- `t` has the trims in force, the held record and the channels' states of `s`. -/
def SameTrimsAndChannels (s t : State) : Prop :=
  t.trm.vals = s.trm.vals ∧ t.trm.held = s.trm.held ∧ t.act.chans.map (·.st) = s.act.chans.map (·.st)

theorem SameTrimsAndChannels.refl (s : State) : SameTrimsAndChannels s s := ⟨rfl, rfl, rfl⟩

/-- A refused APPLY gives up the loaded record alone. -/
theorem rejectTrims_sameTrimsAndChannels (c : Code) (s : State) : SameTrimsAndChannels s (rejectTrims c s) := by
  unfold rejectTrims
  split
  · simp [SameTrimsAndChannels]
  · exact .refl s

/-- A FIRE refused for boost sets BNR, which is no part of the channel's state. -/
theorem fireRefused_sameTrimsAndChannels (n p : Nat) (s : State) : SameTrimsAndChannels s (fireRefused n p s) := by
  refine ⟨?_, ?_, ?_⟩
  · simp [fireRefused]
  · simp [fireRefused]
  · simpa [fireRefused] using map_upd (·.st) (fun c : Chan => { c with bnr := true }) (fun _ => rfl) s.act.chans n

/-- Of the commands of REF_CMD, APPLY alone acts on a refusal. -/
theorem writeRule_refCmd_rej (o : Origin) (v : Word) (s : State) :
    (writeRule o REF_CMD v s).rej = id ∨ (writeRule o REF_CMD v s).rej = rejectTrims s.applyCode := by
  rw [show writeRule o REF_CMD v s = (refWrite s.chanIdle REF_CMD v s).getD {} from rfl, refWrite,
    if_neg (by decide), if_pos rfl]
  split
  case h_2 => exact .inr rfl
  all_goals exact .inl rfl

/-- Of the commands of ACT_CMD, FIRE alone acts on a refusal. -/
theorem writeRule_actCmd_rej (o : Origin) (v : Word) (s : State) :
    (writeRule o ACT_CMD v s).rej = id ∨
      (writeRule o ACT_CMD v s).rej = fireRefused (bits v 17 16) (bits v 15 11) := by
  have hrej : (writeRule o ACT_CMD v s).rej = ((actWrite ACT_CMD v s).getD {}).rej := by
    change WriteRule.rej (((actWrite ACT_CMD v s).map _).getD {}) = _
    cases actWrite ACT_CMD v s with
    | none => rfl
    | some w => simp only [Option.map_some, Option.getD_some]; split <;> rfl
  rw [hrej, actWrite, if_pos rfl]
  dsimp only
  split
  case h_1 =>
    simp only [Option.getD_some]
    split
    · exact .inr rfl
    · exact .inl rfl
  all_goals exact .inl rfl

/-- Whatever a rule still does on a refusal at REF_CMD or ACT_CMD, trims and channel states stay. -/
theorem writeRule_rej_sameTrimsAndChannels (o : Origin) (a : Nat) (v : Word) (s t : State)
    (ha : a = REF_CMD ∨ a = ACT_CMD) : SameTrimsAndChannels t ((writeRule o a v s).rej t) := by
  rcases ha with rfl | rfl
  · rcases writeRule_refCmd_rej o v s with h | h <;> rw [h]
    · exact .refl t
    · exact rejectTrims_sameTrimsAndChannels _ t
  · rcases writeRule_actCmd_rej o v s with h | h <;> rw [h]
    · exact .refl t
    · exact fireRefused_sameTrimsAndChannels _ _ t

/-! ### The obligations -/

/-- Settles O9: a refused write meets either the state before it or its rule's action on a refusal, and only the rules of REF_CMD
and ACT_CMD have one (R215, R250; log entry 16), which reaches neither the trims in force and held nor a channel's state. -/
theorem rejectedWritesChangeNothing : Obligations.RejectedWritesChangeNothing := by
  unfold Obligations.RejectedWritesChangeNothing
  intro o a v s hmay hne
  refine ⟨exec_registerWrite_turnedAway hmay hne, fun ha => ?_⟩
  obtain ⟨x, hx, hexec⟩ := exec_registerWrite_refused hmay hne
  have hkept : SameTrimsAndChannels s x := by
    rcases hx with rfl | rfl
    · exact .refl x
    · exact writeRule_rej_sameTrimsAndChannels o a.toNat v s s ha
  exact ⟨_, hexec, by simp, by simpa [SameTrimsAndChannels] using hkept⟩

/-- Settles O6: an absent or misaligned address is neither REF_CMD nor ACT_CMD, so its refused access changes nothing. -/
theorem absentRegistersAnswerEAddr : Obligations.AbsentRegistersAnswerEAddr := by
  unfold Obligations.AbsentRegistersAnswerEAddr
  refine ⟨fun o a v s hmay hb hr ha => ?_, fun o a v s hmay hb ha => ?_, fun a h => regAt_unimplemented h⟩
  · exact exec_access_turnedAway hmay (writeCode_absent v hb hr ha) (readCode_absent hb hr ha) (by decide)
      (fun h => regAt_refCmd (h ▸ hr)) (fun h => regAt_actCmd (h ▸ hr))
  · exact exec_access_turnedAway hmay (writeCode_misaligned v hb ha) (readCode_misaligned hb ha) (by decide)
      (fun h => ha (h ▸ rfl)) (fun h => ha (h ▸ rfl))

end Sys2Proof.Machine
end

section
/-! Proofs about the table store (chapter 09): what is stored into staging and what DISCARD leaves. -/

namespace Sys2Proof.Machine

/-! ### Single writes to a write window (R110) -/

/-- A single write that no general check turns away meets the length check of a write window before the block's own rule. -/
theorem writeCode_writeWindow {o : Origin} {a : Nat} {s : State} {r : Reg} (v : Word) (hr : regAt a = some r)
    (hwin : r.win = .write) (ho : Open o (a / 0x10000) s) (ha : a % 4 = 0) (hk : (a == KEY_STAGE) = false)
    (hpre : (writeRule o a v s).pre.early = false) : s.writeCode o a v = .eLen := by
  have hb := pageBusy_open o a s ho
  obtain ⟨-, -, hclosing⟩ := ho
  unfold State.writeCode
  simp [hr, hb, ha, hwin, hclosing, hk, hpre, firstCode]

theorem writeRule_tblLoad (o : Origin) (v : Word) (s : State) : writeRule o TBL_LOAD v s = {} := rfl

/-- A single WRITE to TBL_LOAD is refused for its length and leaves the state (R110). -/
theorem busWrite_tblLoad {o : Origin} {s : State} (v : Word) (ho : Open o 0x05 s) : busWrite o TBL_LOAD v s = (.eLen, s) := by
  have hr : regAt TBL_LOAD = some (wwin TBL_LOAD) := by decide
  have hc : s.writeCode o TBL_LOAD v = .eLen :=
    writeCode_writeWindow v hr rfl ho (by decide) (by decide) (by rw [writeRule_tblLoad]; rfl)
  unfold busWrite
  simp [hr, hc, writeRule_tblLoad]

/-! ### Bulk writes to TBL_LOAD (R110, R188) -/

/-- `n` words fit a transaction (Table 5.5), and the staged image from TBL_LADDR on. -/
def State.StagingRoom (n : Nat) (s : State) : Prop :=
  1 ≤ n ∧ n ≤ 4096 ∧ s.fld TBL_LADDR 21 0 + n ≤ 8 + bankWords s.tbl.ltbl

theorem lenCode_eq_ok_iff {mx n : Nat} : lenCode mx n = .ok ↔ 1 ≤ n ∧ n ≤ mx := by
  have hok : lenCode mx n = .ok ↔ ¬ (n = 0 ∨ mx < n) := by simp [lenCode, chk]
  rw [hok]
  omega

/-- A length is either allowed or answered with E_LEN. -/
theorem lenCode_cases (mx n : Nat) : lenCode mx n = .ok ∨ lenCode mx n = .eLen := by
  unfold lenCode chk
  split
  · exact .inr rfl
  · exact .inl rfl

/-- Outside the entry into Rind, TBL_LOAD is judged by the length limit and by the staging area alone. -/
theorem winWriteCode_tblLoad {s : State} (ws : List Word) (hclosing : s.closing = false) :
    s.winWriteCode TBL_LOAD ws = (lenCode 4096 ws.length).first (tblLoadCode ws.length s) := by
  have hcode : s.windowCode TBL_LOAD ws = firstCode [chk s.closing .eState, tblLoadCode ws.length s] := rfl
  rw [State.winWriteCode, hcode, hclosing]
  cases tblLoadCode ws.length s <;> rfl

/-- Closed staging outranks a wrong length (R8; log entry 15). -/
theorem winWriteCode_tblLoad_closed {s : State} (ws : List Word) (hclosing : s.closing = false) (hst : s.tbl.isOpen = false) :
    s.winWriteCode TBL_LOAD ws = .eState := by
  have hcode : tblLoadCode ws.length s = .eState := by simp [tblLoadCode, hst]
  rw [winWriteCode_tblLoad ws hclosing, hcode]
  rcases lenCode_cases 4096 ws.length with h | h <;> rw [h] <;> rfl

theorem winWriteCode_tblLoad_room {s : State} (ws : List Word) (hclosing : s.closing = false) (hst : s.tbl.isOpen = true)
    (hroom : s.StagingRoom ws.length) : s.winWriteCode TBL_LOAD ws = .ok := by
  obtain ⟨hmin, hmax, hfit⟩ := hroom
  have hcode : tblLoadCode ws.length s = .ok := by simp [tblLoadCode, hst, hfit]
  rw [winWriteCode_tblLoad ws hclosing, hcode, lenCode_eq_ok_iff.mpr ⟨hmin, hmax⟩]
  rfl

theorem winWriteCode_tblLoad_noRoom {s : State} (ws : List Word) (hclosing : s.closing = false) (hst : s.tbl.isOpen = true)
    (hroom : ¬ s.StagingRoom ws.length) : s.winWriteCode TBL_LOAD ws = .eLen := by
  rw [winWriteCode_tblLoad ws hclosing]
  by_cases hfit : s.fld TBL_LADDR 21 0 + ws.length ≤ 8 + bankWords s.tbl.ltbl
  · have hlen : lenCode 4096 ws.length = .eLen :=
      (lenCode_cases 4096 ws.length).resolve_left fun h => hroom ⟨(lenCode_eq_ok_iff.mp h).1, (lenCode_eq_ok_iff.mp h).2, hfit⟩
    have hcode : tblLoadCode ws.length s = .ok := by simp [tblLoadCode, hst, hfit]
    rw [hlen, hcode]
    rfl
  · have hcode : tblLoadCode ws.length s = .eLen := by simp [tblLoadCode, hst, Nat.lt_of_not_le hfit]
    rw [hcode]
    rcases lenCode_cases 4096 ws.length with h | h <;> rw [h] <;> rfl

/-! ### DISCARD (R190) -/

/-- DISCARD, by the host or a thread, needs open staging and closes it with the staging bank EMPTY. -/
theorem writeRule_discard (o : Origin) (s : State) : writeRule o TBL_CMD (word (at_ 4 28)) s =
    { pre := chk (!s.tbl.isOpen) .eState, store := false, app := closeStaging {} false } := by
  have hcmd : bits (word (at_ 4 28)) 31 28 = 4 := by decide
  have hn : bits (word (at_ 4 28)) 7 0 = 0 := by decide
  have hrule : writeRule o TBL_CMD (word (at_ 4 28)) s = (tblWrite o s.pressNow TBL_CMD (word (at_ 4 28)) s).getD {} := rfl
  rw [hrule]
  simp [tblWrite, hcmd, hn]

theorem takesWrites_tblCmd : TakesWrites TBL_CMD 0x05 := ⟨by decide, by decide, by decide, by decide⟩

theorem closeStaging_cp (b : Bank) (held : Bool) (s : State) : (closeStaging b held s).cp = s.cp := rfl

theorem closeStaging_isOpen (b : Bank) (held : Bool) (s : State) : (closeStaging b held s).tbl.isOpen = false := rfl

theorem closeStaging_tabs (b : Bank) (held : Bool) (s : State) : (closeStaging b held s).tbl.tabs =
    (onTable s.tbl.ltbl (fun t => { t.setBank t.inactiveIx b with held }) s).tbl.tabs := rfl

theorem exec_discard_open {o : Origin} {s : State} (ho : Open o 0x05 s) (hst : s.tbl.isOpen = true) :
    exec (.discard o) s = .next (wrote o s (closeStaging {} false s)) := by
  have hfits : Fits TBL_CMD (word (at_ 4 28)) := fits_of_legal (by decide)
  rw [exec_discard, execDiscard,
    write_ok o TBL_CMD 0x05 _ s _ takesWrites_tblCmd ho hfits (writeRule_discard o s) (by simp [hst]) rfl rfl]
  rfl

theorem exec_discard_closed {o : Origin} {s : State} (ho : Open o 0x05 s) (hst : s.tbl.isOpen = false) :
    exec (.discard o) s = .next (turnedAway o .eState s) :=
  write_pre o TBL_CMD 0x05 _ s .eState _ takesWrites_tblCmd ho (writeRule_discard o s) (by simp [hst]) (by decide) rfl

/-! ### The obligation -/

/-- Settles O37: the code of a bulk write is the first of its length's and of the staging area's, in the order of R8 (R110, R188;
log entry 15); a single write meets the window's length check, and DISCARD is a TBL_CMD write that starts no operation (R190). -/
theorem stagingStoresAndDiscards : Obligations.StagingStoresAndDiscards := by
  unfold Obligations.StagingStoresAndDiscards
  refine ⟨fun ws s ho => ?_, fun o v s ho => busWrite_tblLoad v ho, fun o s ho => ⟨fun hst => ?_, exec_discard_closed ho⟩⟩
  · obtain ⟨hmay, -, hclosing⟩ := ho
    have haway {c : Code} := win_away TBL_LOAD 0x05 s c ws rfl hmay
    exact ⟨fun hst hroom => win_ok TBL_LOAD 0x05 s ws rfl hmay (winWriteCode_tblLoad_room ws hclosing hst hroom),
      fun hst => haway (winWriteCode_tblLoad_closed ws hclosing hst) (by decide),
      fun hst hroom => haway (winWriteCode_tblLoad_noRoom ws hclosing hst hroom) (by decide)⟩
  · exact ⟨exec_discard_open ho hst, closeStaging_cp .., closeStaging_isOpen .., closeStaging_tabs ..⟩

end Sys2Proof.Machine
end

section
/-! Proofs about the machine's step (00_scope.md): the queue, the pins, the state at reset, and what follows a change of state. -/

namespace Sys2Proof.Machine

/-! ### Every command ends in `done`, with the queue it was given -/

/-- The outcome of a command that ends with its pins following and the queue of `s`. -/
def KeepsQueue (s : State) (r : Host.Outcome State Fault Refusal) : Prop := ∃ x, r = done x ∧ x.pending = s.pending

theorem keepsQueue_done {s x : State} (h : x.pending = s.pending) : KeepsQueue s (done x) := ⟨x, rfl, h⟩

theorem keepsQueue_supplyQualify (r : Option (Fin 8)) (s : State) : KeepsQueue s (execSupplyQualify r s) := by
  refine keepsQueue_done ?_
  split
  · rfl
  · cases r with
    | none => dsimp only; split <;> simp
    | some r => dsimp only; split <;> simp

theorem keepsQueue_startStepDone (r : StepReport) (s : State) : KeepsQueue s (execStartStepDone r s) := by
  refine keepsQueue_done ?_
  split
  · rfl
  · split <;> simp

theorem keepsQueue_startStepFail (bad answered : Nat) (s : State) : KeepsQueue s (execStartStepFail bad answered s) := by
  refine keepsQueue_done ?_
  split
  · simp
  · split
    · rfl
    · split <;> simp [trimSourceCal]

theorem keepsQueue_norEraseDone (which : Fin 3) (s : State) : KeepsQueue s (execNorEraseDone which s) := by
  refine keepsQueue_done ?_
  split
  · rfl
  · split <;> simp

theorem keepsQueue_dispatch (s : State) : KeepsQueue s (execDispatch s) := by
  refine keepsQueue_done ?_
  split
  · rfl
  · split <;> simp

theorem keepsQueue_alarmHandoff (s : State) : KeepsQueue s (execAlarmHandoff s) := by
  refine keepsQueue_done ?_
  split <;> simp

theorem keepsQueue_markerHandoff (s : State) : KeepsQueue s (execMarkerHandoff s) := by
  refine keepsQueue_done ?_
  split <;> simp

theorem keepsQueue_wevtTimeout (t : Fin 8) (s : State) : KeepsQueue s (execWevtTimeout t s) := by
  refine keepsQueue_done ?_
  split
  · rfl
  · split
    · split <;> simp
    · rfl

theorem keepsQueue_recipeCheckDone (s : State) : KeepsQueue s (execRecipeCheckDone s) := by
  refine keepsQueue_done ?_
  split <;> simp

theorem keepsQueue_ethernetFrame (p : Fin 3) (bytes : List Nat) (damaged : Bool) (s : State) :
    KeepsQueue s (execEthernetFrame p bytes damaged s) := by
  have h := pending_ethernetFrame p.val bytes damaged s
  refine keepsQueue_done ((pending_followUp s _).trans ?_)
  dsimp only
  split <;> next heq => rw [heq] at h; simpa using h

/-- Every command ends in `done`; the meanings that branch over a report, a queue or a wait have lemmas of their own above, the
others are one expression over operations that keep the queue. -/
theorem exec_keepsQueue (c : Instr) (s : State) : KeepsQueue s (exec c s) := by
  cases c
  case supplyQualify r => exact keepsQueue_supplyQualify r s
  case startStepDone r => exact keepsQueue_startStepDone r s
  case startStepFail bad answered => exact keepsQueue_startStepFail bad answered s
  case norEraseDone which => exact keepsQueue_norEraseDone which s
  case dispatch => exact keepsQueue_dispatch s
  case alarmHandoff => exact keepsQueue_alarmHandoff s
  case markerHandoff => exact keepsQueue_markerHandoff s
  case wevtTimeout t => exact keepsQueue_wevtTimeout t s
  case recipeCheckDone => exact keepsQueue_recipeCheckDone s
  case ethernetFrame p bytes damaged => exact keepsQueue_ethernetFrame p bytes damaged s
  all_goals
    refine keepsQueue_done ?_
    simp

/-- What `done` answers shows its pins: they are those of the state without looking at the pins it had. -/
theorem pinsFollow_of_done {x t : State} (h : done x = .next t) : t.PinsFollow := by
  cases h
  rfl

theorem step_nil {s : State} (h : s.pending = []) : step s = done (tick s) := by
  unfold step
  rw [h]
  rfl

theorem step_cons {c : Instr} {rest : List Instr} {s : State} (h : s.pending = c :: rest) :
    step s = exec c { s with pending := rest } := by
  unfold step
  rw [h]

/-! ### What follows a change of state -/

theorem memGet_lowRegs (m : Store) {a : Nat} (h : a < 0x030000) : memGet resetWord (lowRegs m) a = memGet resetWord m a := by
  induction m with
  | nil => rfl
  | cons p m ih =>
    obtain ⟨k, w⟩ := p
    by_cases hk : k < 0x030000
    · rw [show lowRegs ((k, w) :: m) = (k, w) :: lowRegs m by simp [lowRegs, hk], memGet_cons, memGet_cons, ih]
    · rw [show lowRegs ((k, w) :: m) = lowRegs m by simp [lowRegs, hk], memGet_cons, ih, if_neg (by omega)]

/-- The registers of pages 0 to 2 are among what `beyond` keeps. -/
theorem reg_of_beyond {x y : State} (h : x.beyond = y.beyond) {a : Nat} (ha : a < 0x030000) : x.reg a = y.reg a := by
  rw [State.reg, ← memGet_lowRegs _ ha, lowRegs_of_beyond h, memGet_lowRegs _ ha, State.reg]

theorem settled_reg (y : State) (a : Nat) : (settle y).reg a = y.reg a := rfl
theorem settled_pending (y : State) : (settle y).pending = y.pending := rfl
theorem answered_reg (o : Origin) (y : State) (a : Nat) : (answered o y).reg a = y.reg a := by cases o <;> rfl
theorem answered_pending (o : Origin) (y : State) : (answered o y).pending = y.pending := by cases o <;> rfl

theorem after_reg (s x : State) {a : Nat} (ha : a < 0x030000) : (after s x).reg a = x.reg a := by
  rw [after_eq, settled_reg, reg_of_beyond (beyond_followUp s x) ha]

theorem wrote_reg (o : Origin) (s x : State) {a : Nat} (ha : a < 0x030000) : (wrote o s x).reg a = x.reg a := by
  rw [wrote_eq, answered_reg, reg_of_beyond (beyond_followUp s x) ha]

theorem after_pending (s x : State) : (after s x).pending = x.pending := by
  rw [after_eq, settled_pending, pending_followUp]

theorem wrote_pending (o : Origin) (s x : State) : (wrote o s x).pending = x.pending := by
  rw [wrote_eq, answered_pending, pending_followUp]

/-! ### The obligations -/

/-- Settles O1: the step takes the front command off the queue. -/
theorem stepRunsTheFrontCommand : Obligations.StepRunsTheFrontCommand := fun _ _ _ h => step_cons h

/-- Settles O2: on an empty queue the step is a tick, which goes on in `clockTick` while the clocks run. -/
theorem emptyQueueLetsATickPass : Obligations.EmptyQueueLetsATickPass := by
  intro s h
  have hrun : State.clocksRun { s with time := s.time + 1 } = s.clocksRun := rfl
  refine ⟨settle (tick s), step_nil h, (pending_tick s).trans h, fun hc => ?_, fun hc => ?_⟩
  · rw [tick, hrun, hc, if_neg Bool.false_ne_true]
  · rw [tick, hrun, hc, if_pos rfl]

/-- Settles O3: a tick and every command end in `done`, which sets the pins last. -/
theorem everyStepMakesThePinsFollow : Obligations.EveryStepMakesThePinsFollow := by
  intro s t h
  cases hq : s.pending with
  | nil => exact pinsFollow_of_done ((step_nil hq).symm.trans h)
  | cons c rest =>
    obtain ⟨x, hx, -⟩ := exec_keepsQueue c { s with pending := rest }
    exact pinsFollow_of_done (hx.symm.trans ((step_cons hq).symm.trans h))

/-- Settles O4: the operations of a command's meaning keep the queue, and so does setting the pins (log entry 1). -/
theorem noCommandTouchesTheQueue : Obligations.NoCommandTouchesTheQueue := by
  intro c s
  obtain ⟨x, hx, hq⟩ := exec_keepsQueue c s
  exact ⟨settle x, hx, hq⟩

/-- Settles O5: the reset state evaluates; what it leaves open is log entries 3 and 4. -/
theorem resetStartsAtStepOne : Obligations.ResetStartsAtStepOne := by
  unfold Obligations.ResetStartsAtStepOne
  refine ⟨rfl, rfl, rfl, rfl, rfl, rfl, rfl, rfl, rfl, rfl, rfl, rfl, ?_, rfl⟩
  decide

/-- Settles O60: `followUp` leaves what `State.beyond` keeps, and the bus answer adds the host's presence alone. -/
theorem followUpsReachOnly : Obligations.FollowUpsReachOnly := by
  refine ⟨beyond_followUp, fun s x => ⟨?_, after_start s x⟩, fun o s x => ⟨?_, ?_⟩⟩
  · refine ⟨fun a ha => after_reg s x ha, ?_⟩
    simp [after_pending]
  · refine ⟨fun a ha => wrote_reg o s x ha, ?_⟩
    simp [wrote_pending]
  · rw [wrote_start, seenBy_start]

end Sys2Proof.Machine
end

section
/-! Proofs about power entry (chapter 02): the governor, the loads that it governs, and the writes of the PWR_ registers. -/

namespace Sys2Proof.Machine

/-! ### A command that acts under a condition -/

theorem done_eq {x y : State} (h : x = y) : done x = .next (settle y) := by rw [h]; rfl

/-- A command acts where its condition holds. -/
theorem done_pos {c : Prop} [Decidable c] {x y : State} (h : c) : done (if c then x else y) = .next (settle x) :=
  done_eq (if_pos h)

/-- A command whose condition fails leaves the other state, mostly the one it met. -/
theorem done_neg {c : Prop} [Decidable c] {x y : State} (h : ¬ c) : done (if c then x else y) = .next (settle y) :=
  done_eq (if_neg h)

theorem done_pos_eq {c : Prop} [Decidable c] {x y z : State} (h : c) (hx : x = z) :
    done (if c then x else y) = .next (settle z) := (done_pos h).trans (hx ▸ rfl)

/-- A command that other blocks follow, its effect given as an equation. -/
theorem done_after {s x y : State} (h : y = followUp s x) : done y = .next (after s x) := by rw [h]; rfl

/-! ### The governor (R35 to R38) -/

theorem judgeOver_eq (s : State) : judgeOver s = { s with pwr :=
    let o := !s.pwr.powerFail && (s.pwr.busStale || decide (s.effLimit < s.pwr.busP))
    let new := o && !s.pwr.exceeded
    { s.pwr with exceeded := o, overSince := if new then s.time else s.pwr.overSince
                 eavesSince := if new then s.time else s.pwr.eavesSince } } := by
  unfold judgeOver
  dsimp only
  split
  · next h => simp [(Bool.and_eq_true_iff.mp h).1]
  · rfl

theorem shedHeat_of_not {s : State} (h : s.pwr.heatShed = false) : shedHeat s = raiseN 0x003 0
    { cutOnTime s with pwr := { (cutOnTime s).pwr with heatShed := true } } := if_neg (by simp [h])

theorem shedBoost_of_not {s : State} (h : s.pwr.boostLim = false) : shedBoost s =
    raiseN 0x004 0 { s with pwr := { s.pwr with boostLim := true } } := if_neg (by simp [h])

theorem forceEaves_of_not {s : State} (h : s.pwr.eavesForced = false) : forceEaves s =
    raiseN 0x005 0 { s with pwr := { s.pwr with eavesForced := true } } := if_neg (by simp [h])

/-- Settles O12: each command acts exactly under its condition (R36, R37). -/
theorem governorShedsAndReadmits : Obligations.GovernorShedsAndReadmits := by
  refine ⟨fun p s h => ?_, fun p s h => done_neg (by simp [h]), fun s hg h => ?_, fun s hg h => ?_, fun s hg h => ?_,
    fun s hg => ⟨done_neg (by simp [hg]), done_neg (by simp [hg]), done_neg (by simp [hg])⟩, fun s => ⟨?_, ?_⟩, fun s => ⟨?_, ?_⟩⟩
  · exact done_pos_eq h (judgeOver_eq _)
  · exact done_pos_eq hg (congrArg (heaterFollow s) (shedHeat_of_not h))
  · exact done_pos_eq hg (shedBoost_of_not h)
  · exact done_pos_eq hg (forceEaves_of_not h)
  · exact fun hl hf ho hp => done_pos (by simp [hl, hf, ho, hp])
  · rintro (h | h | h | h) <;> exact done_neg (by simp [h])
  · exact fun hh hl hf ho hp => done_pos (by simp [hh, hl, hf, ho, hp])
  · rintro (h | h | h | h | h) <;> exact done_neg (by simp [h])

/-! ### The heater, the head supply, the HBUS limiter and the rails (R40, R44, R45, R525) -/

theorem endOnTime_off {s : State} (ms : Nat) (h : s.pwr.htrOn = false) : endOnTime ms s = s := if_pos (by simp [h])

theorem endOnTime_unjudged {ms : Nat} {s : State} (hon : s.pwr.htrOn = true)
    (h : ms < 10 ∨ s.pwr.htrSeen = false ∨ s.isStale 15 = true) :
    endOnTime ms s = { s with pwr := { s.pwr with htrOn := false } } := by
  have hc : ¬ (10 ≤ ms ∧ s.pwr.htrSeen = true ∧ (!s.isStale 15) = true) := by
    rintro ⟨h1, h2, h3⟩
    rcases h with h | h | h
    · omega
    · simp [h] at h2
    · simp [h] at h3
  exact (if_neg (by simp [hon])).trans (if_neg hc)

theorem endOnTime_judged {ms : Nat} {s : State} (hon : s.pwr.htrOn = true) (hms : 10 ≤ ms) (hseen : s.pwr.htrSeen = true)
    (hstale : s.isStale 15 = false) : endOnTime ms s = raiseIf (!s.pwr.htrReached && !s.pwr.htrOpen) 0x009 0
      { s with pwr := { s.pwr with htrOn := false, htrOpen := !s.pwr.htrReached } } :=
  (if_neg (by simp [hon])).trans (if_pos ⟨hms, hseen, by simp [hstale]⟩)

/-- Settles O13: each command acts exactly under its condition; a period that starts reads its duty after the on-time before it has
ended, which touches no PWR_ register. -/
theorem heaterHeadSupplyAndHbus : Obligations.HeaterHeadSupplyAndHbus := by
  refine ⟨fun s h => ?_, fun s h => done_neg (by simp [h]), fun m s hon h => done_eq (endOnTime_unjudged hon h),
    fun m s hon hms hseen hst => done_eq (endOnTime_judged hon hms hseen hst), fun m s h => done_eq (endOnTime_off _ h),
    fun s hon h => done_pos (by simp [hon, h]), ?_, fun s => ⟨fun h => done_pos h, fun h => done_neg (by simp [h])⟩,
    fun s => ⟨fun h => done_pos h, fun h => done_neg (by simp [h])⟩,
    fun s => ⟨fun h => done_pos (by simp [h]), done_neg (by simp), fun h => done_neg (by simp [h])⟩,
    fun s rail => ⟨fun h => done_pos h, fun h => done_neg (by simp [h])⟩⟩
  · refine done_pos_eq h ?_
    have hd : (endOnTime s.pwr.htrDuty s).fld PWR_HTR 6 0 = s.fld PWR_HTR 6 0 :=
      congrArg (bits · 6 0) (reg_of_beyond (beyond_endOnTime _ s) (by decide))
    have ht : (endOnTime s.pwr.htrDuty s).time = s.time := time_of_beyond (beyond_endOnTime _ s)
    rw [startHeaterPeriod, hd]
    simp only [ht]
  · rintro s (h | h) <;> exact done_neg (by simp [h])

/-! ### The PWR_ registers -/

/-- The conditions of `TakesWrites` evaluate. -/
theorem takesWrites_of {a p : Nat}
    (h : (Writable a && a / 0x10000 == p && a % 4 == 0 && !(a == KEY_STAGE)) = true) : TakesWrites a p := by
  simp only [Bool.and_eq_true, Bool.not_eq_true', beq_iff_eq] at h
  obtain ⟨⟨⟨hw, hp⟩, ha⟩, hk⟩ := h
  exact ⟨hw, hp, ha, hk⟩

/-- A legal write that the register's rule takes, the rule's effect given as an equation. -/
theorem write_acts {o : Origin} {a p : Nat} {v : Word} {s x : State} (f : TakesWrites a p) (ho : Open o p s) (hf : Fits a v)
    (h1 : (writeRule o a v s).pre = .ok) (h2 : (writeRule o a v s).bad = false) (h3 : (writeRule o a v s).post = .ok)
    (hx : (writeRule o a v s).app (if (writeRule o a v s).store then s.setReg a (s.written a v) else s) = x) :
    done (regWrite o a v s) = .next (wrote o s x) := hx ▸ write_ok o a p v s _ f ho hf rfl h1 h2 h3

theorem takesWrites_pwrGov : TakesWrites PWR_GOV 0x02 := takesWrites_of (by decide)
theorem takesWrites_pwrClr : TakesWrites PWR_CLR 0x02 := takesWrites_of (by decide)
theorem takesWrites_pwrHtr : TakesWrites PWR_HTR 0x02 := takesWrites_of (by decide)

/-- Settles O14: PWR_GOV checks its delays and applies them, PWR_CLR's bits act each alone, PWR_HTR lets the heater follow. -/
theorem powerRegistersAct : Obligations.PowerRegistersAct := by
  refine ⟨fun o v s ho hf => ⟨fun h1 h2 => ?_, fun h => ?_⟩, fun o s ho => ⟨fun hp hl he => ?_, fun hp hl he => ?_, fun h => ?_⟩,
    fun o s ho => ?_, fun o s ho => ?_, fun o v s ho hf => ?_⟩
  · have hb : (writeRule o PWR_GOV v s).bad = false := by
      change (!(decide _ && decide _)) = false
      simp [h1, h2]
    exact write_acts takesWrites_pwrGov ho hf rfl hb rfl rfl
  · have hb : (writeRule o PWR_GOV v s).bad = true := by
      change (!(decide _ && decide _)) = true
      simp
      omega
    exact write_bad o PWR_GOV 0x02 v s _ takesWrites_pwrGov ho rfl rfl hb rfl
  · have hpre : (writeRule o PWR_CLR 1 s).pre = .ok := by
      change chk (_ && (s.pwr.powerFail || decide (s.effLimit < 1600))) .eState = .ok
      simp [hp, Nat.not_lt.mpr hl]
    exact write_acts takesWrites_pwrClr ho (fits_of_legal (by decide)) hpre rfl rfl (if_pos he)
  · have hpre : (writeRule o PWR_CLR 1 s).pre = .ok := by
      change chk (_ && (s.pwr.powerFail || decide (s.effLimit < 1600))) .eState = .ok
      simp [hp, Nat.not_lt.mpr hl]
    exact write_acts takesWrites_pwrClr ho (fits_of_legal (by decide)) hpre rfl rfl
      (if_neg (show ¬ s.pwr.eavesForced = true by simp [he]))
  · have hpre : (writeRule o PWR_CLR 1 s).pre = .eState := by
      change chk (true && (s.pwr.powerFail || decide (s.effLimit < 1600))) .eState = .eState
      rcases h with h | h <;> simp [h]
    exact write_pre o PWR_CLR 0x02 1 s .eState _ takesWrites_pwrClr ho rfl hpre (by decide) rfl
  · exact write_acts takesWrites_pwrClr ho (fits_of_legal (by decide)) rfl rfl rfl rfl
  · exact write_acts takesWrites_pwrClr ho (fits_of_legal (by decide)) rfl rfl rfl rfl
  · exact write_acts takesWrites_pwrHtr ho hf rfl rfl rfl rfl

/-! ### The inputs (R26 to R35) -/

/-- The last valid input has gone (R30, R31). -/
theorem inputsChanged_lost {before s : State} {p : Power} (hno : (p.acValid || p.poeValid) = false)
    (hwas : (before.pwr.acValid || before.pwr.poeValid) = true) : inputsChanged before { s with pwr := p } =
      let x := cutOnTime { s with pwr := p }
      raiseN 0x002 0 (raiseN 0x000 0
        { x with pwr := { x.pwr with powerFail := true, limBefore := before.effLimit, exceeded := false } }) :=
  if_pos (by simp only [hno, hwas]; rfl)

/-- An input has returned under POWER_FAIL (R32). -/
theorem inputsChanged_back {before s : State} {p : Power} (hany : (p.acValid || p.poeValid) = true) (hpf : p.powerFail = true) :
    inputsChanged before { s with pwr := p } = heaterFollow before (hsupFollow (
      let x := raiseN 0x002 0 (raiseN 0x001 0 { s with pwr := { p with powerFail := false } })
      if p.limBefore < x.effLimit then { x with pwr := { x.pwr with eavesForced := false } } else x)) := by
  have h1 : ¬ ((!(p.acValid || p.poeValid) && (before.pwr.acValid || before.pwr.poeValid)) = true) := by simp [hany]
  have h2 : ((p.acValid || p.poeValid) && p.powerFail) = true := by simp [hany, hpf]
  refine (if_neg h1).trans ((if_pos h2).trans ?_)
  simp [endForcedEaves]

/-- The source may have changed, without POWER_FAIL (R28, R38). -/
theorem inputsChanged_other {before s : State} {p : Power} (hany : (p.acValid || p.poeValid) = true) (hpf : p.powerFail = false) :
    inputsChanged before { s with pwr := p } =
      let x := raiseIf (p.active != before.pwr.active) 0x002 0 { s with pwr := p }
      if before.effLimit < x.effLimit then { x with pwr := { x.pwr with eavesForced := false } } else x := by
  have h1 : ¬ ((!(p.acValid || p.poeValid) && (before.pwr.acValid || before.pwr.poeValid)) = true) := by simp [hany]
  have h2 : ¬ (((p.acValid || p.poeValid) && p.powerFail) = true) := by simp [hpf]
  exact (if_neg h1).trans (if_neg h2)

/-- In Cold the power entry only notes a change of its inputs. -/
theorem inputEvent_cold {f : Power → Power} {s : State} (h : s.start.phase = .cold) : inputEvent f s = { s with pwr := f s.pwr } :=
  if_pos (by rw [h]; rfl)

theorem inputEvent_live {f : Power → Power} {s x : State} (h : s.start.phase ≠ .cold)
    (hx : inputsChanged s { s with pwr := f s.pwr } = x) :
    inputEvent f s = followUp s (if x.pwr.powerFail && !s.pwr.powerFail then celPowerFail x else x) := by
  subst hx
  exact if_neg (by simpa using h)

/-- An input that appears outside a hold of step 1 is an event of the inputs alone. -/
theorem inputAppears_free {f : Power → Power} {s : State} (h : s.start.step1Hold = false) :
    inputAppears f s = inputEvent (fun p => { f p with busUp := true, busGood := true }) s := if_neg (by simp [h])

theorem inputAppears_held {f : Power → Power} {s t : State} (h : s.start.step1Hold = true) (ha : s.pwr.acValid = false)
    (hp : s.pwr.poeValid = false) (ht : inputEvent (fun p => { f p with busUp := true, busGood := true }) s = t) :
    inputAppears f s = setStep 1 { t with start := { t.start with step1Hold := false, step1Fails := 0, waitRetry := false } } := by
  subst ht
  exact if_pos (by simp [h, ha, hp])

/-- The inputs and the bus of two states agree. -/
def SameInputs (x y : State) : Prop :=
  x.pwr.acValid = y.pwr.acValid ∧ x.pwr.poeValid = y.pwr.poeValid ∧ x.pwr.busGood = y.pwr.busGood

theorem sameInputs_of_beyond {x y : State} (h : x.beyond = y.beyond) : SameInputs x y := by
  have hp := pwr_of_beyond h
  exact ⟨(congrArg Power.acValid hp :), (congrArg Power.poeValid hp :), (congrArg Power.busGood hp :)⟩

theorem SameInputs.trans {x y z : State} (h : SameInputs x y) (g : SameInputs y z) : SameInputs x z :=
  ⟨h.1.trans g.1, h.2.1.trans g.2.1, h.2.2.trans g.2.2⟩

/-- What follows a change of the inputs changes neither them nor the bus. -/
theorem sameInputs_inputsChanged (before s : State) {p : Power} (hany : (p.acValid || p.poeValid) = true) :
    SameInputs (inputsChanged before { s with pwr := p }) { s with pwr := p } := by
  cases hpf : p.powerFail with
  | true =>
    rw [inputsChanged_back hany hpf]
    refine (sameInputs_of_beyond (beyond_heaterFollow _ _)).trans ?_
    dsimp only
    unfold hsupFollow
    split <;> split <;> simp [SameInputs]
  | false =>
    rw [inputsChanged_other hany hpf]
    dsimp only
    split <;> simp [SameInputs]

/-- An event of the inputs under which one stays valid sets them as told. -/
theorem sameInputs_inputEvent {f : Power → Power} {s : State} (hany : ((f s.pwr).acValid || (f s.pwr).poeValid) = true) :
    SameInputs (inputEvent f s) { s with pwr := f s.pwr } := by
  by_cases hc : s.start.phase = .cold
  · rw [inputEvent_cold hc]
    exact ⟨rfl, rfl, rfl⟩
  · rw [inputEvent_live hc rfl]
    refine (sameInputs_of_beyond (beyond_followUp _ _)).trans ?_
    refine SameInputs.trans ?_ (sameInputs_inputsChanged s s hany)
    split
    · exact ⟨rfl, rfl, rfl⟩
    · exact ⟨rfl, rfl, rfl⟩

/-- An input that appears, by either command, as one change of the power entry. -/
theorem exec_appears {s : State} {c : Instr} {p : Power} {cls : PoeClass} {type events : Nat} (h1 : 1 ≤ cls.granted)
    (h8 : cls.granted ≤ 8)
    (h : (c = .acInputValid ∧ s.pwr.acValid = false ∧ p = { s.pwr with acValid := true, busUp := true, busGood := true }) ∨
      (c = .poeInputValid cls type events ∧ s.pwr.poeValid = false ∧
        p = { s.pwr with poeValid := true, reqClass := cls.strap.val + 1, grantClass := cls.granted, pseType := type % 8,
                         classEvents := events % 8, busUp := true, busGood := true })) :
    ∃ f, exec c s = done (inputAppears f s) ∧ p = { f s.pwr with busUp := true, busGood := true } ∧
      (p.acValid || p.poeValid) = true ∧ p.powerFail = s.pwr.powerFail ∧ p.limBefore = s.pwr.limBefore := by
  rcases h with ⟨rfl, hv, rfl⟩ | ⟨rfl, hv, rfl⟩
  · exact ⟨_, done_neg (by simp [hv]), rfl, rfl, rfl, rfl⟩
  · have hc : ¬ (s.pwr.poeValid = true ∨ cls.granted = 0 ∨ 8 < cls.granted) := by simp [hv]; omega
    exact ⟨_, done_neg hc, rfl, by simp, rfl, rfl⟩

/-- An input that goes, by either command, as one change of the power entry. -/
theorem exec_goes {s : State} {c : Instr} {p : Power}
    (h : (c = .acInputInvalid ∧ s.pwr.acValid = true ∧ p = { s.pwr with acValid := false }) ∨
      (c = .poeInputInvalid ∧ s.pwr.poeValid = true ∧ p = { s.pwr with poeValid := false })) :
    ∃ f, exec c s = done (inputEvent f s) ∧ f s.pwr = p ∧ (s.pwr.acValid || s.pwr.poeValid) = true ∧
      p.powerFail = s.pwr.powerFail := by
  rcases h with ⟨rfl, hv, rfl⟩ | ⟨rfl, hv, rfl⟩
  · exact ⟨_, done_neg (by simp [hv]), rfl, by simp [hv], rfl⟩
  · exact ⟨_, done_neg (by simp [hv]), rfl, by simp [hv], rfl⟩

/-- Without POWER_FAIL before and after, an event of the inputs is a change of the source. -/
theorem inputEvent_source {f : Power → Power} {s : State} {p : Power} (hf : f s.pwr = p) (hc : s.start.phase ≠ .cold)
    (hany : (p.acValid || p.poeValid) = true) (hpf : s.pwr.powerFail = false) (hp : p.powerFail = s.pwr.powerFail) :
    inputEvent f s = followUp s (
      let x := raiseIf (p.active != s.pwr.active) 0x002 0 { s with pwr := p }
      if s.effLimit < x.effLimit then { x with pwr := { x.pwr with eavesForced := false } } else x) := by
  subst hf
  rw [inputEvent_live hc (inputsChanged_other hany (hp.trans hpf)), if_neg]
  dsimp only
  split <;> simp [hp, hpf]

/-- Settles O11: both kinds of input make the same change of the power entry, which reports the source, takes or releases
POWER_FAIL and lets the others follow. -/
theorem inputsComeAndGo : Obligations.InputsComeAndGo := by
  refine ⟨fun s c p cls type events h1 h8 h => ?_, fun s c p h => ?_, fun s cls type events => ⟨?_, ?_, ?_, ?_⟩⟩
  · obtain ⟨f, hexec, hp, hany, hpf, hlim⟩ := exec_appears h1 h8 h
    rw [hexec]
    refine ⟨fun hc hh => ?_, fun hc hh hno => ?_, fun hc hh hfail => ?_, fun hh ha hpoe => ?_⟩
    · exact done_eq (by rw [inputAppears_free hh, inputEvent_cold hc, hp])
    · exact done_after (by rw [inputAppears_free hh, inputEvent_source hp.symm hc hany hno hpf])
    · refine done_after ?_
      rw [inputAppears_free hh, inputEvent_live hc (inputsChanged_back (hp ▸ hany) (by rw [← hp, hpf, hfail])), if_neg (by simp [hfail]),
        ← hp, hlim]
    · have hin := sameInputs_inputEvent (f := fun p => { f p with busUp := true, busGood := true }) (s := s) (hp ▸ hany)
      rw [inputAppears_held hh ha hpoe rfl]
      obtain ⟨hac, hpo, hbus⟩ := hin
      exact ⟨_, rfl, rfl, rfl, rfl, hac.trans (congrArg Power.acValid hp.symm), hpo.trans (congrArg Power.poeValid hp.symm), hbus⟩
  · obtain ⟨f, hexec, hf, hwas, hpf⟩ := exec_goes h
    rw [hexec]
    refine ⟨fun hc => ?_, fun hc hany hno => ?_, fun hc ha hpoe hno => ?_⟩
    · exact done_eq (by rw [inputEvent_cold hc, hf])
    · exact done_after (inputEvent_source hf hc (by simpa using hany) hno hpf)
    · refine done_after ?_
      rw [inputEvent_live hc (inputsChanged_lost (by rw [hf, ha, hpoe]; rfl) hwas), if_pos (by simp [hno]), hf]
  · exact fun h => done_pos h
  · exact fun h => done_pos (by simp [h])
  · exact fun h => done_pos (Or.inl h)
  · exact fun h => done_pos (by simp [h])

end Sys2Proof.Machine
end

section
/-! Proofs about the clock tree (chapter 03). -/

namespace Sys2Proof.Machine

/-! ### Losses of the clock (R57 to R61, R68, R74) -/

theorem pllUsed_starting {s : State} (hp : s.start.phase = .start) (hs : s.start.step = 3) : s.pllUsed = false := by
  simp [State.pllUsed, hp, hs]

theorem pllUsed_waking {s : State} (hp : s.start.phase = .waking) : s.pllUsed = false := by
  simp [State.pllUsed, hp]

/-- A PLL loss without a complete self-refresh entry is abrupt (R60). -/
theorem pllLoss_abrupt (s : State) : pllLoss false s = pllLost (abruptLoss s) := by
  rw [pllLoss, Bool.and_false, if_neg Bool.false_ne_true]

/-- Settles O15: each command acts exactly under its condition; a crystal failure in step 3 fails that step instead. -/
theorem clockLossesStopTheUnit : Obligations.ClockLossesStopTheUnit := by
  refine ⟨fun s hu hs => done_pos (by simp [hu, hs]), ?_, fun s r h => done_pos h, fun s r h => done_neg (by simp [h]),
    fun s hu hx => done_pos_eq (by simp [hu, hx]) (by rw [pllLoss_abrupt]), fun s hu hx => ?_, fun s abrupt => ⟨rfl, rfl, rfl, rfl⟩,
    fun s hp hs => ?_, fun s hp hs => ?_, fun s hon hr => done_pos (by simp [hon, hr]), ?_⟩
  · rintro s (h | h) <;> exact done_neg (by simp [h])
  · have hphase : ¬ (s.start.phase == .start && s.start.step == 3) = true ∧
        ¬ (s.start.phase == .waking && s.start.wakeStep == 3) = true := by
      simp only [State.pllUsed] at hu
      constructor <;> intro h <;> simp_all
    exact done_eq ((if_neg (by simp [hx])).trans ((if_neg hphase.1).trans (if_neg hphase.2)))
  · exact done_eq ((if_neg (by simp [pllUsed_starting hp hs])).trans (if_pos (by simp [hp, hs])))
  · exact done_eq ((if_neg (by simp [pllUsed_waking hp])).trans ((if_neg (by simp [hp])).trans (if_pos (by simp [hp, hs]))))
  · rintro s (h | h) <;> exact done_neg (by simp [h])

/-! ### The ends of a wait, and the sampled divisors (R53, R64 to R67) -/

/-- The wait for the PLL: the crystal is good and the DRAM is not being trained. -/
theorem relockWaits {s : State} (hw : s.clk.waiting = true) (hx : s.clk.xoFailed = false) (hr : s.clk.retraining = false) :
    (s.clk.waiting && !s.clk.xoFailed && !s.clk.retraining) = true := by simp [hw, hx, hr]

theorem takesWrites_clkFlags : TakesWrites CLK_FLAGS 0x01 := takesWrites_of (by decide)

/-- The check of a write of 1 to DRAM_LOST (R67). -/
theorem clkFlags_pre (o : Origin) (s : State) : (writeRule o CLK_FLAGS 0x20 s).pre =
    chk (s.dramLost && (s.clk.retraining || s.clk.bgTrain)) .eState := rfl

/-- A sample that finds the Eaves condition changed adopts it (R53, R91). -/
theorem eavesSample_changed {s : State} (h : s.eavesWanted s.heat.enforced ≠ s.clk.eaves) : eavesSample s =
    raiseN (if s.eavesWanted s.heat.enforced then 0x01A else 0x01B) 0
      { rateChanges s with clk := { (rateChanges s).clk with eaves := s.eavesWanted s.heat.enforced } } := if_neg h

theorem eavesSample_same {s : State} (h : s.eavesWanted s.heat.enforced = s.clk.eaves) : eavesSample s = s := if_pos h

/-- Settles O16: each command acts exactly under its condition. -/
theorem clocksReturn : Obligations.ClocksReturn := by
  refine ⟨fun s lk hw hx hr => ⟨fun ht hl => ?_, fun ht hl => ?_, fun hl hn => ?_, done_pos (relockWaits hw hx hr)⟩, fun s lk h => ?_,
    fun s => ⟨fun hw hx => done_pos (by simp [hw, hx]), ?_⟩, fun s hw hr => ?_, fun s hw hb => ?_, fun s h1 h2 => ?_,
    fun o s ho => ⟨fun h => ?_, fun hl h => ?_⟩, fun s => ⟨fun hl hne => ?_, fun hl he => ?_, fun hl => done_neg (by simp [hl])⟩⟩
  · have hlim : ¬ (s.clk.lost && decide (s.fld CLK_CFG 7 4 < s.clk.losses.length)) = true := by
      rcases hl with h | h <;> simp [h]
    exact done_pos_eq (relockWaits hw hx hr) ((if_neg hlim).trans (if_neg (by simp [ht])))
  · have hlim : ¬ (s.clk.lost && decide (s.fld CLK_CFG 7 4 < s.clk.losses.length)) = true := by
      rcases hl with h | h <;> simp [h]
    exact done_pos_eq (relockWaits hw hx hr) ((if_neg hlim).trans (if_pos ht))
  · exact done_pos_eq (relockWaits hw hx hr) (if_pos (by simp [hl, hn]))
  · have hc : ¬ (s.clk.waiting && !s.clk.xoFailed && !s.clk.retraining) = true := by
      rcases h with h | h | h <;> simp [h]
    exact ⟨done_neg hc, done_neg hc⟩
  · rintro (h | h) <;> exact done_neg (by simp [h])
  · exact done_pos (by simp [hw, hr])
  · exact done_eq ((if_neg (by simp [hw])).trans (if_pos (by simp [hw, hb])))
  · have hc : ¬ (s.clk.waiting && s.clk.retraining) = true := by rcases h1 with h | h <;> simp [h]
    have hb : ¬ (s.clk.bgTrain && !s.clk.waiting) = true := by rcases h2 with h | h <;> simp [h]
    exact done_eq ((if_neg hc).trans (if_neg hb))
  · have hpre : (writeRule o CLK_FLAGS 0x20 s).pre = .ok := by
      rw [clkFlags_pre]
      rcases h with h | ⟨h, hb⟩
      · simp [h]
      · simp [h, hb]
    exact write_acts takesWrites_clkFlags ho (fits_of_legal (by decide)) hpre rfl rfl rfl
  · have hpre : (writeRule o CLK_FLAGS 0x20 s).pre = .eState := by
      rw [clkFlags_pre]
      rcases h with h | h <;> simp [hl, h]
    exact write_pre o CLK_FLAGS 0x01 0x20 s .eState _ takesWrites_clkFlags ho rfl hpre (by decide) rfl
  · exact done_pos_eq hl (congrArg (followUp s) (eavesSample_changed hne))
  · exact done_pos_eq hl (congrArg (followUp s) (eavesSample_same he))

/-! ### The measurement of the LFO (R70) -/

/-- Settles O17: each command acts exactly under its condition (R70). -/
theorem lfoIsMeasured : Obligations.LfoIsMeasured := by
  refine ⟨fun s hc hv hf => done_pos (by simp [hc, hv, hf]), fun s err hc hl hu => done_pos_eq hc ?_,
    fun s err hc h => done_pos_eq hc ?_, fun s h => done_pos h, fun s hc hf => done_pos (by simp [hc, hf]),
    fun s err => ⟨?_, fun h => ⟨done_neg (by simp [h]), done_neg (by simp [h])⟩, ?_⟩⟩
  · simp [lfoMeasured, hl, hu, raiseIf]
  · have hn : ¬ (-800 ≤ err ∧ err ≤ 800) := by omega
    simp [lfoMeasured, hn, raiseIf]
  · rintro (h | h | h) <;> exact done_neg (by simp [h])
  · rintro (h | h) <;> exact done_neg (by simp [h])

end Sys2Proof.Machine
end

section
/-! Proofs about start-up (chapter 04): the steps that pass and fail, resets, the hand-over, and Rind. -/

namespace Sys2Proof.Machine

/-! ### The step that the sequencer works on -/

theorem step_of_atStep {s : State} {n : Nat} (h : s.atStep n = true) : s.start.step = n := by
  simp only [State.atStep, Bool.and_eq_true, beq_iff_eq] at h
  obtain ⟨⟨⟨⟨⟨-, hstep⟩, -⟩, -⟩, -⟩, -⟩ := h
  exact hstep

theorem phase_of_atStep {s : State} {n : Nat} (h : s.atStep n = true) : s.start.phase = .start := by
  simp only [State.atStep, Bool.and_eq_true, beq_iff_eq] at h
  obtain ⟨⟨⟨⟨⟨hphase, -⟩, -⟩, -⟩, -⟩, -⟩ := h
  exact hphase

/-- A start works on one step alone. -/
theorem atStep_ne {s : State} {n m : Nat} (h : s.atStep n = true) (hm : m ≠ n) : s.atStep m = false := by
  have hstep := step_of_atStep h
  simp only [State.atStep, hstep, beq_eq_false_iff_ne.mpr hm.symm, Bool.and_false, Bool.false_and]

/-- A unit that wakes from Rind works on no step of a start. -/
theorem atStep_waking {s : State} {n m : Nat} (h : s.atWake n = true) : s.atStep m = false := by
  simp only [State.atWake, Bool.and_eq_true, beq_iff_eq] at h
  obtain ⟨⟨hphase, -⟩, -⟩ := h
  simp [State.atStep, hphase]

theorem atWake_starting {s : State} {n m : Nat} (h : s.atStep n = true) : s.atWake m = false := by
  simp [State.atWake, phase_of_atStep h]

/-! ### Steps that pass (R39, R55, R56, R75, R205, R206) -/

theorem retentionChecked_right {s : State} (hcrc : s.start.trimsOk = true → s.trm.crc = s.trm.crcNow) :
    retentionChecked false true true true s = setStep 5 (passStep 4 1
      (if s.start.retry then s else { s with start := { s.start with
        dramPath := 0, dramExit := decide (2 ≤ s.start.cause ∧ s.start.cause ≠ 5) && !s.dramLost } })) := by
  have hlt : (s.start.trimsOk && (s.trm.crc != s.trm.crcNow)) = false := by
    cases ht : s.start.trimsOk with
    | false => rfl
    | true => simp [hcrc ht]
  unfold retentionChecked
  simp [hlt, raiseIf]

theorem dramTrained_step (s : State) : (dramTrained true s).start.step = 6 := rfl

theorem dramTrained_selfRefresh (s : State) : (dramTrained true s).clk.selfRefresh = false := by
  have hclk (c : Prop) [Decidable c] (x y : State) : (if c then x else y).clk = if c then x.clk else y.clk := by split <;> rfl
  have hset (n r : Nat) (x : State) : (setStep 6 (passStep n r x)).clk = x.clk := rfl
  have hadd (m : Nat) (x : State) : (addFallback m x).clk = x.clk := rfl
  simp only [dramTrained, if_true, hset, hclk, hadd, ite_self]

theorem spotChecked_retained {s : State} {ms : List TrimMeas} (ho : State → State) (hsrc : s.trimSource = 2)
    (hok : spotAgrees ms s.trim = true) :
    spotChecked ms ho s = enterHandOver ho (passStep 12 1 { s with trm := { s.trm with src := 3 } }) := by
  unfold spotChecked
  simp only [hsrc, hok, if_true]

theorem spotChecked_held {s : State} {ms : List TrimMeas} {l : List Word} (ho : State → State) (hsrc : s.trimSource = 1)
    (hl : s.trm.held = some l) (hok : spotAgrees ms (fun i => nth 0 l (6 + i)) = true) :
    spotChecked ms ho s =
      let t := raiseN 0x1A4 0 (applyRecord s.chanIdle l { s with trm := { s.trm with held := none, pendRestore := false } })
      enterHandOver ho (passStep 12 1 { t with trm := { t.trm with src := 2 } }) := by
  unfold spotChecked
  simp only [hsrc, hl, Option.getD_some, hok, if_true]

/-- Settles O18: a step's command acts only while the sequencer works on that step. -/
theorem startStepsPass : Obligations.StartStepsPass := by
  refine ⟨fun s h hv hw => ?_, fun s h hno => ?_, fun s amp h => done_pos h, fun s lk ph h => done_pos h,
    fun s amp h => done_eq ((if_neg (by simp [atStep_waking h])).trans (if_pos h)),
    fun s lk ph h => done_eq ((if_neg (by simp [atStep_waking h])).trans (if_pos h)),
    fun s h hcrc => ?_, fun s h => ⟨done_pos h, dramTrained_step s, dramTrained_selfRefresh s⟩,
    fun s h => ?_, fun s h => ?_, fun s h => ?_, fun s h => ?_, fun s a b h => ?_, fun s h => ?_,
    fun s ms h hsrc hok => done_pos_eq h (spotChecked_retained _ hsrc hok),
    fun s ms l h hsrc hl hok => ⟨_, done_pos_eq h (spotChecked_held _ hsrc hl hok), rfl⟩,
    fun s ms h hsrc => done_pos (by simp [h, hsrc]), fun s amp lk ph ok ms r f => ⟨fun h => ?_, fun h hw => ?_, fun h hw => ?_,
      fun h => done_neg (by simp [h]), fun h => ?_, fun h => ⟨done_neg (by simp [h]), done_neg (by simp [h])⟩⟩⟩
  · have hc : (s.pwr.acValid || s.pwr.poeValid) && decide (800 ≤ s.pwr.avail) := by simpa [hw] using hv
    exact done_eq ((if_neg (by simp [h])).trans (if_pos hc))
  · have hc : ¬ ((s.pwr.acValid || s.pwr.poeValid) && decide (800 ≤ s.pwr.avail)) = true := by
      rcases hno with ⟨ha, hp⟩ | hw
      · simp [ha, hp]
      · simp [Nat.not_le.mpr hw]
    exact done_eq ((if_neg (by simp [h])).trans (if_neg hc))
  · rw [exec_startStepDone, execStartStepDone.eq_def, step_of_atStep h, h]
    exact done_eq (retentionChecked_right hcrc)
  · rw [exec_startStepDone, execStartStepDone.eq_def, step_of_atStep h, h]
    exact done_eq rfl
  · rw [exec_startStepDone, execStartStepDone.eq_def, step_of_atStep h, h]
    exact done_eq rfl
  · rw [exec_startStepDone, execStartStepDone.eq_def, step_of_atStep h, h]
    exact done_eq rfl
  · rw [exec_startStepDone, execStartStepDone.eq_def, step_of_atStep h, h]
    exact done_eq rfl
  · rw [exec_startStepDone, execStartStepDone.eq_def, step_of_atStep h, h]
    exact done_eq rfl
  · rw [exec_startStepDone, execStartStepDone.eq_def, step_of_atStep h, h]
    exact done_eq rfl
  · exact done_pos (by simp [h])
  · exact done_eq ((if_neg (by simp [h])).trans (if_neg (by simp [hw])))
  · exact done_eq ((if_neg (by simp [h])).trans (if_neg (by simp [hw])))
  · exact done_pos (by simp [h])

/-! ### Steps that fail (R86, R87, Table 4.3) -/

theorem failStep_pwr (n : Nat) (s : State) : (failStep n s).pwr = s.pwr := raiseN_pwr _ _ _

/-- A failure changes the attempt counts and the journal alone of the start. -/
theorem failStep_start (n : Nat) (s : State) : (failStep n s).start = { s.start with
    attempts := s.start.attempts.set n (sat 15 (nth 0 s.start.attempts n + 1)), journal := (failStep n s).start.journal } := by
  unfold failStep
  simp only [raiseN_start]
  rfl

theorem failStep_step1Fails (n : Nat) (s : State) : (failStep n s).start.step1Fails = s.start.step1Fails := by
  rw [failStep_start]

theorem failStep_step (n : Nat) (s : State) : (failStep n s).start.step = s.start.step := by rw [failStep_start]
theorem failStep_dramPath (n : Nat) (s : State) : (failStep n s).start.dramPath = s.start.dramPath := by rw [failStep_start]
theorem failStep_sramRetried (n : Nat) (s : State) : (failStep n s).start.sramRetried = s.start.sramRetried := by rw [failStep_start]

/-- A failed rail: shown, counted, and after the third the start holds. -/
theorem supplyQualify_failed {s : State} (r : Fin 8) (h : s.atStep 1 = true) : ∃ t, exec (.supplyQualify (some r)) s = .next t ∧
    t.pwr.railFault = true ∧ t.pwr.faultRail = r.val ∧ t.pwr.pg = 0 ∧ t.pwr.hsupOn = false ∧
    t.start.step1Fails = s.start.step1Fails + 1 ∧ (s.start.step1Fails < 2 → t.start.waitRetry = true ∧ t.start.step = 1) ∧
    (2 ≤ s.start.step1Fails → t.start.step1Hold = true ∧ t.start.step = 15) := by
  refine ⟨_, done_neg (by simp [h]), ?_⟩
  simp only [failStep_step1Fails]
  by_cases h3 : 3 ≤ s.start.step1Fails + 1
  · simp only [h3, if_true]
    simp [settle, holdStart, setStep, failStep_pwr]
    omega
  · simp only [h3, if_false]
    simp [settle, failStep_pwr, failStep_step, step_of_atStep h]
    omega

theorem dramTrained_failed (s : State) : (dramTrained false s).start.dramPath = s.start.dramPath + 1 ∧
    (s.start.dramPath + 1 < s.dramPaths.length → (dramTrained false s).start.step = 4 ∧ (dramTrained false s).start.retry = true) ∧
    (s.dramPaths.length ≤ s.start.dramPath + 1 → (dramTrained false s).start.step = 15) := by
  have hstart (c : Prop) [Decidable c] (x : State) : (if c then setDramLost (tablesLost x) else x).start = x.start := by
    split
    · rw [setDramLost, raiseIf_start]
      rfl
    · rfl
  simp only [dramTrained, Bool.false_eq_true, if_false, hstart, failStep_dramPath]
  by_cases hp : s.start.dramPath + 1 < s.dramPaths.length
  · simp only [hp, if_true]
    exact ⟨rfl, fun _ => ⟨rfl, rfl⟩, fun h => absurd hp (by omega)⟩
  · simp only [hp, if_false]
    exact ⟨rfl, fun h => h.elim, fun _ => rfl⟩

/-- A failed step 6 is tried once again (R88). -/
theorem sramFailed_eq (s : State) :
    (s.start.sramRetried = false → (sramFailed s).start.step = 6 ∧ (sramFailed s).start.sramRetried = true ∧
      (sramFailed s).start.retry = true) ∧ (s.start.sramRetried = true → (sramFailed s).start.step = 15) := by
  simp only [sramFailed, failStep_sramRetried]
  constructor <;> intro h <;> simp only [h, Bool.false_eq_true, if_false, if_true]
  · exact ⟨rfl, rfl, rfl⟩
  · rfl

theorem spotChecked_disagrees {s : State} {ms : List TrimMeas} (ho : State → State) (hsrc : s.trimSource = 2)
    (hno : spotAgrees ms s.trim = false) : spotChecked ms ho s =
      raiseN 0x1A5 1 { trimsDropped s with start := { (trimsDropped s).start with trimsOk := false } } := by
  unfold spotChecked
  simp only [hsrc, hno, Bool.false_eq_true, if_false]
  rfl

/-- A first calibration that lacks a plausible result for an item repeats step 12 (R206). -/
theorem calibrated_lacking {s : State} {ms : List TrimMeas} (ho : State → State) (i : Fin 16) (hr : s.start.calRepeat = false)
    (hno : ∀ m ∈ ms, m.item = i → plausible i.val m.gain m.offset = false) :
    calibrated ms ho s = markStep 12 3 (failStep 12 { s with start := { s.start with calRepeat := true } }) := by
  have hnone : (ms.find? fun m => m.item.val == i.val && plausible i.val m.gain m.offset) = none := by
    rw [List.find?_eq_none]
    intro m hm hgood
    simp only [Bool.and_eq_true, beq_iff_eq] at hgood
    rw [hno m hm (Fin.ext hgood.1)] at hgood
    exact Bool.false_ne_true hgood.2
  have hbad : ((List.range 16).filter fun i =>
      (ms.find? fun m => m.item.val == i && plausible i m.gain m.offset).isNone) ≠ [] := by
    refine List.ne_nil_of_mem (a := i.val) (List.mem_filter.mpr ⟨List.mem_range.mpr i.isLt, ?_⟩)
    rw [hnone]
    rfl
  unfold calibrated
  exact if_pos (by simpa [hr] using hbad)

/-- The failure of a step of a start is not that of a wake's step. -/
theorem startStepFail_at {s : State} {n : Nat} (h : s.atStep n = true) :
    s.atStep s.start.step = true ∧ s.atWake s.start.wakeStep = false := ⟨step_of_atStep h ▸ h, atWake_starting h⟩

/-- Settles O19: a step's failure acts only while the sequencer works on that step. -/
theorem failedStepsFallBack : Obligations.FailedStepsFallBack := by
  refine ⟨fun s r h => supplyQualify_failed r h, fun s b a h => ?_, fun s b a h => done_pos h,
    fun s => ⟨fun h => done_pos h, fun h => done_neg (by simp [h])⟩, fun s h => ⟨_, done_pos h, dramTrained_failed s⟩,
    fun s b a h => ⟨settle (sramFailed s), ?_, sramFailed_eq s⟩, fun s b a h => ?_, fun s b a h => ?_,
    fun s b a h => ?_, fun s b a h => ?_, fun s b a h => ?_,
    fun s ms h hsrc hno => done_pos_eq h (spotChecked_disagrees _ hsrc hno),
    fun s ms i h hsrc hr hno => done_pos_eq (by simp [h, hsrc]) (calibrated_lacking _ i hr hno)⟩
  · rcases h with h | h <;>
      · obtain ⟨hstep, hwake⟩ := startStepFail_at h
        rw [exec_startStepFail, execStartStepFail.eq_def, hwake, hstep, step_of_atStep h]
        rfl
  all_goals
    obtain ⟨hstep, hwake⟩ := startStepFail_at h
    rw [exec_startStepFail, execStartStepFail.eq_def, hwake, hstep, step_of_atStep h]
    rfl

end Sys2Proof.Machine
end

section
/-! Proofs about resets, the hand-over and Rind (chapter 04). -/

namespace Sys2Proof.Machine

/-- What no step of a fold changes, the fold does not change. -/
theorem foldl_keeps {α β : Type} (g : State → β) (f : State → α → State) (h : ∀ s x, g (f s x) = g s) (l : List α) (s : State) :
    g (l.foldl f s) = g s := by
  induction l generalizing s with
  | nil => rfl
  | cons x l ih => rw [List.foldl_cons, ih, h]

/-! ### Reset triggers (R76 to R81) -/

theorem brownout_cold {s : State} (h : s.start.phase = .cold) : brownout s = s := by
  unfold brownout; rw [h]

theorem brownout_cut {s : State} (h : s.start.phase = .cut) :
    brownout s = recordTrigger 1 { s with pwr := { s.pwr with busGood := false, busUp := false } } := by
  unfold brownout; rw [h]

theorem brownout_live {s : State} (h1 : s.start.phase ≠ .cold) (h2 : s.start.phase ≠ .cut) :
    brownout s = reset 2 { s with pwr := { s.pwr with busGood := false, busUp := false } } := by
  unfold brownout
  split
  · next h => exact absurd h h1
  · next h => exact absurd h h2
  · rfl

theorem resetTrigger_cold {s : State} (k : Nat) (h : s.start.phase = .cold) : resetTrigger k s = s := by
  unfold resetTrigger; rw [h]

theorem resetTrigger_cut {s : State} (k : Nat) (h : s.start.phase = .cut) : resetTrigger k s = recordTrigger k s := by
  unfold resetTrigger; rw [h]

theorem resetTrigger_live {s : State} (k : Nat) (h1 : s.start.phase ≠ .cold) (h2 : s.start.phase ≠ .cut) : resetTrigger k s =
    if s.stopped then if s.clk.xoFailed then recordTrigger k s else reset (2 ^ 6 ||| 2 ^ k) s
    else if s.early then recordTrigger k s else reset (2 ^ k) s := by
  unfold resetTrigger
  split
  · next h => exact absurd h h1
  · next h => exact absurd h h2
  · rfl

theorem takesWrites_startCtl : TakesWrites START_CTL 0x02 := takesWrites_of (by decide)

/-- The contents of the wheels stay with a power-on reset (R96). -/
theorem retain_wheels (c : Nat) (s : State) : (retain c s).cel.media.map (·.wheels) = s.cel.media.map (·.wheels) := by
  have hcel (x : State) : (celReset x).cel.media.map (·.wheels) = x.cel.media.map (·.wheels) := by
    simp [celReset, Function.comp_def]
  unfold retain
  rw [hcel]
  dsimp only
  split <;> rfl

/-- Settles O20: each source of a reset meets the phases of R76 to R80 in turn. -/
theorem resetTriggersReset : Obligations.ResetTriggersReset := by
  refine ⟨fun s => ⟨fun h1 h2 => done_eq (brownout_live h1 h2), fun h => done_eq (brownout_cold h), fun h => done_eq (brownout_cut h)⟩,
    fun s => ⟨fun h => done_pos h, fun h => done_neg h⟩, fun s => ⟨fun h hl => done_pos (by simp [h, hl]), ?_⟩, fun o s ho => ?_,
    fun s => rfl, fun s => ?_, fun s => ⟨?_, ?_⟩, fun k s h1 h2 => ?_, fun k s => ⟨resetTrigger_cold k, resetTrigger_cut k⟩, fun s => ?_⟩
  · rintro (h | h) <;> exact done_neg (by simp [h])
  · exact write_acts takesWrites_startCtl ho (fits_of_legal (by decide)) rfl rfl rfl rfl
  · rw [exec_resetNRise, execResetNRise]
    dsimp only
    split <;> rfl
  · rintro ⟨ha, hl, hf⟩
    exact done_pos (by simp [ha, hl, hf])
  · intro h hw
    refine done_neg ?_
    rcases h with h | h | h <;> rcases hw with hw | hw <;> simp [h, hw]
  · rw [resetTrigger_live k h1 h2]
    refine ⟨fun hs he => ?_, fun hs he => ?_, fun hs hx => ?_, fun hs hx => ?_⟩ <;> simp_all
  · exact ⟨_, rfl, rfl, rfl, rfl, rfl, rfl, rfl, rfl, rfl, rfl, rfl, rfl, rfl, retain_wheels 0 s, rfl, rfl⟩

/-! ### The hand-over (R83 to R85, R99) -/

theorem bare_releaseHeld (last : List (Nat × Word)) (s : State) :
    (releaseHeld last s).bare = s.bare := by
  unfold releaseHeld
  refine (foldl_keeps State.bare _ ?_ _ _).trans rfl
  intro t p
  exact bare_occur ..

theorem refAwaitedAll_start (s : State) : (refAwaitedAll s).start = s.start := by
  refine foldl_keeps State.start _ ?_ _ _
  intro t n
  rfl

theorem refAwaitedAll_vat (s : State) : (refAwaitedAll s).vat = s.vat := by
  refine foldl_keeps State.vat _ ?_ _ _
  intro t n
  rfl

theorem agesRestart_start (s : State) : (agesRestart s).start = s.start := rfl
theorem agesRestart_vat (s : State) : (agesRestart s).vat = s.vat := rfl
theorem heatHandOver_start (s : State) : (heatHandOver s).start = s.start := rfl
theorem heatHandOver_vat (s : State) : (heatHandOver s).vat = s.vat := rfl

/-- The blocks that begin their work at the hand-over leave the start as it is noted. -/
theorem handOver_start (kind : Nat) (s : State) : (handOver kind s).start = (handOverNoted kind (handOverLoads kind s)).start := by
  rw [handOver, start_of_beyond (beyond_followUp _ _), agesRestart_start, refAwaitedAll_start, heatHandOver_start,
    start_of_bare (bare_releaseHeld _ _)]

theorem cutOnTime_vat (s : State) : (cutOnTime s).vat = s.vat := by
  unfold cutOnTime endOnTime
  dsimp only
  split
  · rfl
  · split <;> simp

/-- The loads that a hand-over sheds have no part in the Vat. -/
theorem shedAll_vat (s : State) : (forceEaves (shedBoost (shedHeat s))).vat = s.vat := by
  have hheat : (shedHeat s).vat = s.vat := by
    unfold shedHeat
    split
    · rfl
    · rw [raiseN_vat]
      exact cutOnTime_vat s
  have hboost (x : State) : (shedBoost x).vat = x.vat := by unfold shedBoost; split <;> simp
  have heaves (x : State) : (forceEaves x).vat = x.vat := by unfold forceEaves; split <;> simp
  rw [heaves, hboost, hheat]

/-- The Vat's memories and its image identity are cleared (R84). -/
def VatCleared (v : Vat) : Prop := v.pm = [] ∧ v.dm = [] ∧ v.img = none

theorem handOverLoads_host_vat (s : State) : (handOverLoads 1 s).vat = (clearVat (raiseN 0x015 0 s)).vat := by
  unfold handOverLoads
  dsimp only
  split
  · next h _ => cases h
  · split
    · exact shedAll_vat _
    · rfl

theorem handOverNoted_vat (kind : Nat) (s : State) : (handOverNoted kind s).vat = s.vat := rfl

theorem vatCleared_handOver_host (s : State) : VatCleared (handOver 1 s).vat := by
  have hvat : (agesRestart (refAwaitedAll (heatHandOver (releaseHeld [(0x01F, 0)] (handOverNoted 1 (handOverLoads 1 s)))))).vat =
      (clearVat (raiseN 0x015 0 s)).vat := by
    rw [agesRestart_vat, refAwaitedAll_vat, heatHandOver_vat, vat_of_bare (bare_releaseHeld _ _), handOverNoted_vat,
      handOverLoads_host_vat]
  have hb := beyond_followUp s (agesRestart (refAwaitedAll (heatHandOver (releaseHeld [(0x01F, 0)] (handOverNoted 1 (handOverLoads 1 s))))))
  rw [handOver, VatCleared, pm_of_beyond hb, dm_of_beyond hb, img_of_beyond hb, hvat]
  exact ⟨rfl, rfl, rfl⟩

theorem takesWrites_startKick : TakesWrites START_KICK 0x02 := takesWrites_of (by decide)

/-- What HOST_GO is judged by, and what it does (R83). -/
theorem startCtl_pre (o : Origin) (s : State) : (writeRule o START_CTL 1 s).pre = chk s.handedOver .eState := rfl

theorem startCtl_app (o : Origin) (s : State) : (writeRule o START_CTL 1 s).app s =
    if s.start.step = 13 then handOver 1 s else { s with start := { s.start with goPending := true } } := rfl

theorem not_handedOver {s : State} (h : s.start.step = 13) : s.handedOver = false := by simp [State.handedOver, h]

/-- The check of a kick: it is the last one plus 1 (R90). -/
theorem startKick_bad (v : Word) (s : State) : (writeRule .host START_KICK v s).bad =
    (bits v 7 0 != (s.fld START_KICK 7 0 + 1) % 256) := rfl

/-- Settles O22: HOST_GO and the kick are register writes with their own checks; the two timers act exactly under their conditions. -/
theorem handOverAndHeartbeat : Obligations.HandOverAndHeartbeat := by
  refine ⟨fun o s ho h13 => ⟨?_, ?_⟩, fun o s ho h13 hno => ?_, fun o s ho h => ?_, fun s h13 hw hn hq => ⟨fun h8 => ?_, fun h8 => ?_⟩,
    fun s h => done_neg ?_, fun v s ho hf => ⟨fun hk => ?_, fun hk => ?_⟩, fun v t s ho => ?_, fun s => ⟨fun ha hl => ?_, ?_⟩⟩
  · have hpre : (writeRule o START_CTL 1 s).pre = .ok := by rw [startCtl_pre, not_handedOver h13]; rfl
    exact write_acts takesWrites_startCtl ho (fits_of_legal (by decide)) hpre rfl rfl ((startCtl_app o s).trans (if_pos h13))
  · have hs := handOver_start 1 s
    exact ⟨congrArg Start.phase hs, congrArg Start.step hs, congrArg Start.handover hs, congrArg Start.goPending hs,
      vatCleared_handOver_host s⟩
  · have hpre : (writeRule o START_CTL 1 s).pre = .ok := by rw [startCtl_pre, hno]; rfl
    exact write_acts takesWrites_startCtl ho (fits_of_legal (by decide)) hpre rfl rfl ((startCtl_app o s).trans (if_neg h13))
  · have hpre : (writeRule o START_CTL 1 s).pre = .eState := by rw [startCtl_pre, h]; rfl
    exact write_pre o START_CTL 0x02 1 s .eState _ takesWrites_startCtl ho rfl hpre (by decide) rfl
  · exact done_pos_eq (by simp [h13, hw, hn, hq]) (if_pos h8)
  · exact done_pos_eq (by simp [h13, hw, hn, hq]) (if_neg (by simp [h8]))
  · rcases h with h | h | h | h <;> simp [h]
  · have hb : (writeRule .host START_KICK v s).bad = false := by rw [startKick_bad, hk, bne_self_eq_false]
    exact write_acts takesWrites_startKick ho hf rfl hb rfl rfl
  · have hb : (writeRule .host START_KICK v s).bad = true := by rw [startKick_bad, bne_iff_ne.mpr hk]
    exact write_bad .host START_KICK 0x02 v s _ takesWrites_startKick ho rfl rfl hb rfl
  · exact write_pre (.vat t) START_KICK 0x02 v s .eState _ takesWrites_startKick ho rfl rfl (by decide) rfl
  · exact done_pos (by simp [ha, hl])
  · rintro (h | h) <;> exact done_neg (by simp [h])

/-! ### Rind and its wakes (R92 to R94) -/

theorem takesWrites_startState : TakesWrites START_STATE 0x02 := takesWrites_of (by decide)

theorem rindCode_cases (s : State) : s.rindCode = .ok ∨ s.rindCode = .eState := by
  unfold State.rindCode chk
  split
  · exact .inr rfl
  · exact .inl rfl

/-- Bit 0 of a word whose lowest bit has been set. -/
theorem bit_putBits_zero (w : Word) : bit (putBits w 0 0 1) 0 = true := by
  unfold bit putBits bits
  rw [BitVec.toNat_ofNat]
  simp only [Nat.pow_zero, Nat.div_one, Nat.sub_zero, Nat.zero_add, Nat.pow_one, Nat.mul_one, beq_iff_eq]
  have := w.isLt
  omega

theorem startState_pre (o : Origin) (s : State) (v : Word) : (writeRule o START_STATE v s).pre =
    if bit v 0 then s.rindCode else .ok := rfl

theorem startState_app (o : Origin) (s t : State) (v : Word) : (writeRule o START_STATE v s).app t =
    if bit v 0 then rindBegin t else t := rfl

theorem wakeSource_off {src : Nat} {s : State} (h : s.flag START_WAKE src = false) : wakeSource src s = s := if_pos (by simp [h])

theorem wakeSource_rind {src : Nat} {s : State} (hf : s.flag START_WAKE src = true) (h : s.start.phase = .rind) :
    wakeSource src s = rindWake src s := by
  simp only [wakeSource, hf, h, Bool.not_true, Bool.false_eq_true, if_false]

theorem wakeSource_entering {src : Nat} {s : State} (hf : s.flag START_WAKE src = true) (h : s.start.phase = .entering) :
    wakeSource src s = rindCancel src s := by
  simp only [wakeSource, hf, h, Bool.not_true, Bool.false_eq_true, if_false]

/-- A wake source finds nothing to wake outside Rind and its entry. -/
theorem wakeSource_awake {src : Nat} {s : State} (h1 : s.start.phase ≠ .rind) (h2 : s.start.phase ≠ .entering) :
    wakeSource src s = s := by
  unfold wakeSource
  split
  · rfl
  · split
    · next h => exact absurd h h1
    · next h => exact absurd h h2
    · rfl

theorem serWoke_start (u : Nat) (s : State) : (serWoke u s).start = s.start := raiseIf_start ..

theorem wakeTold_start (src : Nat) (s : State) : (wakeTold src s).start = { s.start with phase := .up, lastWake := 2 ^ src } := by
  unfold wakeTold
  rw [raiseN_start]
  dsimp only
  split
  · rw [serWoke_start]
  · rfl

theorem rindCancel_start (src : Nat) (s : State) : (rindCancel src s).start = { s.start with phase := .up, lastWake := 2 ^ src } := by
  rw [rindCancel, start_of_beyond (beyond_followUp _ _), start_of_beyond (beyond_heaterFollow _ _), wakeTold_start]

/-! ### The NOR's background work (R98, R539) -/

theorem copyWritten_due {s : State} {c : NorJournal} {rest : List NorJournal} (ok : Bool) (h : s.norProgram = some .copy)
    (hw : s.start.norWrites = c :: rest) : copyWritten ok s =
      if ok then { s with
        nor := s.nor.startPut (.held c), start := { s.start with norWrites := rest, norFail := false, norSeq := c.seq, norValid := true } }
      else raiseN 0x01E 0 { s with nor := s.nor.startPut .bad, start := { s.start with norWrites := rest, norFail := true } } := by
  unfold copyWritten
  rw [h, hw]

theorem copyWritten_idle {s : State} (ok : Bool) (h : s.norProgram ≠ some .copy) : copyWritten ok s = s := by
  unfold copyWritten
  split
  · next h2 _ => exact absurd h2 h
  · rfl

/-- Settles O23: the request is a register write judged by `rindCode`; the other commands act exactly under their conditions. -/
theorem rindAndItsWakes : Obligations.RindAndItsWakes := by
  refine ⟨fun o s ho hf => ⟨fun hok => ?_, fun hno => ?_, rindCode_cases s⟩,
    fun s => ⟨fun h => ⟨done_pos h, rfl, rfl, rfl, rfl, rfl⟩, fun h => done_neg (by simp [h])⟩,
    fun s src h1 hu hf => ?_, fun s ht hf => ⟨fun hp => ?_, fun hp => ?_⟩, fun s src => ⟨fun h => ?_, fun h => ?_⟩,
    fun s c rest h hw => ⟨done_eq (copyWritten_due true h hw), done_eq (copyWritten_due false h hw)⟩,
    fun s ok h => done_eq (copyWritten_idle ok h),
    fun s k => ⟨fun h => ⟨done_neg (by simp [h]), done_neg (by simp [h]), fun hh => ?_, fun hh => ?_⟩, fun h => done_pos (by simp [h])⟩⟩
  · have hpre : (writeRule o START_STATE (putBits (s.reg START_STATE) 0 0 1) s).pre = .ok := by
      rw [startState_pre, bit_putBits_zero, if_pos rfl, hok]
    exact write_acts takesWrites_startState ho hf hpre rfl rfl
      ((startState_app o s _ _).trans (by rw [bit_putBits_zero]; rfl))
  · have hpre : (writeRule o START_STATE (putBits (s.reg START_STATE) 0 0 1) s).pre = .eState := by
      rw [startState_pre, bit_putBits_zero, if_pos rfl, hno]
    exact write_pre o START_STATE 0x02 _ s .eState _ takesWrites_startState ho rfl hpre (by decide) rfl
  · have hc : ¬ (src.val = 1 ∨ (3 ≤ src.val ∧ s.serEn (src.val - 3) = false)) := by
      rintro (h | ⟨h3, hoff⟩)
      · exact h1 h
      · simp [hu h3] at hoff
    refine ⟨fun hp => done_eq ((if_neg hc).trans (wakeSource_rind hf hp)), fun hp => ⟨?_, ?_⟩⟩
    · exact done_eq ((if_neg hc).trans (wakeSource_entering hf hp))
    · rw [rindCancel_start]
      exact ⟨rfl, rfl⟩
  · exact done_eq ((if_neg ht).trans (wakeSource_rind hf hp))
  · refine ⟨done_eq ((if_neg ht).trans (wakeSource_entering hf hp)), ?_⟩
    rw [rindCancel_start]
    exact ⟨rfl, rfl⟩
  · by_cases hc : src.val = 1 ∨ (3 ≤ src.val ∧ s.serEn (src.val - 3) = false)
    · exact done_pos hc
    · refine done_eq ((if_neg hc).trans ?_)
      rcases h with h | h | h | ⟨h1, h2⟩
      · exact absurd (.inl h) hc
      · exact absurd (.inr h) hc
      · exact wakeSource_off h
      · exact wakeSource_awake h1 h2
  · by_cases hc : s.fld START_RIND_T 19 0 = 0
    · exact done_pos hc
    · refine done_eq ((if_neg hc).trans ?_)
      rcases h with h | h | ⟨h1, h2⟩
      · exact absurd h hc
      · exact wakeSource_off h
      · exact wakeSource_awake h1 h2
  · exact done_eq ((if_neg (by simp [h])).trans (if_pos hh))
  · exact done_eq ((if_neg (by simp [h])).trans (if_neg (by simp [hh])))

end Sys2Proof.Machine
end

section
/-! Proofs about the register bus (00_scope.md): the order of the checks, plain writes, and reads that clear. -/

namespace Sys2Proof.Machine

/-! ### The code of a write -/

theorem writeCode_busy {o : Origin} {a : Nat} (v : Word) {s : State} (hb : s.pageBusy o a = true) : s.writeCode o a v = .eBusy := by
  unfold State.writeCode
  split <;> simp only [hb, chk_true] <;> rfl

theorem writeCode_readOnly {o : Origin} {a : Nat} (v : Word) {s : State} {r : Reg} (hr : regAt a = some r)
    (hb : s.pageBusy o a = false) (ha : a % 4 = 0) (hw : r.win ≠ .write) (hro : r.readOnly = true) : s.writeCode o a v = .eRo := by
  have hwin : (r.win != .write) = true := bne_iff_ne.mpr hw
  simp [State.writeCode, hr, hb, ha, hwin, hro]
  rfl

/-- A register without a rule of its own has the general one. -/
theorem writeRule_none {o : Origin} {a : Nat} {v : Word} {s : State} (h : blockRule o a v s = none) : writeRule o a v s = {} := by
  rw [writeRule, h]
  rfl

/-- Without a rule of its own a register checks only its fields. -/
theorem writeCode_plain_illegal {o : Origin} {a : Nat} {v : Word} {s : State} {r : Reg} (hr : regAt a = some r)
    (hb : s.pageBusy o a = false) (ha : a % 4 = 0) (hw : r.win ≠ .write) (hro : r.readOnly = false) (hc : s.closing = false)
    (hk : a ≠ KEY_STAGE) (hn : blockRule o a v s = none) (hv : r.reservedSet v = true ∨ r.outOfRange v = true) :
    s.writeCode o a v = .eRange := by
  have hfld : (r.reservedSet v || r.outOfRange v) = true := by simpa using hv
  have hwin : (r.win == .write) = false := beq_eq_false_iff_ne.mpr hw
  have hkey : (a == KEY_STAGE) = false := beq_eq_false_iff_ne.mpr hk
  simp [State.writeCode, hr, hb, ha, hwin, hro, hc, hkey, writeRule_none hn, hfld, Code.early]
  rfl

/-- Settles O7: E_BUSY, E_ALIGN, E_RO and E_RANGE in the order of R8. -/
theorem writesKeepTheOrderOfTheChecks : Obligations.WritesKeepTheOrderOfTheChecks :=
  ⟨fun _ _ v _ => ⟨writeCode_busy v, writeCode_misaligned v⟩, fun _ _ v _ _ hr hb ha =>
    ⟨writeCode_readOnly v hr hb ha, fun hw hro hc hk hn hv => writeCode_plain_illegal hr hb ha hw hro hc hk hn hv⟩⟩

/-- A legal write without a rule of its own stores its fields. -/
theorem regWrite_plain {o : Origin} {a : Nat} {v : Word} {s : State} {r : Reg} (hr : regAt a = some r) (ho : Open o (a / 0x10000) s)
    (ha : a % 4 = 0) (hw : r.win ≠ .write) (hro : r.readOnly = false) (hk : a ≠ KEY_STAGE) (hn : blockRule o a v s = none)
    (hres : r.reservedSet v = false) (hrng : r.outOfRange v = false) :
    done (regWrite o a v s) = .next (wrote o s (s.setReg a (s.written a v))) := by
  have hx : Writable a = true := by simp [Writable, hr, hw, hro]
  exact write_stores o a (a / 0x10000) v s .ok false ⟨hx, rfl, ha, by simpa using hk⟩ ho ⟨r, hr, hres, hrng⟩
    (writeRule_none hn) rfl rfl

/-- Settles O8: with no rule of its own a register's write is the general one, and the row for W1C writes is the same write. -/
theorem legalWritesStoreTheirFields : Obligations.LegalWritesStoreTheirFields :=
  fun _ _ _ _ _ hr ho ha hw hro hk hn hres hrng =>
    ⟨regWrite_plain hr ho ha hw hro hk hn hres hrng, regWrite_plain hr ho ha hw hro hk hn hres hrng⟩

/-! ### Reads -/

theorem readCode_mapped {o : Origin} {a : Nat} {s : State} {r : Reg} (hr : regAt a = some r) (hb : s.pageBusy o a = false)
    (ha : a % 4 = 0) (hw : r.win ≠ .read) : s.readCode o a = .ok := by
  have hwin : (r.win == .read) = false := beq_eq_false_iff_ne.mpr hw
  simp [State.readCode, hr, hb, ha, hwin]

/-- A read that the bus carries and its code allows. -/
theorem regRead_ok {o : Origin} {a : Nat} {s : State} (ho : May o (a / 0x10000) s) (hc : s.readCode o a = .ok) :
    done (regRead o a s) = .next (settle (seenBy o { readTakes o a (drawn a s) with
      busCode := .ok, busData := [(drawn a s).readWord o a] })) := by
  rw [done, regRead, access_may o _ _ s ho, busRead]
  dsimp only
  rw [if_pos hc, hc]

theorem drawn_same {a : Nat} (s : State) (h : a ≠ TBL_BW) : drawn a s = s := if_neg h

/-- The addresses of the head stamps' lower words (Table 13.5). -/
theorem hstampLo_of {a : Nat} (h1 : INT_HCFG 0 ≤ a) (h2 : a < INT_HCFG 6) (h3 : (a - INT_HCFG 0) % 0x40 = 0x14) :
    ∃ n : Fin 6, a = INT_HSTAMP_LO n.val := by
  simp only [INT_HCFG] at h1 h2 h3
  refine ⟨⟨(a - 0x090300) / 0x40, by omega⟩, ?_⟩
  simp only [INT_HSTAMP_LO]
  omega

/-- A read with no effect of its own clears the RC fields alone. -/
theorem readTakes_plain {o : Origin} {a : Nat} {s : State} {r : Reg} (hr : regAt a = some r)
    (hrc : r.flds.any (fun f => f.acc == .rc) = true) (hA : a ≠ GUT_VEC_A) (hB : a ≠ GUT_VEC_B) (hI : a ≠ INT_I2CRES)
    (hE : a ≠ CP_ERRCNT) (hP : a ≠ SW_PTP_LO) (hH : ∀ n : Fin 6, a ≠ INT_HSTAMP_LO n.val) (h14 : a / 0x10000 ≠ 0x14) :
    readTakes o a s = rcZero a r s := by
  have hu : ¬ (a / 0x10000 = 0x14 ∧ a % 0x40 = 0x1C) := fun h => h14 h.1
  have hh : ¬ (INT_HCFG 0 ≤ a ∧ a < INT_HCFG 6 ∧ (a - INT_HCFG 0) % 0x40 = 0x14) := fun h =>
    (hstampLo_of h.1 h.2.1 h.2.2).elim hH
  unfold readTakes
  rw [hr]
  dsimp only
  rw [if_pos hrc, if_neg hA, if_neg hB, if_neg hI, if_neg hP, if_neg hE, if_neg hu, if_neg hh]

/-- Settles O10: the read answers the register's word, and of one with no effect of its own only the RC fields fall. -/
theorem readingAnRcRegisterClearsIt : Obligations.ReadingAnRcRegisterClearsIt := by
  intro o a s r hr ho hb ha hw
  have h : exec (.rcRead o a) s = _ := regRead_ok ho (readCode_mapped hr hb ha hw)
  refine ⟨⟨_, h, by cases o <;> rfl, by cases o <;> rfl⟩, fun hrc hA hB hI hE hP _ hH hT h14 => ?_⟩
  rw [h, drawn_same s hT, readTakes_plain hr hrc hA hB hI hE hP hH h14]
  rfl

end Sys2Proof.Machine
end

section
/-! Proofs about the control port (05_control_port.md): what a transaction's clocks, seal, CRC and page make of it. -/

namespace Sys2Proof.Machine

/-! ### The frame of a transaction -/

/-- CP_CS_N falling does not change the engine: it is no wake source, or the engine is neither in Rind nor entering it. -/
def State.NoWakeByPort (s : State) : Prop :=
  s.flag START_WAKE 2 = false ∨ (s.start.phase ≠ .rind ∧ s.start.phase ≠ .entering)

theorem wakeSource_port {s : State} (h : s.NoWakeByPort) : (if s.flag START_WAKE 2 then wakeSource 2 s else s) = s := by
  rcases h with h | ⟨h1, h2⟩
  · rw [h]
    rfl
  · rw [wakeSource_awake h1 h2, ite_self]

theorem portWoke_false {s : State} (h : s.NoWakeByPort) : (s.flag START_WAKE 2 && s.start.phase == .rind) = false := by
  rcases h with h | ⟨h1, -⟩
  · rw [h, Bool.false_and]
  · rw [beq_eq_false_iff_ne.mpr h1, Bool.and_false]

variable {cut : Code} {clocks tag : Nat} {f : Code → Word → State → State} {s : State}

theorem transact_off (h : s.portOn = false) : transact cut clocks tag f s = s := if_pos (by rw [h]; rfl)

/-- With its header in full a transaction runs from the state it met. -/
theorem transact_header (hp : s.portOn = true) (hw : s.NoWakeByPort) (hc : 32 ≤ clocks) :
    transact cut clocks tag f s = f .ok s.statusWord s := by
  unfold transact
  dsimp only
  rw [hp, wakeSource_port hw, portWoke_false hw, if_neg (by simp), if_neg (by omega)]
  rfl

/-- Without its header a transaction ends with the code of its OP, or with E_BUSY while the port waits (log entry 13). -/
theorem transact_cut (hp : s.portOn = true) (hw : s.NoWakeByPort) (hc : clocks < 32) :
    transact cut clocks tag f s = headerCut cut (chk s.portWaits .eBusy) clocks tag s := by
  unfold transact
  dsimp only
  rw [hp, wakeSource_port hw, portWoke_false hw, if_neg (by simp), if_pos hc]
  rfl

theorem headerCut_op {c block : Code} (hc : c ≠ .ok) (h4 : 4 ≤ clocks) :
    headerCut c block clocks tag s = txEnd (c.first block) (if 8 ≤ clocks then tag else 0) false [] s :=
  if_neg (by rintro (h | h); exacts [absurd h4 (by omega), hc h])

theorem first_eLen_busy (b : Bool) : Code.first .eLen (chk b .eBusy) = if b then .eBusy else .eLen := by cases b <;> rfl
theorem first_eSeal_busy (b : Bool) : Code.first .eSeal (chk b .eBusy) = .eSeal := by cases b <;> rfl

theorem blocked_free {p : Nat} (h : s.refused p = false) : s.blocked .ok p = .ok := by
  rw [State.blocked, if_pos rfl, h]
  rfl

theorem blocked_refused {p : Nat} (h : s.refused p = true) : s.blocked .ok p = .eBusy := by
  rw [State.blocked, if_pos rfl, h]
  rfl

theorem txEnd_done (c : Code) (t : Nat) (full : Bool) (miso : List Word) (s : State) : (txEnd c t full miso s).busCode = c ∧
    (txEnd c t full miso s).cp.lastCode = c.num ∧ (txEnd c t full miso s).cp.lastTag = t ∧ (txEnd c t full miso s).cp.miso = miso :=
  ⟨rfl, rfl, rfl, rfl⟩

theorem portCount_start (c : Code) (s : State) : (portCount c s).start = s.start := by
  unfold portCount
  split <;> simp [apply_ite State.start]

/-! ### Single transactions -/

theorem cpReserved_free {t : BitVec 4} {a : BitVec 24} (hp : s.portOn = true) (hw : s.NoWakeByPort) (hc : 32 ≤ clocks) :
    cpReserved t a clocks s = txEnd (if s.refused (a.toNat / 0x10000) then .eBusy else .eAddr) t.toNat true
      (clocked clocks [s.statusWord]) { s with busData := [] } := by
  rw [cpReserved, transact_header hp hw hc]
  cases h : s.refused (a.toNat / 0x10000)
  · rw [blocked_free h]
    rfl
  · rw [blocked_refused h]
    rfl

/-- A READ whose page the port serves is the bus's read. -/
theorem cpRead_free {t : BitVec 4} {a : BitVec 24} (hp : s.portOn = true) (hw : s.NoWakeByPort) (hc : 32 ≤ clocks)
    (hr : s.refused (a.toNat / 0x10000) = false) : cpRead t a clocks s =
      txEnd (if 128 ≤ clocks then (busRead .host a.toNat s).1 else (busRead .host a.toNat s).1.first .eLen) t.toNat (decide (128 ≤ clocks))
        (clocked clocks [s.statusWord, 0, (busRead .host a.toNat s).2.1,
          word (at_ (busRead .host a.toNat s).1.num 24 + crc16 [cpHeader 1 t a, (busRead .host a.toNat s).2.1])])
        { (if (busRead .host a.toNat s).1 = .ok ∧ 96 ≤ clocks then (busRead .host a.toNat s).2.2 else s) with
          busData := [(busRead .host a.toNat s).2.1] } := by
  rw [cpRead, transact_header hp hw hc]
  dsimp only
  rw [blocked_free hr]
  simp only [if_true, decide_eq_true_eq]

theorem cpRead_refused {t : BitVec 4} {a : BitVec 24} (hp : s.portOn = true) (hw : s.NoWakeByPort) (hc : 32 ≤ clocks)
    (hr : s.refused (a.toNat / 0x10000) = true) : cpRead t a clocks s = txEnd .eBusy t.toNat (decide (128 ≤ clocks))
      (clocked clocks [s.statusWord, 0, 0, word (at_ Code.eBusy.num 24 + crc16 [cpHeader 1 t a, 0])]) { s with busData := [0] } := by
  rw [cpRead, transact_header hp hw hc]
  dsimp only
  rw [blocked_refused hr]
  cases decide (128 ≤ clocks) <;> rfl

/-- A WRITE with its seal and the right CRC to a page that the port serves is the bus's write; a soft reset abandons it (R116). -/
theorem cpWrite_free {t : BitVec 4} {a : BitVec 24} {v : Word} (hp : s.portOn = true) (hw : s.NoWakeByPort) (hc : 104 ≤ clocks)
    (hr : s.refused (a.toNat / 0x10000) = false) : cpWrite t a v (crcWord [cpHeader 2 t a, v]) clocks s =
      if (busWrite .host a.toNat v s).1 = .ok ∧ a.toNat = START_CTL ∧ bits v 31 16 = 0x50F7 then (busWrite .host a.toNat v s).2
      else txEnd (busWrite .host a.toNat v s).1 t.toNat true (clocked clocks [s.statusWord])
        { (busWrite .host a.toNat v s).2 with busData := [] } := by
  rw [cpWrite, transact_header hp hw (by omega)]
  dsimp only
  rw [blocked_free hr, bne_self_eq_false, decide_eq_true hc]
  rfl

/-- A WRITE whose first failing check is its seal, its CRC or its page ends with that code and does nothing. -/
theorem cpWrite_checked {t : BitVec 4} {a : BitVec 24} {v crc : Word} {c : Code} (hp : s.portOn = true) (hw : s.NoWakeByPort)
    (hc : 32 ≤ clocks) (hne : c ≠ .ok) (h : firstCode [chk (!decide (104 ≤ clocks)) .eSeal,
      chk (crc != crcWord [cpHeader 2 t a, v]) .eCrc, s.blocked .ok (a.toNat / 0x10000)] = c) :
    cpWrite t a v crc clocks s =
      txEnd c t.toNat (decide (104 ≤ clocks)) (clocked clocks [s.statusWord]) { s with busData := [] } := by
  rw [cpWrite, transact_header hp hw hc]
  dsimp only
  rw [h, if_neg hne]

theorem cpWrite_unsealed {t : BitVec 4} {a : BitVec 24} {v crc : Word} (hp : s.portOn = true) (hw : s.NoWakeByPort)
    (hc : 32 ≤ clocks) (h : clocks < 104) : cpWrite t a v crc clocks s =
      txEnd .eSeal t.toNat false (clocked clocks [s.statusWord]) { s with busData := [] } := by
  have hseal : decide (104 ≤ clocks) = false := decide_eq_false (by omega)
  rw [cpWrite_checked hp hw hc (c := .eSeal) (by decide) (by rw [hseal]; rfl), hseal]

theorem cpWrite_wrongCrc {t : BitVec 4} {a : BitVec 24} {v crc : Word} (hp : s.portOn = true) (hw : s.NoWakeByPort)
    (hc : 104 ≤ clocks) (h : crc ≠ crcWord [cpHeader 2 t a, v]) : cpWrite t a v crc clocks s =
      txEnd .eCrc t.toNat true (clocked clocks [s.statusWord]) { s with busData := [] } := by
  have hseal : decide (104 ≤ clocks) = true := decide_eq_true hc
  rw [cpWrite_checked hp hw (by omega) (c := .eCrc) (by decide) (by rw [hseal, bne_iff_ne.mpr h]; rfl), hseal]

theorem cpWrite_refused {t : BitVec 4} {a : BitVec 24} {v : Word} (hp : s.portOn = true) (hw : s.NoWakeByPort) (hc : 104 ≤ clocks)
    (hr : s.refused (a.toNat / 0x10000) = true) : cpWrite t a v (crcWord [cpHeader 2 t a, v]) clocks s =
      txEnd .eBusy t.toNat true (clocked clocks [s.statusWord]) { s with busData := [] } := by
  have hseal : decide (104 ≤ clocks) = true := decide_eq_true hc
  rw [cpWrite_checked hp hw (by omega) (c := .eBusy) (by decide) (by rw [hseal, bne_self_eq_false, blocked_refused hr]; rfl), hseal]

theorem cpRead_cut {t : BitVec 4} {a : BitVec 24} (hp : s.portOn = true) (hw : s.NoWakeByPort) (h4 : 4 ≤ clocks) (hc : clocks < 32) :
    cpRead t a clocks s = txEnd (if s.portWaits then .eBusy else .eLen) (if 8 ≤ clocks then t.toNat else 0) false [] s := by
  rw [cpRead, transact_cut hp hw hc, headerCut_op (by decide) h4, first_eLen_busy]

theorem cpWrite_cut {t : BitVec 4} {a : BitVec 24} {v crc : Word} (hp : s.portOn = true) (hw : s.NoWakeByPort) (h4 : 4 ≤ clocks)
    (hc : clocks < 32) : cpWrite t a v crc clocks s = txEnd .eSeal (if 8 ≤ clocks then t.toNat else 0) false [] s := by
  rw [cpWrite, transact_cut hp hw hc, headerCut_op (by decide) h4, first_eSeal_busy]

/-- Settles O24: a transaction with its header in full is judged by seal, CRC and page, in this order, and then by the bus; one
without ends by its OP (log entry 13). -/
theorem portSingleTransactions : Obligations.PortSingleTransactions := by
  refine ⟨fun s hp hw => ⟨fun clocks hc => done_eq (transact_header hp hw hc), fun _ _ _ _ hc => done_eq (cpReserved_free hp hw hc),
      fun _ _ _ hc hr => done_eq (cpRead_free hp hw hc hr), fun _ _ _ _ hc hr => done_eq (cpWrite_free hp hw hc hr),
      fun _ _ _ _ _ hc h => done_eq (cpWrite_unsealed hp hw hc h), fun _ _ _ _ _ hc h => done_eq (cpWrite_wrongCrc hp hw hc h),
      fun _ _ _ _ hr => ⟨fun hc => done_eq (cpRead_refused hp hw hc hr), fun hc => done_eq (cpWrite_refused hp hw hc hr)⟩,
      fun _ _ _ _ _ h4 hc => ⟨done_eq (cpRead_cut hp hw h4 hc), done_eq (cpWrite_cut hp hw h4 hc)⟩⟩,
    fun _ _ _ _ _ _ s hp => ⟨done_eq (transact_off hp), done_eq (transact_off hp), done_eq (transact_off hp), done_eq (transact_off hp)⟩,
    fun c tag full miso s => ⟨rfl, rfl, rfl, rfl, ?_⟩⟩
  exact congrArg (·.hostPresent || full) (portCount_start c s)

/-! ### Bulk and page transactions -/

theorem firstCode_singleton (c : Code) : firstCode [c] = c := by cases c <;> rfl

theorem firstCode_cons_congr (c : Code) {l m : List Code} (h : firstCode l = firstCode m) : firstCode (c :: l) = firstCode (c :: m) := by
  rw [firstCode, firstCode, h]

theorem firstCode_chk (b : Bool) (c : Code) (l : List Code) (hc : c ≠ .ok) : firstCode (chk b c :: l) = if b then c else firstCode l := by
  cases b
  · rfl
  · cases c with
    | ok => exact absurd rfl hc
    | _ => rfl

theorem toNat_word_length {ws : List Word} (h : ws.length < 2 ^ 32) : (word ws.length).toNat = ws.length := by
  rw [word, BitVec.toNat_ofNat, Nat.mod_eq_of_lt h]

theorem getD_append_crc (ws : List Word) (crc : Word) : (ws ++ [crc]).getD ws.length 0 = crc := by simp

/-- The data words of a BULK WRITE are those ahead of its CRC word, however they are taken. -/
theorem bulkWords_eq (ws : List Word) (crc : Word) : (if ws.length ≤ 4096 then
    (List.range ws.length).map (fun k => (ws ++ [crc]).getD k 0) else (ws ++ [crc]).take ws.length) = ws := by
  split
  · refine List.ext_getElem (by simp) fun k h1 h2 => ?_
    simp [List.getElem?_append_left h2, h2]
  · simp

/-- A BULK READ of a page that the port serves. -/
theorem cpBulkRead_free {t : BitVec 4} {a : BitVec 24} {len : Word} (hp : s.portOn = true) (hw : s.NoWakeByPort) (hc : 32 ≤ clocks)
    (hr : s.refused (a.toNat / 0x10000) = false) : cpBulkRead t a len clocks s =
      let n := len.toNat
      let u := if a.toNat ≤ TBL_BW ∧ TBL_BW < a.toNat + 4 * min n 256 then drawn TBL_BW s else s
      let r := u.bulkRead a.toNat n
      let ws := dataWords r.1 clocks n r.2
      txEnd (if 32 * (n + 4) ≤ clocks then r.1 else r.1.first .eLen) t.toNat (decide (32 * (n + 4) ≤ clocks))
        (clocked clocks ([s.statusWord, 0, 0] ++ ws ++ [word (at_ r.1.num 24 + crc16 (cpHeader 3 t a :: len :: ws))]))
        { (if r.1 = .ok ∧ 96 ≤ clocks then bulkTakes a.toNat n (delivered clocks n) u else u) with busData := ws } := by
  rw [cpBulkRead, transact_header hp hw hc]
  dsimp only
  rw [blocked_free hr]
  simp only [beq_self_eq_true, Bool.true_and, decide_eq_true_eq, if_true]

theorem cpBulkRead_refused {t : BitVec 4} {a : BitVec 24} {len : Word} (hp : s.portOn = true) (hw : s.NoWakeByPort)
    (hc : 32 ≤ clocks) (hr : s.refused (a.toNat / 0x10000) = true) : ∃ ms x, cpBulkRead t a len clocks s =
      txEnd .eBusy t.toNat (decide (32 * (len.toNat + 4) ≤ clocks)) ms { s with busData := x } := by
  rw [cpBulkRead, transact_header hp hw hc]
  dsimp only
  rw [blocked_refused hr]
  cases decide (32 * (len.toNat + 4) ≤ clocks) <;> exact ⟨_, _, rfl⟩

/-- The checks of a BULK WRITE to a page that the port serves: its address, then its length and its window (R8, R110). -/
def State.bulkWriteCode (a : Nat) (ws : List Word) (s : State) : Code :=
  if a % 4 ≠ 0 then .eAlign else if ((regAt a).any fun r => r.win == .write) = false then .eAddr
  else (lenCode 4096 ws.length).first (s.windowCode a ws)

theorem firstCode_bulkWrite (a : Nat) (ws : List Word) (s : State) :
    firstCode [chk (a % 4 != 0) .eAlign, chk (!(match regAt a with | some r => r.win == .write | none => false)) .eAddr,
      (lenCode 4096 ws.length).first (s.windowCode a ws)] = s.bulkWriteCode a ws := by
  have hwin : (match regAt a with | some r => r.win == .write | none => false) = (regAt a).any fun r => r.win == .write := by
    cases regAt a <;> rfl
  rw [hwin, firstCode_chk _ _ _ (by decide), firstCode_chk _ _ _ (by decide), firstCode_singleton]
  simp [State.bulkWriteCode]

/-- A BULK WRITE with its data words and CRC word, judged by the code `c` that its checks return. -/
theorem cpBulkWrite_sent {t : BitVec 4} {a : BitVec 24} {ws : List Word} {crc : Word} {c : Code} (hp : s.portOn = true)
    (hw : s.NoWakeByPort) (hlen : ws.length < 2 ^ 32) (hc : 32 * (ws.length + 3) + 8 ≤ clocks)
    (h : firstCode [chk (crc != crcWord (cpHeader 4 t a :: word ws.length :: ws)) .eCrc, s.blocked .ok (a.toNat / 0x10000),
      s.bulkWriteCode a.toNat ws] = c) :
    cpBulkWrite t a (word ws.length) (ws ++ [crc]) clocks s = txEnd c t.toNat true (clocked clocks [s.statusWord])
      { (if c = .ok then followUp s (windowWrite a.toNat ws s) else s) with busData := [] } := by
  have hcode : firstCode [chk (crc != crcWord (cpHeader 4 t a :: word ws.length :: ws)) .eCrc, s.blocked .ok (a.toNat / 0x10000),
      chk (a.toNat % 4 != 0) .eAlign, chk (!(match regAt a.toNat with | some r => r.win == .write | none => false)) .eAddr,
      (lenCode 4096 ws.length).first (s.windowCode a.toNat ws)] = c :=
    (firstCode_cons_congr _ (firstCode_cons_congr _ ((firstCode_bulkWrite ..).trans (firstCode_singleton _).symm))).trans h
  subst hcode
  rw [cpBulkWrite, transact_header hp hw (by omega)]
  dsimp only
  rw [toNat_word_length hlen, getD_append_crc, bulkWords_eq, decide_eq_true hc, Bool.not_true, chk_false]
  rfl

theorem cpBulkWrite_unsealed {t : BitVec 4} {a : BitVec 24} {len : Word} {ws : List Word} (hp : s.portOn = true)
    (hw : s.NoWakeByPort) (hc : 32 ≤ clocks) (h : clocks < 32 * (len.toNat + 3) + 8) : cpBulkWrite t a len ws clocks s =
      txEnd .eSeal t.toNat false (clocked clocks [s.statusWord]) { s with busData := [] } := by
  rw [cpBulkWrite, transact_header hp hw hc]
  dsimp only
  rw [decide_eq_false (by omega)]
  rfl

/-- The code of a PAGE READ of `n` words from `a` that the port serves (R110, R111; log entry 76). -/
def State.pageReadCode (a n : Nat) (s : State) : Code :=
  if s.cp.pages = [] then .eState else if n = 0 ∨ 1024 < a % 1024 + n then .eLen else if 1024 ≤ a then .eRange else .ok

theorem firstCode_pageRead (a n : Nat) (s : State) : firstCode [chk s.cp.pages.isEmpty .eState,
    chk (n == 0 || decide (1024 < a % 1024 + n)) .eLen, chk (decide (1024 ≤ a)) .eRange] = s.pageReadCode a n := by
  rw [firstCode_chk _ _ _ (by decide), firstCode_chk _ _ _ (by decide), firstCode_chk _ _ _ (by decide)]
  simp [State.pageReadCode]

/-- A PAGE READ of the held page. -/
theorem cpPageRead_free {t : BitVec 4} {a : BitVec 24} {len : Word} (hp : s.portOn = true) (hw : s.NoWakeByPort) (hc : 32 ≤ clocks)
    (hr : s.refused 0x13 = false) : cpPageRead t a len clocks s =
      let n := len.toNat
      let c := s.pageReadCode a.toNat n
      let ws := dataWords c clocks n ((List.range (min n 1024)).map fun k => s.heldWords.getD (a.toNat + k) 0)
      let x := if c = .ok ∧ 0 < delivered clocks n then { s with cp := { s.cp with pageNext := a.toNat + delivered clocks n } } else s
      txEnd (if 32 * (n + 4) ≤ clocks then c else c.first .eLen) t.toNat (decide (32 * (n + 4) ≤ clocks))
        (clocked clocks ([s.statusWord, 0, 0] ++ ws ++ [word (at_ c.num 24 + crc16 (cpHeader 5 t a :: len :: ws))]))
        { (if c = .ok ∧ 32 * (n + 4) ≤ clocks ∧ a.toNat + n = 1024 then pageFreed x else x) with busData := ws } := by
  rw [cpPageRead, transact_header hp hw hc]
  dsimp only
  rw [blocked_free hr, firstCode_ok, firstCode_pageRead]
  simp only [decide_eq_true_eq]

theorem cpPageRead_refused {t : BitVec 4} {a : BitVec 24} {len : Word} (hp : s.portOn = true) (hw : s.NoWakeByPort)
    (hc : 32 ≤ clocks) (hr : s.refused 0x13 = true) : ∃ ms x, cpPageRead t a len clocks s =
      txEnd .eBusy t.toNat (decide (32 * (len.toNat + 4) ≤ clocks)) ms { s with busData := x } := by
  rw [cpPageRead, transact_header hp hw hc]
  dsimp only
  rw [blocked_refused hr]
  cases decide (32 * (len.toNat + 4) ≤ clocks) <;> exact ⟨_, _, rfl⟩

/-- A PAGE RELEASE whose checks return the code `c`. -/
theorem cpPageRelease_checked {t : BitVec 4} {a : BitVec 24} {crc : Word} {c : Code} (hp : s.portOn = true) (hw : s.NoWakeByPort)
    (hc : 32 ≤ clocks) (h : firstCode [chk (!decide (72 ≤ clocks)) .eSeal, chk (crc != crcWord [cpHeader 6 t a]) .eCrc,
      s.blocked .ok 0x13, chk (s.closing || s.cp.pages.isEmpty) .eState] = c) :
    cpPageRelease t a crc clocks s = txEnd c t.toNat (decide (72 ≤ clocks)) (clocked clocks [s.statusWord])
      { (if c = .ok then pageFreed s else s) with busData := [] } := by
  subst h
  rw [cpPageRelease, transact_header hp hw hc]

theorem cpPageRelease_held {t : BitVec 4} {a : BitVec 24} (hp : s.portOn = true) (hw : s.NoWakeByPort) (hc : 72 ≤ clocks)
    (hr : s.refused 0x13 = false) (hcl : s.closing = false) (hpg : s.cp.pages ≠ []) :
    cpPageRelease t a (crcWord [cpHeader 6 t a]) clocks s =
      txEnd .ok t.toNat true (clocked clocks [s.statusWord]) { pageFreed s with busData := [] } := by
  have hseal : decide (72 ≤ clocks) = true := decide_eq_true hc
  have hst : (s.closing || s.cp.pages.isEmpty) = false := by simp [hcl, hpg]
  rw [cpPageRelease_checked hp hw (by omega) (c := .ok) (by rw [hseal, bne_self_eq_false, blocked_free hr, hst]; rfl), hseal]
  rfl

/-- A PAGE RELEASE that a check turns away. -/
theorem cpPageRelease_away {t : BitVec 4} {a : BitVec 24} {crc : Word} {c : Code} {full : Bool} (hp : s.portOn = true)
    (hw : s.NoWakeByPort) (hc : 32 ≤ clocks) (hfull : decide (72 ≤ clocks) = full) (hne : c ≠ .ok)
    (h : firstCode [chk (!full) .eSeal, chk (crc != crcWord [cpHeader 6 t a]) .eCrc, s.blocked .ok 0x13,
      chk (s.closing || s.cp.pages.isEmpty) .eState] = c) :
    cpPageRelease t a crc clocks s = txEnd c t.toNat full (clocked clocks [s.statusWord]) { s with busData := [] } := by
  subst hfull
  rw [cpPageRelease_checked hp hw hc h, if_neg hne]

/-- Settles O25: each of the four transactions runs through its checks in order, seal, CRC, page (pages as page 0x13, log entry
12) and its own (log entry 76), and acts on OK alone. -/
theorem portBulkAndPages : Obligations.PortBulkAndPages := by
  refine fun s hp hw => ⟨fun _ _ _ _ hc hr => done_eq (cpBulkRead_free hp hw hc hr), fun _ _ _ _ hl hr hc => ?_,
    fun _ _ _ _ _ hc h => done_eq (cpBulkWrite_unsealed hp hw hc h), fun _ _ _ _ _ hl hc h => ?_,
    fun _ _ _ _ hc hr => done_eq (cpPageRead_free hp hw hc hr), fun t a clocks hc hr => ⟨fun hcl hpg => ?_, fun h => ?_⟩,
    fun _ _ _ _ => ⟨fun hc h => ?_, fun hc h => ?_⟩, fun _ _ _ _ _ => ⟨fun hr hc => ?_, fun hr hc => ?_, fun hr hl hc => ?_, fun hr hc => ?_⟩⟩
  · refine done_eq (cpBulkWrite_sent hp hw hl hc ?_)
    rw [bne_self_eq_false, blocked_free hr, chk_false, firstCode_ok, firstCode_ok, firstCode_singleton]
    rfl
  · refine done_eq (cpBulkWrite_sent hp hw hl hc (c := .eCrc) ?_)
    rw [bne_iff_ne.mpr h]
    rfl
  · exact done_eq (cpPageRelease_held hp hw hc hr hcl hpg)
  · have hst : (s.closing || s.cp.pages.isEmpty) = true := by simpa using h
    refine done_eq (cpPageRelease_away hp hw (by omega) (decide_eq_true hc) (by decide) ?_)
    rw [bne_self_eq_false, blocked_free hr, hst]
    rfl
  · exact done_eq (cpPageRelease_away hp hw hc (decide_eq_false (by omega)) (by decide) rfl)
  · refine done_eq (cpPageRelease_away hp hw (by omega) (decide_eq_true hc) (by decide) ?_)
    rw [bne_iff_ne.mpr h]
    rfl
  · obtain ⟨ms, x, h⟩ := cpBulkRead_refused hp hw hc hr
    exact ⟨ms, x, done_eq h⟩
  · obtain ⟨ms, x, h⟩ := cpPageRead_refused hp hw hc hr
    exact ⟨ms, x, done_eq h⟩
  · refine done_eq (cpBulkWrite_sent hp hw hl hc (c := .eBusy) ?_)
    rw [bne_self_eq_false, blocked_refused hr]
    rfl
  · refine done_eq (cpPageRelease_away hp hw (by omega) (decide_eq_true hc) (by decide) ?_)
    rw [bne_self_eq_false, blocked_refused hr]
    rfl

end Sys2Proof.Machine
end

section
/-! Proofs about the key registers and the windows (05_control_port.md), and about reads with an effect. -/

namespace Sys2Proof.Machine

/-! ### Words put together from fields -/

theorem bits_word (n hi lo : Nat) : bits (word n) hi lo = n % 2 ^ 32 / 2 ^ lo % 2 ^ (hi - lo + 1) := by
  rw [bits, word, BitVec.toNat_ofNat]

theorem toNat_word {n : Nat} (h : n < 2 ^ 32) : (word n).toNat = n := by rw [word, BitVec.toNat_ofNat, Nat.mod_eq_of_lt h]

/-- A word whose low `k` bits are a field of the register sets no reserved bit when the bits above do not. -/
theorem reservedSet_split {r : Reg} {v : Word} {k a b c : Nat} (hv : v.toNat = 2 ^ k * a + b) (hb : b < 2 ^ k)
    (hm : r.flds.foldl (fun n f => n ||| f.mask) 0 = 2 ^ k * c + (2 ^ k - 1)) (ha : a &&& c = a) : r.reservedSet v = false := by
  have hlow : 2 ^ k - 1 < 2 ^ k := Nat.sub_lt (Nat.two_pow_pos k) Nat.one_pos
  have hand : (2 ^ k * a + b) &&& (2 ^ k * c + (2 ^ k - 1)) = 2 ^ k * a + b := by
    refine Nat.eq_of_testBit_eq fun i => ?_
    rw [Nat.testBit_and, Nat.testBit_two_pow_mul_add _ hb, Nat.testBit_two_pow_mul_add _ hlow]
    split
    · next hi => simp [hi]
    · rw [← Nat.testBit_and, ha]
  rw [Reg.reservedSet, hv, hm, hand, bne_self_eq_false]

/-! ### Keys -/

theorem winWriteCode_keyStage (ws : List Word) (s : State) : s.winWriteCode KEY_STAGE ws = (lenCode 4096 ws.length).first
    (firstCode [chk (s.flag KEY_LOCK 0) .eLock, chk s.closing .eState, chk (ws.length != 7 && ws.length != 11) .eLen]) := rfl

/-- A code that ranks before E_LEN is returned whatever the length. -/
theorem first_lenCode_early {mx n : Nat} {c : Code} (h : c.rank < Code.eLen.rank) : (lenCode mx n).first c = c := by
  have h13 : c.rank < Code.ok.rank := Nat.lt_trans h (by decide)
  rcases lenCode_cases mx n with hl | hl <;> rw [hl, Code.first]
  · exact if_pos h13
  · exact if_pos h

/-- What KEY_CMD's word says (Table 5.11). -/
def keyWord (op alg slot : Nat) : Word := word (at_ op 30 + at_ alg 28 + slot)

theorem bits_keyWord {op alg slot : Nat} (ho : op < 4) (ha : alg < 4) (hs : slot < 512) : bits (keyWord op alg slot) 31 30 = op ∧
    bits (keyWord op alg slot) 29 28 = alg ∧ bits (keyWord op alg slot) 8 0 = slot := by
  rw [keyWord, bits_word, bits_word, bits_word]
  simp only [at_]
  omega

theorem fits_keyWord {op alg slot : Nat} (hs : slot < 512) (h : op = 1 ∧ (alg = 1 ∨ alg = 2) ∨ op = 2 ∧ alg = 0) :
    Fits KEY_CMD (keyWord op alg slot) := by
  have ho : 1 ≤ op ∧ op ≤ 2 := by omega
  have ha : alg ≤ 2 := by omega
  obtain ⟨hop, halg, hslot⟩ := bits_keyWord (by omega : op < 4) (by omega : alg < 4) hs
  refine ⟨_, rfl, reservedSet_split (k := 9) (a := op * 2 ^ 21 + alg * 2 ^ 19) (b := slot) (c := 0x780000) ?_ hs rfl ?_, ?_⟩
  · rw [keyWord, toNat_word] <;> simp only [at_] <;> omega
  · rcases h with ⟨rfl, rfl | rfl⟩ | ⟨rfl, rfl⟩ <;> rfl
  · simp [Reg.outOfRange, r1, fr, fd, Fld.writable, hop, halg, hslot, ho.1, ho.2, ha]
    omega

theorem takesWrites_keyCmd : TakesWrites KEY_CMD 0x15 := takesWrites_of (by decide)
theorem takesWrites_keyLock : TakesWrites KEY_LOCK 0x15 := takesWrites_of (by decide)

theorem writeRule_keyCmd (o : Origin) (v : Word) (s : State) : writeRule o KEY_CMD v s = 
    { pre := firstCode [firstCode [chk (s.flag KEY_LOCK 0) .eLock, chk (isVat o) .eState],
        chk (bits v 31 30 == 1 && s.cp.stage.length == 0) .eState,
        chk (bits v 31 30 == 1 && keyLen (bits v 29 28) != 0 && s.cp.stage.length != keyLen (bits v 29 28)) .eLen]
      bad := if bits v 31 30 == 1 then keyLen (bits v 29 28) == 0 else bits v 29 28 != 0
      store := false
      app := if bits v 31 30 == 1 then startOp 5 (bits v 8 0 + 512 * bits v 29 28)
        else fun t => let u := setKey (bits v 8 0) none t; { u with cp := { u.cp with keyLast := 0 } } } := rfl

theorem keyLen_cases {alg : Nat} (h : keyLen alg ≠ 0) : alg = 1 ∨ alg = 2 := by
  unfold keyLen at h
  split at h
  · exact .inl rfl
  · exact .inr rfl
  · exact absurd rfl h

section Import
variable {o : Origin} {slot : Fin 512} {s : State}

theorem execKeyImport_eq (o : Origin) (slot : Fin 512) (alg : Fin 4) (s : State) :
    exec (.keyImport o slot alg) s = done (regWrite o KEY_CMD (keyWord 1 alg.val slot.val) s) := rfl

theorem execKeyClear_eq (o : Origin) (slot : Fin 512) (s : State) :
    exec (.keyClear o slot) s = done (regWrite o KEY_CMD (keyWord 2 0 slot.val) s) := rfl

/-- The checks of an import: the lock, the origin, then the staged words (R118, R121). -/
theorem keyImport_pre (o : Origin) (slot : Fin 512) (alg : Fin 4) (s : State) :
    (writeRule o KEY_CMD (keyWord 1 alg.val slot.val) s).pre =
      firstCode [firstCode [chk (s.flag KEY_LOCK 0) .eLock, chk (isVat o) .eState], chk (s.cp.stage.length == 0) .eState,
        chk (keyLen alg.val != 0 && s.cp.stage.length != keyLen alg.val) .eLen] := by
  obtain ⟨hop, halg, -⟩ := bits_keyWord (by decide : 1 < 4) alg.isLt slot.isLt
  rw [writeRule_keyCmd]
  dsimp only
  rw [hop, halg]
  rfl

theorem keyImport_bad (o : Origin) (slot : Fin 512) (alg : Fin 4) (s : State) :
    (writeRule o KEY_CMD (keyWord 1 alg.val slot.val) s).bad = (keyLen alg.val == 0) := by
  obtain ⟨hop, halg, -⟩ := bits_keyWord (by decide : 1 < 4) alg.isLt slot.isLt
  rw [writeRule_keyCmd]
  dsimp only
  rw [hop, halg]
  rfl

theorem keyImport_app (o : Origin) (slot : Fin 512) (alg : Fin 4) (s t : State) :
    (writeRule o KEY_CMD (keyWord 1 alg.val slot.val) s).app t = startOp 5 (slot.val + 512 * alg.val) t := by
  obtain ⟨hop, halg, hslot⟩ := bits_keyWord (by decide : 1 < 4) alg.isLt slot.isLt
  rw [writeRule_keyCmd]
  dsimp only
  rw [hop, halg, hslot]
  rfl

theorem keyClear_pre (o : Origin) (slot : Fin 512) (s : State) : (writeRule o KEY_CMD (keyWord 2 0 slot.val) s).pre =
    firstCode [firstCode [chk (s.flag KEY_LOCK 0) .eLock, chk (isVat o) .eState]] := by
  obtain ⟨hop, -, -⟩ := bits_keyWord (by decide : 2 < 4) (by decide : 0 < 4) slot.isLt
  rw [writeRule_keyCmd]
  dsimp only
  rw [hop]
  rfl

theorem keyClear_bad (o : Origin) (slot : Fin 512) (s : State) : (writeRule o KEY_CMD (keyWord 2 0 slot.val) s).bad = false := by
  obtain ⟨hop, halg, -⟩ := bits_keyWord (by decide : 2 < 4) (by decide : 0 < 4) slot.isLt
  rw [writeRule_keyCmd]
  dsimp only
  rw [hop, halg]
  rfl

theorem keyClear_app (o : Origin) (slot : Fin 512) (s t : State) : (writeRule o KEY_CMD (keyWord 2 0 slot.val) s).app t =
    { indexEmpty slot.val t with cp := { t.cp with keys := adel t.cp.keys slot.val, keyLast := 0 } } := by
  obtain ⟨hop, -, hslot⟩ := bits_keyWord (by decide : 2 < 4) (by decide : 0 < 4) slot.isLt
  rw [writeRule_keyCmd]
  dsimp only
  rw [hop, hslot]
  rfl

/-- An import or clear that its rule turns away. -/
theorem keyCmd_away {v : Word} {c : Code} (ho : Open o 0x15 s) (h : (writeRule o KEY_CMD v s).pre = c) (hne : c ≠ .ok) :
    done (regWrite o KEY_CMD v s) = .next (turnedAway o c s) :=
  write_pre o KEY_CMD 0x15 v s c _ takesWrites_keyCmd ho rfl h hne rfl

end Import

/-- An import that ends, with the right or a wrong check value (R118). -/
theorem keyImported_running {s : State} {k : LongOp} (hop : s.cp.op = some k) (hid : k.id = 5) : keyImported s =
    if keyCheckValue (s.cp.stage.take (keyLen (k.arg / 512) - 3)) = s.cp.kcv then followUp s (endOp .ok
      { indexEmpty (k.arg % 512) s with
        cp := { s.cp with keys := aput s.cp.keys (k.arg % 512) ⟨k.arg / 512, s.cp.stage⟩, stage := [], kcv := 0, keyLast := Code.ok.num } })
    else followUp s (endOp .eAuth { raiseN 0x1FE 0 s with cp := { s.cp with stage := [], kcv := 0, keyLast := Code.eAuth.num } }) := by
  unfold keyImported
  rw [hop]
  dsimp only
  rw [if_neg (by simp [hid])]
  by_cases h : keyCheckValue (s.cp.stage.take (keyLen (k.arg / 512) - 3)) = s.cp.kcv
  · rw [if_pos h, beq_iff_eq.mpr h]
    rfl
  · rw [if_neg h, beq_eq_false_iff_ne.mpr h]
    simp only [Bool.false_eq_true, if_false, raiseN_cp]

theorem keyImported_other {s : State} (h : s.cp.op = none ∨ ∃ k, s.cp.op = some k ∧ k.id ≠ 5) : keyImported s = s := by
  unfold keyImported
  rcases h with h | ⟨k, h, hid⟩
  · rw [h]
  · rw [h]
    exact if_pos hid

/-- Settles O26: the lock comes first, then the origin, then what is staged; an import with no algorithm is out of range
(log entry 57). -/
theorem keyCommands : Obligations.KeyCommands := by
  refine ⟨fun ws s hm => ⟨fun hl => ?_, fun hl hc => ?_, fun hl hc h7 h11 => ?_, fun hl hc hlen => ?_⟩,
    fun slot alg s ho hl => ⟨fun hs => ?_, fun hs ha hlen => ?_, fun hs ha => ?_, fun ha hlen => ?_⟩,
    fun s k hlive hop hid => ⟨fun h => ?_, fun h => ?_⟩, fun s h => ?_, fun slot s ho hl => ?_, fun s ho => ?_,
    fun t slot alg s ho => ⟨?_, fun hl => ⟨?_, ?_⟩⟩, fun o slot alg s ho hl => ⟨?_, ?_⟩⟩
  · refine win_away KEY_STAGE 0x15 s .eLock ws rfl hm ?_ (by decide)
    rw [winWriteCode_keyStage, hl]
    exact first_lenCode_early (c := .eLock) (by decide)
  · refine win_away KEY_STAGE 0x15 s .eState ws rfl hm ?_ (by decide)
    rw [winWriteCode_keyStage, hl, hc]
    exact first_lenCode_early (c := .eState) (by decide)
  · refine win_away KEY_STAGE 0x15 s .eLen ws rfl hm ?_ (by decide)
    rw [winWriteCode_keyStage, hl, hc, bne_iff_ne.mpr h7, bne_iff_ne.mpr h11]
    rcases lenCode_cases 4096 ws.length with h | h <;> rw [h] <;> rfl
  · refine win_ok KEY_STAGE 0x15 s ws rfl hm ?_
    rw [winWriteCode_keyStage, hl, hc]
    rcases hlen with h | h <;> rw [h] <;> rfl
  · refine keyCmd_away ho ((keyImport_pre ..).trans ?_) (by decide)
    rw [hl, hs]
    rfl
  · refine keyCmd_away ho ((keyImport_pre ..).trans ?_) (by decide)
    have h0 : (s.cp.stage.length == 0) = false := by simpa using hs
    rw [hl, h0, bne_iff_ne.mpr ha, bne_iff_ne.mpr hlen]
    rfl
  · have h0 : (s.cp.stage.length == 0) = false := by simpa using hs
    refine write_bad .host KEY_CMD 0x15 _ s _ takesWrites_keyCmd ho rfl ((keyImport_pre ..).trans ?_) ((keyImport_bad ..).trans ?_) rfl
    · rw [hl, h0, ha]
      rfl
    · rw [ha]
      rfl
  · have h0 : (s.cp.stage.length == 0) = false := by rw [hlen]; simpa using ha
    refine write_acts takesWrites_keyCmd ho (fits_keyWord slot.isLt (.inl ⟨rfl, keyLen_cases ha⟩)) ((keyImport_pre ..).trans ?_)
      ((keyImport_bad ..).trans ?_) rfl (keyImport_app ..)
    · rw [hl, h0, hlen, bne_self_eq_false, Bool.and_false]
      rfl
    · simpa using ha
  · exact done_after ((if_pos hlive).trans ((keyImported_running hop hid).trans (if_pos h)))
  · exact done_after ((if_pos hlive).trans ((keyImported_running hop hid).trans (if_neg h)))
  · rcases h with h | h
    · exact done_neg (by simp [h])
    · exact done_eq (by rw [keyImported_other h, ite_self])
  · refine write_acts takesWrites_keyCmd ho (fits_keyWord slot.isLt (.inr ⟨rfl, rfl⟩)) ((keyClear_pre ..).trans ?_)
      (keyClear_bad ..) rfl (keyClear_app ..)
    rw [hl]
    rfl
  · refine write_acts takesWrites_keyLock ho (fits_of_legal (by decide)) ?_ rfl rfl rfl
    cases hl : s.flag KEY_LOCK 0 <;> (change firstCode [chk (s.flag KEY_LOCK 0 && _) _, _] = _; rw [hl]; rfl)
  · refine write_pre _ KEY_LOCK 0x15 1 s .eState _ takesWrites_keyLock ho rfl ?_ (by decide) rfl
    cases hl : s.flag KEY_LOCK 0 <;> (change firstCode [chk (s.flag KEY_LOCK 0 && _) _, _] = _; rw [hl]; rfl)
  · refine keyCmd_away ho ((keyImport_pre ..).trans ?_) (by decide)
    rw [hl]
    rfl
  · refine keyCmd_away ho ((keyClear_pre ..).trans ?_) (by decide)
    rw [hl]
    rfl
  · refine keyCmd_away ho ((keyImport_pre ..).trans ?_) (by decide)
    rw [hl]
    rfl
  · refine keyCmd_away ho ((keyClear_pre ..).trans ?_) (by decide)
    rw [hl]
    rfl

end Sys2Proof.Machine
end

section
/-! Proofs about reads with an effect and window accesses (05_control_port.md and the chapters of the windows). -/

namespace Sys2Proof.Machine

/-! ### Reads with an effect -/

theorem pageBusy_free {o : Origin} {p a : Nat} {s : State} (hp : a / 0x10000 = p) (h : isVat o = true → s.opOnPage p = false) :
    s.pageBusy o a = false := by
  rw [State.pageBusy, hp]
  cases hv : isVat o
  · rfl
  · rw [h hv, Bool.true_and]

/-- The register at `a` of page `p` takes single reads and is not TBL_BW. -/
def Readable (a p : Nat) : Bool :=
  (match regAt a with
   | some r => r.win != .read
   | none => false) && a / 0x10000 == p && a % 4 == 0 && a != TBL_BW

/-- A single read of such a register answers its word and takes what the read takes. -/
theorem regRead_takes {o : Origin} {a p : Nat} {s x : State} (hr : Readable a p = true) (ho : May o p s)
    (hb : isVat o = true → s.opOnPage p = false) (hx : readTakes o a s = x) : done (regRead o a s) =
      .next (settle (seenBy o { x with busCode := .ok, busData := [s.readWord o a] })) := by
  simp only [Readable, Bool.and_eq_true, beq_iff_eq, bne_iff_ne] at hr
  obtain ⟨⟨⟨hr, hp⟩, ha⟩, hT⟩ := hr
  split at hr
  · next r hreg =>
    have hc := readCode_mapped hreg (pageBusy_free hp hb) ha (bne_iff_ne.mp hr)
    rw [regRead_ok (hp ▸ ho) hc, drawn_same s hT, hx]
  · cases hr

/-- The vector that the A or B read addresses. -/
def vecAddr (b : Bool) : Nat := if b then GUT_VEC_B else GUT_VEC_A

theorem readable_vecAddr (b : Bool) : Readable (vecAddr b) 0x03 = true := by cases b <;> decide

theorem readTakes_vector (o : Origin) (b : Bool) (s : State) :
    ∃ w, readTakes o (vecAddr b) s = vectorTaken (b2n b) (s.setReg (vecAddr b) w) := by
  cases b
  · obtain ⟨r, hr, hrc⟩ : ∃ r, regAt GUT_VEC_A = some r ∧ r.flds.any (fun f => f.acc == .rc) = true := ⟨_, rfl, rfl⟩
    refine ⟨_, (?_ : readTakes o GUT_VEC_A s = vectorTaken 0 (rcZero GUT_VEC_A r s))⟩
    rw [readTakes, hr]
    dsimp only
    rw [if_pos hrc, if_pos rfl]
  · obtain ⟨r, hr, hrc⟩ : ∃ r, regAt GUT_VEC_B = some r ∧ r.flds.any (fun f => f.acc == .rc) = true := ⟨_, rfl, rfl⟩
    refine ⟨_, (?_ : readTakes o GUT_VEC_B s = vectorTaken 1 (rcZero GUT_VEC_B r s))⟩
    rw [readTakes, hr]
    dsimp only
    rw [if_pos hrc, if_neg (by decide), if_pos rfl]

/-! ### Windows -/

theorem access_host {p : Nat} {f : State → State} {s : State} (h : May .host p s) : access .host p f s = hostSeen (f s) :=
  access_may .host p f s h

theorem lenCode_in {mx n : Nat} (h1 : 1 ≤ n) (h2 : n ≤ mx) : lenCode mx n = .ok := lenCode_eq_ok_iff.mpr ⟨h1, h2⟩

theorem lenCode_out {mx n : Nat} (h : n = 0 ∨ mx < n) : lenCode mx n = .eLen :=
  (lenCode_cases mx n).resolve_left fun hok => by
    have := lenCode_eq_ok_iff.mp hok
    omega

theorem first_ok_left (c : Code) : Code.first .ok c = c := by cases c <;> rfl

section Read
variable {a p n : Nat} {c : Code} {ws : List Word} {s : State}

/-- A bulk read that the length limit and the window allow. -/
theorem winRead_ok (hp : a / 0x10000 = p) (hm : May .host p s) (h1 : 1 ≤ n) (h2 : n ≤ 256)
    (hr : s.windowRead a n = (.ok, ws)) :
    done (winRead a n s) = .next (settle (hostSeen { windowTakes a n n s with busCode := .ok, busData := ws })) := by
  rw [done, winRead, hp, access_host hm]
  dsimp only [State.winReadAnswer]
  rw [Nat.min_eq_left (by omega), hr, lenCode_in h1 h2, first_ok_left, if_pos rfl, if_pos rfl]

/-- A bulk read that the length limit or the window turns away. -/
theorem winRead_away (d : Code) (hp : a / 0x10000 = p) (hm : May .host p s) (hr : s.windowRead a (min n 257) = (c, ws))
    (hd : (lenCode 256 n).first c = d) (hne : d ≠ .ok) :
    done (winRead a n s) = .next (settle (hostSeen { s with busCode := d, busData := [] })) := by
  rw [done, winRead, hp, access_host hm]
  dsimp only [State.winReadAnswer]
  rw [hr, hd, if_neg hne, if_neg hne]

theorem winRead_refused (hp : a / 0x10000 = p) (hm : May .host p s) (h1 : 1 ≤ n) (h2 : n ≤ 256)
    (hr : s.windowRead a (min n 257) = (c, ws)) (hne : c ≠ .ok) :
    done (winRead a n s) = .next (settle (hostSeen { s with busCode := c, busData := [] })) :=
  winRead_away c hp hm hr (by rw [lenCode_in h1 h2, first_ok_left]) hne

theorem first_eLen_ne (c : Code) : Code.first .eLen c ≠ .ok := by cases c <;> decide

theorem winRead_long (hp : a / 0x10000 = p) (hm : May .host p s) (h : n = 0 ∨ 256 < n)
    (hr : s.windowRead a (min n 257) = (c, ws)) :
    done (winRead a n s) = .next (settle (hostSeen { s with busCode := Code.first .eLen c, busData := [] })) :=
  winRead_away _ hp hm hr (by rw [lenCode_out h]) (first_eLen_ne c)

end Read

theorem trimRecord_windowRead (s : State) : s.windowRead REF_SAVE 24 = (.ok, s.trimRecord) := rfl

theorem windowRead_uart (u : Fin 4) (n : Nat) (s : State) : s.windowRead (UART_RXW u.val) n =
    if 64 < n then (.eLen, []) else (.ok, s.serWindow u.val n) := by
  fin_cases u <;> rfl

theorem windowTakes_uart (u : Fin 4) (n k : Nat) (s : State) : windowTakes (UART_RXW u.val) n k s = serPop u.val k s := by
  fin_cases u <;> rfl

theorem page_uartRxw (u : Fin 4) : UART_RXW u.val / 0x10000 = 0x14 := by revert u; decide

theorem windowCode_xload (ws : List Word) (s : State) : s.winWriteCode INT_XLOAD ws =
    (lenCode 4096 ws.length).first (firstCode [chk s.closing .eState, s.xloadCode ws.length]) := rfl

/-- The words do not fit the rest of the replay frame (R288). -/
def State.xloadLong (n : Nat) (s : State) : Prop :=
  ceilDiv (s.fld (INT_XGEOM (s.fld INT_XLADDR 31 31)) 31 16 * s.fld (INT_XGEOM (s.fld INT_XLADDR 31 31)) 15 0) 2 < s.fld INT_XLADDR 22 0 + n

theorem xloadCode_plays {n : Nat} {s : State} (h : (s.gen (s.fld INT_XLADDR 31 31)).rx ≠ none) : s.xloadCode n = .eState :=
  if_pos (Option.isSome_iff_ne_none.mpr h)

theorem xloadCode_idle {n : Nat} {s : State} (h : (s.gen (s.fld INT_XLADDR 31 31)).rx = none) :
    s.xloadCode n = .eLen ∧ s.xloadLong n ∨ s.xloadCode n = .ok ∧ ¬ s.xloadLong n := by
  have hrx : ¬ (s.gen (s.fld INT_XLADDR 31 31)).rx.isSome = true := by simp [h]
  by_cases hl : s.xloadLong n
  · exact .inl ⟨(if_neg hrx).trans (if_pos hl), hl⟩
  · exact .inr ⟨(if_neg hrx).trans (if_neg hl), hl⟩

/-- Settles O59: a read takes what its register's rule says once the word is answered; a window is judged by its own code and the
length, of which R8 ranks one first. -/
theorem readsWithEffectAndWindows : Obligations.ReadsWithEffectAndWindows := by
  refine ⟨fun o b s hm hb => ?_, fun o s hm hb => ⟨_, regRead_takes (by decide) hm hb rfl⟩, fun s m => ⟨fun h => ?_, fun e h => ?_⟩,
    fun o s hm hb => regRead_takes (by decide) hm hb rfl, fun o u s hm hb => ?_,
    fun n s hm c ws h => ⟨fun h1 h2 hc => ?_, fun h1 h2 hc => winRead_refused rfl hm h1 h2 h hc, fun hn => winRead_long rfl hm hn h⟩,
    fun s hm => winRead_ok rfl hm (by decide) (by decide) (trimRecord_windowRead s),
    fun n s hm c ws h => ⟨fun h1 h2 hc => ?_, fun h1 h2 hc => winRead_refused rfl hm h1 h2 h hc, fun hn => winRead_long rfl hm hn h⟩,
    fun u n s hm => ⟨fun h1 h2 => ?_, fun h => ?_⟩, fun ws s g ho hg => ?_⟩
  · obtain ⟨w, hw⟩ := readTakes_vector o b s
    exact ⟨w, regRead_takes (readable_vecAddr b) hm hb hw⟩
  · rw [i2cTake, h]
  · rw [i2cTake, h]
  · fin_cases u <;> exact ⟨_, regRead_takes (by decide) hm hb rfl⟩
  · rw [hc, Nat.min_eq_left (by omega)] at h
    exact winRead_ok rfl hm h1 h2 h
  · rw [hc, Nat.min_eq_left (by omega)] at h
    exact winRead_ok rfl hm h1 h2 h
  · have hr : s.windowRead (UART_RXW u.val) n = (.ok, s.serWindow u.val n) := (windowRead_uart u n s).trans (if_neg (by omega))
    have h := winRead_ok (page_uartRxw u) hm h1 (by omega) hr
    rw [windowTakes_uart] at h
    exact h
  · rcases h with h | h
    · exact winRead_away .eLen (page_uartRxw u) hm (windowRead_uart u _ s) (by subst h; rfl) (by decide)
    · refine winRead_away (c := .eLen) (ws := []) .eLen (page_uartRxw u) hm ((windowRead_uart u _ s).trans (if_pos (by omega))) ?_ (by decide)
      rcases lenCode_cases 256 n with hl | hl <;> rw [hl] <;> rfl
  · subst hg
    obtain ⟨hm, -, hcl⟩ := ho
    have haway {c : Code} := win_away INT_XLOAD 0x09 s c ws rfl hm
    rw [windowCode_xload, hcl] at haway
    refine ⟨fun hrx h1 h2 hl => win_ok INT_XLOAD 0x09 s ws rfl hm ?_, fun hrx => haway ?_ (by decide), fun hrx h => haway ?_ (by decide)⟩
    · have hok := ((xloadCode_idle hrx).resolve_left fun h => hl h.2).1
      rw [windowCode_xload, hcl, lenCode_in h1 h2, hok]
      rfl
    · rw [xloadCode_plays hrx]
      exact first_lenCode_early (c := .eState) (by decide)
    · rcases lenCode_cases 4096 ws.length with hlen | hlen <;> rcases xloadCode_idle hrx with ⟨hc, -⟩ | ⟨hc, hn⟩ <;> rw [hlen, hc]
      case inl.inr =>
        have := lenCode_eq_ok_iff.mp hlen
        rcases h with h | h | h
        · omega
        · omega
        · exact absurd h hn
      all_goals rfl

end Sys2Proof.Machine
end

section
/-! Proofs about the gutter (06_gutter.md): dispatching, acknowledging, routing, refilling and draining. -/

namespace Sys2Proof.Machine

/-! ### Its registers -/

theorem takesWrites_gutPend (m : Fin 16) : TakesWrites (GUT_PEND m.val) 0x03 := takesWrites_of (by revert m; decide)

theorem gutPend_rule (o : Origin) (m : Fin 16) (v : Word) (s : State) : writeRule o (GUT_PEND m.val) v s =
    { app := rearm (((List.range 32).filter fun b => bit v b && s.pend (32 * m.val + b)).map fun b => 32 * m.val + b) s } := by
  have hp : GUT_PEND m.val / 0x10000 = 0x03 := (takesWrites_gutPend m).page
  have hm := m.isLt
  have hix : (GUT_PEND m.val - GUT_PEND 0) / 4 = m.val := by simp only [GUT_PEND]; omega
  rw [writeRule, blockRule, hp, gutWrite, if_neg (by simp only [GUT_PEND, GUT_SRC]; omega), if_pos (by simp only [GUT_PEND]; omega)]
  dsimp only
  rw [hix]
  rfl

/-- A register family lies wholly below an address. -/
theorem has_of_below {r : Reg} {a : Nat} (h : 0 < r.s1 ∧ r.base + r.n1 * r.s1 ≤ a) : r.has a = false := by
  obtain ⟨hs, h⟩ := h
  have hix : ¬ (a - r.base) / r.s1 < r.n1 := Nat.not_lt.mpr ((Nat.le_div_iff_mul_le hs).mpr (Nat.le_sub_of_add_le (by omega)))
  rw [Reg.has, decide_eq_false hix, Bool.and_false]
  rfl

/-- An array of registers has its elements. -/
theorem has_array {r : Reg} {a i : Nat} (h : r.s1 = 4 ∧ r.n2 = 1 ∧ r.s2 = 4) (hi : i < r.n1) (ha : a = r.base + 4 * i) : r.has a = true := by
  obtain ⟨h1, h2, h3⟩ := h
  subst ha
  simp only [Reg.has, h1, h2, h3, Bool.and_eq_true, decide_eq_true_eq]
  omega

/-- The register family of the source configurations (Table 6.4). -/
theorem regAt_gutSrc (n : Fin 512) : ∃ r ∈ page03, regAt (GUT_SRC n.val) = some r ∧ (r.win == .write) = false ∧ r.readOnly = false := by
  have hn := n.isLt
  have hp : GUT_SRC n.val / 0x10000 = 0x03 := by simp only [GUT_SRC]; omega
  refine ⟨page03[12], by decide, ?_, by decide, by decide⟩
  rw [regAt, hp]
  refine List.find?_eq_some_iff_append.mpr ⟨?_, page03.take 12, page03.drop 13, rfl, ?_⟩
  · exact has_array (r := page03[12]) (i := n.val) ⟨rfl, rfl, rfl⟩ hn rfl
  · have hbelow : ∀ r ∈ page03.take 12, 0 < r.s1 ∧ r.base + r.n1 * r.s1 ≤ GUT_SRC 0 := by decide
    intro r hr
    obtain ⟨h1, h2⟩ := hbelow r hr
    rw [has_of_below ⟨h1, h2.trans (by simp only [GUT_SRC]; omega)⟩]
    rfl

theorem takesWrites_gutSrc (n : Fin 512) : TakesWrites (GUT_SRC n.val) 0x03 := by
  have hn := n.isLt
  obtain ⟨r, -, hr, hw, hro⟩ := regAt_gutSrc n
  refine ⟨by simp [Writable, hr, hw, hro], by simp only [GUT_SRC]; omega, by simp only [GUT_SRC]; omega, ?_⟩
  simp only [GUT_SRC, KEY_STAGE, beq_eq_false_iff_ne]
  omega

theorem gutSrc_rule (o : Origin) (n : Fin 512) (v : Word) (s : State) : writeRule o (GUT_SRC n.val) v s =
    { bad := (!bit v 22 && decide (1 < b2n (bit v 24) + b2n (bit v 25) + b2n (bit v 26))) ||
        bits v 31 24 &&& fixedRoute n.val != fixedRoute n.val
      app := fun t => wakeEvents (countPresented n.val s
        (if bits v 11 8 = s.srcStorm n.val then t else t.setSrc n.val { t.src n.val with tokens := 4 })) } := by
  have hp : GUT_SRC n.val / 0x10000 = 0x03 := (takesWrites_gutSrc n).page
  have hn := n.isLt
  have hix : (GUT_SRC n.val - GUT_SRC 0) / 4 = n.val := by simp only [GUT_SRC]; omega
  rw [writeRule, blockRule, hp, gutWrite, if_pos (by simp only [GUT_SRC]; omega)]
  dsimp only
  rw [hix]
  rfl

/-! ### Its commands -/

theorem stormRefill_spent {n : Nat} {s : State} (h : s.srcStorm n = 0 ∨ 4 ≤ (s.src n).tokens) : stormRefill n s = s := if_pos h

/-- A due token of a limited source (R130; log entry 70). -/
theorem stormRefill_due {n : Nat} {s : State} (h0 : s.srcStorm n ≠ 0) (h4 : (s.src n).tokens < 4) : stormRefill n s =
    if (s.src n).supp = 0 then s.setSrc n { s.src n with tokens := (s.src n).tokens + 1 }
    else if (s.src n).suppAt = some s.time then
      capture n (s.src n).lastData 0 (s.setSrc n { s.src n with supp := (s.src n).supp - 1, suppAt := none })
    else capture n (s.src n).lastData 0 (s.setSrc n { s.src n with sumAt := some s.time }) :=
  if_neg (by rintro (h | h); exacts [h0 h, absurd h4 (by omega)])

theorem pulseEnded_both {g : Gutter} {a b : Nat} (ha : g.pulseA = some a) (hb : g.pulseB = some b) : g.pulseEnded =
    { g with pulseA := if b < a then some a else none, pulseB := if a < b then some b else none } := by
  rw [Gutter.pulseEnded, ha, hb]

theorem pulseEnded_one {g : Gutter} (h : g.pulseA = none ∨ g.pulseB = none) :
    g.pulseEnded = { g with pulseA := none, pulseB := none } := by
  rw [Gutter.pulseEnded.eq_def]
  rcases h with h | h <;> rw [h]
  cases g.pulseA <;> rfl

theorem journalWritten_due {s : State} {d : Delivery} {rest : List Delivery} (ok : Bool) (h5 : s.gut.d5 = d :: rest)
    (hp : s.norProgram = some .record) : journalWritten ok s =
    if ok then ({ s with
      nor := { s.nor.ringAdvance with
        ring := memPutList zeroes s.nor.ringAdvance.ring (8 * s.nor.ringNext) 1 (ringRecord s.nor.ringAdvance.ringSeq s.start.cause d)
        ringSeq := (s.nor.ringAdvance.ringSeq + 1) % 2 ^ 32, ringLast := s.nor.ringNext, ringCount := s.nor.ringAdvance.ringCount + 1 }
      gut := { s.gut with d5 := rest, jFail := false } } : State).count (GUT_DRAIN 5) 31 16
    else ({ s with nor := s.nor.ringSpent, gut := { s.gut with d5 := rest, jFail := true } } : State).count (GUT_DRAIN 5) 15 8 := by
  rw [journalWritten.eq_def, hp, h5]

theorem journalWritten_idle {s : State} (ok : Bool) (hp : s.norProgram ≠ some .record) : journalWritten ok s = s := by
  rw [journalWritten.eq_def]
  cases h : s.norProgram with
  | none => rfl
  | some p =>
    cases p with
    | copy => rfl
    | record => exact absurd h hp

/-- A GUT_SRC write is legal: at most one level of an unlatched source, and its fixed route kept (R127, R133). -/
theorem gutSrc_legal (n : Nat) (v : Word) : ((bit v 22 || decide (b2n (bit v 24) + b2n (bit v 25) + b2n (bit v 26) ≤ 1)) &&
    bits v 31 24 &&& fixedRoute n == fixedRoute n) = !((!bit v 22 && decide (1 < b2n (bit v 24) + b2n (bit v 25) + b2n (bit v 26))) ||
      bits v 31 24 &&& fixedRoute n != fixedRoute n) := by
  have hlt : decide (1 < b2n (bit v 24) + b2n (bit v 25) + b2n (bit v 26)) =
      !decide (b2n (bit v 24) + b2n (bit v 25) + b2n (bit v 26) ≤ 1) := by rw [← decide_not]; exact decide_eq_decide.mpr Nat.not_le.symm
  rw [hlt, bne, Bool.not_or, Bool.not_and, Bool.not_not, Bool.not_not, Bool.not_not]

/-- Settles O27: each command acts under its own condition; a failed record spends its slot (log entry 30), and the pulse that began
first ends first (log entry 65). -/
theorem gutterWorks : Obligations.GutterWorks := by
  refine ⟨fun s => ⟨fun n c hl hn => ?_, fun h => ?_⟩, fun o m v s ho hf => ?_, fun o n v s ho hf => ?_,
    fun s n hl h0 h4 => ⟨fun h => ?_, fun h ha => ?_, fun h ha => ?_⟩, fun s n h => ?_,
    fun s => ⟨fun a b ha hb => ?_, fun h => ?_⟩, fun s d rest hl h5 hp => ⟨?_, ?_⟩, fun s ok h => ?_,
    fun s d rest h6 => ?_, fun s d rest hl => ⟨fun h => ?_, fun h => ?_⟩, fun s => ⟨fun h => ?_, fun h => ?_, fun h => ?_⟩⟩
  · refine done_eq ?_
    rw [hl, hn]
    rfl
  · refine done_eq ?_
    rcases h with h | h <;> rw [h]
    · rfl
    · exact ite_self _
  · refine write_acts (takesWrites_gutPend m) ho hf ?_ ?_ ?_ ?_ <;> rw [gutPend_rule]
    simp only [if_true]
  · have hrule := gutSrc_rule o n v s
    intro ok
    refine ⟨fun hok => ?_, fun hok => ?_⟩
    · rw [show ok = _ from gutSrc_legal n.val v, Bool.not_eq_true'] at hok
      refine write_acts (takesWrites_gutSrc n) ho hf ?_ ?_ ?_ ?_ <;> rw [hrule]
      · exact hok
      · simp only [if_true]
    · rw [show ok = _ from gutSrc_legal n.val v, Bool.not_eq_false'] at hok
      exact write_bad o _ 0x03 v s _ (takesWrites_gutSrc n) ho hrule rfl hok rfl
  · exact done_eq ((if_pos hl).trans ((stormRefill_due h0 h4).trans (if_pos h)))
  · exact done_eq ((if_pos hl).trans ((stormRefill_due h0 h4).trans ((if_neg h).trans (if_pos ha))))
  · exact done_eq ((if_pos hl).trans ((stormRefill_due h0 h4).trans ((if_neg h).trans (if_neg ha))))
  · rcases h with h | h
    · exact done_neg (by simp [h])
    · exact done_eq (by rw [stormRefill_spent h, ite_self])
  · exact done_eq (by rw [pulseEnded_both ha hb])
  · exact done_eq (by rw [pulseEnded_one h])
  · exact done_eq ((if_pos hl).trans (journalWritten_due true h5 hp))
  · exact done_eq ((if_pos hl).trans (journalWritten_due false h5 hp))
  · rcases h with h | h
    · exact done_neg (by simp [h])
    · exact done_eq (by rw [journalWritten_idle ok h, ite_self])
  · intro u ready
    refine ⟨fun h => done_eq ?_, fun h => done_eq ?_⟩
    · rw [serReport, h6]
      exact if_pos h
    · rw [serReport, h6]
      exact if_neg (Bool.eq_false_iff.mp h)
  · refine done_eq ?_
    rw [h]
    exact if_pos hl
  · refine done_eq ?_
    rw [h]
    exact if_pos hl
  · refine done_eq ?_
    rcases h with h | h
    · cases s.gut.d3 <;> simp [h]
    · rw [h]
  · refine done_eq ?_
    rcases h with h | h
    · cases s.gut.d4 <;> simp [h]
    · rw [h]
  · refine done_eq ?_
    rw [serReport, h]

end Sys2Proof.Machine
end

section
/-! Proofs about the Vat's instructions (07_vat_machine.md): arithmetic, data memory, branches and traps. -/

namespace Sys2Proof.Machine

section
variable {t : Fin 8} {s : State}

/-! ### Arithmetic (Table 7.3) -/

/-- A register-writing instruction of a ready thread. -/
theorem vSet_gives {rd : Fin 16} {v : Word} {f : State → Word} (h : Ready t s) (hv : f (vIssued t s) = v) :
    ∃ s', done (vSet t rd f s) = .next s' ∧ WentOn t ((s.thread t).pc + 1) s s' ∧ Sets t rd v s s' ∧ s'.vat.dm = s.vat.dm :=
  ⟨_, done_eq ((vInstr_runs t _ s h.1 h.2).trans (by rw [hv])), wentOn_set t rd v s⟩

theorem vShift_gives {rd ra : Fin 16} {imm : BitVec 18} (f : Word → Nat → Word) (h : Ready t s) (hi : imm.toNat < 32) :
    ∃ s', done (vShift t rd ra imm f s) = .next s' ∧ WentOn t ((s.thread t).pc + 1) s s' ∧
      Sets t rd (f (s.vreg t ra) imm.toNat) s s' ∧ s'.vat.dm = s.vat.dm := by
  have hrun := vInstr_runs t (fun x => vNext t (setV t rd (f (x.vreg t ra) imm.toNat) x)) s h.1 h.2
  refine ⟨_, done_eq ?_, wentOn_set t rd (f (s.vreg t ra) imm.toNat) s⟩
  rw [vShift, decide_eq_true hi, hrun, vreg_vIssued]

theorem flagW_eq (c : Prop) [Decidable c] : flagW (decide c) = if c then 1 else 0 := by
  unfold flagW
  split <;> simp_all

theorem sltW_iff (a b : Word) : sltW a b = true ↔ a.toInt < b.toInt := by rw [sltW, BitVec.slt, decide_eq_true_eq]

theorem flagW_sltW (a b : Word) : flagW (sltW a b) = if a.toInt < b.toInt then 1 else 0 := flagW_eq _

theorem flagW_ult (a b : Word) : flagW (a.ult b) = if a.toNat < b.toNat then 1 else 0 := flagW_eq _

/-- Settles O28: each arithmetic instruction is one `vSet` or `vShift` of the operands read before. -/
theorem vatArithmeticWritesRd : Obligations.VatArithmeticWritesRd := by
  intro s t rd ra rb imm imm22 h
  have hlast : word ((vIssued t s).thread t).lastCode = word (s.thread t).lastCode := by rw [thread_vIssued]
  have hslt (x y : Word) : flagW (sltW x y) = if x.toInt < y.toInt then 1 else 0 := flagW_sltW x y
  have hpick (x y : Word) (u v : Word) : (if sltW x y then u else v) = if x.toInt < y.toInt then u else v := by simp [sltW_iff]
  refine ⟨⟨?_, ?_, ?_, ?_, ?_, ?_, ?_, ?_, ?_, ?_, ?_, ?_, ?_, ?_⟩, ⟨?_, ?_, ?_, ?_, ?_, ?_, vSet_gives h hlast⟩,
    fun hi => ⟨vShift_gives (fun a n => a <<< n) h hi, vShift_gives (fun a n => a >>> n) h hi,
      vShift_gives (fun a n => a.sshiftRight n) h hi⟩⟩
  · exact vSet_gives (f := fun x => x.vreg t ra + x.vreg t rb) h (by simp only [vreg_vIssued])
  · exact vSet_gives (f := fun x => x.vreg t ra - x.vreg t rb) h (by simp only [vreg_vIssued])
  · exact vSet_gives (f := fun x => x.vreg t ra &&& x.vreg t rb) h (by simp only [vreg_vIssued])
  · exact vSet_gives (f := fun x => x.vreg t ra ||| x.vreg t rb) h (by simp only [vreg_vIssued])
  · exact vSet_gives (f := fun x => x.vreg t ra ^^^ x.vreg t rb) h (by simp only [vreg_vIssued])
  · exact vSet_gives (f := fun x => x.vreg t ra <<< shamt (x.vreg t rb)) h (by simp only [vreg_vIssued, shamt])
  · exact vSet_gives (f := fun x => x.vreg t ra >>> shamt (x.vreg t rb)) h (by simp only [vreg_vIssued, shamt])
  · exact vSet_gives (f := fun x => (x.vreg t ra).sshiftRight (shamt (x.vreg t rb))) h (by simp only [vreg_vIssued, shamt])
  · exact vSet_gives (f := fun x => flagW (sltW (x.vreg t ra) (x.vreg t rb))) h (by simp only [vreg_vIssued, hslt])
  · exact vSet_gives (f := fun x => flagW ((x.vreg t ra).ult (x.vreg t rb))) h (by simp only [vreg_vIssued, flagW_ult])
  · exact vSet_gives (f := fun x => if sltW (x.vreg t rb) (x.vreg t ra) then x.vreg t rb else x.vreg t ra) h
      (by simp only [vreg_vIssued, hpick])
  · exact vSet_gives (f := fun x => if sltW (x.vreg t ra) (x.vreg t rb) then x.vreg t rb else x.vreg t ra) h
      (by simp only [vreg_vIssued, hpick])
  · exact vSet_gives (f := fun x => x.vreg t ra * x.vreg t rb) h (by simp only [vreg_vIssued])
  · exact vSet_gives (f := fun x => mulhW (x.vreg t ra) (x.vreg t rb)) h (by simp only [vreg_vIssued]; rfl)
  · exact vSet_gives (f := fun x => x.vreg t ra + imm.signExtend 32) h (by simp only [vreg_vIssued])
  · exact vSet_gives (f := fun x => x.vreg t ra &&& imm.zeroExtend 32) h (by simp only [vreg_vIssued])
  · exact vSet_gives (f := fun x => x.vreg t ra ||| imm.zeroExtend 32) h (by simp only [vreg_vIssued])
  · exact vSet_gives (f := fun x => x.vreg t ra ^^^ imm.zeroExtend 32) h (by simp only [vreg_vIssued])
  · exact vSet_gives (f := fun x => flagW (sltW (x.vreg t ra) (imm.signExtend 32))) h (by simp only [vreg_vIssued, hslt])
  · exact vSet_gives (f := fun _ => imm22.zeroExtend 32 <<< 10) h rfl

/-! ### Data memory (R149) -/

/-- The trap of a data address, none where it is aligned and within the memory. -/
def addrTrap (a : Nat) : Nat := if a % 4 ≠ 0 then 3 else 4

theorem vMem_ready {addr : State → Word} {f : Nat → State → State} {a : Word} (h : Ready t s) (ha : addr (vIssued t s) = a)
    (hal : a.toNat % 4 = 0) (hlt : a.toNat < 16384) : vMem t addr f s = vNext t (f (a.toNat / 4) (vIssued t s)) := by
  have hal' : (a.toNat % 4 != 0) = false := by rw [hal]; rfl
  have hpc : ¬ (vIssued t s).codeWords ≤ ((vIssued t s).thread t).pc + 1 := by
    rw [codeWords_vIssued, pc_vIssued]
    exact Nat.not_le.mpr h.2
  rw [vMem, vInstr_jumps t _ s h.1]
  dsimp only
  rw [ha, hal', if_neg Bool.false_ne_true, if_neg (by omega), if_neg hpc]

theorem vMem_badAddr {addr : State → Word} {f : Nat → State → State} {a : Word} (h : s.eligible t = true)
    (ha : addr (vIssued t s) = a) (hbad : a.toNat % 4 ≠ 0 ∨ 16384 ≤ a.toNat) :
    vMem t addr f s = vTrap t (addrTrap a.toNat) (vIssued t s) := by
  rw [vMem, vInstr_jumps t _ s h]
  dsimp only
  rw [ha, addrTrap]
  by_cases hal : a.toNat % 4 = 0
  · rw [hal, if_neg (by decide), if_pos (hbad.resolve_left (absurd hal)), if_neg (by simp)]
  · rw [if_pos (bne_iff_ne.mpr hal), if_pos hal]

theorem vNext_setDm (t w : Nat) (v : Word) (s : State) : vNext t (setDm w v s) = setDm w v (vNext t s) := rfl

theorem setV_setDm (t r w : Nat) (u v : Word) (s : State) : setV t r u (setDm w v s) = setDm w v (setV t r u s) := by
  unfold setV
  split <;> rfl

/-- A step that writes data memory besides what another step does. -/
theorem wentOn_setDm {pc : Nat} {s' : State} (w : Nat) (v : Word) (h : WentOn t pc s s') (hd : s'.vat.dm = s.vat.dm) :
    WentOn t pc s (setDm w v s') ∧ (setDm w v s').vat.dm = memPut zeroes s.vat.dm w v ∧
      ∀ x, x ≠ w → (setDm w v s').dmem x = s.dmem x := by
  have hdm : (setDm w v s').vat.dm = memPut zeroes s.vat.dm w v := by rw [← hd]; rfl
  refine ⟨h, hdm, fun x hx => ?_⟩
  rw [State.dmem, hdm, memGet_memPut_ne _ _ _ _ _ hx, State.dmem]

theorem dmem_vIssued (t w : Nat) (s : State) : (vIssued t s).dmem w = s.dmem w := rfl

theorem vLd_ready {rd ra : Fin 16} {imm : BitVec 18} (h : Ready t s) (hal : (s.vreg t ra + imm.signExtend 32).toNat % 4 = 0)
    (hlt : (s.vreg t ra + imm.signExtend 32).toNat < 16384) : vLd t rd ra imm s =
      vNext t (setV t rd (s.dmem ((s.vreg t ra + imm.signExtend 32).toNat / 4)) (vIssued t s)) :=
  vMem_ready (addr := ldAddr t ra imm) h (by rw [ldAddr, vreg_vIssued]) hal hlt

theorem vSt_ready {rd ra : Fin 16} {imm : BitVec 18} (h : Ready t s) (hal : (s.vreg t ra + imm.signExtend 32).toNat % 4 = 0)
    (hlt : (s.vreg t ra + imm.signExtend 32).toNat < 16384) : vSt t rd ra imm s =
      setDm ((s.vreg t ra + imm.signExtend 32).toNat / 4) (s.vreg t rd) (vNext t (vIssued t s)) := by
  rw [vSt, vMem_ready (addr := ldAddr t ra imm) h (by rw [ldAddr, vreg_vIssued]) hal hlt, vreg_vIssued, vNext_setDm]

theorem vAmo_ready {rd ra rb : Fin 16} {f : Word → Word → Word} (h : Ready t s) (hal : (s.vreg t ra).toNat % 4 = 0)
    (hlt : (s.vreg t ra).toNat < 16384) : vAmo t rd ra rb f s =
      setDm ((s.vreg t ra).toNat / 4) (f (s.dmem ((s.vreg t ra).toNat / 4)) (s.vreg t rb))
        (vNext t (setV t rd (s.dmem ((s.vreg t ra).toNat / 4)) (vIssued t s))) := by
  rw [vAmo, vMem_ready (addr := fun s => s.vreg t ra) h (vreg_vIssued ..) hal hlt, vreg_vIssued, setV_setDm, vNext_setDm,
    dmem_vIssued]

theorem wentOn_next (t : Fin 8) (s : State) : WentOn t ((s.thread t).pc + 1) s (settle (vNext t (vIssued t s))) ∧
    (∀ r : Fin 16, (settle (vNext t (vIssued t s))).vreg t r = s.vreg t r) ∧
    (settle (vNext t (vIssued t s))).vat.dm = s.vat.dm := by
  rw [vNext, pc_vIssued]
  exact wentOn_goes t _ s

/-- An atomic instruction of a ready thread. -/
theorem vAmo_moves {rd ra rb : Fin 16} (f : Word → Word → Word) (h : Ready t s) (hal : (s.vreg t ra).toNat % 4 = 0)
    (hlt : (s.vreg t ra).toNat < 16384) : ∃ s', done (vAmo t rd ra rb f s) = .next s' ∧ WentOn t ((s.thread t).pc + 1) s s' ∧
      s'.vat.dm = memPut zeroes s.vat.dm ((s.vreg t ra).toNat / 4) (f (s.dmem ((s.vreg t ra).toNat / 4)) (s.vreg t rb)) ∧
      (∀ x, x ≠ (s.vreg t ra).toNat / 4 → s'.dmem x = s.dmem x) ∧ Sets t rd (s.dmem ((s.vreg t ra).toNat / 4)) s s' := by
  obtain ⟨hon, hsets, hdm⟩ := wentOn_set t rd (s.dmem ((s.vreg t ra).toNat / 4)) s
  obtain ⟨hon', hput, hrest⟩ := wentOn_setDm ((s.vreg t ra).toNat / 4)
    (f (s.dmem ((s.vreg t ra).toNat / 4)) (s.vreg t rb)) hon hdm
  exact ⟨_, done_eq (vAmo_ready h hal hlt), hon', hput, hrest, hsets⟩

theorem vAmo_badAddr {rd ra rb : Fin 16} {f : Word → Word → Word} (h : s.eligible t = true)
    (hbad : (s.vreg t ra).toNat % 4 ≠ 0 ∨ 16384 ≤ (s.vreg t ra).toNat) :
    vAmo t rd ra rb f s = vTrap t (addrTrap (s.vreg t ra).toNat) (vIssued t s) :=
  vMem_badAddr (addr := fun s => s.vreg t ra) h (vreg_vIssued ..) hbad

/-- Settles O29: a data access is checked for alignment, then for range, and touches one word. -/
theorem vatMemoryAccesses : Obligations.VatMemoryAccesses := by
  intro s t rd ra rb imm h a p moves
  have hld : ldAddr t ra imm (vIssued t s) = s.vreg t ra + imm.signExtend 32 := by rw [ldAddr, vreg_vIssued]
  refine ⟨fun hal hlt => ⟨⟨_, done_eq (vLd_ready h hal hlt), wentOn_set t rd _ s⟩, ?_⟩,
    fun hal hlt => ⟨vAmo_moves (fun old b => old + b) h hal hlt, vAmo_moves (fun _ b => b) h hal hlt⟩,
    fun hbad => ⟨done_eq (vMem_badAddr h.1 hld hbad), done_eq (vMem_badAddr h.1 hld hbad)⟩,
    fun hbad => ⟨done_eq (vAmo_badAddr h.1 hbad), done_eq (vAmo_badAddr h.1 hbad)⟩⟩
  obtain ⟨hon, hregs, hdm⟩ := wentOn_next t s
  obtain ⟨hon', hput, hrest⟩ := wentOn_setDm (a / 4) (s.vreg t rd) hon hdm
  exact ⟨_, done_eq (vSt_ready h hal hlt), hon', hput, hrest, hregs⟩

end

end Sys2Proof.Machine
end

section
/-! Proofs about the Vat's jumps and traps (07_vat_machine.md). -/

namespace Sys2Proof.Machine

section
variable {t : Fin 8} {s : State}

/-! ### Branches and jumps -/

/-- Instruction outcome `r` goes on at `dst` and changes no register and no memory. -/
def GoesTo (t : Fin 8) (s : State) (r : Host.Outcome State Fault Refusal) (dst : Nat) : Prop :=
  ∃ s', r = .next s' ∧ WentOn t dst s s' ∧ (∀ q : Fin 16, s'.vreg t q = s.vreg t q) ∧ s'.vat.dm = s.vat.dm

/-- Instruction outcome `r` is a trap with a cause. -/
def TrapsWith (t : Fin 8) (s : State) (r : Host.Outcome State Fault Refusal) (cause : Nat) : Prop :=
  r = .next (settle (vTrap t cause (vIssued t s)))

/-- The outcome `r` is that of a branch to `dst` under the condition `c` (Table 7.3). -/
def BranchesIf (t : Fin 8) (s : State) (r : Host.Outcome State Fault Refusal) (dst : Int) (c : Prop) : Prop :=
  (c → 0 ≤ dst → dst < s.codeWords → GoesTo t s r dst.toNat) ∧ (c → (dst < 0 ∨ (s.codeWords : Int) ≤ dst) → TrapsWith t s r 2) ∧
  (¬ c → (s.thread t).pc + 1 < s.codeWords → GoesTo t s r ((s.thread t).pc + 1)) ∧
  (¬ c → s.codeWords ≤ (s.thread t).pc + 1 → TrapsWith t s r 2)

/-- The outcome `r` is that of a jump to `dst` that links in `rd`. -/
def LinksTo (t : Fin 8) (rd : Fin 16) (s : State) (r : Host.Outcome State Fault Refusal) (dst : Nat) : Prop :=
  (dst < s.codeWords → ∃ s', r = .next s' ∧ WentOn t dst s s' ∧ Sets t rd (word ((s.thread t).pc + 1)) s s' ∧
    s'.vat.dm = s.vat.dm) ∧ (s.codeWords ≤ dst → TrapsWith t s r 2)

theorem vJump_in {dst : Int} (h0 : 0 ≤ dst) (h1 : dst < s.codeWords) : vJump t dst s = vGo t dst.toNat s :=
  if_pos (by simp [h0, h1])

theorem vJump_out {dst : Int} (h : dst < 0 ∨ (s.codeWords : Int) ≤ dst) : vJump t dst s = vTrap t 2 s :=
  if_neg (by simp only [Bool.and_eq_true, decide_eq_true_eq]; omega)

theorem branchIf_branches {c : State → Bool} {b : Bool} {p : Prop} (off : BitVec 18) (h : s.eligible t = true)
    (hb : c (vIssued t s) = b) (hc : b = true ↔ p) : BranchesIf t s (done (vBranchIf t off c s)) ((s.thread t).pc + off.toInt) p := by
  have hrun : vBranchIf t off c s = if b then vJump t ((s.thread t).pc + off.toInt) (vIssued t s)
      else if s.codeWords ≤ (s.thread t).pc + 1 then vTrap t 2 (vIssued t s) else vNext t (vIssued t s) := by
    rw [vBranchIf, vInstr_jumps t _ s h, hb, pc_vIssued, codeWords_vIssued]
  rw [hrun]
  refine ⟨fun hp h0 h1 => ?_, fun hp hout => ?_, fun hp hin => ?_, fun hp hout => ?_⟩
  · exact ⟨_, done_eq ((if_pos (hc.mpr hp)).trans (vJump_in h0 h1)), wentOn_goes t _ s⟩
  · exact done_eq ((if_pos (hc.mpr hp)).trans (vJump_out hout))
  · exact ⟨_, done_eq ((if_neg (mt hc.mp hp)).trans (if_neg (Nat.not_le.mpr hin))), wentOn_next t s⟩
  · exact done_eq ((if_neg (mt hc.mp hp)).trans (if_pos hout))

/-- A branch on two registers. -/
theorem branch_branches {ra rb : Fin 16} {c : Word → Word → Bool} {p : Prop} (off : BitVec 18) (h : s.eligible t = true)
    (hc : c (s.vreg t ra) (s.vreg t rb) = true ↔ p) :
    BranchesIf t s (done (vBranch t ra rb off c s)) ((s.thread t).pc + off.toInt) p :=
  branchIf_branches off h (by simp only [vreg_vIssued]) hc

theorem vLink_links {rd : Fin 16} {dst : Nat} {r : State} (hr : r = vLink t rd dst (vIssued t s)) : LinksTo t rd s (done r) dst := by
  subst hr
  have hrun : vLink t rd dst (vIssued t s) = if s.codeWords ≤ dst then vTrap t 2 (vIssued t s)
      else vGo t dst (setV t rd (word ((s.thread t).pc + 1)) (vIssued t s)) := by
    rw [vLink, codeWords_vIssued, pc_vIssued]
  rw [hrun]
  exact ⟨fun h => ⟨_, done_eq (if_neg (Nat.not_le.mpr h)), wentOn_vGo t dst rd _ s⟩, fun h => done_eq (if_pos h)⟩

theorem inTrap_vIssued (t u : Nat) (s : State) : ((vIssued t s).thread u).inTrap = (s.thread u).inTrap := by rw [thread_vIssued]
theorem epc_vIssued (t u : Nat) (s : State) : ((vIssued t s).thread u).epc = (s.thread u).epc := by rw [thread_vIssued]
theorem lastCode_vIssued (t u : Nat) (s : State) : ((vIssued t s).thread u).lastCode = (s.thread u).lastCode := by rw [thread_vIssued]

/-- RTT in a handler and outside one (R158; log entry 21). -/
theorem vRtt_runs (h : s.eligible t = true) : vRtt t s = if (s.thread t).inTrap = false then vTrap t 1 (vIssued t s)
    else if s.codeWords ≤ (s.thread t).epc + 1 then vTrap t 2 (vIssued t s)
    else vGo t ((s.thread t).epc + 1) (onThread t (fun th => { th with inTrap := false }) (vIssued t s)) := by
  rw [vRtt, vInstr_jumps t _ s h]
  dsimp only
  rw [inTrap_vIssued, epc_vIssued, codeWords_vIssued]
  cases (s.thread t).inTrap <;> rfl

/-- Leaving the handler besides going on. -/
theorem wentOn_leavesHandler (t : Fin 8) (pc : Nat) (s : State) :
    WentOn t pc s (settle (vGo t pc (onThread t (fun th => { th with inTrap := false }) (vIssued t s)))) ∧
    ((settle (vGo t pc (onThread t (fun th => { th with inTrap := false }) (vIssued t s)))).thread t).inTrap = false ∧
    (∀ r : Fin 16, (settle (vGo t pc (onThread t (fun th => { th with inTrap := false }) (vIssued t s)))).vreg t r = s.vreg t r) ∧
    (settle (vGo t pc (onThread t (fun th => { th with inTrap := false }) (vIssued t s)))).vat.dm = s.vat.dm := by
  have hth (x : State) (u : Nat) : (settle x).thread u = x.thread u := rfl
  have hv (x : State) (u r : Nat) : (settle x).vreg u r = x.vreg u r := rfl
  have hreg (r : Nat) (u : Nat) : (onThread t (fun th => { th with inTrap := false }) (vIssued t s)).vreg u r = s.vreg u r := by
    rw [← vreg_vIssued t u r s]
    unfold State.vreg
    rw [thread_onThread]
    by_cases hu : u = t.val
    · rw [if_pos hu]
    · rw [if_neg hu]
  obtain ⟨⟨hout, hregs, hothers, hpm, himg, -, -, -⟩, -, hdm⟩ := wentOn_goes t pc s
  refine ⟨⟨hout, hregs, fun u hu => ?_, hpm, himg, ?_, ?_, ?_⟩, ?_, fun r => ?_, hdm⟩
  · have hne : u.val ≠ t.val := fun h => hu (Fin.ext h)
    refine ⟨fun r => ?_, ?_, ?_⟩
    · rw [hv, vreg_vGo, hreg]
    · rw [hth, thread_vGo, if_neg hne, thread_onThread_ne _ _ _ _ hne, pc_vIssued]
    · rw [hth, thread_vGo, if_neg hne, thread_onThread_ne _ _ _ _ hne, thread_vIssued]
  · rw [hth, thread_vGo, if_pos rfl]
  · rw [hth, thread_vGo, if_pos rfl]
  · rw [hth, thread_vGo, if_pos rfl, thread_onThread_same, thread_vIssued]
  · rw [hth, thread_vGo, if_pos rfl, thread_onThread_same]
  · rw [hv, vreg_vGo, hreg]

/-- Settles O30: a branch is judged by its condition and then by its target; a return to EPC + 1 outside the code traps (log entry
21). -/
theorem vatBranchesGoWhereTheySay : Obligations.VatBranchesGoWhereTheySay := by
  intro s t rd ra rb off j h
  refine ⟨branch_branches off h beq_iff_eq, branch_branches off h bne_iff_ne, branch_branches off h (sltW_iff _ _),
    branch_branches off h (by rw [Bool.not_eq_true', ← Bool.not_eq_true, sltW_iff, Int.not_lt]),
    branch_branches off h (by rw [BitVec.ult, decide_eq_true_eq]),
    branch_branches off h (by rw [Bool.not_eq_true', ← Bool.not_eq_true, BitVec.ult, decide_eq_true_eq, Nat.not_lt]),
    branchIf_branches off h rfl (by rw [bne_iff_ne, lastCode_vIssued]), vLink_links (vInstr_jumps t _ s h),
    vLink_links ((vInstr_jumps t _ s h).trans (by rw [vreg_vIssued])), fun hin hlt => ?_, fun hin hle => ?_, fun hin => ?_⟩
  · exact ⟨_, done_eq ((vRtt_runs h).trans ((if_neg (by simp [hin])).trans (if_neg (Nat.not_le.mpr hlt)))), wentOn_leavesHandler t _ s⟩
  · exact done_eq ((vRtt_runs h).trans ((if_neg (by simp [hin])).trans (if_pos hle)))
  · exact done_eq ((vRtt_runs h).trans (if_pos hin))

/-! ### Traps (Table 7.5) -/

/-- An illegal field traps before anything else (log entry 21). -/
theorem vInstr_illegal {legal seq : Bool} {f : State → State} (h : s.eligible t = true) (hl : legal = false) :
    vInstr t legal seq f s = vTrap t 1 (vIssued t s) := by
  rw [vInstr, h, hl]
  rfl

/-- An instruction that goes on at PC + 1 traps at the end of the code. -/
theorem vInstr_atEnd {legal : Bool} {f : State → State} (h : s.eligible t = true) (hl : legal = true)
    (he : s.codeWords ≤ (s.thread t).pc + 1) : vInstr t legal true f s = vTrap t 2 (vIssued t s) := by
  have hpc : decide ((vIssued t s).codeWords ≤ ((vIssued t s).thread t).pc + 1) = true := by
    rw [codeWords_vIssued, pc_vIssued]
    exact decide_eq_true he
  rw [vInstr, h, hl]
  dsimp only
  rw [hpc]
  rfl

theorem vShift_illegal {rd ra : Nat} {imm : BitVec 18} {f : Word → Nat → Word} (h : s.eligible t = true) (hi : 32 ≤ imm.toNat) :
    vShift t rd ra imm f s = vTrap t 1 (vIssued t s) := vInstr_illegal h (decide_eq_false (Nat.not_lt.mpr hi))

theorem vSet_atEnd {rd : Nat} {f : State → Word} (h : s.eligible t = true) (he : s.codeWords ≤ (s.thread t).pc + 1) :
    vSet t rd f s = vTrap t 2 (vIssued t s) := vInstr_atEnd h rfl he

theorem vAlu_atEnd {rd ra rb : Nat} {f : Word → Word → Word} (h : s.eligible t = true) (he : s.codeWords ≤ (s.thread t).pc + 1) :
    vAlu t rd ra rb f s = vTrap t 2 (vIssued t s) := vSet_atEnd h he

theorem vImm_atEnd {rd ra : Nat} {imm : Word} {f : Word → Word → Word} (h : s.eligible t = true)
    (he : s.codeWords ≤ (s.thread t).pc + 1) : vImm t rd ra imm f s = vTrap t 2 (vIssued t s) := vSet_atEnd h he

theorem vShift_atEnd {rd ra : Nat} {imm : BitVec 18} {f : Word → Nat → Word} (h : s.eligible t = true) (hi : imm.toNat < 32)
    (he : s.codeWords ≤ (s.thread t).pc + 1) : vShift t rd ra imm f s = vTrap t 2 (vIssued t s) :=
  vInstr_atEnd h (decide_eq_true hi) he

theorem vOnCtx_illegal {ctx : Nat} {legal : Bool} {f off : Nat → State → State} (h : s.eligible t = true)
    (hl : legal = false ∨ 9 ≤ ctx) : vOnCtx t ctx legal f off s = vTrap t 1 (vIssued t s) := by
  refine vInstr_illegal h ?_
  rw [Bool.and_eq_false_iff, decide_eq_false_iff_not, Nat.not_lt]
  exact hl

theorem vOnCtx_atEnd {ctx : Nat} {legal : Bool} {f off : Nat → State → State} (h : s.eligible t = true)
    (hl : legal = true ∧ ctx < 9) (he : s.codeWords ≤ (s.thread t).pc + 1) : vOnCtx t ctx legal f off s = vTrap t 2 (vIssued t s) := by
  refine vInstr_atEnd h ?_ he
  rw [Bool.and_eq_true, decide_eq_true_eq]
  exact hl

theorem vCommit_illegal {ctx : Nat} (h : s.eligible t = true) (hc : 9 ≤ ctx) : vCommit t ctx s = vTrap t 1 (vIssued t s) :=
  vInstr_illegal h (decide_eq_false (Nat.not_lt.mpr hc))

theorem vCommit_atEnd {ctx : Nat} (h : s.eligible t = true) (hc : ctx < 9) (he : s.codeWords ≤ (s.thread t).pc + 1) :
    vCommit t ctx s = vTrap t 2 (vIssued t s) := vInstr_atEnd h (decide_eq_true hc) he

theorem vMem_atEnd {addr : State → Word} {f : Nat → State → State} {a : Word} (h : s.eligible t = true)
    (he : s.codeWords ≤ (s.thread t).pc + 1) (ha : addr (vIssued t s) = a) (hin : a.toNat % 4 = 0 ∧ a.toNat < 16384) :
    vMem t addr f s = vTrap t 2 (vIssued t s) := by
  obtain ⟨hal, hlt⟩ := hin
  have hal' : (a.toNat % 4 != 0) = false := by rw [hal]; rfl
  have hpc : (vIssued t s).codeWords ≤ ((vIssued t s).thread t).pc + 1 := by rw [codeWords_vIssued, pc_vIssued]; exact he
  rw [vMem, vInstr_jumps t _ s h]
  dsimp only
  rw [ha, hal', if_neg Bool.false_ne_true, if_neg (by omega), if_pos hpc]

theorem vAmo_atEnd {rd ra rb : Fin 16} {f : Word → Word → Word} (h : s.eligible t = true) (he : s.codeWords ≤ (s.thread t).pc + 1)
    (hin : (s.vreg t ra).toNat % 4 = 0 ∧ (s.vreg t ra).toNat < 16384) : vAmo t rd ra rb f s = vTrap t 2 (vIssued t s) :=
  vMem_atEnd (addr := fun s => s.vreg t ra) h he (vreg_vIssued ..) hin

/-- The trapped thread (R158, Table 7.5). -/
def trappedThread (t : Fin 8) (cause : Nat) (x : State) : Thread :=
  let th := x.thread t
  let on := x.flag (VAT_TTRAP t) 31 && !th.inTrap
  let th' : Thread := { th with cause, nested := th.inTrap, epc := th.pc, tword := memGet zeroes x.vat.pm th.pc, wait := none, inTrap := th.inTrap || on }
  if on then { th' with pc := x.fld (VAT_TTRAP t) 13 0, state := if th.stepping then .stopped else .running, stepping := false }
  else { th' with state := .trapped, stepping := false }

theorem vTrap_vat (t : Fin 8) (cause : Nat) (x : State) :
    (vTrap t cause x).vat = (onThread t (fun _ => trappedThread t cause x) x).vat := raiseN_vat _ _ _

theorem thread_of_vat {x y : State} (h : y.vat = x.vat) (u : Nat) : y.thread u = x.thread u := by rw [State.thread, h, State.thread]

theorem thread_vTrap (t : Fin 8) (cause : Nat) (x : State) : (vTrap t cause x).thread t = trappedThread t cause x :=
  (thread_of_vat (vTrap_vat t cause x) t).trans (thread_onThread_same t.val (fun _ => trappedThread t cause x) x)

theorem thread_vTrap_ne {u : Fin 8} (t : Fin 8) (cause : Nat) (x : State) (h : u ≠ t) : (vTrap t cause x).thread u = x.thread u :=
  (thread_of_vat (vTrap_vat t cause x) u).trans (thread_onThread_ne _ _ _ _ fun hv => h (Fin.ext hv))

theorem trappedThread_regs (t : Fin 8) (cause : Nat) (x : State) : (trappedThread t cause x).regs = (x.thread t).regs := by
  unfold trappedThread
  dsimp only
  split <;> rfl

theorem vreg_vTrap (t u : Fin 8) (cause r : Nat) (x : State) : (vTrap t cause x).vreg u r = x.vreg u r := by
  rw [State.vreg, State.vreg]
  by_cases h : u = t
  · subst h
    rw [thread_vTrap, trappedThread_regs]
  · rw [thread_vTrap_ne t cause x h]

/-- Settles O31: an illegal field traps first, then the data address, then the end of the code (log entry 21); TWORD is the word of
program memory at the PC (log entry 20). -/
theorem vatTrapsAsTable75 : Obligations.VatTrapsAsTable75 := by
  refine ⟨fun s t u rd ra rb imm imm22 ctx pt sel n st page tbl mask off ch prof h => ?_, fun x t cause => ?_⟩
  · have hld : ldAddr t ra imm (vIssued t s) = s.vreg t ra + imm.signExtend 32 := by rw [ldAddr, vreg_vIssued]
    refine ⟨done_eq (vInstr_jumps t _ s h), fun hi => ?_, fun hc => ?_, fun hc => ?_, fun hc => ?_, fun hn => ?_, fun he =>
      ⟨?_, ?_, ?_, fun hi => ?_, fun hc => ?_, fun hc => ?_, fun hc hs => ?_, fun hn => ?_, fun hin => ⟨?_, ?_⟩, fun hin => ⟨?_, ?_⟩⟩⟩
    · simp only [List.forall_mem_cons, List.not_mem_nil, false_imp_iff, implies_true, and_true]
      exact ⟨done_eq (vShift_illegal h hi), done_eq (vShift_illegal h hi), done_eq (vShift_illegal h hi)⟩
    · exact done_eq (vInstr_illegal h (decide_eq_false (by omega)))
    · simp only [List.forall_mem_cons, List.not_mem_nil, false_imp_iff, implies_true, and_true]
      exact ⟨done_eq (vOnCtx_illegal h (.inr hc)), done_eq (vCommit_illegal h hc), done_eq (vOnCtx_illegal h (.inr hc)),
        done_eq (vOnCtx_illegal h (.inr hc))⟩
    · refine done_eq (vOnCtx_illegal h (hc.symm.imp_left fun hs => ?_))
      rw [hs]
      rfl
    · exact done_eq (vInstr_illegal h (decide_eq_false (by omega)))
    · simp only [List.forall_mem_cons, List.not_mem_nil, false_imp_iff, implies_true, and_true]
      refine ⟨?_, ?_, ?_, ?_, ?_, ?_, ?_, ?_, ?_, ?_, ?_, ?_, ?_, ?_⟩ <;> exact done_eq (vAlu_atEnd h he)
    · simp only [List.forall_mem_cons, List.not_mem_nil, false_imp_iff, implies_true, and_true]
      exact ⟨done_eq (vImm_atEnd h he), done_eq (vImm_atEnd h he), done_eq (vImm_atEnd h he), done_eq (vImm_atEnd h he),
        done_eq (vImm_atEnd h he), done_eq (vSet_atEnd h he), done_eq (vSet_atEnd h he)⟩
    · simp only [List.forall_mem_cons, List.not_mem_nil, false_imp_iff, implies_true, and_true]
      refine ⟨?_, ?_, ?_, ?_, ?_, ?_, ?_, ?_, ?_, ?_, ?_, ?_, ?_⟩ <;> exact done_eq (vInstr_atEnd h rfl he)
    · simp only [List.forall_mem_cons, List.not_mem_nil, false_imp_iff, implies_true, and_true]
      exact ⟨done_eq (vShift_atEnd h hi he), done_eq (vShift_atEnd h hi he), done_eq (vShift_atEnd h hi he)⟩
    · exact done_eq (vInstr_atEnd h (decide_eq_true hc) he)
    · simp only [List.forall_mem_cons, List.not_mem_nil, false_imp_iff, implies_true, and_true]
      exact ⟨done_eq (vOnCtx_atEnd h ⟨rfl, hc⟩ he), done_eq (vCommit_atEnd h hc he), done_eq (vOnCtx_atEnd h ⟨rfl, hc⟩ he),
        done_eq (vOnCtx_atEnd h ⟨rfl, hc⟩ he)⟩
    · exact done_eq (vOnCtx_atEnd h ⟨decide_eq_true hs, hc⟩ he)
    · exact done_eq (vInstr_atEnd h (decide_eq_true hn) he)
    · exact done_eq (vMem_atEnd h he hld hin)
    · exact done_eq (vMem_atEnd h he hld hin)
    · exact done_eq (vAmo_atEnd h he hin)
    · exact done_eq (vAmo_atEnd h he hin)
  · intro y th on
    have hth : y.thread t = trappedThread t cause x := thread_vTrap t cause x
    refine ⟨?_, ?_, ?_, ?_, ?_, fun hon => ?_, fun hoff => ?_, fun u r => vreg_vTrap t u cause r x, fun u hu => thread_vTrap_ne t cause x hu,
      ?_, ?_⟩
    iterate 5
      rw [hth]
      unfold trappedThread
      dsimp only
      split <;> rfl
    · rw [hth, trappedThread]
      dsimp only
      rw [show (x.flag (VAT_TTRAP t) 31 && !(x.thread t).inTrap) = true from hon]
      exact ⟨rfl, Bool.or_true _, rfl⟩
    · rw [hth, trappedThread]
      dsimp only
      rw [show (x.flag (VAT_TTRAP t) 31 && !(x.thread t).inTrap) = false from hoff]
      exact ⟨rfl, Bool.or_false _, rfl⟩
    · exact (congrArg Vat.dm (vTrap_vat t cause x) :)
    · exact (congrArg Vat.pm (vTrap_vat t cause x) :)

end

end Sys2Proof.Machine
end

section
/-! Proofs about the Vat's instructions on the register bus, its control and its waits (07_vat_machine.md). -/

namespace Sys2Proof.Machine

section
variable {t : Fin 8} {s : State}

/-! ### The register bus (R147, R148) -/

theorem vFetch_eq (t : Fin 8) (rd a : Nat) (f : Word → Word) (x : State) : vFetch t rd a f x =
    (let u := regRead (.vat t) a x
     vCode t u.busCode (if u.busCode = .ok then setV t rd (f (nth 0 u.busData 0)) u else u)) := dif_pos t.isLt

theorem vStore_eq (t : Fin 8) (a : Nat) (v : Word) (x : State) : vStore t a v x =
    (let u := regWrite (.vat t) a v x
     if u.runs t then vCode t u.busCode u else u) := dif_pos t.isLt

theorem ctxOf_vIssued (t f : Nat) (s : State) : (vIssued t s).ctxOf t f = s.ctxOf t f := by
  rw [State.ctxOf, State.ctxOf, thread_vIssued]

/-- An instruction with a context field, of a ready thread (R151). -/
theorem vOnCtx_ready {ctx : Fin 16} {c : Nat} {legal : Bool} {f off : Nat → State → State} (h : Ready t s) (hl : legal = true)
    (hc : ctx.val < 9) (ho : s.ctxOf t ctx = some c) : vOnCtx t ctx legal f off s =
      if s.ctxEnabled c then f c (vIssued t s) else vCode t .eCtx (off c (vIssued t s)) := by
  have hen : (vIssued t s).ctxEnabled c = s.ctxEnabled c := rfl
  rw [vOnCtx, hl, decide_eq_true hc, Bool.and_true, vInstr_runs t _ s h.1 h.2]
  dsimp only
  rw [ctxOf_vIssued, ho, Option.getD_some, hen]

theorem vOnCtx_enabled {ctx : Fin 16} {c : Nat} {legal : Bool} {f off : Nat → State → State} (h : Ready t s) (hl : legal = true)
    (hc : ctx.val < 9) (ho : s.ctxOf t ctx = some c) (he : s.ctxEnabled c = true) : vOnCtx t ctx legal f off s = f c (vIssued t s) :=
  (vOnCtx_ready h hl hc ho).trans (if_pos he)

theorem vOnCtx_off {ctx : Fin 16} {c : Nat} {legal : Bool} {f off : Nat → State → State} (h : Ready t s) (hl : legal = true)
    (hc : ctx.val < 9) (ho : s.ctxOf t ctx = some c) (he : s.ctxEnabled c = false) :
    vOnCtx t ctx legal f off s = vCode t .eCtx (off c (vIssued t s)) :=
  (vOnCtx_ready h hl hc ho).trans (if_neg (by rw [he]; decide))

/-- A write instruction of a ready thread. -/
theorem vInstr_stores {a : Nat} {v : Word} {f : State → State} (h : Ready t s) (hf : f (vIssued t s) = vStore t a v (vIssued t s)) :
    vInstr t true true f s = (let u := regWrite (.vat t) a v (vIssued t s)
      if u.runs t then vCode t u.busCode u else u) :=
  (vInstr_runs t f s h.1 h.2).trans (hf.trans (vStore_eq t a v _))

/-- A read instruction of a ready thread. -/
theorem vInstr_fetches {rd a : Nat} {g : Word → Word} {f : State → State} (h : Ready t s)
    (hf : f (vIssued t s) = vFetch t rd a g (vIssued t s)) : vInstr t true true f s = (let u := regRead (.vat t) a (vIssued t s)
      vCode t u.busCode (if u.busCode = .ok then setV t rd (g (nth 0 u.busData 0)) u else u)) :=
  (vInstr_runs t f s h.1 h.2).trans (hf.trans (vFetch_eq t rd a g _))

theorem vAnaq_off {rd ctx : Fin 16} {sel c : Nat} (h : Ready t s) (hs : sel < 3) (hc : ctx.val < 9) (ho : s.ctxOf t ctx = some c)
    (he : s.ctxEnabled c = true) (hf : (vIssued t s).flag (ANA_CTL c) 31 = false) :
    vAnaq t rd ctx sel s = vCode t .eCtx (vIssued t s) :=
  (vOnCtx_enabled h (decide_eq_true hs) hc ho he).trans (if_pos (by rw [hf]; rfl))

/-- The analysis register that ANAQ reads, and what of its word it takes (R151, R400). -/
def anaqRead (t rd c : Nat) : Nat → State → State
  | 0 => vFetch t rd (ANA_STAT c) (fun w => word (bits w 22 16))
  | 1 => vFetch t rd (ANA_OCC c) id
  | _ => vFetch t rd (ANA_LOIT c) id

theorem vAnaq_on {rd ctx : Fin 16} {sel c : Nat} (h : Ready t s) (hs : sel < 3) (hc : ctx.val < 9) (ho : s.ctxOf t ctx = some c)
    (he : s.ctxEnabled c = true) (hf : (vIssued t s).flag (ANA_CTL c) 31 = true) :
    vAnaq t rd ctx sel s = anaqRead t rd c sel (vIssued t s) := by
  rw [vAnaq, vOnCtx_enabled h (decide_eq_true hs) hc ho he]
  rw [hf, if_neg (by decide)]
  rcases sel with _ | _ | _ <;> rfl

/-- Settles O32: each of these instructions is one access of the thread on the bus, whose code it keeps; a write that leaves the
thread not running ends there (log entry 23). -/
theorem vatBusInstructions : Obligations.VatBusInstructions := by
  intro s t rd ra h
  have hrd : (vIssued t s).vreg t rd = s.vreg t rd := vreg_vIssued ..
  have hra : (vIssued t s).vreg t ra = s.vreg t ra := vreg_vIssued ..
  refine ⟨fun page off => ⟨done_eq (vInstr_fetches h rfl), done_eq (vInstr_stores h (by rw [hrd]; rfl))⟩,
    done_eq (vInstr_fetches h (by rw [hra])), done_eq (vInstr_stores h (by rw [hra, hrd])), fun ctx c hc ho =>
      ⟨?_, fun he => done_eq ((vOnCtx_enabled h rfl hc ho he).trans (vFetch_eq ..)), fun he => done_eq (vOnCtx_off h rfl hc ho he),
        fun he sel hs => ?_, fun he hf => ?_⟩,
    fun ch prof => done_eq (vInstr_stores h rfl), fun mask => done_eq (vInstr_stores h rfl),
    fun tbl => done_eq (vInstr_stores h rfl), fun n hn => ?_⟩
  · refine done_eq ?_
    rw [vCommit, decide_eq_true hc]
    exact vInstr_stores h (by rw [ctxOf_vIssued, ho]; rfl)
  · refine done_eq ?_
    cases hen : s.ctxEnabled c
    · exact vOnCtx_off h (decide_eq_true hs) hc ho hen
    · exact vAnaq_off h hs hc ho hen (he.resolve_left (by rw [hen]; decide))
  · have hon {sel : Nat} (hs : sel < 3) := vAnaq_on (rd := rd) h hs hc ho he hf
    exact ⟨done_eq ((hon (by decide : 0 < 3)).trans (vFetch_eq t rd (ANA_STAT c) (fun w => word (bits w 22 16)) _)),
      done_eq ((hon (by decide : 1 < 3)).trans (vFetch_eq t rd (ANA_OCC c) id _)),
      done_eq ((hon (by decide : 2 < 3)).trans (vFetch_eq t rd (ANA_LOIT c) id _))⟩
  · refine done_eq ?_
    rw [vEmit, decide_eq_true hn, vInstr_runs t _ s h.1 h.2, hra]

end

end Sys2Proof.Machine
end

section
/-! Proofs about the Vat's control, timers and waits (07_vat_machine.md). -/

namespace Sys2Proof.Machine

section
variable {t : Fin 8} {s : State}

theorem state_vIssued (t u : Nat) (s : State) : ((vIssued t s).thread u).state = (s.thread u).state := by rw [thread_vIssued]

/-! ### Spawning -/

/-- The code of SPAWN once the thread has issued it: the other thread must be idle, the address within the code (R157). -/
theorem spawnCode_vIssued (u : Fin 8) (pc : Word) : (vIssued t s).spawnCode t u pc =
    if u = t ∨ ¬ ((s.thread u).state = .stopped ∨ (s.thread u).state = .halted) then .eState
    else if s.codeWords ≤ pc.toNat then .eRange else .ok := by
  rw [State.spawnCode, state_vIssued, codeWords_vIssued, firstCode_chk _ _ _ (by decide), firstCode_chk _ _ _ (by decide), firstCode_nil]
  simp only [Bool.or_eq_true, beq_iff_eq, Bool.not_eq_true', Bool.or_eq_false_iff, beq_eq_false_iff_ne, decide_eq_true_eq, Fin.ext_iff,
    not_or, ne_eq]

theorem vSpawn_ready {ra rb : Fin 16} {u : Fin 8} {c : Code} (h : Ready t s) (hc : (vIssued t s).spawnCode t u (s.vreg t ra) = c) :
    vSpawn t u ra rb s = vCode t c (if c = .ok then
      onThread u (fun th => th.begin (s.vreg t ra).toNat) (setV u 1 (s.vreg t rb) (vIssued t s)) else vIssued t s) := by
  rw [vSpawn, vInstr_runs t _ s h.1 h.2]
  dsimp only
  rw [vreg_vIssued, vreg_vIssued, hc]

/-! ### Waits -/

theorem count_vIssued (t u k : Nat) (s : State) : ((vIssued t s).thread u).count k = (s.thread u).count k := by
  rw [thread_vIssued]
  rfl

/-- WFRM on an enabled context: the sticky form returns at once with a counted frame, else the thread waits (R152). -/
theorem vWfrm_enabled {rd ctx : Fin 16} {pt : Fin 4} {st : Bool} {c : Nat} (h : Ready t s) (hc : ctx.val < 9)
    (ho : s.ctxOf t ctx = some c) (he : s.ctxEnabled c = true) : vWfrm t rd ctx pt st s =
      if (st && ((s.thread t).count (4 * c + pt)).1 != 0) = true then
        vCode t .ok (setV t rd (word ((s.thread t).count (4 * c + pt)).2) (clearCount t (4 * c + pt)
          (raiseIf (decide (2 ≤ ((s.thread t).count (4 * c + pt)).1)) (0x042 + 8 * t)
            (at_ 2 28 + (((s.thread t).count (4 * c + pt)).1 - 1)) (vIssued t s))))
      else vWait t (.frame rd c pt) (vIssued t s) := by
  rw [vWfrm, vOnCtx_enabled h rfl hc ho he]
  dsimp only
  rw [count_vIssued]

theorem vWevt_presented {rd ra rb : Fin 16} {n : Nat} (h : Ready t s) (hn : (vIssued t s).d2Source t = some n) :
    vWevt t rd ra rb s = takeEvent t rd ra n (vIssued t s) := by
  rw [vWevt, vInstr_runs t _ s h.1 h.2]
  dsimp only
  rw [hn]

theorem vWevt_waits {rd ra rb : Fin 16} (h : Ready t s) (hn : (vIssued t s).d2Source t = none) : vWevt t rd ra rb s =
    vWait t (.event rd ra (if (s.vreg t rb).toNat = 0 then none else some (s.upTicks + (s.vreg t rb).toNat))) (vIssued t s) := by
  have hup : (vIssued t s).upTicks = s.upTicks := rfl
  rw [vWevt, vInstr_runs t _ s h.1 h.2]
  dsimp only
  rw [hn, vreg_vIssued, hup]

theorem vWtim_ready {rd : Fin 16} (h : Ready t s) : vWtim t rd s = if (s.thread t).period = 0 then vCode t .eState (vIssued t s)
    else if (s.thread t).missed = 0 then vWait t (.timer rd) (vIssued t s)
    else if (s.thread t).periodic then
      timerReturn t rd ((s.thread t).missed - 1) (onThread t (fun th => { th with missed := 0 }) (vIssued t s))
    else timerReturn t rd 0 (onThread t (fun th => { th with missed := 0, period := 0 }) (vIssued t s)) := by
  rw [vWtim, vInstr_runs t _ s h.1 h.2]
  dsimp only
  rw [thread_vIssued]

theorem execWevtTimeout_other (h : ∀ rd ra d, (s.thread t).wait ≠ some (.event rd ra (some d))) :
    execWevtTimeout t s = done s := by
  rw [execWevtTimeout.eq_def]
  congr 1
  split
  · rfl
  · split
    · next rd ra d hw => exact absurd hw (h rd ra d)
    · rfl

theorem execWevtTimeout_stopped (h : s.live = false) : execWevtTimeout t s = done s := by
  rw [execWevtTimeout.eq_def, h]
  exact congrArg done (if_pos (by decide))

theorem execWevtTimeout_presented {rd ra d n : Nat} (hl : s.live = true) (hw : (s.thread t).wait = some (.event rd ra (some d)))
    (hn : s.d2Source t = some n) : execWevtTimeout t s = done (takeEvent t rd ra n s) := by
  rw [execWevtTimeout.eq_def, hw, hn, hl]
  exact congrArg done (if_neg (by decide))

theorem execWevtTimeout_expired {rd ra d : Nat} (hl : s.live = true) (hw : (s.thread t).wait = some (.event rd ra (some d)))
    (hn : s.d2Source t = none) : execWevtTimeout t s = done (vNext t (setV t rd 0 s)) := by
  rw [execWevtTimeout.eq_def, hw, hn, hl]
  exact congrArg done (if_neg (by decide))

theorem timerExpire_idle (h : (s.thread t).period = 0 ∨ (s.thread t).missed ≠ 0 ∧ (s.thread t).periodic = false) :
    timerExpire t s = s := if_pos (by simpa using h)

theorem timerExpire_armed (h0 : (s.thread t).period ≠ 0) (h : (s.thread t).missed = 0 ∨ (s.thread t).periodic = true) :
    timerExpire t s =
      let y := onThread t (fun th => { th with expiry := if th.periodic then th.expiry + th.period else s.upTicks }) s
      match (s.thread t).wait with
      | some (.timer rd) =>
        timerReturn t rd 0 (if (s.thread t).periodic then y else onThread t (fun th => { th with period := 0 }) y)
      | _ => onThread t (fun th => { th with missed := th.missed + 1 }) y := by
  have hc : ¬ ((s.thread t).period = 0 ∨ (s.thread t).missed ≠ 0 ∧ (!(s.thread t).periodic) = true) := by
    rintro (hp | ⟨hm, hp⟩)
    · exact h0 hp
    · rw [Bool.not_eq_true'] at hp
      rcases h with h | h
      · exact hm h
      · rw [hp] at h
        cases h
  exact if_neg hc

/-- Settles O33: each instruction is its effect on the thread that has issued it; a wait ends by what it waits for. -/
theorem vatControlAndWaits : Obligations.VatControlAndWaits := by
  refine ⟨fun s t u rd ra rb ctx per h => ⟨?_, fun hu hi hp => ?_, fun hi => ?_, fun hu hi hp => ?_, ?_, fun hc => ?_, ?_, ?_, ?_, ?_, ?_⟩,
    fun s t rd ra rb ctx pt c h => ⟨fun hc ho he => ⟨?_, fun fn hn => ?_, fun n fn h2 hn => ?_, fun h0 => ?_, ?_⟩,
      fun hc ho he => ⟨fun st => done_eq (vOnCtx_off h rfl hc ho he), done_eq (vOnCtx_off h rfl hc ho he)⟩, fun n hn => ?_, fun hn => ?_,
      fun hp => ?_, fun hp hm => ?_, fun hp hm hper => ?_, fun hp hm hper => ?_⟩,
    fun s t rd ra d hl hw => ⟨fun hn => ?_, fun n hn => ?_⟩, fun s t h => ?_, fun s t h => ?_, fun s t hl h0 h => ?_⟩
  · refine done_eq ((vInstr_jumps t _ s h.1).trans ?_)
    dsimp only
    rw [pc_vIssued]
  · have hc : (vIssued t s).spawnCode t u (s.vreg t ra) = .ok := by
      rw [spawnCode_vIssued, if_neg (by rintro (h | h); exacts [hu h, h hi]), if_neg (Nat.not_le.mpr hp)]
    exact done_eq (vSpawn_ready h hc)
  · have hc : (vIssued t s).spawnCode t u (s.vreg t ra) = .eState := by rw [spawnCode_vIssued, if_pos hi]
    exact done_eq (vSpawn_ready h hc)
  · have hc : (vIssued t s).spawnCode t u (s.vreg t ra) = .eRange := by
      rw [spawnCode_vIssued, if_neg (by rintro (h | h); exacts [hu h, h hi]), if_pos hp]
    exact done_eq (vSpawn_ready h hc)
  · exact done_eq (vInstr_runs t _ s h.1 h.2)
  · refine done_eq ?_
    rw [vCsel, decide_eq_true hc, vInstr_runs t _ s h.1 h.2]
  · exact done_eq (vInstr_runs t _ s h.1 h.2)
  · have hhi : ((vIssued t s).thread t).ptpHi = (s.thread t).ptpHi := by rw [thread_vIssued]
    rw [← hhi]
    exact done_eq (vInstr_runs t _ s h.1 h.2)
  · exact done_eq (vInstr_runs t _ s h.1 h.2)
  · exact done_eq (vInstr_runs t _ s h.1 h.2)
  · refine done_eq ((vInstr_runs t _ s h.1 h.2).trans ?_)
    dsimp only
    rw [vreg_vIssued]
    rfl
  · exact done_eq (vWfrm_enabled h hc ho he)
  · refine done_eq ((vWfrm_enabled h hc ho he).trans ?_)
    rw [hn]
    rfl
  · refine done_eq ((vWfrm_enabled h hc ho he).trans ?_)
    have hne : (n != 0) = true := bne_iff_ne.mpr (by omega)
    rw [hn]
    dsimp only
    rw [hne, decide_eq_true h2]
    rfl
  · refine done_eq ((vWfrm_enabled h hc ho he).trans ?_)
    rw [h0]
    rfl
  · exact done_eq (vOnCtx_enabled h rfl hc ho he)
  · exact done_eq (vWevt_presented h hn)
  · exact done_eq (vWevt_waits h hn)
  · exact done_eq ((vWtim_ready h).trans (if_pos hp))
  · exact done_eq ((vWtim_ready h).trans ((if_neg hp).trans (if_pos hm)))
  · exact done_eq ((vWtim_ready h).trans ((if_neg hp).trans ((if_neg hm).trans (if_pos hper))))
  · exact done_eq ((vWtim_ready h).trans ((if_neg hp).trans ((if_neg hm).trans (if_neg (by rw [hper]; decide)))))
  · exact (execWevtTimeout_expired hl hw hn).trans (done_eq rfl)
  · exact (execWevtTimeout_presented hl hw hn).trans (done_eq rfl)
  · rcases h with h | h
    · exact (execWevtTimeout_stopped (t := t) h).trans (done_eq rfl)
    · exact (execWevtTimeout_other h).trans (done_eq rfl)
  · rcases h with h | h
    · exact done_eq (if_neg (by rw [h]; decide))
    · exact done_eq (by rw [timerExpire_idle h, ite_self])
  · exact done_eq ((if_pos hl).trans (timerExpire_armed h0 h))

end

end Sys2Proof.Machine
end

section
/-! Proofs about the Vat's host commands (07_vat_machine.md): thread control, registers, images and their store. -/

namespace Sys2Proof.Machine

/-! ### Legal words -/

theorem bits_le (v : Word) (hi lo : Nat) : bits v hi lo ≤ 2 ^ (hi - lo + 1) - 1 :=
  Nat.le_sub_one_of_lt (Nat.mod_lt _ (Nat.two_pow_pos _))

/-- A field without a range of its own takes every value. -/
theorem outOfRange_plain {r : Reg} {v : Word} (h : ∀ f ∈ r.flds, f = fd f.hi f.lo f.acc f.rst) : r.outOfRange v = false := by
  refine List.any_eq_false.mpr fun f hf => ?_
  have hle : bits v f.hi f.lo ≤ (fd f.hi f.lo f.acc f.rst).mx := bits_le v f.hi f.lo
  rw [← h f hf] at hle
  have hmn : f.mn = 0 := by rw [h f hf]; rfl
  simp [hmn, hle]

/-- A register that is one plain field of 32 bits takes every word. -/
theorem fits_full {a : Nat} {v : Word} {r : Reg} (hr : regAt a = some r)
    (h : r.flds = [fd 31 0 .rw]) : Fits a v := by
  refine ⟨r, hr, ?_, outOfRange_plain (by rw [h]; simp [fd])⟩
  exact reservedSet_split (k := 32) (a := 0) (c := 0) (by omega) v.isLt (by rw [h]; rfl) rfl

/-! ### Thread control (Table 7.8) -/

theorem takesWrites_vatTctl (t : Fin 8) : TakesWrites (VAT_TCTL t.val) 0x04 := takesWrites_of (by revert t; decide)

/-- The access is the thread's own. -/
def sentBy (o : Origin) (t : Nat) : Bool :=
  match o with
  | .vat u => u.val == t
  | .host => false

theorem sentBy_iff (o : Origin) (t : Fin 8) : sentBy o t = true ↔ o = .vat t := by
  cases o with
  | host => exact ⟨nofun, nofun⟩
  | vat u => simp [sentBy, Fin.ext_iff]

theorem vatTctl_pre (o : Origin) (t : Fin 8) (v : Word) (s : State) : (writeRule o (VAT_TCTL t.val) v s).pre =
    chk (sentBy o t || s.vat.img.isNone || !s.tctlAllowed t (bits v 31 28)) .eState := by
  fin_cases t <;> rfl

theorem vatTctl_bad (o : Origin) (t : Fin 8) (v : Word) (s : State) : (writeRule o (VAT_TCTL t.val) v s).bad =
    (!(decide (1 ≤ bits v 31 28) && decide (bits v 31 28 ≤ 4)) || (bits v 31 28 == 1 && decide (s.codeWords ≤ bits v 13 0))) := by
  fin_cases t <;> rfl

theorem vatTctl_rest (o : Origin) (t : Fin 8) (v : Word) (s : State) : (writeRule o (VAT_TCTL t.val) v s).post = .ok ∧
    (writeRule o (VAT_TCTL t.val) v s).store = false ∧ (writeRule o (VAT_TCTL t.val) v s).rej = id ∧
    (writeRule o (VAT_TCTL t.val) v s).app = tctl t (bits v 31 28) (bits v 13 0) := by
  fin_cases t <;> exact ⟨rfl, rfl, rfl, rfl⟩

/-- VAT_TCTL's word (Table 7.8). -/
def tctlWord (cmd pc : Nat) : Word := word (at_ cmd 28 + pc)

theorem bits_tctlWord {cmd pc : Nat} (hc : cmd < 16) (hp : pc < 2 ^ 14) :
    bits (tctlWord cmd pc) 31 28 = cmd ∧ bits (tctlWord cmd pc) 13 0 = pc := by
  rw [tctlWord, bits_word, bits_word]
  simp only [at_]
  omega

theorem fits_tctlWord (t : Fin 8) {cmd pc : Nat} (hc : cmd ∈ [1, 2, 3, 4]) (hp : pc < 2 ^ 14) :
    Fits (VAT_TCTL t.val) (tctlWord cmd pc) := by
  have hreg : ∃ r, regAt (VAT_TCTL t.val) = some r ∧ r.flds = [fd 31 28 .wo, fd 13 0 .wo] := by
    fin_cases t <;> exact ⟨_, rfl, rfl⟩
  obtain ⟨r, hr, hflds⟩ := hreg
  have hcmd : cmd < 16 ∧ (cmd * 2 ^ 14) &&& 0x3C000 = cmd * 2 ^ 14 := by
    fin_cases hc <;> exact ⟨by decide, by decide⟩
  refine ⟨r, hr, reservedSet_split (k := 14) (a := cmd * 2 ^ 14) (b := pc) (c := 0x3C000) ?_ hp (by rw [hflds]; rfl) hcmd.2,
    outOfRange_plain (by rw [hflds]; simp [fd])⟩
  rw [tctlWord, toNat_word] <;> simp only [at_] <;> omega

section Control
variable {o : Origin} {t : Fin 8} {cmd pc : Nat} {s : State}

/-- A thread command that the sender, the image and the thread's state allow. -/
theorem threadCmd_ok (ho : Open o 0x04 s) (hc : cmd ∈ [1, 2, 3, 4]) (hp : pc < 2 ^ 14) (hs : o ≠ .vat t) (hi : s.vat.img.isSome = true)
    (ha : s.tctlAllowed t cmd = true) (hb : cmd = 1 → pc < s.codeWords) :
    done (regWrite o (VAT_TCTL t.val) (tctlWord cmd pc) s) = .next (wrote o s (tctl t cmd pc s)) := by
  have hc4 : 1 ≤ cmd ∧ cmd ≤ 4 := by fin_cases hc <;> exact ⟨by decide, by decide⟩
  obtain ⟨hcmd, hpc⟩ := bits_tctlWord (by omega : cmd < 16) hp
  obtain ⟨hpost, hstore, -, happ⟩ := vatTctl_rest o t (tctlWord cmd pc) s
  have hsent : sentBy o t = false := Bool.eq_false_iff.mpr fun h => hs ((sentBy_iff o t).mp h)
  have hnone : s.vat.img.isNone = false := by cases h : s.vat.img <;> simp_all
  refine write_acts (takesWrites_vatTctl t) ho (fits_tctlWord t hc hp) ?_ ?_ hpost ?_
  · rw [vatTctl_pre, hcmd, ha, hsent, hnone]
    rfl
  · rw [vatTctl_bad, hcmd, hpc, decide_eq_true hc4.1, decide_eq_true hc4.2]
    by_cases h1 : cmd = 1
    · rw [decide_eq_false (Nat.not_le.mpr (hb h1)), Bool.and_false]
      rfl
    · rw [beq_eq_false_iff_ne.mpr h1]
      rfl
  · rw [happ, hstore, hcmd, hpc]
    rfl

/-- A thread command that they do not allow. -/
theorem threadCmd_away (ho : Open o 0x04 s) (hc : cmd < 16) (hp : pc < 2 ^ 14)
    (h : o = .vat t ∨ s.vat.img.isSome = false ∨ s.tctlAllowed t cmd = false) :
    done (regWrite o (VAT_TCTL t.val) (tctlWord cmd pc) s) = .next (turnedAway o .eState s) := by
  obtain ⟨hcmd, -⟩ := bits_tctlWord hc hp
  obtain ⟨-, -, hrej, -⟩ := vatTctl_rest o t (tctlWord cmd pc) s
  refine write_pre o _ 0x04 _ s .eState _ (takesWrites_vatTctl t) ho rfl ?_ (by decide) (by rw [hrej]; rfl)
  have hno : (sentBy o t || s.vat.img.isNone || !s.tctlAllowed t cmd) = true := by
    rcases h with h | h | h
    · rw [(sentBy_iff o t).mpr h]
      rfl
    · rw [show s.vat.img.isNone = true by cases hi : s.vat.img <;> simp_all, Bool.or_true]
      rfl
    · rw [h]
      exact Bool.or_true _
  rw [vatTctl_pre, hcmd, hno]
  rfl

/-- START beyond the code. -/
theorem threadStart_range (ho : Open o 0x04 s) (hp : pc < 2 ^ 14) (hs : o ≠ .vat t) (hi : s.vat.img.isSome = true)
    (ha : s.tctlAllowed t 1 = true) (hb : s.codeWords ≤ pc) :
    done (regWrite o (VAT_TCTL t.val) (tctlWord 1 pc) s) = .next (turnedAway o .eRange s) := by
  obtain ⟨hcmd, hpc⟩ := bits_tctlWord (by omega : 1 < 16) hp
  obtain ⟨-, -, hrej, -⟩ := vatTctl_rest o t (tctlWord 1 pc) s
  have hsent : sentBy o t = false := Bool.eq_false_iff.mpr fun h => hs ((sentBy_iff o t).mp h)
  have hnone : s.vat.img.isNone = false := by cases h : s.vat.img <;> simp_all
  refine write_bad o _ 0x04 _ s _ (takesWrites_vatTctl t) ho rfl ?_ ?_ (by rw [hrej]; rfl)
  · rw [vatTctl_pre, hcmd, ha, hsent, hnone]
    rfl
  · rw [vatTctl_bad, hcmd, hpc, decide_eq_true hb]
    rfl

/-- What keeps a thread command out, as the disjunction of the checks. -/
theorem notAble_cases {p : Prop} {b : Bool} (h : ¬ (o ≠ .vat t ∧ s.vat.img.isSome = true) ∨ p) (hp : p → b = false) :
    o = .vat t ∨ s.vat.img.isSome = false ∨ b = false := by
  rcases h with h | h
  · by_cases hs : o = .vat t
    · exact .inl hs
    · exact .inr (.inl (Bool.eq_false_iff.mpr fun hi => h ⟨hs, hi⟩))
  · exact .inr (.inr (hp h))

end Control

/-! The commands as writes of VAT_TCTL's word. -/

theorem exec_threadStop_word (o : Origin) (t : Fin 8) (s : State) :
    exec (.threadStop o t) s = done (regWrite o (VAT_TCTL t.val) (tctlWord 2 0) s) := rfl

theorem exec_threadResume_word (o : Origin) (t : Fin 8) (s : State) :
    exec (.threadResume o t) s = done (regWrite o (VAT_TCTL t.val) (tctlWord 3 0) s) := rfl

theorem exec_threadStep_word (o : Origin) (t : Fin 8) (s : State) :
    exec (.threadStep o t) s = done (regWrite o (VAT_TCTL t.val) (tctlWord 4 0) s) := rfl

/-! ### Thread registers (R162) -/

theorem takesWrites_vatTv (t : Fin 8) (r : Fin 16) : TakesWrites (VAT_TV t.val r.val) 0x04 := takesWrites_of (by revert t r; decide)

theorem vatTv_rule (o : Origin) (t : Fin 8) (r : Fin 16) (v : Word) (s : State) : writeRule o (VAT_TV t.val r.val) v s =
    { pre := if r.val = 0 then .eRo else chk (!(s.thread t).idle) .eState, store := false, app := setV t r v } := by
  have ht := t.isLt
  have hr := r.isLt
  have hp : VAT_TV t.val r.val / 0x10000 = 0x04 := (takesWrites_vatTv t r).page
  have h1 : ¬ (VAT_DMEM 0 ≤ VAT_TV t.val r.val ∧ VAT_TV t.val r.val < VAT_DMEM 4096) := by simp only [VAT_DMEM, VAT_TV]; omega
  have h2 : VAT_TV 0 0 ≤ VAT_TV t.val r.val ∧ VAT_TV t.val r.val < VAT_TV 8 0 := by simp only [VAT_TV]; omega
  have ht' : (VAT_TV t.val r.val - VAT_TV 0 0) / 0x40 = t.val := by simp only [VAT_TV]; omega
  have hr' : (VAT_TV t.val r.val - VAT_TV 0 0) % 0x40 / 4 = r.val := by simp only [VAT_TV]; omega
  rw [writeRule, blockRule, hp, vatWrite, if_neg h1, if_pos h2]
  dsimp only
  rw [ht', hr']
  rfl

theorem fits_vatTv (t : Fin 8) (r : Fin 16) (v : Word) : Fits (VAT_TV t.val r.val) v := by
  have hreg : ∀ (t : Fin 8) (r : Fin 16), (regAt (VAT_TV t.val r.val)).any (fun x => x.flds == [fd 31 0 .rw]) = true := by decide
  have h := hreg t r
  cases hx : regAt (VAT_TV t.val r.val) with
  | none =>
    rw [hx] at h
    cases h
  | some x =>
    rw [hx] at h
    exact fits_full hx (beq_iff_eq.mp h)

/-! ### Image commands (R163, R164, R166, R168) -/

theorem takesWrites_vatCmd : TakesWrites VAT_CMD 0x04 := takesWrites_of (by decide)

theorem vatCmd_pre (o : Origin) (v : Word) (s : State) : (writeRule o VAT_CMD v s).pre =
    chk (isVat o || ((bits v 31 28 == 1 || bits v 31 28 == 3) && !s.allIdle) ||
      (bits v 31 28 == 4 && (s.vat.storeBusy || !s.vat.stagedIsInstalled || s.inEffect 12 ||
        s.vat.img.map (·.origin) != some 1))) .eState := rfl

theorem isVat_eq_false {o : Origin} (h : o = .host) : isVat o = false := by rw [h]; rfl
theorem isVat_eq_true {o : Origin} (h : o ≠ .host) : isVat o = true := by
  cases o with
  | host => exact absurd rfl h
  | vat t => rfl

/-- A VAT_CMD command that the host may give under the condition `b`. -/
theorem vatCmd_takes {o : Origin} {v : Word} {s x : State} {b : Bool} {p : Prop} (ho : Open o 0x04 s) (hf : Fits VAT_CMD v)
    (hpre : (writeRule o VAT_CMD v s).pre = chk (isVat o || !b) .eState) (happ : (writeRule o VAT_CMD v s).app s = x) (hb : b = true ↔ p) :
    (o = .host → p → done (regWrite o VAT_CMD v s) = .next (wrote o s x)) ∧
    (o ≠ .host ∨ ¬ p → done (regWrite o VAT_CMD v s) = .next (turnedAway o .eState s)) := by
  refine ⟨fun hhost hp => write_acts takesWrites_vatCmd ho hf ?_ rfl rfl happ, fun h => ?_⟩
  · rw [hpre, isVat_eq_false hhost, hb.mpr hp]
    rfl
  · refine write_pre o VAT_CMD 0x04 v s .eState _ takesWrites_vatCmd ho rfl ?_ (by decide) rfl
    rw [hpre]
    rcases h with h | h
    · rw [isVat_eq_true h]
      rfl
    · rw [Bool.eq_false_iff.mpr (mt hb.mp h), Bool.not_false, Bool.or_true]
      rfl

/-- CHECK's word (R164). -/
def checkWord (nor start : Bool) : Word := word (at_ 1 28 + at_ (b2n nor) 1 + b2n start)

theorem checkWord_bits (nor start : Bool) : bits (checkWord nor start) 31 28 = 1 ∧
    bits (checkWord nor start) 1 0 = 2 * b2n nor + b2n start := by
  cases nor <;> cases start <;> exact ⟨by decide, by decide⟩

theorem check_app (o : Origin) (nor start : Bool) (s : State) : (writeRule o VAT_CMD (checkWord nor start) s).app s =
    { s with cp := { s.cp with op := some ⟨6, 2 * b2n nor + b2n start, s.time⟩ } } := by
  cases nor <;> cases start <;> rfl

theorem winWriteCode_vatLoad (ws : List Word) (s : State) : s.winWriteCode VAT_LOAD ws = (lenCode 4096 ws.length).first
    (firstCode [chk s.closing .eState, chk s.vat.storeBusy .eState, chk (decide (20528 < s.fld VAT_LADDR 14 0 + ws.length)) .eLen]) := rfl

/-! ### Their ends -/

theorem recipeCheckDone_due {s : State} {k : LongOp} (hl : s.live = true) (ho : s.cp.op = some k) (hk : k.id = 6) :
    exec .recipeCheckDone s = .next (after s (endOp (checkImage (k.arg / 2) (k.arg % 2 == 1) s).1
      (checkImage (k.arg / 2) (k.arg % 2 == 1) s).2)) := by
  rw [exec_recipeCheckDone, execRecipeCheckDone.eq_def, ho]
  exact done_after (if_pos (by rw [hl, hk]; rfl))

theorem recipeCheckDone_idle {s : State} (h : s.live = false ∨ ∀ k, s.cp.op = some k → k.id ≠ 6) :
    exec .recipeCheckDone s = .next (settle s) := by
  rw [exec_recipeCheckDone, execRecipeCheckDone.eq_def]
  refine done_eq ?_
  cases ho : s.cp.op with
  | none => rfl
  | some k =>
    refine if_neg ?_
    rcases h with h | h
    · simp [h]
    · simp [h k ho]

/-- Settles O34: each command is judged by its sender, then by the image and the states it needs. -/
theorem vatHostCommands : Obligations.VatHostCommands := by
  refine ⟨fun o t pc s ho => ⟨fun ha hi hp => threadCmd_ok ho (by decide) pc.isLt ha.1 ha.2 hi fun _ => hp,
      fun ha hi hp => threadStart_range ho pc.isLt ha.1 ha.2 hi hp, fun h => threadCmd_away ho (by decide) pc.isLt (notAble_cases h id),
      fun ha => (exec_threadStop_word o t s).trans (threadCmd_ok (cmd := 2) ho (by decide) (by decide) ha.1 ha.2 rfl nofun),
      fun h => (exec_threadStop_word o t s).trans
        (threadCmd_away ho (by decide) (by decide) (notAble_cases (p := False) (.inl h) False.elim)),
      fun ha hi => (exec_threadResume_word o t s).trans (threadCmd_ok (cmd := 3) ho (by decide) (by decide) ha.1 ha.2 hi nofun),
      fun h => (exec_threadResume_word o t s).trans (threadCmd_away ho (by decide) (by decide) (notAble_cases h id)),
      fun ha hi => (exec_threadStep_word o t s).trans
        (threadCmd_ok (cmd := 4) ho (by decide) (by decide) ha.1 ha.2 (beq_iff_eq.mpr hi) nofun),
      fun h => (exec_threadStep_word o t s).trans
        (threadCmd_away ho (by decide) (by decide) (notAble_cases h beq_eq_false_iff_ne.mpr))⟩,
    fun o t r v s ho => ⟨fun hr hi => ?_, fun hr hi => ?_, fun hr => ?_⟩,
    fun ws s ho => ⟨fun hb hfit => ?_, fun hb => ?_, fun hb hfit => ?_⟩, fun o nor start s ho => ⟨?_, ?_, ?_, ?_⟩,
    fun s => ⟨fun k hl ho hk => recipeCheckDone_due hl ho hk, recipeCheckDone_idle⟩, fun s ok => ⟨fun hl hb => ?_, fun h => ?_⟩⟩
  · have hr0 : r.val ≠ 0 := fun h => hr (Fin.ext h)
    refine write_acts (takesWrites_vatTv t r) ho (fits_vatTv t r v) ?_ ?_ ?_ ?_ <;> rw [vatTv_rule]
    · simp only [if_neg hr0, hi]
      rfl
    · simp only [Bool.false_eq_true, if_false]
  · have hr0 : r.val ≠ 0 := fun h => hr (Fin.ext h)
    refine write_pre o _ 0x04 v s .eState _ (takesWrites_vatTv t r) ho (vatTv_rule o t r v s) ?_ (by decide) rfl
    simp only [if_neg hr0, hi]
    rfl
  · subst hr
    exact write_pre o _ 0x04 v s .eRo _ (takesWrites_vatTv t 0) ho (vatTv_rule o t 0 v s) rfl (by decide) rfl
  · obtain ⟨h1, h2, h3⟩ := hfit
    refine win_ok VAT_LOAD 0x04 s ws rfl ho.1 ?_
    rw [winWriteCode_vatLoad, ho.2.2, hb, lenCode_in h1 h2, decide_eq_false (by omega)]
    rfl
  · refine win_away VAT_LOAD 0x04 s .eState ws rfl ho.1 ?_ (by decide)
    rw [winWriteCode_vatLoad, ho.2.2, hb]
    exact first_lenCode_early (c := .eState) (by decide)
  · refine win_away VAT_LOAD 0x04 s .eLen ws rfl ho.1 ?_ (by decide)
    rw [winWriteCode_vatLoad, ho.2.2, hb]
    by_cases hlong : 20528 < s.fld VAT_LADDR 14 0 + ws.length
    · rw [decide_eq_true hlong]
      rcases lenCode_cases 4096 ws.length with h | h <;> rw [h] <;> rfl
    · rw [lenCode_out (by omega), decide_eq_false hlong]
      rfl
  · refine vatCmd_takes ho (fits_of_legal (by cases nor <;> cases start <;> decide)) ?_ (check_app ..) Iff.rfl
    refine (vatCmd_pre o (checkWord nor start) s).trans ?_
    rw [(checkWord_bits nor start).1]
    cases isVat o <;> cases s.allIdle <;> rfl
  · refine vatCmd_takes (b := true) ho (fits_of_legal (by decide)) ?_ rfl (by simp)
    cases o <;> rfl
  · refine vatCmd_takes ho (fits_of_legal (by decide)) ?_ rfl Iff.rfl
    rw [vatCmd_pre, show bits (word (at_ 3 28)) 31 28 = 3 from by decide]
    cases isVat o <;> cases s.allIdle <;> rfl
  · refine vatCmd_takes (b := !(s.vat.storeBusy || !s.vat.stagedIsInstalled || s.inEffect 12 ||
      s.vat.img.map (·.origin) != some 1)) ho (fits_of_legal (by decide)) ?_ rfl (by simp [and_assoc])
    rw [vatCmd_pre, show bits (word (at_ 4 28)) 31 28 = 4 from by decide, Bool.not_not]
    cases isVat o <;> rfl
  · have hc : ¬ (!(s.live && s.vat.storeBusy)) = true := by simp [hl, hb]
    refine done_eq ((if_neg hc).trans ?_)
    cases ok <;> rfl
  · refine done_eq (if_pos ?_)
    rcases h with h | h <;> simp [h]

end Sys2Proof.Machine
end

section
/-! Proofs about packets at intake (13_sensor_intake.md): what reaches the receiver of a head, and losses and samples. -/

namespace Sys2Proof.Machine

/-! ### The state of one head -/

theorem modify_congr {α : Type} {l : List α} {k : Nat} {f g : α → α} (d : α) (h : f (l.getD k d) = g (l.getD k d)) :
    l.modify k f = l.modify k g := by
  refine List.ext_getElem (by simp) fun i h1 h2 => ?_
  rw [List.getElem_modify, List.getElem_modify]
  split
  · next hk =>
    subst hk
    have hi : k < l.length := by simpa using h1
    simpa [List.getD_eq_getElem?_getD, List.getElem?_eq_getElem hi] using h
  · rfl

theorem onHead_congr {n : Nat} {f g : Head → Head} {s : State} (h : f (s.head n) = g (s.head n)) : onHead n f s = onHead n g s := by
  rw [onHead, onHead, upd, upd, modify_congr {} h]

/-- A head that receives a frame is one of the six. -/
theorem head_onHead_rx {n : Nat} {f : Head → Head} {s : State} {r : RxFrame} (h : (s.head n).rx = some r) :
    (onHead n f s).head n = f (s.head n) := by
  have hn : n < s.int.heads.length := by
    by_contra hn
    rw [State.head, nth, List.getD_eq_getElem?_getD, List.getElem?_eq_none (Nat.not_lt.mp hn)] at h
    cases h
  simp [State.head, onHead, upd, nth, List.getElem?_eq_getElem hn]

/-! ### Packets -/

theorem happens_eq {f : State → State} {s x : State} (h : f s = x) : happens f s = .next (after s x) := done_after (congrArg (followUp s) h)

section Packet
variable {s : State} {e : PacketErr} {vc n : Nat}

/-- A packet on a virtual channel of no enabled head. -/
theorem headLine_stopped {p : LinePacket} (h : s.live = false) : headLine p s = s := if_pos (by rw [h]; rfl)
theorem headStart_stopped {p : StartPacket} (h : s.live = false) : headStart p e s = s := if_pos (by rw [h]; rfl)
theorem headEnd_stopped {y : Nat} (h : s.live = false) : headEnd vc e y s = s := if_pos (by rw [h]; rfl)
theorem otherPacket_stopped {dt : Nat} (h : s.live = false) : otherPacket vc dt e s = s := if_pos (by rw [h]; rfl)
theorem strayPacket_stopped (h : s.live = false) : strayPacket vc e s = s := if_pos (by rw [h]; rfl)

theorem not_live_false (h : s.live = true) : ¬ (!s.live) = true := by rw [h]; decide
theorem not_readable_true {x : State} (h : readable e x = false) : (!readable e x) = true := by rw [h]; rfl
theorem not_readable_false {x : State} (h : readable e x = true) : ¬ (!readable e x) = true := by rw [h]; decide

theorem headLine_unread {p : LinePacket} (hl : s.live = true) (hr : readable p.err (packetSeen p.err s) = false) :
    headLine p s = packetSeen p.err s := (if_neg (not_live_false hl)).trans (if_pos (not_readable_true hr))
theorem headStart_unread {p : StartPacket} (hl : s.live = true) (hr : readable e (packetSeen e s) = false) :
    headStart p e s = packetSeen e s := (if_neg (not_live_false hl)).trans (if_pos (not_readable_true hr))
theorem headEnd_unread {y : Nat} (hl : s.live = true) (hr : readable e (packetSeen e s) = false) :
    headEnd vc e y s = packetSeen e s := (if_neg (not_live_false hl)).trans (if_pos (not_readable_true hr))
theorem otherPacket_unread {dt : Nat} (hl : s.live = true) (hr : readable e (packetSeen e s) = false) :
    otherPacket vc dt e s = packetSeen e s := (if_neg (not_live_false hl)).trans (if_pos (not_readable_true hr))
theorem strayPacket_unread (hl : s.live = true) (hr : readable e (packetSeen e s) = false) :
    strayPacket vc e s = packetSeen e s := (if_neg (not_live_false hl)).trans (if_neg (by rw [hr]; exact Bool.false_ne_true))

theorem headLine_unmapped {p : LinePacket} (hl : s.live = true) (hr : readable p.err (packetSeen p.err s) = true)
    (hv : (packetSeen p.err s).headOfVc ((packetSeen p.err s).vcOf p.vc) = none) :
    headLine p s = unmappedPacket ((packetSeen p.err s).vcOf p.vc) (packetSeen p.err s) := by
  refine ((if_neg (not_live_false hl)).trans (if_neg (not_readable_false hr))).trans ?_
  rw [hv]
theorem headStart_unmapped {p : StartPacket} (hl : s.live = true) (hr : readable e (packetSeen e s) = true)
    (hv : (packetSeen e s).headOfVc ((packetSeen e s).vcOf p.vc) = none) :
    headStart p e s = unmappedPacket ((packetSeen e s).vcOf p.vc) (packetSeen e s) := by
  refine ((if_neg (not_live_false hl)).trans (if_neg (not_readable_false hr))).trans ?_
  rw [hv]
theorem headEnd_unmapped {y : Nat} (hl : s.live = true) (hr : readable e (packetSeen e s) = true)
    (hv : (packetSeen e s).headOfVc ((packetSeen e s).vcOf vc) = none) :
    headEnd vc e y s = unmappedPacket ((packetSeen e s).vcOf vc) (packetSeen e s) := by
  refine ((if_neg (not_live_false hl)).trans (if_neg (not_readable_false hr))).trans ?_
  rw [hv]
theorem otherPacket_unmapped {dt : Nat} (hl : s.live = true) (hr : readable e (packetSeen e s) = true)
    (hv : (packetSeen e s).headOfVc ((packetSeen e s).vcOf vc) = none) :
    otherPacket vc dt e s = unmappedPacket ((packetSeen e s).vcOf vc) (packetSeen e s) := by
  refine ((if_neg (not_live_false hl)).trans (if_neg (not_readable_false hr))).trans ?_
  rw [hv]
theorem strayPacket_unmapped (hl : s.live = true) (hr : readable e (packetSeen e s) = true)
    (hv : (packetSeen e s).headOfVc ((packetSeen e s).vcOf vc) = none) :
    strayPacket vc e s = unmappedPacket ((packetSeen e s).vcOf vc) (packetSeen e s) := by
  refine (if_neg (not_live_false hl)).trans (if_pos ?_)
  rw [hr, hv]
  rfl

theorem strayPacket_mapped (hl : s.live = true) (hv : (packetSeen e s).headOfVc ((packetSeen e s).vcOf vc) = some n) :
    strayPacket vc e s = packetSeen e s := by
  refine (if_neg (not_live_false hl)).trans (if_neg ?_)
  rw [hv]
  simp

theorem otherPacket_mapped {dt : Nat} (hl : s.live = true) (hr : readable e (packetSeen e s) = true)
    (hv : (packetSeen e s).headOfVc ((packetSeen e s).vcOf vc) = some n) : otherPacket vc dt e s =
      if quietType dt = true ∨ dt = [0x2D, 0x2B, 0x2C].getD ((packetSeen e s).headKind n) 0 then packetSeen e s
      else raiseN 0x0B7 (at_ ((packetSeen e s).vcOf vc) 8 + dt) (packetSeen e s) := by
  refine ((if_neg (not_live_false hl)).trans (if_neg (not_readable_false hr))).trans ?_
  rw [hv]
  simp only [Bool.or_eq_true, beq_iff_eq]

/-! ### Lines -/

theorem packetSeen_time (e : PacketErr) (s : State) : (packetSeen e s).time = s.time := by
  unfold packetSeen
  split
  · simp
  · cases e <;> simp [apply_ite State.time]

/-- What a line does at the receiver of its head. -/
theorem headLine_mapped {p : LinePacket} (hl : s.live = true) (hr : readable p.err (packetSeen p.err s) = true)
    (hv : (packetSeen p.err s).headOfVc ((packetSeen p.err s).vcOf p.vc) = some n) :
    (p.kind ≠ (packetSeen p.err s).headKind n → headLine p s = breakRx n 9 false
      (raiseN 0x0B7 (at_ ((packetSeen p.err s).vcOf p.vc) 8 + [0x2D, 0x2B, 0x2C].getD p.kind (p.kind % 64)) (packetSeen p.err s))) ∧
    (p.kind = (packetSeen p.err s).headKind n →
      (((packetSeen p.err s).head n).rx = none → headLine p s = packetSeen p.err s) ∧
      ∀ r, ((packetSeen p.err s).head n).rx = some r →
        (p.y < r.next → headLine p s = packetSeen p.err s) ∧
        (r.next ≤ p.y → headLine p s = lineSlot n p (lineSeen n p r (packetSeen p.err s)))) := by
  have h0 : headLine p s = _ := (if_neg (not_live_false hl)).trans (if_neg (not_readable_false hr))
  rw [hv] at h0
  refine ⟨fun hk => h0.trans (if_pos hk), fun hk => ⟨fun hx => ?_, fun r hx => ?_⟩⟩
  · have h1 := h0.trans (if_neg (not_not_intro hk))
    rw [hx] at h1
    exact h1
  · have h1 := h0.trans (if_neg (not_not_intro hk))
    rw [hx] at h1
    exact ⟨fun hy => h1.trans (if_pos hy), fun hy => h1.trans (if_neg (Nat.not_lt.mpr hy))⟩

/-- The awaited line of an accepted frame, its packet good: no line was lost before it (R268). -/
theorem lineSeen_awaited {x : State} {p : LinePacket} {r : RxFrame} (hx : (x.head n).rx = some r) (hn : r.next = p.y)
    (he : p.err = .none) (hs : r.resync = false) :
    lineSeen n p r x = onHead n (fun h => { h with rx := some { r with next := p.y + 1 } }) x := by
  have hlost : linesLost n (min p.y r.h - r.next) r.next x = x := if_pos (by omega)
  rw [lineSeen, hlost, he]
  refine onHead_congr ?_
  rw [hx, Option.map_some, hs]
  simp

theorem lineSlot_awaited {x : State} {p : LinePacket} {r : RxFrame} {c : Nat} (hx : (x.head n).rx = some r) (he : p.err = .none)
    (ha : r.accepted = true) (hb : r.broken = false) (hh : p.y < r.h) (hw : p.px.length = r.w) (hc : x.ctxOfHead n = some c) :
    lineSlot n p (onHead n (fun h => { h with rx := some { r with next := p.y + 1 } }) x) =
      pipeGo (onFrame c r.fn (fun f => f.addRows [p.px] x.time) (onHead n (fun h => { h with rx := some { r with next := p.y + 1 } }) x)) := by
  have hc' : (onHead n (fun h => { h with rx := some { r with next := p.y + 1 } }) x).ctxOfHead n = some c := hc
  rw [lineSlot, head_onHead_rx hx, hc', he]
  dsimp only
  rw [ha, hb, if_neg (by decide), if_neg (Nat.not_le.mpr hh), if_neg (by decide), if_neg (not_not_intro hw)]
  rfl

/-! ### Frame ends -/

theorem headEnd_mapped {y : Nat} (hl : s.live = true) (hr : readable e (packetSeen e s) = true)
    (hv : (packetSeen e s).headOfVc ((packetSeen e s).vcOf vc) = some n) (hx : ((packetSeen e s).head n).rx = none) :
    headEnd vc e y s = packetSeen e s := by
  refine ((if_neg (not_live_false hl)).trans (if_neg (not_readable_false hr))).trans ?_
  rw [hv]
  dsimp only
  rw [hx]

theorem ctxOfHead_onHead (m n : Nat) (f : Head → Head) (x : State) : (onHead m f x).ctxOfHead n = x.ctxOfHead n := rfl

/-- The end of a frame that lost no line at its end, or that was not accepted. -/
theorem headEnd_whole {y c : Nat} {r : RxFrame} (hl : s.live = true) (hr : readable e (packetSeen e s) = true)
    (hv : (packetSeen e s).headOfVc ((packetSeen e s).vcOf vc) = some n) (hx : ((packetSeen e s).head n).rx = some r)
    (hc : (packetSeen e s).ctxOfHead n = some c) (hs : r.resync = false)
    (h : r.accepted = true ∧ r.broken = false ∧ r.next = r.h ∧ y ≤ r.h ∨ r.accepted = false) : headEnd vc e y s =
      repairsTold n r (if r.accepted && !r.broken then frameEnds c r.fn (onHead n (fun h => { h with rx := none }) (packetSeen e s))
        else pointAt c 1 r.fn (onHead n (fun h => { h with rx := none }) (packetSeen e s))) := by
  have hend : (if r.accepted && !r.broken then
      (if max y r.next < r.h then breakRx n 5 false (packetSeen e s) else linesLost n (r.h - r.next) r.next (packetSeen e s))
      else packetSeen e s) = packetSeen e s := by
    rcases h with ⟨ha, hb, hn, hy⟩ | ha
    · rw [ha, hb, if_pos (by decide), if_neg (by omega)]
      exact if_pos (by omega)
    · rw [ha]
      rfl
  refine ((if_neg (not_live_false hl)).trans (if_neg (not_readable_false hr))).trans ?_
  rw [hv]
  dsimp only
  rw [hx]
  dsimp only
  rw [hend, hx, Option.getD_some, hs, if_neg Bool.false_ne_true, ctxOfHead_onHead, hc]

end Packet

/-- Settles O35: every packet is counted, then judged by its header and its channel, and only then does its head's receiver see
it; a line of another kind breaks the frame besides 0x0B7 (log entry 55). -/
theorem packetsGoToTheirHead : Obligations.PacketsGoToTheirHead := by
  refine ⟨fun s p l vc y dt e => ⟨fun hl => ?_, fun hl hr => ?_, fun hl hr hv => ?_, rfl, fun n hl hr hv => ⟨⟨fun hk => ?_, fun hk => ?_⟩,
      happens_eq (strayPacket_mapped hl hv), ⟨fun hk => ?_, fun hk => ⟨fun hx => ?_, fun r hx =>
        ⟨fun hy => ?_, fun hy => ?_, fun c hn he hs ha hb hh hw hc => ?_⟩⟩⟩,
      fun hx => happens_eq (headEnd_mapped hl hr hv hx), fun r c hx hc hs => ⟨fun ha hb hn hy => ?_, fun ha => ?_⟩⟩⟩,
    fun s => ⟨fun h => done_pos h, fun h => done_neg (by simp [h])⟩, fun s n => ⟨fun h => ?_, fun h => ?_⟩,
    fun s => ⟨fun h => ?_, fun h => ?_⟩, fun s n => ⟨fun h => ?_, fun h => ?_⟩, fun s => ⟨fun h => ?_, fun h => ?_⟩⟩
  · simp only [List.forall_mem_cons, List.not_mem_nil, false_imp_iff, implies_true, and_true]
    exact ⟨happens_eq (headStart_stopped hl), happens_eq (headLine_stopped hl),
      happens_eq (headEnd_stopped hl), happens_eq (otherPacket_stopped hl),
      happens_eq (strayPacket_stopped hl)⟩
  · simp only [List.forall_mem_cons, List.not_mem_nil, false_imp_iff, implies_true, and_true]
    exact ⟨happens_eq (headStart_unread hl hr), happens_eq (headLine_unread hl hr),
      happens_eq (headEnd_unread hl hr), happens_eq (otherPacket_unread hl hr),
      happens_eq (strayPacket_unread hl hr)⟩
  · simp only [List.forall_mem_cons, List.not_mem_nil, false_imp_iff, implies_true, and_true]
    exact ⟨happens_eq (headStart_unmapped hl hr hv), happens_eq (headLine_unmapped hl hr hv),
      happens_eq (headEnd_unmapped hl hr hv), happens_eq (otherPacket_unmapped hl hr hv),
      happens_eq (strayPacket_unmapped hl hr hv)⟩
  · exact happens_eq ((otherPacket_mapped hl hr hv).trans (if_pos hk))
  · exact happens_eq ((otherPacket_mapped hl hr hv).trans (if_neg hk))
  · exact happens_eq ((headLine_mapped (p := { l with vc, err := e }) hl hr hv).1 hk)
  · exact happens_eq (((headLine_mapped (p := { l with vc, err := e }) hl hr hv).2 hk).1 hx)
  · exact happens_eq ((((headLine_mapped (p := { l with vc, err := e }) hl hr hv).2 hk).2 r hx).1 hy)
  · exact happens_eq ((((headLine_mapped (p := { l with vc, err := e }) hl hr hv).2 hk).2 r hx).2 hy)
  · have hline := (((headLine_mapped (p := { l with vc, err := e }) hl hr hv).2 hk).2 r hx).2 hn.le
    rw [lineSeen_awaited (p := { l with vc, err := e }) hx hn he hs, lineSlot_awaited (p := { l with vc, err := e }) hx he ha hb hh hw hc] at hline
    rw [packetSeen_time] at hline
    exact happens_eq hline
  · refine happens_eq ((headEnd_whole hl hr hv hx hc hs (.inl ⟨ha, hb, hn, hy⟩)).trans ?_)
    rw [ha, hb]
    rfl
  · refine happens_eq ((headEnd_whole hl hr hv hx hc hs (.inr ha)).trans ?_)
    rw [ha]
    rfl
  · obtain ⟨hl, he, ho⟩ := h
    exact happens_eq (if_neg (by rcases ho with ho | ho <;> simp [hl, he, ho]))
  · refine happens_eq (if_pos ?_)
    by_cases hl : s.live = true
    · by_cases he : s.headEn n.val = true
      · have ho : ¬ ((s.head n.val).obs = .resync ∨ (s.head n.val).obs = .streaming) := fun ho => h ⟨hl, he, ho⟩
        simpa [hl, he] using ho
      · simp [he]
    · simp [hl]
  · exact done_pos (by simpa using h)
  · exact done_neg (by simpa using h)
  · obtain ⟨hl, hk, hd⟩ := h
    refine done_eq (if_neg ?_)
    rintro (h0 | h0 | h0)
    · exact hk h0
    · exact hd h0
    · simp [hl] at h0
  · refine done_eq (if_pos ?_)
    by_contra hc
    refine h ⟨?_, fun h0 => hc (.inl h0), fun h0 => hc (.inr (.inl h0))⟩
    by_contra hl
    exact hc (.inr (.inr (by simpa using hl)))
  · exact done_eq (if_neg (not_live_false h))
  · exact done_eq (if_pos (by rw [h]; rfl))

end Sys2Proof.Machine
end

section
/-! Proofs about the registers of contexts, heads, the head I2C and the generators (08_recipes_and_latency.md,
13_sensor_intake.md). -/

namespace Sys2Proof.Machine

/-! ### Contexts (R170 to R173) -/

theorem takesWrites_intCtl (c : Fin 8) : TakesWrites (INT_CTL c.val) 0x09 := takesWrites_of (by revert c; decide)

theorem intCtl_rule (o : Origin) (c : Fin 8) (v : Word) (s : State) :
    writeRule o (INT_CTL c.val) v s = { app := if bit v 8 then enableCtx c else disableCtx c } := by
  fin_cases c <;> rfl

theorem fits_intCtl (c : Fin 8) {v : Word} (h : v.toNat &&& 0x107 = v.toNat) : Fits (INT_CTL c.val) v := by
  have hreg : ∃ r, regAt (INT_CTL c.val) = some r ∧ r.flds = [fd 8 8 .rw, fd 2 0 .rw] := by fin_cases c <;> exact ⟨_, rfl, rfl⟩
  obtain ⟨r, hr, hflds⟩ := hreg
  refine ⟨r, hr, ?_, outOfRange_plain (by rw [hflds]; simp [fd])⟩
  rw [Reg.reservedSet, hflds]
  exact bne_eq_false_iff_eq.mpr h

/-- INT_CnCTL's word: EN and PRIO. -/
theorem ctlWord_enable : ∀ p : BitVec 3, bit (word (256 + p.toNat)) 8 = true ∧
    (word (256 + p.toNat)).toNat &&& 0x107 = (word (256 + p.toNat)).toNat := by decide
theorem ctlWord_disable : ∀ p : BitVec 3, bit (word p.toNat) 8 = false ∧ (word p.toNat).toNat &&& 0x107 = (word p.toNat).toNat := by decide

theorem takesWrites_intCommit : TakesWrites INT_COMMIT 0x09 := takesWrites_of (by decide)

theorem intCommit_rule (o : Origin) (v : Word) (s : State) :
    writeRule o INT_COMMIT v s = { pre := s.commitCode v, store := false, app := armCommits v } := rfl

/-! ### Runs (R176, R184) -/

theorem runEnd_none {s : State} (h : s.live = false ∨ s.sch.run = none) : runEnd s = s := by
  rw [runEnd.eq_def]
  cases hr : s.sch.run with
  | none => rfl
  | some r => exact if_pos (by rw [h.resolve_right (by rw [hr]; simp)]; rfl)

/-- A run that ends: what goes on with its frame, if the frame is still there. -/
theorem runEnd_some {s : State} {r : Run} (hl : s.live = true) (hr : s.sch.run = some r) :
    (s.frame? r.ctx r.fn = none → runEnd s = pipeGo { s with sch := { s.sch with run := none } }) ∧
    ∀ f, s.frame? r.ctx r.fn = some f →
      let z := encAdvance r.ctx f (if f.shingle then min f.h ((r.idx + 1) * f.hs) else f.h) (shingleEnd r.ctx r.fn r.idx
        (onFrame r.ctx r.fn (fun f => { f with runsDone := f.runsDone + 1 })
          (recordLatency r.ctx (f.latency r.idx s.time) { s with sch := { s.sch with run := none } })))
      runEnd s = pipeGo (if f.runs ≤ r.idx + 1 then frameDone r.ctx { f with runsDone := f.runsDone + 1 } z else z) := by
  have hf : State.frame? { s with sch := { s.sch with run := none } } r.ctx r.fn = s.frame? r.ctx r.fn := rfl
  rw [runEnd, hr]
  dsimp only
  rw [if_neg (not_live_false hl), hf]
  refine ⟨fun h => ?_, fun f h => ?_⟩ <;> rw [h]

/-! ### Heads and the link (R273, R274, R278, R282, R283) -/

theorem takesWrites_intHcfg (n : Fin 6) : TakesWrites (INT_HCFG n.val) 0x09 := takesWrites_of (by revert n; decide)
theorem takesWrites_intHbias (n : Fin 4) : TakesWrites (INT_HBIAS n.val) 0x09 := takesWrites_of (by revert n; decide)
theorem takesWrites_intHiref (n : Fin 4) : TakesWrites (INT_HIREF n.val) 0x09 := takesWrites_of (by revert n; decide)
theorem takesWrites_intXcmd (g : Fin 2) : TakesWrites (INT_XCMD g.val) 0x09 := takesWrites_of (by revert g; decide)
theorem takesWrites_intLink : TakesWrites INT_LINK 0x09 := takesWrites_of (by decide)
theorem takesWrites_intMap : TakesWrites INT_MAP 0x09 := takesWrites_of (by decide)
theorem takesWrites_intI2ccmd : TakesWrites INT_I2CCMD 0x09 := takesWrites_of (by decide)

theorem intHcfg_rule (o : Origin) (n : Fin 6) (v : Word) (s : State) : writeRule o (INT_HCFG n.val) v s =
    { pre := chk (s.mappedActive n && (bits v 27 24 != s.fld (INT_HCFG n) 27 24 || bits v 23 22 != s.fld (INT_HCFG n) 23 22 ||
        bits v 21 21 != s.fld (INT_HCFG n) 21 21)) .eState
      bad := (bit v 31 && (List.range 6).any fun m => m != n.val && s.headEn m && s.fld (INT_HCFG m) 27 24 == bits v 27 24) ||
        (!s.flag INT_LINK 27 && decide (3 < bits v 27 24)) || !kindAllowed n (bits v 23 22) ||
        !(decide (8 ≤ bits v 6 0) && decide (bits v 6 0 ≤ 0x77))
      app := fun t =>
        let t := { t with int := { t.int with vcSeen := t.int.vcSeen.filter (· != bits v 27 24) } }
        if s.headEn n && !bit v 31 then disFollow n (onHead n (fun h => { h with obs := .idle, rx := none }) (cutHead n t))
        else disFollow n (onHead n (fun h => { h with stray := none }) t) } := by
  fin_cases n <;> rfl

/-- The checks of INT_HnCFG as the spec says them (R274). -/
theorem intHcfg_keeps_iff (n : Fin 6) (v : Word) (s : State) :
    (s.mappedActive n && (bits v 27 24 != s.fld (INT_HCFG n) 27 24 || bits v 23 22 != s.fld (INT_HCFG n) 23 22 ||
      bits v 21 21 != s.fld (INT_HCFG n) 21 21)) = false ↔
    (s.mappedActive n = true → bits v 27 24 = s.fld (INT_HCFG n) 27 24 ∧ bits v 23 22 = s.fld (INT_HCFG n) 23 22 ∧
      bits v 21 21 = s.fld (INT_HCFG n) 21 21) := by
  cases s.mappedActive n <;> simp [and_assoc]

theorem intHcfg_legal_iff (n : Fin 6) (v : Word) (s : State) :
    ((bit v 31 && (List.range 6).any fun m => m != n.val && s.headEn m && s.fld (INT_HCFG m) 27 24 == bits v 27 24) ||
      (!s.flag INT_LINK 27 && decide (3 < bits v 27 24)) || !kindAllowed n (bits v 23 22) ||
      !(decide (8 ≤ bits v 6 0) && decide (bits v 6 0 ≤ 0x77))) = false ↔
    (bit v 31 = true → ∀ m, m < 6 → m ≠ n.val → s.headEn m = true → s.fld (INT_HCFG m) 27 24 ≠ bits v 27 24) ∧
      (s.flag INT_LINK 27 = true ∨ bits v 27 24 ≤ 3) ∧ kindAllowed n (bits v 23 22) = true ∧ 8 ≤ bits v 6 0 ∧ bits v 6 0 ≤ 0x77 := by
  have hvc : (bit v 31 && (List.range 6).any fun m => m != n.val && s.headEn m && s.fld (INT_HCFG m) 27 24 == bits v 27 24) = false ↔
      (bit v 31 = true → ∀ m, m < 6 → m ≠ n.val → s.headEn m = true → s.fld (INT_HCFG m) 27 24 ≠ bits v 27 24) := by
    cases bit v 31 <;> simp
  have hlink : (!s.flag INT_LINK 27 && decide (3 < bits v 27 24)) = false ↔ (s.flag INT_LINK 27 = true ∨ bits v 27 24 ≤ 3) := by
    cases s.flag INT_LINK 27 <;> simp
  have haddr : (!(decide (8 ≤ bits v 6 0) && decide (bits v 6 0 ≤ 0x77))) = false ↔ 8 ≤ bits v 6 0 ∧ bits v 6 0 ≤ 0x77 := by simp
  rw [Bool.or_eq_false_iff, Bool.or_eq_false_iff, Bool.or_eq_false_iff, hvc, hlink, haddr, Bool.not_eq_false', and_assoc, and_assoc]

theorem intHbias_rule (o : Origin) (n : Fin 4) (v : Word) (s : State) : writeRule o (INT_HBIAS n.val) v s =
    { bad := decide (s.fld (INT_HBLIM n) 15 0 < bits v 15 0)
      app := fun t => biasWritten n (onHead n (fun h => { h with biasPend := true }) t) } := by
  fin_cases n <;> rfl

theorem intHiref_rule (o : Origin) (n : Fin 4) (v : Word) (s : State) : writeRule o (INT_HIREF n.val) v s =
    { bad := !(decide (1000 ≤ bits v 15 0) && decide (bits v 15 0 ≤ 40000)) && !(bits v 15 0 == 0 && !bit v 31)
      app := fun t => biasWritten n (onHead n (fun h => { h with irefPend := true }) t) } := by
  fin_cases n <;> rfl

theorem intLink_rule (o : Origin) (v : Word) (s : State) : writeRule o INT_LINK v s =
    { pre := chk ((List.range 6).any s.headEn) .eState, bad := !laneMapOk v, app := linkDown } := rfl

theorem intMap_rule (o : Origin) (v : Word) (s : State) : writeRule o INT_MAP v s =
    { pre := chk ((List.range 8).any fun c => (s.ctx c).st != .off && bits v (4 * c + 3) (4 * c) != s.source c) .eState
      bad := !mapOk v } := rfl

theorem intMap_keeps_iff (v : Word) (s : State) :
    ((List.range 8).any fun c => (s.ctx c).st != .off && bits v (4 * c + 3) (4 * c) != s.source c) = false ↔
    ∀ c, c < 8 → (s.ctx c).st ≠ .off → bits v (4 * c + 3) (4 * c) = s.source c := by
  simp

theorem intI2ccmd_rule (o : Origin) (v : Word) (s : State) : writeRule o INT_I2CCMD v s =
    { bad := bit v 31 && bits v 28 26 == 0, post := chk (decide (8 ≤ s.int.i2c.length)) .eFull, store := false
      app := fun t => { t with int := { t.int with i2c := t.int.i2c ++ [⟨masterOf o, v, t.reg INT_I2CWDATA, false, 0, 0⟩] } } } := rfl

theorem intI2ccmd_legal_iff (v : Word) : (bit v 31 && bits v 28 26 == 0) = false ↔ (bit v 31 = true → bits v 28 26 ≠ 0) := by
  cases bit v 31 <;> simp

/-! ### The head I2C and the generators (R286, R288) -/

theorem i2cDone_none {s : State} (st : Nat) (rd : Word) (h : s.int.i2c.find? (fun e => !e.done) = none) : i2cDone st rd s = s := by
  rw [i2cDone, h]

theorem i2cDone_some {s : State} {e : I2cEntry} (st : Nat) (rd : Word) (h : s.int.i2c.find? (fun e => !e.done) = some e) :
    i2cDone st rd s = raiseIf (st != 0) 0x0BA (at_ st 24 + at_ (bits e.cmd 22 16) 16)
      (raiseIf (st == 4) 0x0BB 0 { s with int := { s.int with i2c := i2cFinish st rd s.int.i2c } }) := by
  rw [i2cDone, h]

theorem intXcmd_rule (o : Origin) (g : Fin 2) (s : State) : writeRule o (INT_XCMD g.val) 1 s =
    { pre := chk (s.fld (INT_XCFG g) 29 28 != 1 || (s.gen g).rx.isSome) .eState, app := genStart g } := by
  fin_cases g <;> rfl

theorem play_may_iff (g : Fin 2) (s : State) : (s.fld (INT_XCFG g) 29 28 != 1 || (s.gen g).rx.isSome) = false ↔
    (s.fld (INT_XCFG g) 29 28 = 1 ∧ (s.gen g).rx = none) := by
  simp

theorem genLineDone_none {s : State} (g : Nat) (h : s.live = false ∨ (s.gen g).rx = none) : genLineDone g s = s := by
  rw [genLineDone]
  cases hr : (s.gen g).rx with
  | none => rfl
  | some r => exact if_pos (by rw [h.resolve_right (by rw [hr]; simp)]; rfl)

theorem genLineDone_some {s : State} {g : Nat} {r : RxFrame} (hl : s.live = true) (hr : (s.gen g).rx = some r) :
    let x := if r.accepted then onFrame (6 + g) r.fn (fun f => f.addRows [s.genLine g r.fn r.next] s.time) s else s
    genLineDone g s = if r.next + 1 < r.h then pipeGo (onGen g (fun x => { x with rx := some { r with next := r.next + 1 } }) x)
      else if r.accepted then frameEnds (6 + g) r.fn (onGen g (fun x => { x with rx := none }) x)
      else pointAt (6 + g) 1 r.fn (onGen g (fun x => { x with rx := none }) x) := by
  rw [genLineDone, hr]
  exact if_neg (not_live_false hl)

/-- Settles O36: each register's rule checks what its chapter says and then acts. -/
theorem intakeRegistersAct : Obligations.IntakeRegistersAct := by
  refine ⟨fun o c p s ho => ⟨?_, ?_⟩, fun c s => ⟨fun h => ⟨?_, ?_⟩, fun h => ⟨?_, ?_⟩, fun h => ⟨?_, ?_⟩⟩, fun o v s ho => ⟨fun hf hc => ?_, fun hc => ?_⟩,
    fun lat s r hl hr => ⟨fun h => ?_, fun f h => ?_⟩, fun lat s h => happens_eq (runEnd_none h),
    fun o n v s ho => ⟨fun hk hg hf => ?_, fun hk => ?_, fun hk hg => ?_⟩, fun o v s ho => ⟨fun hi hm hf => ?_, fun hi => ?_, fun hi hm => ?_⟩,
    fun o v s ho => ⟨fun hk hm hf => ?_, fun hk => ?_, fun hk hm => ?_⟩,
    fun o n v s ho => ⟨fun hb hf => ?_, fun hb => ?_, fun hg hf => ?_, fun hg => ?_⟩,
    fun o v s ho => ⟨fun hg hf hq => ?_, fun hg => ?_, fun hg hf hq => ?_⟩, fun s st rd => ⟨fun e hl he => ?_, fun h => ?_⟩,
    fun o g s ho => ⟨fun hm => ?_, fun hm => ?_⟩, fun s g => ⟨fun h => ?_, fun h => ?_, fun h => happens_eq (genLineDone_none g h),
      fun r hl hr => ⟨fun h => ?_, fun h => ?_⟩⟩⟩
  · obtain ⟨hb, hm⟩ := ctlWord_enable p
    refine write_acts (takesWrites_intCtl c) ho (fits_intCtl c hm) ?_ ?_ ?_ ?_ <;> rw [intCtl_rule]
    simp only [hb, if_true]
  · obtain ⟨hb, hm⟩ := ctlWord_disable p
    refine write_acts (takesWrites_intCtl c) ho (fits_intCtl c hm) ?_ ?_ ?_ ?_ <;> rw [intCtl_rule]
    simp only [hb, if_true, Bool.false_eq_true, if_false]
  · rw [enableCtx, h]
  · rw [disableCtx, h]
  · rw [enableCtx, h]
  · rw [disableCtx, h]
  · rw [enableCtx, h]
  · rw [disableCtx, h]
  · exact write_acts takesWrites_intCommit ho hf hc rfl rfl rfl
  · exact write_pre o INT_COMMIT 0x09 v s _ _ takesWrites_intCommit ho (intCommit_rule o v s) rfl hc rfl
  · exact happens_eq ((runEnd_some hl hr).1 h)
  · exact happens_eq ((runEnd_some hl hr).2 f h)
  · have hpre := (intHcfg_keeps_iff n v s).mpr hk
    have hbad := (intHcfg_legal_iff n v s).mpr hg
    refine write_acts (takesWrites_intHcfg n) ho hf ?_ ?_ ?_ ?_ <;> rw [intHcfg_rule]
    · rw [hpre]
      rfl
    · exact hbad
    · dsimp only
      rw [if_pos rfl]
      split <;> rfl
  · have hpre := (Bool.not_eq_false _).mp (mt (intHcfg_keeps_iff n v s).mp hk)
    exact write_pre o _ 0x09 v s .eState _ (takesWrites_intHcfg n) ho (intHcfg_rule o n v s) (by rw [hpre]; rfl) (by decide) rfl
  · have hpre := (intHcfg_keeps_iff n v s).mpr hk
    have hbad := (Bool.not_eq_false _).mp (mt (intHcfg_legal_iff n v s).mp hg)
    exact write_bad o _ 0x09 v s _ (takesWrites_intHcfg n) ho (intHcfg_rule o n v s) (by rw [hpre]; rfl) hbad rfl
  · have hpre : chk ((List.range 6).any s.headEn) .eState = .ok := by rw [show (List.range 6).any s.headEn = false from hi]; rfl
    exact write_acts takesWrites_intLink ho hf hpre (by rw [intLink_rule, hm]; rfl) rfl rfl
  · have hpre : chk ((List.range 6).any s.headEn) .eState = .eState := by rw [(Bool.not_eq_false _).mp hi]; rfl
    exact write_pre o INT_LINK 0x09 v s .eState _ takesWrites_intLink ho (intLink_rule o v s) hpre (by decide) rfl
  · have hpre : chk ((List.range 6).any s.headEn) .eState = .ok := by rw [show (List.range 6).any s.headEn = false from hi]; rfl
    exact write_bad o INT_LINK 0x09 v s _ takesWrites_intLink ho (intLink_rule o v s) hpre (by rw [hm]; rfl) rfl
  · have hpre := (intMap_keeps_iff v s).mpr hk
    exact write_stores o INT_MAP 0x09 v s _ _ takesWrites_intMap ho hf (intMap_rule o v s) (by rw [hpre]; rfl) (by rw [hm]; rfl)
  · have hpre := (Bool.not_eq_false _).mp (mt (intMap_keeps_iff v s).mp hk)
    exact write_pre o INT_MAP 0x09 v s .eState _ takesWrites_intMap ho (intMap_rule o v s) (by rw [hpre]; rfl) (by decide) rfl
  · have hpre := (intMap_keeps_iff v s).mpr hk
    exact write_bad o INT_MAP 0x09 v s _ takesWrites_intMap ho (intMap_rule o v s) (by rw [hpre]; rfl) (by rw [hm]; rfl) rfl
  · change done (regWrite o (INT_HBIAS n.val) v s) = _
    refine write_acts (takesWrites_intHbias n) ho hf ?_ ?_ ?_ ?_ <;> rw [intHbias_rule]
    · exact decide_eq_false (Nat.not_lt.mpr hb)
    · simp only [if_true]
  · exact write_bad o (INT_HBIAS n.val) 0x09 v s _ (takesWrites_intHbias n) ho (intHbias_rule o n v s) rfl (decide_eq_true hb) rfl
  · change done (regWrite o (INT_HIREF n.val) v s) = _
    refine write_acts (takesWrites_intHiref n) ho hf ?_ ?_ ?_ ?_ <;> rw [intHiref_rule]
    · rcases hg with ⟨h1, h2⟩ | ⟨h1, h2⟩ <;> simp [h1, h2]
    · simp only [if_true]
  · refine write_bad o (INT_HIREF n.val) 0x09 v s _ (takesWrites_intHiref n) ho (intHiref_rule o n v s) rfl ?_ rfl
    rw [not_or] at hg
    simpa [-not_and, not_and_or] using hg
  · exact write_acts takesWrites_intI2ccmd ho hf rfl ((intI2ccmd_legal_iff v).mpr hg)
      (by rw [intI2ccmd_rule, decide_eq_false (Nat.not_le.mpr hq)]; rfl) rfl
  · exact write_bad o INT_I2CCMD 0x09 v s _ takesWrites_intI2ccmd ho (intI2ccmd_rule o v s) rfl
      ((Bool.not_eq_false _).mp (mt (intI2ccmd_legal_iff v).mp hg)) rfl
  · have hpost : chk (decide (8 ≤ s.int.i2c.length)) .eFull = .eFull := by rw [decide_eq_true hq]; rfl
    exact write_post o INT_I2CCMD 0x09 v s .eFull _ takesWrites_intI2ccmd ho hf (intI2ccmd_rule o v s) rfl
      ((intI2ccmd_legal_iff v).mpr hg) hpost (by decide) rfl
  · exact done_eq ((if_pos hl).trans (i2cDone_some st.val rd he))
  · rcases h with h | h
    · exact done_neg (by simp [h])
    · exact done_eq (by rw [i2cDone_none _ _ h, ite_self])
  · have hpre := (play_may_iff g s).mpr hm
    refine write_acts (takesWrites_intXcmd g) ho (fits_of_legal (by clear hpre hm; revert g; decide)) ?_ ?_ ?_ ?_ <;> rw [intXcmd_rule]
    · rw [hpre]
      rfl
    · rfl
  · have hpre := (Bool.not_eq_false _).mp (mt (play_may_iff g s).mp hm)
    exact write_pre o (INT_XCMD g.val) 0x09 1 s .eState _ (takesWrites_intXcmd g) ho (intXcmd_rule o g s) (by rw [hpre]; rfl) (by decide) rfl
  · exact happens_eq (if_pos h)
  · exact happens_eq (if_neg h)
  · exact happens_eq ((genLineDone_some hl hr).trans (if_pos h))
  · exact happens_eq ((genLineDone_some hl hr).trans (if_neg (Nat.not_lt.mpr h)))

end Sys2Proof.Machine
end

section
/-! Proofs about the table store (09_table_store.md). -/

namespace Sys2Proof.Machine

/-! ### TBL_LSEL and TBL_CMD (R187 to R191, R198) -/

theorem takesWrites_tblLsel : TakesWrites TBL_LSEL 0x05 := takesWrites_of (by decide)

theorem legal_tblLsel : ∀ n : BitVec 8, legal TBL_LSEL (word n.toNat) = true ∧ bits (word n.toNat) 7 0 = n.toNat := by decide

theorem tblLsel_rule (o : Origin) (n : BitVec 8) (s : State) : writeRule o TBL_LSEL (word n.toNat) s =
    { pre := chk (s.tbl.isOpen || ((s.table n.toNat).bank (s.table n.toNat).inactiveIx).st == .retiring ||
        ((s.table n.toNat).bank (s.table n.toNat).inactiveIx).st == .press ||
        ((tableType n.toNat == 1 || tableType n.toNat == 2) && s.pressNow (n.toNat % 4))) .eState
      bad := tableType n.toNat == 0, app := openStaging n.toNat } := by
  have h : writeRule o TBL_LSEL (word n.toNat) s =
      { pre := chk (s.tbl.isOpen || ((s.table (bits (word n.toNat) 7 0)).bank (s.table (bits (word n.toNat) 7 0)).inactiveIx).st == .retiring ||
          ((s.table (bits (word n.toNat) 7 0)).bank (s.table (bits (word n.toNat) 7 0)).inactiveIx).st == .press ||
          ((tableType (bits (word n.toNat) 7 0) == 1 || tableType (bits (word n.toNat) 7 0) == 2) && s.pressNow (bits (word n.toNat) 7 0 % 4))) .eState
        bad := tableType (bits (word n.toNat) 7 0) == 0, app := openStaging (bits (word n.toNat) 7 0) } := rfl
  rw [h, (legal_tblLsel n).2]

/-- What opening staging needs, as the register's check and as the spec says it (R187). -/
theorem stagingFree_iff (n : Nat) (s : State) : (s.tbl.isOpen || ((s.table n).bank (s.table n).inactiveIx).st == .retiring ||
      ((s.table n).bank (s.table n).inactiveIx).st == .press ||
      ((tableType n == 1 || tableType n == 2) && s.pressNow (n % 4))) = false ↔
    (s.tbl.isOpen = false ∧ ((s.table n).bank (s.table n).inactiveIx).st ≠ .retiring ∧
      ((s.table n).bank (s.table n).inactiveIx).st ≠ .press ∧
      (tableType n = 1 ∨ tableType n = 2 → s.pressNow (n % 4) = false)) := by
  have hpress : ((tableType n == 1 || tableType n == 2) && s.pressNow (n % 4)) = false ↔
      (tableType n = 1 ∨ tableType n = 2 → s.pressNow (n % 4) = false) := by
    cases s.pressNow (n % 4) <;> simp
  rw [Bool.or_eq_false_iff, Bool.or_eq_false_iff, Bool.or_eq_false_iff, hpress, beq_eq_false_iff_ne, beq_eq_false_iff_ne, and_assoc, and_assoc]

theorem load_rule (o : Origin) (s : State) : writeRule o TBL_CMD (word (at_ 1 28)) s =
    { pre := chk (isVat o || !s.tbl.isOpen) .eState, store := false, app := startOp 1 0 } := by
  have hcmd : bits (word (at_ 1 28)) 31 28 = 1 := by decide
  have hn : bits (word (at_ 1 28)) 7 0 = 0 := by decide
  have hrule : writeRule o TBL_CMD (word (at_ 1 28)) s = (tblWrite o s.pressNow TBL_CMD (word (at_ 1 28)) s).getD {} := rfl
  rw [hrule]
  simp [tblWrite, hcmd, hn]
  rfl

theorem retrain_rule (o : Origin) (s : State) : writeRule o TBL_CMD (word (at_ 3 28)) s =
    { pre := chk (isVat o || s.dramLost) .eState, store := false
      app := fun t => { startOp 3 0 t with tbl := { t.tbl with draining := true } } } := by
  have hcmd : bits (word (at_ 3 28)) 31 28 = 3 := by decide
  have hn : bits (word (at_ 3 28)) 7 0 = 0 := by decide
  have hrule : writeRule o TBL_CMD (word (at_ 3 28)) s = (tblWrite o s.pressNow TBL_CMD (word (at_ 3 28)) s).getD {} := rfl
  rw [hrule]
  simp [tblWrite, hcmd, hn]
  rfl

/-- SWAP's word (R191). -/
def swapWord (n : Nat) : Word := word (at_ 2 28 + n)

theorem legal_swapWord : ∀ n : BitVec 8, legal TBL_CMD (swapWord n.toNat) = true ∧ bits (swapWord n.toNat) 31 28 = 2 ∧
    bits (swapWord n.toNat) 7 0 = n.toNat := by decide

theorem swap_rule (o : Origin) (n : BitVec 8) (s : State) : writeRule o TBL_CMD (swapWord n.toNat) s =
    { pre := chk (tableType n.toNat != 0 && s.swapRefused n.toNat) .eState, bad := tableType n.toNat == 0, store := false
      app := fun t => nucSwapped n.toNat (swapTable n.toNat t) } := by
  obtain ⟨-, hcmd, hn⟩ := legal_swapWord n
  have hrule : writeRule o TBL_CMD (swapWord n.toNat) s = ((tblWrite o s.pressNow TBL_CMD (swapWord n.toNat) s).map fun w =>
      if TBL_CMD = TBL_CMD ∧ bits (swapWord n.toNat) 31 28 = 2 then
        { w with app := fun t => nucSwapped (bits (swapWord n.toNat) 7 0) (w.app t) } else w).getD {} := rfl
  rw [hrule]
  simp [tblWrite, hcmd, hn]

/-- A TBL_CMD command that the host may give under the condition `b`, and a thread never. -/
theorem tblCmd_takes {o : Origin} {v : Word} {s x : State} {b : Bool} {w : WriteRule} (ho : Open o 0x05 s) (hf : Fits TBL_CMD v)
    (hw : writeRule o TBL_CMD v s = w) (hpre : w.pre = chk (isVat o || b) .eState) (hbad : w.bad = false) (hpost : w.post = .ok)
    (hs : w.store = false) (hrej : w.rej s = s) (happ : w.app s = x) :
    (o = .host → b = false → done (regWrite o TBL_CMD v s) = .next (wrote o s x)) ∧
    (o ≠ .host ∨ b = true → done (regWrite o TBL_CMD v s) = .next (turnedAway o .eState s)) := by
  refine ⟨fun hhost hb => ?_, fun h => ?_⟩
  · refine write_acts takesWrites_tblCmd ho hf ?_ (by rw [hw, hbad]) (by rw [hw, hpost]) (by rw [hw, hs, ← happ]; rfl)
    rw [hw, hpre, isVat_eq_false hhost, hb]
    rfl
  · refine write_pre o TBL_CMD 0x05 v s .eState w takesWrites_tblCmd ho hw ?_ (by decide) hrej
    rw [hpre]
    rcases h with h | h
    · rw [isVat_eq_true h]
      rfl
    · rw [h, Bool.or_true]
      rfl

/-! ### The ends of the long operations -/

theorem opEnds_due {id : Nat} {f : State → Code × State} {s : State} {op : LongOp} (hl : s.live = true) (ho : s.cp.op = some op)
    (hid : op.id = id) : opEnds id f s = followUp s (endOp (f s).1 (f s).2) := by
  rw [opEnds.eq_def, ho]
  exact if_pos (by rw [hl, hid, beq_self_eq_true]; rfl)

theorem opEnds_idle {id : Nat} {f : State → Code × State} {s : State} (h : s.live = false ∨ ∀ op, s.cp.op = some op → op.id ≠ id) :
    opEnds id f s = s := by
  rw [opEnds.eq_def]
  cases ho : s.cp.op with
  | none => rfl
  | some op =>
    refine if_neg ?_
    rcases h with h | h
    · simp [h]
    · simp [h op ho]

/-- Settles O38: staging, LOAD, SWAP and RETRAIN with their ends; the press's refusal is log entry 15, what a retraining
breaks at its end log entry 34. -/
theorem tableStoreCommands : Obligations.TableStoreCommands := by
  refine ⟨fun o n s ho => ⟨fun hfree ht => ?_, fun hfree => ?_, fun hfree ht => ?_⟩, fun o s ho => ?_,
    fun s op hl hop hid => ⟨fun hc => done_after ?_, fun hc => done_after ?_⟩,
    fun o n s ho => ⟨fun ht hr => ?_, fun ht hr => ?_, fun ht => ?_⟩, fun o s ho => ?_,
    fun s op hl hop hid => ⟨done_after (opEnds_due hl hop hid), done_after (opEnds_due hl hop hid)⟩,
    fun s ok => ⟨fun h => done_eq (opEnds_idle h), fun h => done_eq (opEnds_idle h)⟩⟩
  · refine write_acts takesWrites_tblLsel ho (fits_of_legal (legal_tblLsel n).1) ?_ ?_ ?_ ?_ <;> rw [tblLsel_rule]
    · rw [(stagingFree_iff n.toNat s).mpr hfree]
      rfl
    · exact beq_eq_false_iff_ne.mpr ht
    · exact congrArg _ (if_pos rfl)
  · have hpre := (Bool.not_eq_false _).mp (mt (stagingFree_iff n.toNat s).mp hfree)
    exact write_pre o TBL_LSEL 0x05 _ s .eState _ takesWrites_tblLsel ho (tblLsel_rule o n s) (by rw [hpre]; rfl) (by decide) rfl
  · have hpre := (stagingFree_iff n.toNat s).mpr hfree
    exact write_bad o TBL_LSEL 0x05 _ s _ takesWrites_tblLsel ho (tblLsel_rule o n s) (by rw [hpre]; rfl) (beq_iff_eq.mpr ht) rfl
  · obtain ⟨h1, h2⟩ := tblCmd_takes (b := !s.tbl.isOpen) ho (fits_of_legal (by decide)) (load_rule o s) rfl rfl rfl rfl rfl rfl
    exact ⟨fun hh hs => h1 hh (by rw [hs]; rfl), fun h => h2 (h.imp_right fun hs => by rw [hs]; rfl)⟩
  · rw [opEnds_due hl hop hid, loadDone, hc]
    rfl
  · rw [opEnds_due hl hop hid, loadDone]
    simp only [if_neg hc]
  · refine write_acts (v := swapWord n.toNat) takesWrites_tblCmd ho (fits_of_legal (legal_swapWord n).1) ?_ ?_ ?_ ?_ <;> rw [swap_rule]
    · rw [hr, Bool.and_false]
      rfl
    · exact beq_eq_false_iff_ne.mpr ht
    · exact congrArg _ (if_neg Bool.false_ne_true)
  · refine write_pre o TBL_CMD 0x05 (swapWord n.toNat) s .eState _ takesWrites_tblCmd ho (swap_rule o n s) ?_ (by decide) rfl
    rw [bne_iff_ne.mpr ht, hr]
    rfl
  · refine write_bad o TBL_CMD 0x05 (swapWord n.toNat) s _ takesWrites_tblCmd ho (swap_rule o n s) ?_ (beq_iff_eq.mpr ht) rfl
    rw [ht]
    rfl
  · exact tblCmd_takes (b := s.dramLost) ho (fits_of_legal (by decide)) (retrain_rule o s) rfl rfl rfl rfl rfl rfl

end Sys2Proof.Machine
end

section
/-! Proofs about the trims' measurements and commands (10_references_and_ripening.md). -/

namespace Sys2Proof.Machine

/-! ### Rounds, the TRIM_DT test and full runs (R209, R210) -/

theorem startFull_may {s : State} (h : s.trm.fullBusy = false ∧ s.trm.refFault = false ∧ s.inRind = false) :
    startFull s = { s with trm := { s.trm with fullBusy := true } } := by
  obtain ⟨hb, hf, hr⟩ := h
  exact if_neg (by rw [hb, hf, hr]; exact Bool.false_ne_true)

theorem startFull_not {s : State} (h : ¬ (s.trm.fullBusy = false ∧ s.trm.refFault = false ∧ s.inRind = false)) : startFull s = s := by
  refine if_pos (Bool.not_eq_false _ |>.mp fun hc => h ?_)
  obtain ⟨hbf, hr⟩ := Bool.or_eq_false_iff.mp hc
  exact ⟨(Bool.or_eq_false_iff.mp hbf).1, (Bool.or_eq_false_iff.mp hbf).2, hr⟩

/-- The condition under which a round is counted, as the block's check and as the spec says it. -/
theorem roundOff_iff (s : State) : (s.trm.fullBusy || s.trm.refFault || !s.flag REF_CFG 15 || !s.ripens) = false ↔
    (s.trm.fullBusy = false ∧ s.trm.refFault = false ∧ s.flag REF_CFG 15 = true ∧ s.ripens = true) := by
  simp [and_assoc]

theorem ripeningRound_on {s : State} (idle : Nat → Bool) (ms : List TrimMeas)
    (h : s.trm.fullBusy = false ∧ s.trm.refFault = false ∧ s.flag REF_CFG 15 = true ∧ s.ripens = true) :
    ripeningRound idle ms s = (ms.foldl (fun x m => ripen idle m x) s).count REF_CNT 31 24 :=
  if_neg (Bool.eq_false_iff.mp ((roundOff_iff s).mpr h))

theorem ripeningRound_off {s : State} (idle : Nat → Bool) (ms : List TrimMeas)
    (h : ¬ (s.trm.fullBusy = false ∧ s.trm.refFault = false ∧ s.flag REF_CFG 15 = true ∧ s.ripens = true)) :
    ripeningRound idle ms s = s :=
  if_pos ((Bool.not_eq_false _).mp (mt (roundOff_iff s).mp h))

/-- An item that a round may move: not on nominal trim, and an actuator channel's only while the channel is idle (R209). -/
theorem ripenLeft_iff (s : State) (idle : Nat → Bool) (i : Nat) :
    (s.isNominal i || (decide (11 ≤ i ∧ i < 15) && !idle (i - 11))) = false ↔
    (s.isNominal i = false ∧ (11 ≤ i → i < 15 → idle (i - 11) = true)) := by
  rw [Bool.or_eq_false_iff, Bool.and_eq_false_iff, decide_eq_false_iff_not, Bool.not_eq_false']
  refine and_congr_right fun _ => ⟨fun h h1 h2 => h.resolve_left fun hn => hn ⟨h1, h2⟩, fun h => ?_⟩
  by_cases hi : 11 ≤ i ∧ i < 15
  · exact .inr (h hi.1 hi.2)
  · exact .inl hi

theorem fullOff_iff (s : State) : (!s.trm.fullBusy || s.trm.refFault || !s.ripens) = false ↔
    (s.trm.fullBusy = true ∧ s.trm.refFault = false ∧ s.ripens = true) := by
  simp [and_assoc]

/-- Settles O39: each measurement is judged by its block's check; that the fault rows act only while the unit measures is
log entry 33. -/
theorem trimsFollowTheirMeasurements : Obligations.TrimsFollowTheirMeasurements := by
  refine ⟨fun s => ⟨fun hm hf => done_eq ?_, fun h => done_eq ?_, fun hm hb hf => done_eq ?_, fun h => done_eq ?_⟩,
    fun s ms => ⟨fun h => done_eq (ripeningRound_on _ _ h), fun h => done_eq (ripeningRound_off _ _ h)⟩,
    fun s idle m => ⟨fun hfree hgood => ?_, fun hfree hgood => ?_, fun hfree => ?_⟩,
    fun s => ⟨fun h => done_eq (if_pos ?_), fun h => done_eq (if_neg ?_)⟩, fun s => ⟨startFull_may, startFull_not⟩,
    fun s ms => ⟨fun h => done_eq ?_, fun h => done_eq ?_⟩, fun s k => ⟨fun hl hs => done_eq (if_pos ?_), fun h => done_eq (if_neg ?_)⟩⟩
  · exact (if_pos hm).trans (if_neg (Bool.eq_false_iff.mp hf))
  · by_cases hm : s.measures = true
    · exact (if_pos hm).trans (if_pos (h.resolve_left (by simp [hm])))
    · exact if_neg hm
  · exact (if_pos (by rw [hm, hb]; rfl)).trans (if_pos hf)
  · by_cases hm : (s.measures && s.trm.refBad.isNone) = true
    · obtain ⟨hm, hb⟩ := Bool.and_eq_true_iff.mp hm
      have hf : s.trm.refFault = false := by simpa [hm, Option.isNone_iff_eq_none.mp hb] using h
      exact (if_pos (by rw [hm, hb]; rfl)).trans (if_neg (Bool.eq_false_iff.mp hf))
    · exact if_neg hm
  · obtain ⟨hp, hj⟩ := hgood
    exact (if_neg (Bool.eq_false_iff.mp ((ripenLeft_iff s idle _).mpr hfree))).trans (if_pos (by rw [hp, hj]; rfl))
  · exact (if_neg (Bool.eq_false_iff.mp ((ripenLeft_iff s idle _).mpr hfree))).trans (if_neg (mt Bool.and_eq_true_iff.mp hgood))
  · exact if_pos ((Bool.not_eq_false _).mp (mt (ripenLeft_iff s idle _).mp hfree))
  · obtain ⟨hc, hd, hr⟩ := h
    rw [hc, hr, decide_eq_true hd]
    rfl
  · intro hc
    obtain ⟨hcd, hr⟩ := Bool.and_eq_true_iff.mp hc
    exact h ⟨(Bool.and_eq_true_iff.mp hcd).1, of_decide_eq_true (Bool.and_eq_true_iff.mp hcd).2, hr⟩
  · exact (if_pos h.1).trans (if_neg (Bool.eq_false_iff.mp ((fullOff_iff s).mpr h.2)))
  · by_cases hl : s.live = true
    · exact (if_pos hl).trans (if_pos ((Bool.not_eq_false _).mp (mt (fullOff_iff s).mp fun hr => h ⟨hl, hr⟩)))
    · exact if_neg hl
  · rw [hl, hs]
    rfl
  · rcases h with h | h <;> simp [h]

/-! ### REF_CMD, REF_TRIMn and REF_LOAD (R212 to R217) -/

theorem takesWrites_refCmd : TakesWrites REF_CMD 0x06 := takesWrites_of (by decide)
theorem takesWrites_refTrim (i : Fin 16) : TakesWrites (REF_TRIM i.val) 0x06 := takesWrites_of (by revert i; decide)

theorem refFull_rule (o : Origin) (s : State) : writeRule o REF_CMD (word (at_ 1 28)) s =
    { pre := chk (s.start.step == 12 || s.trm.fullBusy || s.trm.refFault) .eState, store := false, app := startFull } := rfl

theorem refApply_rule (o : Origin) (s : State) : writeRule o REF_CMD (word (at_ 2 28)) s =
    { pre := s.applyCode, store := false, app := applyTrims s.chanIdle, rej := rejectTrims s.applyCode } := rfl

theorem refNominal_rule (o : Origin) (s : State) : writeRule o REF_CMD (word (at_ 3 28)) s =
    { pre := chk (s.start.step == 12) .eState, store := false, app := nominalTrims s.chanIdle } := rfl

theorem refAbort_rule (o : Origin) (s : State) : writeRule o REF_CMD (word (at_ 4 28)) s =
    { pre := chk (s.start.step == 12 || !s.trm.fullBusy) .eState, store := false, app := abortFull } := rfl

theorem refTrim_rule (o : Origin) (i : Fin 16) (v : Word) (s : State) : writeRule o (REF_TRIM i.val) v s =
    { bad := !plausible i.val (trimGain v) (trimOffset v), store := false
      app := fun t => setNominal i.val false (putTrim s.chanIdle i.val v t) } := by
  fin_cases i <;> rfl

theorem winWriteCode_refLoad (ws : List Word) (s : State) :
    s.winWriteCode REF_LOAD ws = (lenCode 4096 ws.length).first (chk s.closing .eState) := rfl

/-- A REF_CMD command that E_STATE alone turns away. -/
theorem refCmd_takes {o : Origin} {v : Word} {s x : State} {b : Bool} {w : WriteRule} (ho : Open o 0x06 s) (hf : Fits REF_CMD v)
    (hw : writeRule o REF_CMD v s = w) (hpre : w.pre = chk b .eState) (hbad : w.bad = false) (hpost : w.post = .ok)
    (hs : w.store = false) (hrej : w.rej s = s) (happ : b = false → w.app s = x) :
    (b = false → done (regWrite o REF_CMD v s) = .next (wrote o s x)) ∧
    (b = true → done (regWrite o REF_CMD v s) = .next (turnedAway o .eState s)) := by
  refine ⟨fun hb => ?_, fun hb => ?_⟩
  · exact write_acts takesWrites_refCmd ho hf (by rw [hw, hpre, hb]; rfl) (by rw [hw, hbad]) (by rw [hw, hpost])
      (by rw [hw, hs, ← happ hb]; rfl)
  · exact write_pre o REF_CMD 0x06 v s .eState w takesWrites_refCmd ho hw (by rw [hpre, hb]; rfl) (by decide) hrej

/-- An APPLY whose record fails a check: the code, and what the rejection does. -/
theorem refApply_away {o : Origin} {s : State} (ho : Open o 0x06 s) (hc : s.applyCode ≠ .ok) :
    exec (.apply o) s = .next (turnedAway o s.applyCode (rejectTrims s.applyCode s)) :=
  write_rej o REF_CMD 0x06 (word (at_ 2 28)) s s.applyCode _ takesWrites_refCmd ho (refApply_rule o s) rfl hc

theorem refApply_ok {o : Origin} {s : State} (ho : Open o 0x06 s) (hc : s.applyCode = .ok) :
    exec (.apply o) s = .next (wrote o s (applyTrims s.chanIdle s)) :=
  write_acts (v := word (at_ 2 28)) takesWrites_refCmd ho (fits_of_legal (by decide)) hc rfl rfl rfl

theorem applyTrims_early {s : State} {l : List Word} (idle : Nat → Bool) (h : s.trm.load = some l) (he : s.start.step < 12 ∨ s.start.step = 15) :
    applyTrims idle s = { s with trm := { s.trm with load := none, held := some l, pendRestore := true } } := by
  rw [applyTrims, h]
  exact if_pos he

theorem applyTrims_late {s : State} {l : List Word} (idle : Nat → Bool) (h : s.trm.load = some l) (he : ¬ (s.start.step < 12 ∨ s.start.step = 15)) :
    applyTrims idle s = raiseN 0x1A4 0 (applyRecord idle l (abortFull { s with trm := { s.trm with load := none } })) := by
  rw [applyTrims, h]
  exact if_neg he

theorem applyCode_none {s : State} (h : s.trm.load = none) : s.applyCode = .eState := by rw [State.applyCode, h]

theorem rejectTrims_none {s : State} (c : Code) (h : s.trm.load = none) : rejectTrims c s = s := by simp [rejectTrims, h]

theorem rejectTrims_some {s : State} {l : List Word} (c : Code) (h : s.trm.load = some l) :
    rejectTrims c s = raiseN 0x1A5 c.num { s with trm := { s.trm with load := none } } := by simp [rejectTrims, h]

/-- Settles O40: each command by its check, then its effect. -/
theorem trimCommandsAndWords : Obligations.TrimCommandsAndWords := by
  refine ⟨fun o s ho => ?_, fun _ _ => rfl, fun o i v s ho => ⟨fun hf hp => ?_, fun hp => ?_⟩,
    fun idle i w s => ⟨fun h => if_pos ?_, fun h => if_neg ?_⟩, fun ws s ho => ⟨fun h1 h2 => ?_, fun h => ?_⟩,
    fun o s ho => ⟨fun hl => ?_, fun l hl => ⟨fun hc he => ?_, fun hc he => ?_, fun hc => ?_⟩⟩⟩
  · obtain ⟨full, notFull⟩ := refCmd_takes ho (fits_of_legal (by decide)) (refFull_rule o s) rfl rfl rfl rfl rfl fun _ => rfl
    obtain ⟨nom, notNom⟩ := refCmd_takes ho (fits_of_legal (by decide)) (refNominal_rule o s) rfl rfl rfl rfl rfl fun _ => rfl
    obtain ⟨abort, notAbort⟩ := refCmd_takes ho (fits_of_legal (by decide)) (refAbort_rule o s) rfl rfl rfl rfl rfl fun hb =>
      if_pos (by simpa using (Bool.or_eq_false_iff.mp hb).2)
    refine ⟨fun h12 hb hf => full ?_, fun h => notFull ?_, fun h12 => nom ?_, fun h12 => notNom (beq_iff_eq.mpr h12),
      fun h12 hb => abort ?_, fun h => notAbort ?_⟩
    · simp [h12, hb, hf]
    · simpa [or_assoc] using h
    · simp [h12]
    · simp [h12, hb]
    · simpa using h
  · refine write_acts (takesWrites_refTrim i) ho hf ?_ ?_ ?_ ?_ <;> rw [refTrim_rule]
    · rw [hp]
      rfl
    · exact congrArg _ (if_neg Bool.false_ne_true)
  · exact write_bad o _ 0x06 v s _ (takesWrites_refTrim i) ho (refTrim_rule o i v s) rfl (by rw [hp]; rfl) rfl
  · simpa using h
  · simpa using h
  · refine win_ok REF_LOAD 0x06 s ws rfl ho.1 ?_
    rw [winWriteCode_refLoad, ho.2.2, lenCode_in h1 h2]
    rfl
  · refine win_away REF_LOAD 0x06 s .eLen ws rfl ho.1 ?_ (by decide)
    rw [winWriteCode_refLoad, ho.2.2, lenCode_out (by omega)]
    rfl
  · have hc := applyCode_none hl
    rw [refApply_away ho (by rw [hc]; decide), hc, rejectTrims_none _ hl]
  · rw [refApply_ok ho hc, applyTrims_early _ hl he]
  · rw [refApply_ok ho hc, applyTrims_late _ hl he]
  · rw [refApply_away ho hc, rejectTrims_some _ hl]

end Sys2Proof.Machine
end

section
/-! Proofs about the housekeeping converters (11_housekeeping_adc.md). -/

namespace Sys2Proof.Machine

/-! ### Conversions (R230, R234 to R236, R238) -/

section Conversion
variable {s : State} {j : Nat} (m : ConvMeas)

theorem conversionComplete_nothing (h : (s.conv j).doing = .nothing) : conversionComplete j m s = s := by
  rw [conversionComplete, h]
  dsimp only
  rw [hkConversion, h]

theorem conversionComplete_ripening (h : (s.conv j).doing = .ripening) : conversionComplete j m s =
    hkRipeEnds j (hkResult (s.trim j) m.raw).2 (s.hkSuspect j 32 m) s := by
  rw [conversionComplete, h]
  dsimp only
  rw [hkConversion, h]

theorem conversionComplete_entry {r : HkRun} (h : (s.conv j).doing = .entry r) : conversionComplete j m s =
    hkEntryEnds j r (s.hkCode (bits (nth 0 r.ents r.next) 4 0) r.trim m).1 (s.hkCode (bits (nth 0 r.ents r.next) 4 0) r.trim m).2
      (s.hkSuspect j (bits (nth 0 r.ents r.next) 4 0) m) (s.injected (bits (nth 0 r.ents r.next) 4 0)) s := by
  rw [conversionComplete, h]
  dsimp only
  rw [hkConversion, h]

theorem conversionComplete_urgent {ch : Nat} {late : Bool} (h : (s.conv j).doing = .urgent ch late) : conversionComplete j m s =
    bridgeSample ch (s.hkCode (8 + ch) (s.trim j) m).1 (s.hkCode (8 + ch) (s.trim j) m).2 (s.hkSuspect j (8 + ch) m)
      (hkFeed (8 + ch) (s.hkCode (8 + ch) (s.trim j) m).1 (s.hkCode (8 + ch) (s.trim j) m).2
        (s.hkSuspect j (8 + ch) m || s.injected (8 + ch))
        (hkUrgentEnds j ch late (s.hkCode (8 + ch) (s.trim j) m).1 (s.hkCode (8 + ch) (s.trim j) m).2 (s.hkSuspect j (8 + ch) m) s)) := by
  rw [conversionComplete, h]
  dsimp only
  rw [hkConversion, h]

end Conversion

/-- The inputs that become stale: those with an age limit in Table 11.3, while the clocks run (R236). -/
theorem notAgeing_iff (s : State) (n : Nat) : (s.isStale n || !(n < 8 || (12 ≤ n && n ≤ 24) || n == 26) || !s.live) = false ↔
    (s.live = true ∧ s.isStale n = false ∧ (n < 8 ∨ 12 ≤ n ∧ n ≤ 24 ∨ n = 26)) := by
  rw [Bool.or_eq_false_iff, Bool.or_eq_false_iff, Bool.not_eq_false', Bool.not_eq_false', and_comm]
  simp [or_assoc]

theorem hkGoesStale_not {s : State} {n : Nat} (h : ¬ (s.live = true ∧ s.isStale n = false ∧ (n < 8 ∨ 12 ≤ n ∧ n ≤ 24 ∨ n = 26))) :
    hkGoesStale n s = s :=
  if_pos ((Bool.not_eq_false _).mp (mt (notAgeing_iff s n).mp h))

theorem hkGoesStale_aged {s : State} {n : Nat} (h : s.live = true ∧ s.isStale n = false ∧ (n < 8 ∨ 12 ≤ n ∧ n ≤ 24 ∨ n = 26)) :
    let x := raiseN 0x197 n { s with hk := { s.hk with stale := s.hk.stale + 2 ^ n } }
    hkGoesStale n s = if n = 13 ∨ n = 14 then judgeOver { x with pwr := { x.pwr with busStale := true } } else x :=
  if_neg (Bool.eq_false_iff.mp ((notAgeing_iff s n).mpr h))

/-- Settles O41: what a converter was converting says how its conversion ends; the injected result is log entry 80. -/
theorem conversionsGiveTheirResults : Obligations.ConversionsGiveTheirResults := by
  refine ⟨fun s j m hl => done_neg (by rw [hl]; exact Bool.false_ne_true), fun s j m hl => ?_, fun s n trim m => ⟨fun hi hs => if_pos ?_, fun h => if_neg ?_⟩,
    fun trim raw => ⟨fun h => if_pos h, fun h0 h => (if_neg (by omega)).trans (if_neg (by omega)), fun h => (if_neg (by omega)).trans (if_pos h)⟩,
    fun s raws m => ⟨fun hp hm => done_after (if_pos ?_), fun h => done_neg ?_⟩,
    fun s n => ⟨fun h h13 h14 => happens_eq ?_, fun h hn => happens_eq ?_, fun h => happens_eq (hkGoesStale_not h)⟩⟩
  · have ends {x : State} (h : conversionComplete j.val m s = x) :
        exec (.conversionComplete j m) s = .next (after s (pressFires s x)) :=
      done_after ((if_pos hl).trans (by rw [h]))
    refine ⟨fun h => ends (conversionComplete_nothing m h), fun h => ends (conversionComplete_ripening m h),
      fun r h => ends (conversionComplete_entry m h), fun ch late h => ends (conversionComplete_urgent m h)⟩
  · rw [hi, hs]
    rfl
  · rcases h with h | h <;> simp [h]
  · rw [hp, hm]
    rfl
  · rcases h with h | h
    · simp [h]
    · simp [h]
  · exact (hkGoesStale_aged h).trans (if_neg (by omega))
  · exact (hkGoesStale_aged h).trans (if_pos hn)

/-! ### Triggers and runs (R222 to R227) -/

theorem takesWrites_hkTrigcmd : TakesWrites HK_TRIGCMD 0x07 := takesWrites_of (by decide)
theorem takesWrites_hkDiag : TakesWrites HK_DIAG 0x07 := takesWrites_of (by decide)
theorem takesWrites_hkTrig (j : Fin 3) : TakesWrites (HK_TRIG j.val) 0x07 := takesWrites_of (by revert j; decide)
theorem takesWrites_hkPer (j : Fin 3) : TakesWrites (HK_PER j.val) 0x07 := takesWrites_of (by revert j; decide)

theorem trigcmd_mask : ∀ mask : BitVec 3, legal HK_TRIGCMD (word mask.toNat) = true ∧
    (List.range 3).filter (fun j => bit (word mask.toNat) j) = (List.range 3).filter (fun j => mask.getLsbD j) := by decide

theorem hkTrigcmd_rule (o : Origin) (mask : BitVec 3) (s : State) : writeRule o HK_TRIGCMD (word mask.toNat) s =
    { pre := chk (((List.range 3).filter fun j => mask.getLsbD j).any fun j => bits (s.conv j).trig 31 28 != 1) .eState, store := false
      app := fun t => ((List.range 3).filter fun j => mask.getLsbD j).foldl (fun t j => hkTrigger j t) t } := by
  rw [← (trigcmd_mask mask).2]
  rfl

/-- Every converter named is set to the command (R226). -/
theorem trigcmd_may_iff (mask : BitVec 3) (s : State) :
    (((List.range 3).filter fun j => mask.getLsbD j).any fun j => bits (s.conv j).trig 31 28 != 1) = false ↔
    ∀ j : Nat, j < 3 → mask.getLsbD j = true → bits (s.conv j).trig 31 28 = 1 := by
  simp only [List.any_eq_false, List.mem_filter, List.mem_range, bne_iff_ne, ne_eq, Decidable.not_not, and_imp]

section Trigger
variable {s : State} {j : Nat}

theorem hkBusy_iff : ((s.conv j).run.isSome || (s.conv j).delaying) = true ↔ (s.conv j).run ≠ none ∨ (s.conv j).delaying = true := by
  rw [Bool.or_eq_true, Option.isSome_iff_ne_none]

theorem hkTrigger_stopped (h : s.live = false) : hkTrigger j s = s := if_pos (by rw [h]; rfl)

theorem hkTrigger_busy (hl : s.live = true) (h : (s.conv j).run ≠ none ∨ (s.conv j).delaying = true) : hkTrigger j s =
    raiseN (0x190 + j) ((s.conv j).runs % 65536) (s.count HK_CNT (31 - 8 * j) (24 - 8 * j)) :=
  (if_neg (not_live_false hl)).trans (if_pos (hkBusy_iff.mpr h))

theorem hkTrigger_free (hl : s.live = true) (h : ¬ ((s.conv j).run ≠ none ∨ (s.conv j).delaying = true)) : hkTrigger j s =
    if s.fld (HK_CFG j) 4 0 = 0 then s else onConv j (fun c => { c with delaying := true }) s :=
  (if_neg (not_live_false hl)).trans (if_neg (mt hkBusy_iff.mp h))

end Trigger

/-! ### Urgent requests and ripening slots (R228, R229) -/

/-- An urgent request that is due: of a channel with a request, in RUN or DECAY, that is no slave (R246). -/
theorem urgentOff_iff (s : State) (ch : Nat) : (!(s.chan ch).reqDue || (s.chan ch).st == .idle || s.isSlave ch) = false ↔
    ((s.chan ch).reqDue = true ∧ (s.chan ch).st ≠ .idle ∧ s.isSlave ch = false) := by
  simp [and_assoc]

theorem issueUrgent_due {s : State} {ch : Nat} (h : (s.chan ch).reqDue = true ∧ (s.chan ch).st ≠ .idle ∧ s.isSlave ch = false)
    (hs : s.slaveOf ch = none) : issueUrgent ch s = urgentRequest ch (onChan ch (fun c => { c with reqDue := false }) s) := by
  rw [issueUrgent, if_neg (Bool.eq_false_iff.mp ((urgentOff_iff s ch).mpr h)), hs]

theorem issueUrgent_not {s : State} {ch : Nat} (h : ¬ ((s.chan ch).reqDue = true ∧ (s.chan ch).st ≠ .idle ∧ s.isSlave ch = false)) :
    issueUrgent ch s = s := by
  rw [issueUrgent, if_pos ((Bool.not_eq_false _).mp (mt (urgentOff_iff s ch).mp h))]

theorem urgentRequest_free {s : State} {ch j : Nat} (hc : s.urgConv ch = some j) (h : (s.conv j).urgent = none) :
    urgentRequest ch s = onConv j (fun c => { c with urgent := some (ch, false), ripening := false
                                                     slot := if c.ripening then 0 else c.slot
                                                     run := c.run.map fun r => { r with shift := true } })
      (if (s.conv j).ripening then s.count REF_CNT 7 0 else hkIdleCounted j s) := by
  rw [urgentRequest, hc]
  exact if_neg (by rw [h]; exact Bool.false_ne_true)

theorem urgentRequest_taken {s : State} {ch j : Nat} (hc : s.urgConv ch = some j) (h : (s.conv j).urgent ≠ none) :
    urgentRequest ch s = raiseN 0x196 ch ((onConv j (fun c => { c with urgQueue := c.urgQueue ++ [ch] }) s).count HK_CNT 7 0) := by
  rw [urgentRequest, hc]
  exact if_pos (Option.isSome_iff_ne_none.mpr h)

theorem slotDue_iff (s : State) (j : Nat) : (s.ripeOn && (s.conv j).isIdle && decide (33 ≤ s.hkSlot j)) = true ↔
    (s.ripeOn = true ∧ (s.conv j).isIdle = true ∧ 33 ≤ s.hkSlot j) := by
  simp [and_assoc]

/-! ### HK_xTRIG and HK_xPER (R227, R239) -/

theorem hkTrig_rule (o : Origin) (j : Fin 3) (v : Word) (s : State) : writeRule o (HK_TRIG j.val) v s =
    { bad := (if bits v 31 28 == 3 then decide (7 < bits v 27 24) || decide (1 < bits v 23 22)
        else if bits v 31 28 == 4 then decide (3 < bits v 27 24) else bits v 27 24 != 0)
      app := fun t => trigApplies j.val (onConv j.val (fun c => { c with trigNew := true, delaying := false }) t) } := by
  fin_cases j <;> rfl

theorem hkPer_rule (o : Origin) (j : Fin 3) (v : Word) (s : State) : writeRule o (HK_PER j.val) v s =
    { bad := decide (bits v 19 0 < hkMinPer (s.fld (HK_CFG j.val) 4 0) (s.conv j.val).lp)
      app := fun t => trigApplies j.val (onConv j.val (fun c => { c with trigNew := true, delaying := false }) t) } := by
  fin_cases j <;> rfl

/-- A trigger setting that Table 11.5 allows. -/
theorem trigLegal_iff (v : Word) : (if bits v 31 28 == 3 then decide (7 < bits v 27 24) || decide (1 < bits v 23 22)
      else if bits v 31 28 == 4 then decide (3 < bits v 27 24) else bits v 27 24 != 0) = false ↔
    ((bits v 31 28 = 3 → bits v 27 24 ≤ 7 ∧ bits v 23 22 ≤ 1) ∧ (bits v 31 28 = 4 → bits v 27 24 ≤ 3) ∧
      (bits v 31 28 ≠ 3 → bits v 31 28 ≠ 4 → bits v 27 24 = 0)) := by
  by_cases h3 : bits v 31 28 = 3
  · simp [h3]
  · by_cases h4 : bits v 31 28 = 4 <;> simp [h3, h4]

/-! ### The injection (R234, R235) -/

theorem bits_diagWord (en : Bool) (n : Fin 32) (code : BitVec 10) : bit (diagWord en n code) 31 = en ∧
    bits (diagWord en n code) 20 16 = n.val ∧ bits (diagWord en n code) 9 0 = code.toNat := by
  have hn := n.isLt
  have hc := code.isLt
  refine ⟨?_, ?_, ?_⟩
  · rw [bit, diagWord, word, BitVec.toNat_ofNat]
    cases en <;> simp only [at_, b2n] <;> simp <;> omega
  · rw [diagWord, bits_word]
    cases en <;> simp only [at_, b2n] <;> simp <;> omega
  · rw [diagWord, bits_word]
    cases en <;> simp only [at_, b2n] <;> simp <;> omega

/-- HK_DIAG with the fields of its word named. -/
theorem hkDiag_rule (o : Origin) {v : Word} {en : Bool} {n c : Nat} (s : State) (hv : bit v 31 = en ∧ bits v 20 16 = n ∧ bits v 9 0 = c) :
    writeRule o HK_DIAG v s =
    { pre := chk ((s.flag HK_DIAG 31 && n != s.fld HK_DIAG 20 16) || (en && ((decide (8 ≤ n) && decide (n < 12) && s.runsProfile (n - 8)) ||
        (decide (n < 4) && s.pressNow n) || (decide (4 ≤ n) && decide (n < 8) && s.pressNow (n - 4))))) .eState
      app := fun t =>
        if en then (if s.flag HK_DIAG 31 && s.fld HK_DIAG 9 0 == c then t else hkSettles n t)
        else if s.flag HK_DIAG 31 then
          raiseN 0x198 (at_ 1 28 + at_ (s.fld HK_DIAG 20 16) 16 + s.fld HK_DIAG 9 0) (hkSettles (s.fld HK_DIAG 20 16) t)
        else t } := by
  obtain ⟨rfl, rfl, rfl⟩ := hv
  rfl

/-- The injection goes into another input. -/
theorem diagElsewhere_iff (s : State) (n : Nat) : (s.flag HK_DIAG 31 && n != s.fld HK_DIAG 20 16) = true ↔
    (s.flag HK_DIAG 31 = true ∧ s.fld HK_DIAG 20 16 ≠ n) := by
  rw [Bool.and_eq_true, bne_iff_ne, ne_comm]

/-- The input's channel runs, or its head presses (R234). -/
theorem diagBusy_iff (s : State) (n : Nat) : ((decide (8 ≤ n) && decide (n < 12) && s.runsProfile (n - 8)) ||
      (decide (n < 4) && s.pressNow n) || (decide (4 ≤ n) && decide (n < 8) && s.pressNow (n - 4))) = true ↔
    ((8 ≤ n ∧ n < 12 ∧ s.runsProfile (n - 8) = true) ∨ (n < 4 ∧ s.pressNow n = true) ∨ (4 ≤ n ∧ n < 8 ∧ s.pressNow (n - 4) = true)) := by
  simp [and_assoc, or_assoc]

theorem diagEnds_on {s : State} (reason : Nat) (h : s.flag HK_DIAG 31 = true) : diagEnds reason s =
    raiseN 0x198 (at_ reason 28 + at_ (s.fld HK_DIAG 20 16) 16 + s.fld HK_DIAG 9 0)
      (hkSettles (s.fld HK_DIAG 20 16) (s.setFld HK_DIAG 31 31 0)) := if_pos h

/-- Settles O42: triggers, requests, slots and the injection, each by its check. -/
theorem hkTriggersAndInjection : Obligations.HkTriggersAndInjection := by
  refine ⟨fun o mask s ho => ⟨fun h => ?_, fun h => ?_⟩, fun s j => ⟨fun h => done_eq (if_pos h), fun h => done_eq (if_neg h)⟩,
    fun s j => ⟨hkTrigger_stopped, hkTrigger_busy, fun hl hb h => (hkTrigger_free hl hb).trans (if_pos h),
      fun hl hb h => (hkTrigger_free hl hb).trans (if_neg h)⟩,
    fun s j => ⟨fun h => done_eq ?_, fun hl hd h => done_eq ?_, fun hl hd h => done_eq ?_⟩,
    fun s ch => ⟨fun h hs => done_eq ?_, fun h => done_eq ?_⟩, fun s ch j hc => ⟨urgentRequest_free hc, urgentRequest_taken hc⟩,
    fun s j => ⟨fun h => done_eq (if_pos ((slotDue_iff s j).mpr h)), fun h => done_eq (if_neg (mt (slotDue_iff s j).mp h))⟩,
    fun o j v s ho => ⟨fun h hf => ?_, fun h => ?_, fun h hf => ?_, fun h => ?_⟩,
    fun o n code s ho => ⟨fun he hb hf => ?_, fun h => ?_, fun he hf => ?_, fun he => ?_⟩, fun s => ⟨fun h => done_eq ?_, fun h => done_eq ?_⟩⟩
  · refine write_acts takesWrites_hkTrigcmd ho (fits_of_legal (trigcmd_mask mask).1) ?_ ?_ ?_ ?_ <;> rw [hkTrigcmd_rule]
    · rw [(trigcmd_may_iff mask s).mpr h]
      rfl
    · exact congrArg _ (if_neg Bool.false_ne_true)
  · have hpre := (Bool.not_eq_false _).mp (mt (trigcmd_may_iff mask s).mp h)
    exact write_pre o HK_TRIGCMD 0x07 _ s .eState _ takesWrites_hkTrigcmd ho (hkTrigcmd_rule o mask s) (by rw [hpre]; rfl) (by decide) rfl
  · by_cases hl : s.live = true
    · have hd : (s.conv j.val).delaying = false := h.resolve_left (by simp [hl])
      exact (if_pos hl).trans (if_pos (by rw [hd]; rfl))
    · exact if_neg hl
  · exact (if_pos hl).trans ((if_neg (by rw [hd]; decide)).trans (if_pos h))
  · exact (if_pos hl).trans ((if_neg (by rw [hd]; decide)).trans (if_neg h))
  · exact (if_pos h.1).trans (issueUrgent_due h.2 hs)
  · by_cases hl : s.live = true
    · exact (if_pos hl).trans (issueUrgent_not fun hd => h ⟨hl, hd⟩)
    · exact if_neg hl
  · change done (regWrite o (HK_TRIG j.val) v s) = _
    refine write_acts (takesWrites_hkTrig j) ho hf ?_ ?_ ?_ ?_ <;> rw [hkTrig_rule]
    · exact (trigLegal_iff v).mpr h
    · exact congrArg _ (if_pos rfl)
  · exact write_bad o (HK_TRIG j.val) 0x07 v s _ (takesWrites_hkTrig j) ho (hkTrig_rule o j v s) rfl
      ((Bool.not_eq_false _).mp (mt (trigLegal_iff v).mp h)) rfl
  · change done (regWrite o (HK_PER j.val) v s) = _
    refine write_acts (takesWrites_hkPer j) ho hf ?_ ?_ ?_ ?_ <;> rw [hkPer_rule]
    · exact decide_eq_false (Nat.not_lt.mpr h)
    · exact congrArg _ (if_pos rfl)
  · exact write_bad o (HK_PER j.val) 0x07 v s _ (takesWrites_hkPer j) ho (hkPer_rule o j v s) rfl (decide_eq_true (Nat.lt_of_not_le h)) rfl
  · refine write_acts takesWrites_hkDiag ho hf ?_ ?_ ?_ ?_ <;> rw [hkDiag_rule o s (bits_diagWord true n code)]
    · rw [Bool.eq_false_iff.mpr (mt (diagElsewhere_iff s n.val).mp he), Bool.eq_false_iff.mpr (mt (diagBusy_iff s n.val).mp hb)]
      rfl
    · simp only [if_true]
  · refine write_pre o HK_DIAG 0x07 _ s .eState _ takesWrites_hkDiag ho (hkDiag_rule o s (bits_diagWord true n code)) ?_ (by decide) rfl
    rcases h with h | h
    · rw [(diagElsewhere_iff s n.val).mpr h]
      rfl
    · rw [(diagBusy_iff s n.val).mpr h, Bool.true_and, Bool.or_true]
      rfl
  · refine write_acts takesWrites_hkDiag ho hf ?_ ?_ ?_ ?_ <;> rw [hkDiag_rule o s (bits_diagWord false n code)]
    · rw [Bool.eq_false_iff.mpr (mt (diagElsewhere_iff s n.val).mp he)]
      rfl
    · simp only [if_true, Bool.false_eq_true, if_false]
  · refine write_pre o HK_DIAG 0x07 _ s .eState _ takesWrites_hkDiag ho (hkDiag_rule o s (bits_diagWord false n code)) ?_ (by decide) rfl
    rw [(diagElsewhere_iff s n.val).mpr he]
    rfl
  · exact (if_pos h.1).trans (diagEnds_on 2 h.2)
  · by_cases hl : s.live = true
    · exact (if_pos hl).trans (if_neg fun hf => h ⟨hl, hf⟩)
    · exact if_neg hl

end Sys2Proof.Machine
end

section
/-! Proofs about the actuators (12_actuators.md). -/

namespace Sys2Proof.Machine

/-! ### ACT_CMD (R250 to R253) -/

theorem takesWrites_actCmd : TakesWrites ACT_CMD 0x08 := takesWrites_of (by decide)
theorem takesWrites_actPair : TakesWrites ACT_PAIR 0x08 := takesWrites_of (by decide)
theorem takesWrites_actPwm : TakesWrites ACT_PWM 0x08 := takesWrites_of (by decide)
theorem takesWrites_actChcfg (n : Fin 4) : TakesWrites (ACT_CHCFG n.val) 0x08 := takesWrites_of (by revert n; decide)

/-- The words of FIRE, and of STOP and CLEAR (R250, R253). -/
def fireWord (n p : Nat) : Word := word (at_ 1 28 + at_ n 16 + at_ p 11)
def actWord (cmd n : Nat) : Word := word (at_ cmd 28 + at_ n 16)

theorem fits_fireWord (n : Fin 4) (p : Fin 32) : Fits ACT_CMD (fireWord n.val p.val) := fits_of_legal (by revert n p; decide)
theorem fits_stopWord (n : Fin 4) : Fits ACT_CMD (actWord 2 n.val) := fits_of_legal (by revert n; decide)
theorem fits_clearWord (n : Fin 4) : Fits ACT_CMD (actWord 3 n.val) := fits_of_legal (by revert n; decide)

theorem bits_fireWord {n p : Nat} (hn : n < 4) (hp : p < 32) : bits (fireWord n p) 31 28 = 1 ∧
    bits (fireWord n p) 17 16 = n ∧ bits (fireWord n p) 15 11 = p := by
  rw [fireWord, bits_word, bits_word, bits_word]
  simp only [at_]
  omega

theorem bits_actWord {cmd n : Nat} (hc : cmd < 16) (hn : n < 4) : bits (actWord cmd n) 31 28 = cmd ∧
    bits (actWord cmd n) 17 16 = n ∧ bits (actWord cmd n) 15 11 = 0 := by
  rw [actWord, bits_word, bits_word, bits_word]
  simp only [at_]
  omega

theorem actCmd_rule (o : Origin) (v : Word) (s : State) : writeRule o ACT_CMD v s =
    ((actWrite ACT_CMD v s).map fun w => if ACT_CMD = ACT_CMD ∧ bits v 31 28 = 1 then
      { w with app := fun t => pressFired (bits v 17 16) (bits v 15 11) (w.app t) } else w).getD {} := rfl

theorem fire_rule (o : Origin) (n : Fin 4) (p : Fin 32) (s : State) : writeRule o ACT_CMD (fireWord n.val p.val) s =
    { pre := (s.fireCode n.val p.val).1, store := false, app := fun t => pressFired n.val p.val (fireProfile n.val p.val t)
      rej := if (s.fireCode n.val p.val).2 then fireRefused n.val p.val else id } := by
  obtain ⟨hc, hn, hp⟩ := bits_fireWord n.isLt p.isLt
  rw [actCmd_rule]
  simp [actWrite, hc, hn, hp]

theorem stop_rule (o : Origin) (n : Fin 4) (s : State) : writeRule o ACT_CMD (actWord 2 n.val) s =
    { pre := firstCode [chk (s.isSlave n.val || !s.flag (ACT_CHCFG n.val) 8) .eCtx,
        chk (!((s.chan n.val).st == .run || ((s.chan n.val).st == .decay && (s.chan n.val).pend.isSome))) .eState]
      store := false, app := stopProfile n.val } := by
  obtain ⟨hc, hn, hp⟩ := bits_actWord (by decide : 2 < 16) n.isLt
  rw [actCmd_rule]
  simp [actWrite, hc, hn, hp]

theorem clear_rule (o : Origin) (n : Fin 4) (s : State) : writeRule o ACT_CMD (actWord 3 n.val) s =
    { pre := chk (s.isSlave n.val || !s.flag (ACT_CHCFG n.val) 8) .eCtx, store := false, app := clearLatches n.val } := by
  obtain ⟨hc, hn, hp⟩ := bits_actWord (by decide : 3 < 16) n.isLt
  rw [actCmd_rule]
  simp [actWrite, hc, hn, hp]

section Command
variable {o : Origin} {n : Fin 4} {s : State}

theorem exec_fire_eq (o : Origin) (n : Fin 4) (p : Fin 32) (s : State) :
    exec (.actCmdFire o n p) s = done (regWrite o ACT_CMD (fireWord n.val p.val) s) := rfl
theorem exec_stop_eq (o : Origin) (n : Fin 4) (s : State) : exec (.actCmdStop o n) s = done (regWrite o ACT_CMD (actWord 2 n.val) s) := rfl
theorem exec_clear_eq (o : Origin) (n : Fin 4) (s : State) : exec (.actCmdClear o n) s = done (regWrite o ACT_CMD (actWord 3 n.val) s) := rfl

/-- A FIRE that is turned away: its code, and what the refusal itself does (R250). -/
theorem fire_away {p : Fin 32} (ho : Open o 0x08 s) (h : (s.fireCode n.val p.val).1 ≠ .ok) :
    exec (.actCmdFire o n p) s = .next (turnedAway o (s.fireCode n.val p.val).1
      ((if (s.fireCode n.val p.val).2 then fireRefused n.val p.val else id) s)) :=
  write_rej o ACT_CMD 0x08 (fireWord n.val p.val) s _ _ takesWrites_actCmd ho (fire_rule o n p s) rfl h

/-- STOP where the channel has something to stop. -/
theorem stop_ok (ho : Open o 0x08 s) (hsl : s.isSlave n.val = false) (hen : s.flag (ACT_CHCFG n.val) 8 = true)
    (h : ((s.chan n.val).st == .run || ((s.chan n.val).st == .decay && (s.chan n.val).pend.isSome)) = true) :
    exec (.actCmdStop o n) s = .next (wrote o s (stopProfile n.val s)) := by
  rw [exec_stop_eq]
  refine write_acts takesWrites_actCmd ho (fits_stopWord n) ?_ ?_ ?_ ?_ <;> rw [stop_rule]
  · rw [hsl, hen, h]
    rfl
  · exact congrArg _ (if_neg Bool.false_ne_true)

theorem stop_idle (ho : Open o 0x08 s) (hsl : s.isSlave n.val = false) (hen : s.flag (ACT_CHCFG n.val) 8 = true)
    (h : ((s.chan n.val).st == .run || ((s.chan n.val).st == .decay && (s.chan n.val).pend.isSome)) = false) :
    exec (.actCmdStop o n) s = .next (turnedAway o .eState s) :=
  write_pre o ACT_CMD 0x08 (actWord 2 n.val) s .eState _ takesWrites_actCmd ho (stop_rule o n s) (by rw [hsl, hen, h]; rfl) (by decide) rfl

theorem clear_ok (ho : Open o 0x08 s) (hsl : s.isSlave n.val = false) (hen : s.flag (ACT_CHCFG n.val) 8 = true) :
    exec (.actCmdClear o n) s = .next (wrote o s (clearLatches n.val s)) := by
  rw [exec_clear_eq]
  refine write_acts takesWrites_actCmd ho (fits_clearWord n) ?_ ?_ ?_ ?_ <;> rw [clear_rule]
  · rw [hsl, hen]
    rfl
  · exact congrArg _ (if_neg Bool.false_ne_true)

/-- The slave of a pair and a disabled channel take neither STOP nor CLEAR (R253, R259). -/
theorem noCommands_iff : (s.isSlave n.val || !s.flag (ACT_CHCFG n.val) 8) = true ↔ (s.isSlave n.val = true ∨ s.flag (ACT_CHCFG n.val) 8 = false) := by
  simp

theorem stop_away (ho : Open o 0x08 s) (h : s.isSlave n.val = true ∨ s.flag (ACT_CHCFG n.val) 8 = false) :
    exec (.actCmdStop o n) s = .next (turnedAway o .eCtx s) := by
  refine write_pre o ACT_CMD 0x08 (actWord 2 n.val) s .eCtx _ takesWrites_actCmd ho (stop_rule o n s) ?_ (by decide) rfl
  dsimp only
  rw [noCommands_iff.mpr h]
  exact firstCode_chk true .eCtx _ (by decide)

theorem clear_away (ho : Open o 0x08 s) (h : s.isSlave n.val = true ∨ s.flag (ACT_CHCFG n.val) 8 = false) :
    exec (.actCmdClear o n) s = .next (turnedAway o .eCtx s) :=
  write_pre o ACT_CMD 0x08 (actWord 3 n.val) s .eCtx _ takesWrites_actCmd ho (clear_rule o n s) (by rw [noCommands_iff.mpr h]; rfl) (by decide) rfl

end Command

/-! ### Configuration (R259, R260) -/

theorem actPair_rule (o : Origin) (v : Word) (s : State) : writeRule o ACT_PAIR v s = { pre := s.pairCode v } := rfl

theorem actChcfg_rule (o : Origin) (n : Fin 4) (v : Word) (s : State) : writeRule o (ACT_CHCFG n.val) v s =
    { pre := chk (!bit v 8 && ((s.chan (s.master n.val)).st != .idle || s.paired (n.val / 2))) .eState } := by
  fin_cases n <;> rfl

theorem actPwm_rule (o : Origin) (v : Word) (s : State) : writeRule o ACT_PWM v s =
    { pre := chk ((List.range 4).any fun n => (s.chan n).st != .idle) .eState, bad := decide (bits v 27 16 / 4 < bits v 7 0) } := rfl

theorem chcfgHeld_iff (n : Nat) (v : Word) (s : State) :
    (!bit v 8 && ((s.chan (s.master n)).st != .idle || s.paired (n / 2))) = true ↔
    (bit v 8 = false ∧ ((s.chan (s.master n)).st ≠ .idle ∨ s.paired (n / 2) = true)) := by
  simp

theorem pwmHeld_iff (s : State) : ((List.range 4).any fun n => (s.chan n).st != .idle) = true ↔ ∃ n, n < 4 ∧ (s.chan n).st ≠ .idle := by
  simp

/-- Settles O43: each command and register by its code. -/
theorem actuatorCommands : Obligations.ActuatorCommands := by
  refine ⟨fun o n p s ho => ⟨fun h => ?_, fun h hb => ?_, fun h => ?_⟩, fun n p s => rfl,
    fun o n s ho hsl hen => ⟨fun h => ?_, fun h hp => ?_, fun h => stop_idle ho hsl hen ?_, clear_ok ho hsl hen⟩,
    fun o n s ho h => ⟨stop_away ho h, clear_away ho h⟩, fun o v s ho => ⟨fun h => ?_, fun h hf => ?_⟩,
    fun o n v s ho => ⟨fun h => ?_, fun h hf => ?_⟩, fun o v s ho => ⟨fun h => ?_, fun h hs => ?_, fun h hs hf => ?_⟩⟩
  · rw [exec_fire_eq]
    refine write_acts takesWrites_actCmd ho (fits_fireWord n p) ?_ ?_ ?_ ?_ <;> rw [fire_rule]
    · exact h
    · simp only [Bool.false_eq_true, if_false]
  · rw [fire_away ho h, hb]
    rfl
  · have hc : (s.fireCode n.val p.val).1 = .eState := by rw [h]
    have hb : (s.fireCode n.val p.val).2 = true := by rw [h]
    rw [fire_away ho (by rw [hc]; decide), hc, hb]
    rfl
  · rw [stop_ok ho hsl hen (by rw [h]; rfl), stopProfile, if_pos h]
  · rw [stop_ok ho hsl hen (by rw [h, Option.isSome_iff_ne_none.mpr hp]; rfl), stopProfile, if_neg (by rw [h]; decide)]
  · rcases h with h | ⟨h, hp⟩
    · rw [h]
      rfl
    · rw [h, hp]
      rfl
  · exact write_pre o ACT_PAIR 0x08 v s _ _ takesWrites_actPair ho (actPair_rule o v s) rfl h rfl
  · exact write_stores o ACT_PAIR 0x08 v s _ _ takesWrites_actPair ho hf (actPair_rule o v s) h rfl
  · exact write_pre o (ACT_CHCFG n.val) 0x08 v s .eState _ (takesWrites_actChcfg n) ho (actChcfg_rule o n v s)
      (by rw [(chcfgHeld_iff n.val v s).mpr h]; rfl) (by decide) rfl
  · exact write_stores o (ACT_CHCFG n.val) 0x08 v s _ _ (takesWrites_actChcfg n) ho hf (actChcfg_rule o n v s)
      (by rw [Bool.eq_false_iff.mpr (mt (chcfgHeld_iff n.val v s).mp h)]; rfl) rfl
  · exact write_pre o ACT_PWM 0x08 v s .eState _ takesWrites_actPwm ho (actPwm_rule o v s)
      (by rw [(pwmHeld_iff s).mpr h]; rfl) (by decide) rfl
  · exact write_bad o ACT_PWM 0x08 v s _ takesWrites_actPwm ho (actPwm_rule o v s)
      (by rw [Bool.eq_false_iff.mpr (mt (pwmHeld_iff s).mp h)]; rfl) (decide_eq_true hs) rfl
  · exact write_stores o ACT_PWM 0x08 v s _ _ takesWrites_actPwm ho hf (actPwm_rule o v s)
      (by rw [Bool.eq_false_iff.mpr (mt (pwmHeld_iff s).mp h)]; rfl) (decide_eq_false (Nat.not_lt.mpr hs))

/-! ### Periods and phases (R245 to R248) -/

section Phase
variable {s : State} {n : Nat}

theorem nextPhase_last (h : (s.chan n).prof.last ≤ (s.chan n).phase) :
    nextPhase n s = endProfile n 0 (phDecay ((s.chan n).prof.ph (s.chan n).phase)) s := if_pos h

theorem nextPhase_next (h : (s.chan n).phase < (s.chan n).prof.last) : nextPhase n s = beginPhase n ((s.chan n).phase + 1) s :=
  if_neg (Nat.not_le.mpr h)

theorem periodPhase_begins (h : (s.chan n).started = false) :
    periodPhase n s = beginPhase n 0 (onChan n (fun c => { c with started := true }) s) := if_pos (by rw [h]; rfl)

theorem pwmPeriod_none (h : s.live = false ∨ s.isSlave n = true) : pwmPeriod n s = s := by
  refine if_pos ?_
  rcases h with h | h <;> simp [h]

theorem periodPhase_begun (h : (s.chan n).started = true) : periodPhase n s =
    (let c := s.chan n
     let w := c.prof.ph c.phase
     let k := c.periods + 1
     let x := onChan n (fun c => { c with periods := k }) s
     if phEnd w && c.ended then nextPhase n (onChan n (fun c => { c with stroke := sat 65535 (k * s.fld ACT_PWM 27 16 / 250) }) x)
     else if phDur w ≠ 0x7FFF ∧ phDur w * 500 ≤ k * s.fld ACT_PWM 27 16 then
       if phEnd w then endProfile n 4 1 (raiseN 0x1B7 (faultData n c) (onChan n (fun c => { c with stall := true }) x))
       else nextPhase n x
     else x) := if_neg (by simp [h])

end Phase

/-! ### Boost and faults (R242, R243, R255) -/

theorem vbstSeen_above {mv : Nat} {s : State} (hv : s.vsetMv + 3000 < mv) : vbstSeen mv s =
    raiseIf (!s.act.clamp) 0x1B9 (sat 65535 mv) { s with act := { s.act with clamp := true, vbst := mv } } := by
  rw [vbstSeen, decide_eq_true hv]
  rfl

theorem vbstSeen_below {mv : Nat} {s : State} (hv : mv ≤ s.vsetMv + 3000) : vbstSeen mv s =
    { s with act := { s.act with clamp := false, vbst := mv } } := by
  rw [vbstSeen, decide_eq_false (Nat.not_lt.mpr hv)]
  rfl

/-- A channel that is not idle latches the over-current; its profile ends unless it had ended in an earlier period. -/
theorem actOverCurrent_busy {s : State} {n : Nat} (h : (s.chan (s.master n)).st ≠ .idle) :
    let k := s.master n
    let x := raiseN 0x1B5 (faultData k (s.chan k)) (onChan k (fun c => { c with oc := true, decayMode := 1 }) s)
    actOverCurrent n s = if (s.chan k).st == .run || (s.chan k).endedNow then endProfile k 2 1 x else x := if_neg h

theorem charging_iff (s : State) : s.charging = true ↔ s.live = true ∧ s.pwr.powerFail = false ∧ s.act.vbst < 100 * s.fld ACT_BST 9 0 := by
  rw [State.charging, Bool.and_eq_true, Bool.and_eq_true, Bool.not_eq_true', decide_eq_true_iff, and_assoc]
  rfl

/-- Settles O44: periods, phases, faults, the clamp and the charger, each by its condition; an over-current in DECAY is
log entry 69, the charger log entry 79. -/
theorem actuatorPeriodsAndFaults : Obligations.ActuatorPeriodsAndFaults := by
  refine ⟨fun s n => rfl, fun s n => pwmPeriod_none, fun s n hl hs => ⟨_, _, _, rfl, rfl, rfl, if_neg ?_⟩,
    fun s n => ⟨periodPhase_begins, fun hst he hend => ?_, fun hst he hend hlong => ?_, fun hst he hlong => ?_, fun hst he hlong => ?_,
      nextPhase_last, nextPhase_next⟩, fun ki d t m => rfl, fun s n => ⟨fun hl hd => done_eq (if_pos ⟨hl, hd⟩), fun h => done_eq (if_neg ?_)⟩,
    fun s n => ⟨fun h => happens_eq (if_pos h), fun h => happens_eq (if_neg h)⟩,
    fun s n => ⟨fun h => happens_eq (if_pos h), fun h => happens_eq ?_, fun h he => happens_eq ?_⟩,
    fun s n res mode => rfl, fun s mv hp => ⟨fun hv hc => done_eq ?_, fun hv hc => done_eq ?_, fun hv => done_eq ?_⟩,
    fun s hp => ⟨done_eq (if_pos hp), done_eq (if_pos hp)⟩, fun s mv b hp => ⟨done_eq (if_neg ?_), done_eq (if_neg ?_)⟩, charging_iff⟩
  · simp [hl, hs]
  · exact (periodPhase_begun hst).trans (if_pos (by rw [he, hend]; rfl))
  · exact (periodPhase_begun hst).trans ((if_neg (by simp [hend])).trans ((if_pos hlong).trans (if_pos he)))
  · exact (periodPhase_begun hst).trans ((if_neg (by simp [he])).trans ((if_pos hlong).trans (if_neg (by simp [he]))))
  · exact (periodPhase_begun hst).trans ((if_neg (by rcases he with he | he <;> simp [he])).trans (if_neg hlong))
  · rcases h with h | h <;> simp [h]
  · rcases h with h | ⟨h, he⟩
    · exact (actOverCurrent_busy (by rw [h]; decide)).trans (if_pos (by rw [h]; rfl))
    · exact (actOverCurrent_busy (by rw [h]; decide)).trans (if_pos (by rw [h, he]; rfl))
  · exact (actOverCurrent_busy (by rw [h]; decide)).trans (if_neg (by rw [h, he]; decide))
  · exact (if_pos hp).trans ((vbstSeen_above hv).trans (by rw [hc]; rfl))
  · exact (if_pos hp).trans ((vbstSeen_above hv).trans (by rw [hc]; rfl))
  · exact (if_pos hp).trans (vbstSeen_below hv)
  · simp [hp]
  · simp [hp]

end Sys2Proof.Machine
end

section
/-! Proofs about the press's commands and timers (15_nuc_and_press.md). -/

namespace Sys2Proof.Machine

/-! ### GO and the blind frame (R317, R318) -/

theorem takesWrites_prsGo (n : Fin 4) : TakesWrites (PRS_GOR n.val) 0x0B := takesWrites_of (by revert n; decide)
theorem takesWrites_prsCmd (n : Fin 4) : TakesWrites (PRS_CMD n.val) 0x0B := takesWrites_of (by revert n; decide)

theorem prsGo_rule (o : Origin) (n : Fin 4) (s : State) : writeRule o (PRS_GOR n.val) 1 s =
    { pre := s.goCode n.val, store := false, app := pressGo n.val } := by
  fin_cases n <;> rfl

/-- GO meets a DUE press whose flag has been fired, with no injection on the head's sensors (R235, R317). -/
theorem goFit_iff (n : Nat) (s : State) : (!((s.pressOf n).st == .due && (s.pressOf n).fired) || s.injected n || s.injected (4 + n)) = false ↔
    ((s.pressOf n).st = .due ∧ (s.pressOf n).fired = true ∧ s.injected n = false ∧ s.injected (4 + n) = false) := by
  simp [and_assoc]

theorem chooseBlind_some {n c : Nat} {go sun : Bool} {s : State} {f : Frame} (h : ((s.ctx c).frames.reverse.find? fun g => !g.begun) = some f) :
    chooseBlind n c go sun s = dnrPressStart c f.fn true (onFrame c f.fn (fun g => { g with press := true, sun := sun })
      (onPress n (fun p => { p with active := true, waitBlind := false, blind := 1 }) s)) := by
  rw [chooseBlind, h]

theorem chooseBlind_none {n c : Nat} {go sun : Bool} {s : State} (h : ((s.ctx c).frames.reverse.find? fun g => !g.begun) = none) :
    let x := onPress n (fun p => { p with waitBlind := true, blind := 0, goLate := go }) s
    chooseBlind n c go sun s = if go = true then x.count (PRS_CNT n) 7 0 else x := by
  rw [chooseBlind, h]

/-! ### PRS_CMDn (R313, R316, R326, R328) -/

theorem capture_rule (o : Origin) (n : Fin 4) (s : State) : writeRule o (PRS_CMD n.val) (word (at_ 1 28)) s =
    { pre := chk (isVat o || !s.flag (PRS_CFG n.val) 31 || (s.head n.val).obs != .streaming ||
        ((s.pressOf n.val).st != .idle && (s.pressOf n.val).st != .due)) .eState
      store := false, app := fun t => startOp 2 n.val (onPress n.val (fun p => { p with cmd := true }) t) } := by
  fin_cases n <;> rfl

theorem cancel_rule (o : Origin) (n : Fin 4) (s : State) : writeRule o (PRS_CMD n.val) (word (at_ 2 28)) s =
    { pre := chk ((s.pressOf n.val).st != .due) .eState, store := false, app := dueWithdrawn n.val } := by
  fin_cases n <;> rfl

theorem sunRel_rule (o : Origin) (n : Fin 4) (s : State) : writeRule o (PRS_CMD n.val) (word (at_ 3 28)) s =
    { pre := chk ((s.pressOf n.val).st != .sun) .eState, store := false, app := sunWaitEnds n.val } := by
  fin_cases n <;> rfl

theorem forget_rule (o : Origin) (n : Fin 4) (s : State) : writeRule o (PRS_CMD n.val) (word (at_ 4 28)) s =
    { store := false, app := pressForget n.val } := by
  fin_cases n <;> rfl

theorem legal_prsCmd : ∀ n : Fin 4, legal (PRS_CMD n.val) (word (at_ 1 28)) = true ∧ legal (PRS_CMD n.val) (word (at_ 2 28)) = true ∧
    legal (PRS_CMD n.val) (word (at_ 3 28)) = true ∧ legal (PRS_CMD n.val) (word (at_ 4 28)) = true := by decide

theorem legal_prsGo : ∀ n : Fin 4, legal (PRS_GOR n.val) 1 = true := by decide

/-- A press command that E_STATE alone turns away. -/
theorem prsCmd_takes {o : Origin} {n : Fin 4} {v : Word} {s x : State} {b : Bool} {w : WriteRule} (ho : Open o 0x0B s)
    (hf : legal (PRS_CMD n.val) v = true) (hw : writeRule o (PRS_CMD n.val) v s = w) (hpre : w.pre = chk b .eState) (hbad : w.bad = false)
    (hpost : w.post = .ok) (hs : w.store = false) (hrej : w.rej s = s) (happ : w.app s = x) :
    (b = false → done (regWrite o (PRS_CMD n.val) v s) = .next (wrote o s x)) ∧
    (b = true → done (regWrite o (PRS_CMD n.val) v s) = .next (turnedAway o .eState s)) := by
  refine ⟨fun hb => ?_, fun hb => ?_⟩
  · exact write_acts (takesWrites_prsCmd n) ho (fits_of_legal hf) (by rw [hw, hpre, hb]; rfl) (by rw [hw, hbad]) (by rw [hw, hpost])
      (by rw [hw, hs, ← happ]; rfl)
  · exact write_pre o _ 0x0B v s .eState w (takesWrites_prsCmd n) ho hw (by rw [hpre, hb]; rfl) (by decide) hrej

theorem dueWithdrawn_due {n : Nat} {s : State} (h : (s.pressOf n).st = .due) :
    dueWithdrawn n s = onPress n (fun p => { p with st := .idle, fired := false }) s := if_pos h

/-- CAPTURE may start: criteria enabled, head streaming, no press under way (R328). -/
theorem captureFit_iff (n : Nat) (s : State) : (!s.flag (PRS_CFG n) 31 || (s.head n).obs != .streaming ||
      ((s.pressOf n).st != .idle && (s.pressOf n).st != .due)) = false ↔
    (s.flag (PRS_CFG n) 31 = true ∧ (s.head n).obs = .streaming ∧ ((s.pressOf n).st = .idle ∨ (s.pressOf n).st = .due)) := by
  simp [and_assoc, Classical.or_iff_not_imp_left]

/-! ### The SUN wait (R313) -/

section Sun
variable {n : Nat} {s : State}

theorem sunWaits_iff : ((s.pressOf n).st = .sun ∧ !(s.pressOf n).openDue ∧ !(s.pressOf n).openFired) ↔
    ((s.pressOf n).st = .sun ∧ (s.pressOf n).openDue = false ∧ (s.pressOf n).openFired = false) := by
  simp

theorem sunWaitEnds_waiting (h : (s.pressOf n).st = .sun ∧ (s.pressOf n).openDue = false ∧ (s.pressOf n).openFired = false) :
    sunWaitEnds n s = sunOpen n s := if_pos (sunWaits_iff.mpr h)

theorem sunWaitEnds_else (h : ¬ ((s.pressOf n).st = .sun ∧ (s.pressOf n).openDue = false ∧ (s.pressOf n).openFired = false)) :
    sunWaitEnds n s = s := if_neg (mt sunWaits_iff.mp h)

theorem sunOpen_away (h : (s.fireCode (s.fld (PRS_CFG n) 29 28) (s.fld (PRS_CFG n) 22 18)).1 ≠ .ok) :
    sunOpen n s = onPress n (fun p => { p with openDue := true }) (if (s.fireCode (s.fld (PRS_CFG n) 29 28) (s.fld (PRS_CFG n) 22 18)).2
      then fireRefused (s.fld (PRS_CFG n) 29 28) (s.fld (PRS_CFG n) 22 18) s else s) := if_neg h

end Sun

/-! ### The time limit of a capture on command (R328) -/

theorem captureTimeout_other {s : State} (h : ∀ op, s.cp.op = some op → op.id ≠ 2) : captureTimeout s = s := by
  rw [captureTimeout.eq_def]
  cases ho : s.cp.op with
  | none => rfl
  | some op => exact if_neg (h op ho)

theorem captureTimeout_running {s : State} {op : LongOp} (ho : s.cp.op = some op) (hid : op.id = 2) : captureTimeout s =
    endOp .eState (onPress op.arg (fun p => { p with cmd := false })
      (if (s.pressOf op.arg).st = .due ∧ (s.pressOf op.arg).reason = 4 then dueWithdrawn op.arg s else s)) := by
  rw [captureTimeout, ho]
  exact if_pos hid

/-- Settles O45: each command by the state of the press; a GO under injection and a FIRE still pending are log entry 35. -/
theorem pressCommands : Obligations.PressCommands := by
  refine ⟨fun o n s ho => ⟨fun h => ?_, fun h => ?_⟩, fun n c s hc => ?_, fun n c go sun s => ⟨fun f hf => chooseBlind_some hf, chooseBlind_none⟩,
    fun o n s ho => ?_, fun s n hl => done_after (if_pos hl), fun s n hl => done_neg (by rw [hl]; exact Bool.false_ne_true),
    fun s n => ⟨sunWaitEnds_else, fun hw hc => ?_, fun hw hc hb => ?_, fun hw hc => ?_⟩,
    fun n s ho => ⟨fun h => ?_, fun h => ?_⟩, fun t n s ho => ?_,
    fun s => ⟨fun hl => done_neg (by rw [hl]; exact Bool.false_ne_true), fun hl h => done_after ?_, fun op hl hop hid => ⟨fun h => done_after ?_, fun h => done_after ?_⟩⟩⟩
  · refine write_acts (takesWrites_prsGo n) ho (fits_of_legal (legal_prsGo n)) ?_ ?_ ?_ ?_ <;> rw [prsGo_rule]
    · rw [State.goCode, (goFit_iff n.val s).mpr h]
      rfl
    · simp only [Bool.false_eq_true, if_false]
  · refine write_pre o (PRS_GOR n.val) 0x0B 1 s .eState _ (takesWrites_prsGo n) ho (prsGo_rule o n s) ?_ (by decide) rfl
    rw [State.goCode, (Bool.not_eq_false _).mp (mt (goFit_iff n.val s).mp h)]
    rfl
  · rw [pressGo, hc]
    dsimp only
    cases s.pressBlocked n <;> rfl
  · obtain ⟨-, legalCancel, legalRel, legalForget⟩ := legal_prsCmd n
    obtain ⟨cancel, notCancel⟩ := prsCmd_takes ho legalCancel (cancel_rule o n s) rfl rfl rfl rfl rfl rfl
    obtain ⟨rel, notRel⟩ := prsCmd_takes ho legalRel (sunRel_rule o n s) rfl rfl rfl rfl rfl rfl
    obtain ⟨forget, -⟩ := prsCmd_takes (b := false) ho legalForget (forget_rule o n s) rfl rfl rfl rfl rfl rfl
    refine ⟨fun h => ?_, fun h => notCancel (bne_iff_ne.mpr h), fun h => rel (bne_eq_false_iff_eq.mpr h), fun h => notRel (bne_iff_ne.mpr h), forget rfl⟩
    rw [← dueWithdrawn_due h]
    exact cancel (bne_eq_false_iff_eq.mpr h)
  · exact (sunWaitEnds_waiting hw).trans (if_pos hc)
  · rw [sunWaitEnds_waiting hw, sunOpen_away hc, hb]
    rfl
  · have h1 : (s.fireCode (s.fld (PRS_CFG n) 29 28) (s.fld (PRS_CFG n) 22 18)).1 ≠ .ok := by rw [hc]; decide
    rw [sunWaitEnds_waiting hw, sunOpen_away h1, hc]
    rfl
  · have hb := (captureFit_iff n.val s).mpr h
    refine (prsCmd_takes (b := false) ho (legal_prsCmd n).1 (capture_rule .host n s) ?_ rfl rfl rfl rfl rfl).1 rfl
    rw [← hb]
    rfl
  · have hb := (Bool.not_eq_false _).mp (mt (captureFit_iff n.val s).mp h)
    refine (prsCmd_takes (b := true) ho (legal_prsCmd n).1 (capture_rule .host n s) ?_ rfl rfl rfl rfl rfl).2 rfl
    rw [← hb]
    rfl
  · exact (prsCmd_takes (b := true) ho (legal_prsCmd n).1 (capture_rule (.vat t) n s) rfl rfl rfl rfl rfl rfl).2 rfl
  · rw [if_pos hl, captureTimeout_other h]
  · rw [if_pos hl, captureTimeout_running hop hid, if_pos h, dueWithdrawn_due h.1]
  · rw [if_pos hl, captureTimeout_running hop hid, if_neg h]

end Sys2Proof.Machine
end

section
/-! Proofs about rendering, output ports, the encoder and the analysis (16_render_colour_fusion.md to 18_analysis_tracks.md). -/

namespace Sys2Proof.Machine

/-! ### Words with an EN bit -/

theorem bit_withEn (en : Bool) (v : Word) : bit (withEn en v) 31 = en := by
  have hv := v.isLt
  rw [bit, withEn, putBits, word, BitVec.toNat_ofNat, bits]
  cases en <;> simp [b2n] <;> omega

/-! ### Grids (R350) -/

theorem takesWrites_rndWpub : TakesWrites RND_WPUBR 0x0C := takesWrites_of (by decide)

theorem rndWpub_rule (o : Origin) (v : Word) (s : State) : writeRule o RND_WPUBR v s =
    { pre := chk ((bit v 0 && nth false s.rnd.pubPend 0) || (bit v 1 && nth false s.rnd.pubPend 1)) .eState, store := false
      app := fun t => gridsIdle { t with rnd := { t.rnd with
        pubPend := [nth false t.rnd.pubPend 0 || bit v 0, nth false t.rnd.pubPend 1 || bit v 1] } } } := rfl

theorem pubAgain_iff (v : Word) (s : State) :
    ((bit v 0 && nth false s.rnd.pubPend 0) || (bit v 1 && nth false s.rnd.pubPend 1)) = true ↔
    (bit v 0 = true ∧ nth false s.rnd.pubPend 0 = true ∨ bit v 1 = true ∧ nth false s.rnd.pubPend 1 = true) := by
  rw [Bool.or_eq_true, Bool.and_eq_true, Bool.and_eq_true]

/-! ### Ports (R352, R361) -/

theorem takesWrites_outCtl (p : Fin 8) : TakesWrites (OUT_CTL p.val) 0x0D := takesWrites_of (by revert p; decide)

theorem outCtl_rule (o : Origin) (p : Fin 8) (v : Word) (s : State) : writeRule o (OUT_CTL p.val) v s =
    { pre := s.portCtlCode p.val v, app := if bit v 31 then enablePort p.val else disablePort p.val } := by
  fin_cases p <;> rfl

theorem outCtl_away {o : Origin} {p : Fin 8} {v : Word} {s : State} (ho : Open o 0x0D s) (h : s.portCtlCode p.val v ≠ .ok) :
    done (regWrite o (OUT_CTL p.val) v s) = .next (turnedAway o (s.portCtlCode p.val v) s) :=
  write_pre o (OUT_CTL p.val) 0x0D v s _ _ (takesWrites_outCtl p) ho (outCtl_rule o p v s) rfl h rfl

theorem outCtl_ok {o : Origin} {p : Fin 8} {v : Word} {s : State} (ho : Open o 0x0D s) (h : s.portCtlCode p.val v = .ok)
    (hf : Fits (OUT_CTL p.val) v) : done (regWrite o (OUT_CTL p.val) v s) = .next (wrote o s
      ((if bit v 31 then enablePort p.val else disablePort p.val) (s.setReg (OUT_CTL p.val) (s.written (OUT_CTL p.val) v)))) := by
  refine write_acts (takesWrites_outCtl p) ho hf ?_ ?_ ?_ ?_ <;> rw [outCtl_rule]
  · exact h
  · simp only [if_true]

/-! ### Encoders (R365, R367, R374) -/

theorem takesWrites_encCmd (e : Fin 16) : TakesWrites (ENC_CMD e.val) 0x0E := takesWrites_of (by revert e; decide)
theorem takesWrites_encRc (e : Fin 16) : TakesWrites (ENC_RC e.val) 0x0E := takesWrites_of (by revert e; decide)

theorem legal_encCmd : ∀ e : Fin 16, legal (ENC_CMD e.val) 1 = true ∧ legal (ENC_CMD e.val) 2 = true := by decide

theorem idr_rule (o : Origin) (e : Fin 16) (s : State) : writeRule o (ENC_CMD e.val) 1 s =
    { store := false, app := onEnc e.val (fun x => { x with idrReq := true }) } := by
  have hreq (x : EncChan) : { x with snap := x.snap || false, idrReq := x.idrReq || true } = { x with idrReq := true } := by
    rw [Bool.or_false, Bool.or_true]
  have hrule : writeRule o (ENC_CMD e.val) 1 s =
      { store := false, app := onEnc e.val (fun x => { x with snap := x.snap || false, idrReq := x.idrReq || true }) } := by
    fin_cases e <;> rfl
  rw [hrule]
  simp only [hreq]

theorem snap_rule (o : Origin) (e : Fin 16) (s : State) : writeRule o (ENC_CMD e.val) 2 s =
    { pre := chk (s.codec e.val != 3) .eState, store := false, app := onEnc e.val (fun x => { x with snap := true }) } := by
  have hreq (x : EncChan) : { x with snap := x.snap || true, idrReq := x.idrReq || false } = { x with snap := true } := by
    rw [Bool.or_false, Bool.or_true]
  have hrule : writeRule o (ENC_CMD e.val) 2 s =
      { pre := chk (s.codec e.val != 3) .eState, store := false
        app := onEnc e.val (fun x => { x with snap := x.snap || true, idrReq := x.idrReq || false }) } := by
    fin_cases e <;> rfl
  rw [hrule]
  simp only [hreq]

theorem encRc_rule (o : Origin) (e : Fin 16) (v : Word) (s : State) : writeRule o (ENC_RC e.val) v s =
    { bad := s.codec e.val != 3 && bits v 31 24 == 0
      app := fun t => if bits v 31 24 != s.decim e.val then onEnc e.val (fun x => { x with count := 0 }) t else t } := by
  fin_cases e <;> rfl

/-- DECIM 0 is for snapshot encoders only (R365). -/
theorem decimOk {e : Nat} {v : Word} {s : State} (h : s.codec e = 3 ∨ bits v 31 24 ≠ 0) : (s.codec e != 3 && bits v 31 24 == 0) = false := by
  rcases h with h | h <;> simp [h]

theorem encRc_ok {o : Origin} {e : Fin 16} {v : Word} {s : State} (ho : Open o 0x0E s) (h : s.codec e.val = 3 ∨ bits v 31 24 ≠ 0)
    (hf : Fits (ENC_RC e.val) v) : exec (.encRcWrite o e v) s = .next (wrote o s (if bits v 31 24 != s.decim e.val then
      onEnc e.val (fun x => { x with count := 0 }) (s.setReg (ENC_RC e.val) (s.written (ENC_RC e.val) v))
      else s.setReg (ENC_RC e.val) (s.written (ENC_RC e.val) v))) := by
  refine write_acts (takesWrites_encRc e) ho hf ?_ ?_ ?_ ?_ <;> rw [encRc_rule]
  · exact decimOk h
  · simp only [if_true]

/-! ### A coded stripe (R368, R373) -/

section Stripe
variable {s : State} {len : Nat} {nals : List Nat}

theorem serves_false (h : s.live = false ∨ s.tbl.suspended = true) : s.serves = false := by
  rw [State.serves]
  rcases h with h | h <;> simp [h]

theorem serves_true (hl : s.live = true) (hs : s.tbl.suspended = false) : s.serves = true := by
  rw [State.serves, hl, hs]
  rfl

theorem stripeDone_none (hs : s.serves = true) (h : (encStripe len nals s).1 = none) :
    stripeDone len nals s = portsDrained (encGo (encStripe len nals s).2) := by
  rw [stripeDone, if_neg (by rw [hs]; decide)]
  dsimp only
  rw [h]

theorem stripeDone_some {e : Nat} {c : Coded} (hs : s.serves = true) (h : (encStripe len nals s).1 = some (e, c)) :
    stripeDone len nals s = portsDrained (encGo (celFrame e c (offerFrame e c (encStripe len nals s).2))) := by
  rw [stripeDone, if_neg (by rw [hs]; decide)]
  dsimp only
  rw [h]

end Stripe

/-- Settles O46: builds, grids, ports and encoders; that a disabled port drops the frames it has not begun is log entry 39. -/
theorem outputsAndEncoderWork : Obligations.OutputsAndEncoderWork := by
  refine ⟨fun s c => ⟨fun hl => done_eq (if_pos hl), fun hl => done_neg (by rw [hl]; exact Bool.false_ne_true)⟩,
    fun o v s ho => ⟨fun h => ?_, fun h hf => ?_⟩, fun o p v s ho => ⟨outCtl_away ho, fun h hf => ?_, outCtl_away ho, fun h hf => ?_⟩,
    fun p s => ⟨fun h => ⟨?_, ?_⟩, fun h => ⟨?_, ?_⟩, fun h => ⟨?_, ?_⟩⟩, fun o e s ho => ⟨?_, fun h => ?_, fun h => ?_⟩,
    fun o e v s ho => ⟨fun h hz => ?_, fun h hf he => ?_, fun h hf he => ?_⟩,
    fun s len nals => ⟨fun h => happens_eq (if_pos (by rw [serves_false h]; rfl)),
      fun hl hs => ⟨fun h => happens_eq (stripeDone_none (serves_true hl hs) h), fun e c h => happens_eq (stripeDone_some (serves_true hl hs) h)⟩⟩⟩
  · exact write_pre o RND_WPUBR 0x0C v s .eState _ takesWrites_rndWpub ho (rndWpub_rule o v s)
      (by rw [(pubAgain_iff v s).mpr h]; rfl) (by decide) rfl
  · refine write_acts takesWrites_rndWpub ho hf ?_ ?_ ?_ ?_ <;> rw [rndWpub_rule]
    · rw [Bool.eq_false_iff.mpr (mt (pubAgain_iff v s).mp h)]
      rfl
    · simp only [Bool.false_eq_true, if_false]
  · refine (outCtl_ok ho h hf).trans ?_
    rw [bit_withEn, if_pos rfl]
  · refine (outCtl_ok ho h hf).trans ?_
    rw [bit_withEn, if_neg Bool.false_ne_true]
  · rw [enablePort, h]
  · rw [disablePort, h]
  · rw [enablePort, h]
  · rw [disablePort, h]
  · rw [enablePort, h]
  · rw [disablePort, h]
  · refine write_acts (takesWrites_encCmd e) ho (fits_of_legal (legal_encCmd e).1) ?_ ?_ ?_ ?_ <;> rw [idr_rule]
    simp only [Bool.false_eq_true, if_false]
  · refine write_acts (takesWrites_encCmd e) ho (fits_of_legal (legal_encCmd e).2) ?_ ?_ ?_ ?_ <;> rw [snap_rule]
    · rw [h]
      rfl
    · simp only [Bool.false_eq_true, if_false]
  · exact write_pre o (ENC_CMD e.val) 0x0E 2 s .eState _ (takesWrites_encCmd e) ho (snap_rule o e s)
      (by rw [bne_iff_ne.mpr h]; rfl) (by decide) rfl
  · exact write_bad o (ENC_RC e.val) 0x0E v s _ (takesWrites_encRc e) ho (encRc_rule o e v s) rfl (by rw [bne_iff_ne.mpr h, hz]; rfl) rfl
  · rw [encRc_ok ho h hf, he, bne_self_eq_false, if_neg Bool.false_ne_true]
  · rw [encRc_ok ho h hf, if_pos (bne_iff_ne.mpr he)]

/-! ### Analysis (R379, R381, R390 to R394, R399) -/

theorem takesWrites_anaCtl (c : Fin 8) : TakesWrites (ANA_CTL c.val) 0x0F := takesWrites_of (by revert c; decide)
theorem takesWrites_anaPub (c : Fin 8) : TakesWrites (ANA_PUB c.val) 0x0F := takesWrites_of (by revert c; decide)

theorem legal_anaPub : ∀ c : Fin 8, legal (ANA_PUB c.val) 1 = true ∧ legal (ANA_PUB c.val) 2 = true := by decide

theorem anaCtl_rule (o : Origin) (c : Fin 8) {v : Word} {en : Bool} (s : State) (hv : bit v 31 = en) : writeRule o (ANA_CTL c.val) v s =
    { app := if en && !s.flag (ANA_CTL c.val) 31 then modelStart c.val 1
        else if !en && s.flag (ANA_CTL c.val) 31 then anaDisable c.val else id } := by
  subst hv
  fin_cases c <;> rfl

theorem anaCtl_ok {o : Origin} {c : Fin 8} {v : Word} {en : Bool} {s : State} (ho : Open o 0x0F s) (hf : Fits (ANA_CTL c.val) v) (hv : bit v 31 = en) :
    done (regWrite o (ANA_CTL c.val) v s) = .next (wrote o s ((if en && !s.flag (ANA_CTL c.val) 31 then modelStart c.val 1
      else if !en && s.flag (ANA_CTL c.val) 31 then anaDisable c.val else id) (s.setReg (ANA_CTL c.val) (s.written (ANA_CTL c.val) v)))) := by
  refine write_acts (takesWrites_anaCtl c) ho hf ?_ ?_ ?_ ?_ <;> rw [anaCtl_rule o c s hv]
  simp only [if_true]

theorem homog_rule (o : Origin) (c : Fin 8) (s : State) : writeRule o (ANA_PUB c.val) 1 s =
    { pre := chk (s.anaOf c.val).hpend .eState, store := false, app := onAna c.val (fun x => { x with hpend := true }) } := by
  have hreq (x : Ana) : { x with hpend := x.hpend || true, zpend := x.zpend || false } = { x with hpend := true } := by
    rw [Bool.or_false, Bool.or_true]
  have hrule : writeRule o (ANA_PUB c.val) 1 s =
      { pre := chk ((true && (s.anaOf c.val).hpend) || (false && (s.anaOf c.val).zpend)) .eState, store := false
        app := onAna c.val (fun x => { x with hpend := x.hpend || true, zpend := x.zpend || false }) } := by
    fin_cases c <;> rfl
  rw [hrule, Bool.true_and, Bool.false_and, Bool.or_false]
  simp only [hreq]

theorem zones_rule (o : Origin) (c : Fin 8) (s : State) : writeRule o (ANA_PUB c.val) 2 s =
    { pre := chk (s.anaOf c.val).zpend .eState, store := false, app := onAna c.val (fun x => { x with zpend := true }) } := by
  have hreq (x : Ana) : { x with hpend := x.hpend || false, zpend := x.zpend || true } = { x with zpend := true } := by
    rw [Bool.or_false, Bool.or_true]
  have hrule : writeRule o (ANA_PUB c.val) 2 s =
      { pre := chk ((false && (s.anaOf c.val).hpend) || (true && (s.anaOf c.val).zpend)) .eState, store := false
        app := onAna c.val (fun x => { x with hpend := x.hpend || false, zpend := x.zpend || true }) } := by
    fin_cases c <;> rfl
  rw [hrule, Bool.true_and, Bool.false_and, Bool.false_or]
  simp only [hreq]

/-- ANA_CnPUB: E_STATE while the publish is pending already. -/
theorem anaPub_takes {o : Origin} {c : Fin 8} {v : Word} {s : State} {b : Bool} {f : Ana → Ana} (ho : Open o 0x0F s)
    (hf : legal (ANA_PUB c.val) v = true) (hw : writeRule o (ANA_PUB c.val) v s = { pre := chk b .eState, store := false, app := onAna c.val f }) :
    (b = false → done (regWrite o (ANA_PUB c.val) v s) = .next (wrote o s (onAna c.val f s))) ∧
    (b = true → done (regWrite o (ANA_PUB c.val) v s) = .next (turnedAway o .eState s)) := by
  refine ⟨fun hb => write_acts (takesWrites_anaPub c) ho (fits_of_legal hf) ?_ ?_ ?_ ?_, fun hb => ?_⟩
  · rw [hw, hb]
    rfl
  · rw [hw]
  · rw [hw]
  · rw [hw]
    rfl
  · exact write_pre o (ANA_PUB c.val) 0x0F v s .eState _ (takesWrites_anaPub c) ho hw (by rw [hb]; rfl) (by decide) rfl

/-! ### A result of the frame in analysis -/

/-- What every result does first: it is noted and counted. -/
def anaNoted (c : Nat) (j : AnaJob) (s : State) : State := (onAna c (fun a => a.resulted j) s).count (ANA_CNT c) 31 16

/-- Too many frames lie between the last analysed frame and this one (R391). -/
def anaGap (c : Nat) (j : AnaJob) (a : Ana) : Prop :=
  ∃ f, a.lastFn = some f ∧ j.synth = false ∧ bits (j.cw (ANA_ABS c)) 7 0 < fnAhead f j.fn

/-- What a result does in RUN. -/
def anaJudged (c : Nat) (j : AnaJob) (y : State) : State :=
  onAna c (fun a => { a with lastFn := some j.fn }) (zonesResult c j (if j.synth = true then holdoverResult c j y else detectResult c j y))

section Result
variable {s : State} {c : Nat} {j : AnaJob}

theorem anaResult_none (h : (s.anaOf c).job = none) : anaResult c s = s := by rw [anaResult, h]

theorem anaResult_off (hj : (s.anaOf c).job = some j) (h : ((anaNoted c j s).anaOf c).st = .off) : anaResult c s = anaNoted c j s := by
  rw [anaResult, hj]
  exact if_pos h

theorem anaResult_learning (hj : (s.anaOf c).job = some j) (h : ((anaNoted c j s).anaOf c).st = .learning) : anaResult c s =
    if j.synth then onAna c (fun a => { a with lastFn := some j.fn }) (anaNoted c j s)
    else onAna c (fun b => { b with
      model := learnModel (!((anaNoted c j s).anaOf c).started) (bits (j.cw (ANA_BG c)) 15 8) j ((anaNoted c j s).anaOf c).model
      started := true, left := b.left - 1, st := if b.left ≤ 1 then .run else .learning, lastFn := some j.fn }) (anaNoted c j s) := by
  rw [anaResult, hj]
  exact (if_neg (ne_of_eq_of_ne h (by decide))).trans (if_pos h)

theorem anaResult_far (hj : (s.anaOf c).job = some j) (h : ((anaNoted c j s).anaOf c).st = .run) (hg : anaGap c j ((anaNoted c j s).anaOf c)) :
    anaResult c s = anaJudged c j (onAna c (fun a => { a with slots := List.replicate 64 none })
      (mapSlots c (fun _ t s => (none, endTrack c 3 t s)) (anaNoted c j s))) := by
  obtain ⟨f, hf, hsyn, hlt⟩ := hg
  rw [anaResult, hj]
  refine (if_neg (ne_of_eq_of_ne h (by decide))).trans ((if_neg (ne_of_eq_of_ne h (by decide))).trans ?_)
  dsimp only
  rw [show ((((onAna c (fun a => a.resulted j) s).count (ANA_CNT c) 31 16).anaOf c).lastFn = some f) from hf]
  dsimp only
  have hyes : (!j.synth && decide (bits (j.cw (ANA_ABS c)) 7 0 < fnAhead f j.fn)) = true := by rw [hsyn, decide_eq_true hlt]; rfl
  rw [if_pos hyes]
  rfl

theorem anaResult_near (hj : (s.anaOf c).job = some j) (h : ((anaNoted c j s).anaOf c).st = .run) (hg : ¬ anaGap c j ((anaNoted c j s).anaOf c)) :
    anaResult c s = anaJudged c j (anaNoted c j s) := by
  rw [anaResult, hj]
  refine (if_neg (ne_of_eq_of_ne h (by decide))).trans ((if_neg (ne_of_eq_of_ne h (by decide))).trans ?_)
  dsimp only
  cases hf : (((onAna c (fun a => a.resulted j) s).count (ANA_CNT c) 31 16).anaOf c).lastFn with
  | none => rfl
  | some f =>
    have hno : ¬ ((!j.synth && decide (bits (j.cw (ANA_ABS c)) 7 0 < fnAhead f j.fn)) = true) := fun hc => by
      obtain ⟨hsyn, hlt⟩ := Bool.and_eq_true_iff.mp hc
      exact hg ⟨f, hf, by simpa using hsyn, of_decide_eq_true hlt⟩
    dsimp only
    rw [if_neg hno]
    rfl

end Result

/-- Settles O47: registers and results of the analysis; that disabling forgets the feeding port is log entry 37. -/
theorem analysisWorks : Obligations.AnalysisWorks := by
  refine ⟨fun s c => ⟨fun hl hs => done_eq (if_pos (serves_true hl hs)), fun h => done_neg (by rw [serves_false h]; decide)⟩,
    fun s c => anaResult_none, fun s c j hj => ⟨anaResult_off hj, fun hst hsyn => ?_, fun hst hsyn => ?_, anaResult_near hj, anaResult_far hj⟩,
    fun o c v s ho => ⟨fun hf => ?_, fun hf => ?_⟩, fun c s => if_neg (fun h => h.2 rfl), fun o c s ho => ?_⟩
  · rw [anaResult_learning hj hst, if_pos hsyn]
    rfl
  · rw [anaResult_learning hj hst, if_neg (by rw [hsyn]; decide)]
    rfl
  · refine (anaCtl_ok ho hf (bit_withEn true v)).trans ?_
    cases s.flag (ANA_CTL c.val) 31 <;> rfl
  · refine (anaCtl_ok ho hf (bit_withEn false v)).trans ?_
    cases s.flag (ANA_CTL c.val) 31 <;> rfl
  · obtain ⟨homog, notHomog⟩ := anaPub_takes ho (legal_anaPub c).1 (homog_rule o c s)
    obtain ⟨zones, notZones⟩ := anaPub_takes ho (legal_anaPub c).2 (zones_rule o c s)
    exact ⟨homog, notHomog, zones, notZones⟩

end Sys2Proof.Machine
end

section
/-! Proofs about the heat model (19_heat_model.md). -/

namespace Sys2Proof.Machine

/-! ### Updates (R401 to R408) -/

section Update
variable {s : State} {raw : Int}

theorem heatUpdate_start (h : s.start.phase = .start) : heatUpdate raw s = if 3 < s.start.step then diodeFresh s else s :=
  if_pos (beq_iff_eq.mpr h)

theorem heatUpdate_started (h : s.start.phase ≠ .start) : heatUpdate raw s =
    (if !s.live then s
     else if s.heat.fresh then freshDiode raw s
     else
       let y := judgeDisagreement (diodeFollow (advance (if s.heat.fast then 1 else 10) (heatFollow s)))
       judgeFast (judgeAsk (judgeWarn (heatFollow (raiseIf (y.heat.dis && !s.heat.dis) 0x029 (toBits 16 (y.heat.nodeCk 4 - y.heat.td.getD 0)) y))))) :=
  if_neg fun hb => h (beq_iff_eq.mp hb)

end Update

/-! ### WARN and ASK (R407, R408) -/

section Judge
variable {s : State}

theorem judgeWarn_clear (hw : s.heat.warn = false) : judgeWarn s =
    if ((s.fld HEAT_TH 31 16 : Nat) : Int) ≤ s.heat.hot.2 then raiseN 0x020 s.heat.hotData (onHeat (fun h => { h with warn := true }) s) else s := by
  rw [judgeWarn]
  simp only [hw, Bool.not_false, Bool.true_and, decide_eq_true_eq, Bool.false_and, Bool.false_eq_true, if_false]

theorem judgeWarn_set (hw : s.heat.warn = true) : judgeWarn s = if s.heat.hot.2 < ((s.fld HEAT_TH 31 16 : Nat) : Int) - s.hyst then
    raiseN 0x021 s.heat.hotData (onHeat (fun h => { h with warn := false }) s) else s := by
  rw [judgeWarn]
  simp only [hw, Bool.not_true, Bool.false_and, Bool.false_eq_true, if_false, Bool.true_and, decide_eq_true_eq]

theorem judgeAsk_clear (ha : s.heat.ask = false) : judgeAsk s =
    if ((s.fld HEAT_TH 15 0 : Nat) : Int) ≤ s.heat.hot.2 ∨ s.heat.broken ≠ 0 then
      raiseN 0x022 (at_ (if s.heat.broken = 0 then 1 else 2) 28 + s.heat.hotData) ((onHeat (fun h => { h with ask := true }) s).count HEAT_CNT 31 16)
    else s := by
  rw [judgeAsk]
  simp only [ha, Bool.not_false, Bool.true_and, Bool.or_eq_true, decide_eq_true_eq, bne_iff_ne, Bool.false_and, Bool.false_eq_true, if_false]

theorem judgeAsk_set (ha : s.heat.ask = true) : judgeAsk s =
    if s.heat.hot.2 < ((s.fld HEAT_TH 15 0 : Nat) : Int) - s.hyst ∧ s.heat.broken = 0 then
      raiseN 0x023 (at_ (bits s.draw.1 31 28) 28 + s.heat.hotData) (onHeat (fun h => { h with ask := false }) s.draw.2)
    else s := by
  rw [judgeAsk]
  simp only [ha, Bool.not_true, Bool.false_and, Bool.false_eq_true, if_false, Bool.true_and, Bool.and_eq_true, decide_eq_true_eq, beq_iff_eq]

end Judge

/-! ### Cut, ambient report and enforcement (R404, R409 to R411) -/

theorem cutNow_none {m : HeatMeas} {s : State} (h : s.cutDecided = none) : cutNow m s = s := by rw [cutNow, h]

theorem takesWrites_heatAmb : TakesWrites HEAT_AMB 0x10 := takesWrites_of (by decide)

theorem heatAmb_rule (o : Origin) (v : Word) (s : State) : writeRule o HEAT_AMB v s =
    { bad := decide (bits v 15 0 < 23315 ∨ 38315 < bits v 15 0)
      app := fun t => heatFollow (onHeat (fun h => { h with ambAt := t.upTicks, ambMore := 0 }) t) } := rfl

theorem ambientStale_running {s : State} (hl : s.live = true) (hh : s.handedOver = true) : ambientStale s = heatFollow
    (onHeat (fun h => { h with ambMore := max h.ambMore (10000 * msTicks + 1 - (s.upTicks - h.ambAt)) }) s) :=
  if_pos (by rw [hl, hh]; rfl)

theorem enforceDue_iff (s : State) : (s.heat.ask && !s.heat.enforced && s.live && s.handedOver) = true ↔
    (s.heat.ask = true ∧ s.heat.enforced = false ∧ s.live = true ∧ s.handedOver = true) := by
  simp [and_assoc]

theorem releaseDue_iff (s : State) : (s.heat.enforced && !s.heat.ask &&
      decide (s.heat.hot.2 < ((s.fld HEAT_TH 31 16 : Nat) : Int) - s.hyst) && s.live) = true ↔
    (s.heat.enforced = true ∧ s.heat.ask = false ∧ s.heat.hot.2 < ((s.fld HEAT_TH 31 16 : Nat) : Int) - s.hyst ∧ s.live = true) := by
  simp [and_assoc]

/-- Settles O48: the update's order, then each threshold by its comparison; the rounding and the cut as one command are
log entry 44, AMBIENT_STALE log entry 2. -/
theorem heatModelWorks : Obligations.HeatModelWorks := by
  refine ⟨fun s m => ⟨fun hm => done_after (if_pos hm), fun hm => done_neg (by rw [hm]; exact Bool.false_ne_true)⟩,
    fun s raw => ⟨heatUpdate_start, fun hp hl => ?_, fun hp hl hf => ?_, fun hp hl hf => ?_⟩, fun s dt => rfl,
    fun s => ⟨fun hw h => (judgeWarn_clear hw).trans (if_pos h), fun hw h => (judgeWarn_clear hw).trans (if_neg (Int.not_le.mpr h)),
      fun hw h => (judgeWarn_set hw).trans (if_pos h), fun hw h => (judgeWarn_set hw).trans (if_neg (Int.not_lt.mpr h))⟩,
    fun s => ⟨fun ha h => (judgeAsk_clear ha).trans (if_pos h),
      fun ha h hb => (judgeAsk_clear ha).trans (if_neg fun hc => hc.elim (Int.not_le.mpr h) (fun hn => hn hb)),
      fun ha h hb => (judgeAsk_set ha).trans (if_pos ⟨h, hb⟩),
      fun ha h => (judgeAsk_set ha).trans (if_neg fun hc => h.elim (fun hle => Int.not_lt.mpr hle hc.1) (fun hn => hn hc.2))⟩,
    fun m s => ⟨cutNow_none, fun t ht => ?_⟩, fun o v s ho => ⟨fun hf h1 h2 => ?_, fun h => ?_⟩,
    fun s => ⟨fun hl hh => happens_eq (ambientStale_running hl hh), fun h => happens_eq (if_neg ?_)⟩,
    fun s => ⟨fun h => happens_eq (if_pos ((enforceDue_iff s).mpr h)), fun h => happens_eq (if_neg (mt (enforceDue_iff s).mp h))⟩,
    fun s => ⟨fun h => happens_eq (if_pos ((releaseDue_iff s).mpr h)), fun h => happens_eq (if_neg (mt (releaseDue_iff s).mp h))⟩⟩
  · exact (heatUpdate_started hp).trans (if_pos (by rw [hl]; rfl))
  · exact (heatUpdate_started hp).trans ((if_neg (not_live_false hl)).trans (if_pos hf))
  · exact (heatUpdate_started hp).trans ((if_neg (not_live_false hl)).trans (if_neg (by rw [hf]; decide)))
  · rw [cutNow, ht]
    exact ⟨rfl, rfl, rfl, rfl, rfl, rfl⟩
  · refine write_acts takesWrites_heatAmb ho hf ?_ ?_ ?_ ?_ <;> rw [heatAmb_rule]
    · exact decide_eq_false (by omega)
    · simp only [if_true]
  · exact write_bad o HEAT_AMB 0x10 v s _ takesWrites_heatAmb ho (heatAmb_rule o v s) rfl (decide_eq_true h) rfl
  · rcases h with h | h <;> simp [h]

end Sys2Proof.Machine
end

section
/-! Proofs about the switch (20_velva_chain.md). -/

namespace Sys2Proof.Machine

/-! ### Frames received by the switch (R421, R431, R434) -/

section Frame
variable {s t : State} {b : List Nat} {d : Bool}

theorem exec_ethernetFrame_none {p : Fin 3} (h : ethernetFrame p.val b d s = (none, t)) : exec (.ethernetFrame p b d) s = .next (after s t) := by
  rw [exec_ethernetFrame, execEthernetFrame]
  exact happens_eq (by rw [h])

theorem exec_ethernetFrame_some {p : Fin 3} {v : VFrame} (h : ethernetFrame p.val b d s = (some v, t)) :
    exec (.ethernetFrame p b d) s = .next (after s (velvaTake p.val v t)) := by
  rw [exec_ethernetFrame, execEthernetFrame]
  exact happens_eq (by rw [h])

theorem isVelva_iff : s.isVelva b = true ↔ (be b 0 6 = velvaMac ∧ (etherType b).2.1 = s.fld VLV_ETYPE 15 0) := by
  rw [State.isVelva, Bool.and_eq_true, beq_iff_eq, beq_iff_eq]

theorem portUp_not {p : Nat} (h : s.portUp p = true) : ¬ (!s.portUp p) = true := by simp [h]

theorem ethernetFrame_down {p : Nat} (h : s.portUp p = false) : ethernetFrame p b d s = (none, s) := if_pos (by rw [h]; rfl)

section Up
variable {p : Nat} (h : s.portUp p = true)
include h

theorem ethernetFrame_damaged : ethernetFrame p b true s = (none, velvaErr p 8 0 (s.count (SW_PRXC p) 31 0)) :=
  (if_neg (portUp_not h)).trans (if_pos rfl)

theorem ethernetFrame_data (hv : s.isVelva b = false) : ethernetFrame p b false s = (none, dataFrame p b (s.count (SW_PRXC p) 31 0)) :=
  (if_neg (portUp_not h)).trans ((if_neg Bool.false_ne_true).trans (if_neg (Bool.eq_false_iff.mp hv)))

variable (hv : s.isVelva b = true)
include hv

theorem ethernetFrame_velva_p2 (hp : p = 2) : ethernetFrame p b false s = (none, s.count (SW_PRXC p) 31 0) :=
  (if_neg (portUp_not h)).trans ((if_neg Bool.false_ne_true).trans ((if_pos hv).trans (if_pos hp)))

theorem ethernetFrame_velva_off (hp : p ≠ 2) (hen : s.vlvEn = false) : ethernetFrame p b false s = (none, dataFrame p b (s.count (SW_PRXC p) 31 0)) :=
  (if_neg (portUp_not h)).trans ((if_neg Bool.false_ne_true).trans ((if_pos hv).trans ((if_neg hp).trans (if_pos (by rw [hen]; rfl)))))

variable (hp : p ≠ 2) (hen : s.vlvEn = true)
include hp hen

theorem ethernetFrame_velva_wrong (hr : s.velvaParse b = .error true) :
    ethernetFrame p b false s = (none, velvaErr p 8 0 (s.count (SW_PRXC p) 31 0)) :=
  (if_neg (portUp_not h)).trans ((if_neg Bool.false_ne_true).trans ((if_pos hv).trans ((if_neg hp).trans
    ((if_neg (by simp [hen])).trans (by rw [hr])))))

theorem ethernetFrame_velva_other (hr : s.velvaParse b = .error false) : ethernetFrame p b false s = (none, s.count (SW_PRXC p) 31 0) :=
  (if_neg (portUp_not h)).trans ((if_neg Bool.false_ne_true).trans ((if_pos hv).trans ((if_neg hp).trans
    ((if_neg (by simp [hen])).trans (by rw [hr])))))

theorem ethernetFrame_velva_ok {v : VFrame} (hr : s.velvaParse b = .ok v) : ethernetFrame p b false s = (some v, s) :=
  (if_neg (portUp_not h)).trans ((if_neg Bool.false_ne_true).trans ((if_pos hv).trans ((if_neg hp).trans
    ((if_neg (by simp [hen])).trans (by rw [hr])))))

end Up
end Frame

/-! ### PTP and the counters (R425, R426, R436) -/

theorem takesWrites_swPtpSetlo : TakesWrites SW_PTP_SETLO 0x11 := takesWrites_of (by decide)
theorem takesWrites_swPtpAdj : TakesWrites SW_PTP_ADJ 0x11 := takesWrites_of (by decide)
theorem takesWrites_swPclr (p : Fin 3) : TakesWrites (SW_PCLR p.val) 0x11 := takesWrites_of (by revert p; decide)

theorem swPtpSetlo_rule (o : Origin) (v : Word) (s : State) : writeRule o SW_PTP_SETLO v s =
    { bad := decide (1000000000 ≤ v.toNat), app := fun t => { t with ptpS := t.fld SW_PTP_SETHI 31 0, ptpNs := v.toNat } } := rfl

theorem swPtpAdj_rule (o : Origin) (v : Word) (s : State) : writeRule o SW_PTP_ADJ v s =
    { app := fun t => setPtp (t.ptp + sbits v 31 0) t } := rfl

theorem swPclr_rule (o : Origin) (p : Fin 3) (s : State) : writeRule o (SW_PCLR p.val) 1 s = { app := clearErr p.val } := by
  fin_cases p <;> rfl

/-! ### Links (R430, R443) -/

/-- A link that is up now: its port, the stamp and event 0x1C0 + p. -/
def linkRaised (p : Nat) (g only : Bool) (x : State) : State :=
  raiseN (0x1C0 + p) (at_ 1 31 + at_ (b2n g) 30)
    (onSwPort p (fun y => { y with link := true, g1000 := g, linkAt := x.upTicks, velvaOnly := only, obsOk := false }) x)

/-- The head that searches by itself notes a link that came up. -/
def searchNoted (y : State) : State := if y.isHead && y.flag VLV_CFG 27 && y.vlvEn then onVlv (fun z => { z with autoRc := true }) y else y

section Link
variable {s : State} {p : Nat} {g : Bool}

theorem swLinkUp_not (h : (s.swPort p).link = true ∨ s.swUp = false) : swLinkUp p g s = s :=
  if_pos (by rcases h with h | h <;> simp [h])

theorem swLinkUp_comes (hl : (s.swPort p).link = false) (hs : s.swUp = true) : swLinkUp p g s =
    (let x := clearErr p s
     let only := decide (p < 2) && x.ringEn && x.role p != 0
     pump p (if only then searchNoted (linkEvt p true (linkRaised p g only x)) else linkRaised p g only x)) :=
  if_neg (by simp [hl, hs])

theorem velvaOnly_iff (x : State) : (decide (p < 2) && x.ringEn && x.role p != 0) = true ↔ (p < 2 ∧ x.ringEn = true ∧ x.role p ≠ 0) := by
  simp [and_assoc]

theorem swLinkUp_full (hl : (s.swPort p).link = false) (hs : s.swUp = true)
    (h : ¬ (p < 2 ∧ (clearErr p s).ringEn = true ∧ (clearErr p s).role p ≠ 0)) : swLinkUp p g s = pump p (linkRaised p g false (clearErr p s)) := by
  rw [swLinkUp_comes hl hs]
  dsimp only
  rw [Bool.eq_false_iff.mpr (mt (velvaOnly_iff _).mp h), if_neg Bool.false_ne_true]

theorem swLinkUp_velvaOnly (hl : (s.swPort p).link = false) (hs : s.swUp = true)
    (h : p < 2 ∧ (clearErr p s).ringEn = true ∧ (clearErr p s).role p ≠ 0) :
    swLinkUp p g s = pump p (searchNoted (linkEvt p true (linkRaised p g true (clearErr p s)))) := by
  rw [swLinkUp_comes hl hs]
  dsimp only
  rw [(velvaOnly_iff _).mpr h, if_pos rfl]

theorem searchNoted_eq (y : State) : searchNoted y =
    if y.isHead = true ∧ y.flag VLV_CFG 27 = true ∧ y.vlvEn = true then onVlv (fun z => { z with autoRc := true }) y else y := by
  simp only [searchNoted, Bool.and_eq_true, and_assoc]

/-- A PHY out of service has no link, and 100 Mbit/s needs leave (Table 20.1). -/
theorem linkRefused_iff : (s.start.phyOff.testBit p || (!g && !s.flag (SW_PCTL p) 26)) = true ↔
    (s.start.phyOff.testBit p = true ∨ (g = false ∧ s.flag (SW_PCTL p) 26 = false)) := by
  rw [Bool.or_eq_true, Bool.and_eq_true, Bool.not_eq_true', Bool.not_eq_true']

theorem exec_swLinkUp_refused {p : Fin 3} (h : s.start.phyOff.testBit p.val = true ∨ (g = false ∧ s.flag (SW_PCTL p.val) 26 = false)) :
    exec (.swLinkUp p g) s = .next (after s s) := by
  rw [exec_swLinkUp, execSwLinkUp]
  exact happens_eq (if_pos (linkRefused_iff.mpr h))

theorem exec_swLinkUp_taken {p : Fin 3} (h : ¬ (s.start.phyOff.testBit p.val = true ∨ (g = false ∧ s.flag (SW_PCTL p.val) 26 = false))) :
    exec (.swLinkUp p g) s = .next (after s (swLinkUp p.val g s)) := by
  rw [exec_swLinkUp, execSwLinkUp]
  exact happens_eq (if_neg (mt linkRefused_iff.mp h))

end Link

/-- Settles O49: frames by their kind, registers by their rule, links by what refuses them; damaged frames and the
link-down event are log entry 49, the refused links log entry 63. -/
theorem switchTimeFramesAndLinks : Obligations.SwitchTimeFramesAndLinks := by
  refine ⟨fun s p b d h => exec_ethernetFrame_none (ethernetFrame_down h), fun s p b h => ?_,
    fun o v s ho => ⟨fun hf hv => ?_, fun hv => ?_, fun hf => ?_⟩,
    fun s => ⟨fun h => happens_eq (if_pos h), fun h => happens_eq (if_neg (Bool.eq_false_iff.mp h)), fun h => if_neg h⟩,
    fun s p g => swLinkUp_not, fun s p g hl hs => ⟨swLinkUp_full hl hs, fun h => (swLinkUp_velvaOnly hl hs h).trans (congrArg _ (searchNoted_eq _))⟩,
    fun s p g => ⟨exec_swLinkUp_refused, exec_swLinkUp_taken⟩,
    fun s p => ⟨fun h => happens_eq (if_pos (by rw [h]; rfl)), fun h => happens_eq (if_neg (by simp [h]))⟩, fun o p s ho => ?_⟩
  · exact ⟨exec_ethernetFrame_none (ethernetFrame_damaged h),
      fun hv => exec_ethernetFrame_none (ethernetFrame_data h (Bool.eq_false_iff.mpr (mt isVelva_iff.mp hv))),
      fun hv hp => exec_ethernetFrame_none (ethernetFrame_velva_p2 h (isVelva_iff.mpr hv) hp),
      fun hv hp he => exec_ethernetFrame_none (ethernetFrame_velva_off h (isVelva_iff.mpr hv) hp he),
      fun hv hp he hr => exec_ethernetFrame_none (ethernetFrame_velva_wrong h (isVelva_iff.mpr hv) hp he hr),
      fun hv hp he hr => exec_ethernetFrame_none (ethernetFrame_velva_other h (isVelva_iff.mpr hv) hp he hr),
      fun v hv hp he hr => exec_ethernetFrame_some (ethernetFrame_velva_ok h (isVelva_iff.mpr hv) hp he hr)⟩
  · refine write_acts takesWrites_swPtpSetlo ho hf ?_ ?_ ?_ ?_ <;> rw [swPtpSetlo_rule]
    · exact decide_eq_false (Nat.not_le.mpr hv)
    · simp only [if_true]
  · exact write_bad o SW_PTP_SETLO 0x11 v s _ takesWrites_swPtpSetlo ho (swPtpSetlo_rule o v s) rfl (decide_eq_true hv) rfl
  · refine write_acts takesWrites_swPtpAdj ho hf ?_ ?_ ?_ ?_ <;> rw [swPtpAdj_rule]
    simp only [if_true]
    rfl
  · refine write_acts (takesWrites_swPclr p) ho (fits_of_legal (by revert p; decide)) ?_ ?_ ?_ ?_ <;> rw [swPclr_rule]
    simp only [if_true]

end Sys2Proof.Machine
end

section
/-! Proofs about the Velva engine: its frames, timers and commands (20_velva_chain.md). -/

namespace Sys2Proof.Machine

/-! ### A frame's arrival (R431 to R436, R452) -/

/-- What every received Velva frame counts first. -/
def velvaCounted (p : Nat) (s : State) : State := velvaErr p (-1) 0 (s.count (SW_PRXC p) 31 0)

/-- A neighbour without a hop between becomes the observed one (R452). -/
def neighbourSeen (p : Nat) (v : VFrame) (x : State) : State :=
  if v.hops = 0 then onSwPort p (fun h => { h with obs := v.origin, obsOk := !h.quar, obsAt := x.upTicks }) x else x

/-- The origin's gossip entry is renewed. -/
def originSeen (v : VFrame) (y : State) : State :=
  onVlv (fun h => { h with table := h.table.map fun g =>
    if g.2.origin = v.origin then (g.1, { g.2 with seen := y.upTicks, silent := false }) else g }) y

section Arrive
variable {s : State} {p : Nat} {v : VFrame}

theorem velvaArrive_down (h : s.portUp p = false) : velvaArrive p v s = (false, s) := if_pos (by rw [h]; rfl)

theorem velvaArrive_noVelva (h : s.portUp p = true) (hv : (velvaCounted p s).vlvPort p = false) :
    velvaArrive p v s = (false, velvaCounted p s) :=
  (if_neg (portUp_not h)).trans (if_pos (by rw [show (velvaErr p (-1) 0 (s.count (SW_PRXC p) 31 0)).vlvPort p = false from hv]; rfl))

/-- What a quarantined port turns away: every type but ALARM, HOP_ACK and PROBE (R436). -/
theorem quarantined_iff (x : State) : ((x.swPort p).quar && !(v.ty == 6 || v.ty == 7 || v.ty == 12)) = false ↔
    ((x.swPort p).quar = false ∨ v.ty = 6 ∨ v.ty = 7 ∨ v.ty = 12) := by
  rw [Bool.and_eq_false_iff, Bool.not_eq_false', Bool.or_eq_true, Bool.or_eq_true, beq_iff_eq, beq_iff_eq, beq_iff_eq, or_assoc]

theorem velvaArrive_dropped (h : s.portUp p = true) (hv : (velvaCounted p s).vlvPort p = true)
    (hq : ¬ (((velvaCounted p s).swPort p).quar = false ∨ v.ty = 6 ∨ v.ty = 7 ∨ v.ty = 12)) :
    velvaArrive p v s = (false, (velvaCounted p s).count (SW_PDROP p) 15 0) :=
  (if_neg (portUp_not h)).trans ((if_neg (by rw [show (velvaErr p (-1) 0 (s.count (SW_PRXC p) 31 0)).vlvPort p = true from hv]; decide)).trans
    (if_pos ((Bool.not_eq_false _).mp (mt (quarantined_iff _).mp hq))))

theorem velvaArrive_accepted (h : s.portUp p = true) (hv : (velvaCounted p s).vlvPort p = true)
    (hq : ((velvaCounted p s).swPort p).quar = false ∨ v.ty = 6 ∨ v.ty = 7 ∨ v.ty = 12) :
    velvaArrive p v s = (true, originSeen v (neighbourSeen p v (velvaCounted p s))) :=
  (if_neg (portUp_not h)).trans ((if_neg (by rw [show (velvaErr p (-1) 0 (s.count (SW_PRXC p) 31 0)).vlvPort p = true from hv]; decide)).trans
    (if_neg (Bool.eq_false_iff.mp ((quarantined_iff _).mpr hq))))

theorem velvaTake_refused {t : State} (h : velvaArrive p v s = (false, t)) : velvaTake p v s = t := by
  rw [velvaTake, h]
  rfl

end Arrive

/-- Settles O50: the receive counter, the port, then the type; that a Velva frame goes no further on a port without Velva is
log entry 60. -/
theorem velvaFramesAreTaken : Obligations.VelvaFramesAreTaken := by
  refine ⟨fun s p v => ⟨rfl, rfl, rfl, rfl, rfl, rfl, rfl, rfl, rfl, rfl, rfl, rfl⟩, fun s p v h => velvaTake_refused (velvaArrive_down h), fun s p v x hx h => ?_⟩
  subst hx
  refine ⟨fun hv => velvaTake_refused (velvaArrive_noVelva h hv), fun hv hq h6 h7 h12 => velvaTake_refused (velvaArrive_dropped h hv ?_),
    fun hv hq => ⟨_, _, rfl, rfl, ?_⟩⟩
  · rintro (hn | hn | hn | hn)
    · exact Bool.false_ne_true (hn.symm.trans hq)
    · exact h6 hn
    · exact h7 hn
    · exact h12 hn
  · have harr := velvaArrive_accepted h hv hq
    obtain ⟨ty, flags, origin, hops, ohop, seq, pl⟩ := v
    rw [velvaTake, harr]
    match ty with
    | 0 => rfl
    | 1 => rfl
    | 2 => rfl
    | 3 => rfl
    | 4 => rfl
    | 5 => rfl
    | 6 => rfl
    | 7 => rfl
    | 8 => rfl
    | 9 => rfl
    | 10 => rfl
    | 11 => rfl
    | 12 => rfl
    | n + 13 => rfl

/-! ### Timers (R433 to R437, R443, R446 to R452) -/

section Timer
variable {s : State} {k : Nat}

theorem attemptTimeout_none (h : s.vlv.attempts[k]? = none) : attemptTimeout k s = s := by rw [attemptTimeout, h]

theorem attemptTimeout_some {a : Attempt} (h : s.vlv.attempts[k]? = some a) : attemptTimeout k s =
    if a.made < a.max then
      vSend a.port a.frame (onVlv (fun y => { y with attempts := y.attempts.set k { a with made := a.made + 1 } }) (velvaErr a.port 0 8 s))
    else attemptFails a (onVlv (fun y => { y with attempts := y.attempts.eraseIdx k }) (velvaErr a.port 0 8 s)) := by
  rw [attemptTimeout, h]

theorem alarmResend_none (h : s.vlv.resends[k]? = none) : alarmResend k s = s := by rw [alarmResend, h]

theorem alarmResend_some {p n : Nat} {v : VFrame} (h : s.vlv.resends[k]? = some (p, v, n)) : alarmResend k s =
    vSend p v (onVlv (fun y => { y with resends := if 2 ≤ n then y.resends.eraseIdx k else y.resends.set k (p, v, n + 1) }) s) := by
  rw [alarmResend, h]

/-- The gossip entry of a unit gone silent is noted as silent, before a disagreement of kind 3 is judged (R451). -/
def silentNoted (kind k : Nat) (s : State) : State :=
  if kind = 3 then onVlv (fun x => { x with table := x.table.map fun g => if g.1 = k then (k, { g.2 with silent := true }) else g }) s else s

theorem velvaDisagree_not {kind : Nat} (h : ¬ ((silentNoted kind k s).disagrees kind k = true ∧
    (silentNoted kind k s).vlv.reported.contains (kind, k) = false)) : velvaDisagree kind k s = silentNoted kind k s := by
  refine if_neg fun hc => h ?_
  obtain ⟨hd, hr⟩ := Bool.and_eq_true_iff.mp hc
  exact ⟨hd, (Bool.not_eq_true' _).mp hr⟩

theorem velvaDisagree_raised {kind : Nat} (h : (silentNoted kind k s).disagrees kind k = true ∧
    (silentNoted kind k s).vlv.reported.contains (kind, k) = false) : ∃ d : Word, velvaDisagree kind k s =
      raise 0x1D3 d (onVlv (fun y => { y with reported := y.reported ++ [(kind, k)] }) (silentNoted kind k s)) := by
  obtain ⟨hd, hr⟩ := h
  refine ⟨_, if_pos ?_⟩
  change ((silentNoted kind k s).disagrees kind k && !(silentNoted kind k s).vlv.reported.contains (kind, k)) = true
  rw [hd, hr]
  rfl

theorem searchMay_iff : (s.isHead && s.vlvEn && !s.vlv.rcBusy) = true ↔ (s.isHead = true ∧ s.vlvEn = true ∧ s.vlv.rcBusy = false) := by
  simp [and_assoc]

end Timer

/-- An event that acts while the switch runs. -/
theorem happens_swUp {s x : State} {f : State → State} (h : s.swUp = true) (hf : f s = x) :
    happens (fun s => if s.swUp then f s else s) s = .next (after s x) := happens_eq ((if_pos h).trans hf)

theorem happens_swDown {s : State} {f : State → State} (h : s.swUp = false ∨ f s = s) :
    happens (fun s => if s.swUp then f s else s) s = .next (after s s) := by
  refine happens_eq ?_
  by_cases hs : s.swUp = true
  · exact (if_pos hs).trans (h.resolve_left (by simp [hs]))
  · exact if_neg hs

/-- Settles O51: each timer by its condition; the observation cleared with the neighbour is log entry 63, the search
withdrawn and the BEACON's port log entry 64. -/
theorem velvaTimersAct : Obligations.VelvaTimersAct := by
  refine ⟨fun s k h => happens_swDown (h.imp_right attemptTimeout_none),
    fun s k a hs ha => ⟨fun h => happens_swUp hs ((attemptTimeout_some ha).trans (if_pos h)),
      fun h => happens_swUp hs ((attemptTimeout_some ha).trans (if_neg (Nat.not_lt.mpr h)))⟩,
    fun s k h => happens_swDown (h.imp_right alarmResend_none), fun s k p n v hs hr => happens_swUp hs (alarmResend_some hr),
    fun s p => ⟨fun h => happens_eq (if_pos (Bool.and_eq_true_iff.mpr h)), fun h => happens_eq (if_neg (mt Bool.and_eq_true_iff.mp h))⟩,
    fun s => ⟨fun h => happens_eq (if_pos (Bool.and_eq_true_iff.mpr h)), fun h => happens_eq (if_neg (mt Bool.and_eq_true_iff.mp h)),
      fun h => happens_eq (if_pos (Bool.and_eq_true_iff.mpr h)), fun h => happens_eq (if_neg (mt Bool.and_eq_true_iff.mp h))⟩,
    fun s => ⟨fun h => happens_eq (if_pos (Bool.and_eq_true_iff.mpr h)), fun h => happens_eq (if_neg (mt Bool.and_eq_true_iff.mp h))⟩,
    fun s ty pl => rfl, fun s kind k => ⟨fun h => happens_swUp h rfl, fun h => happens_swDown (.inl h)⟩,
    fun s kind k => ⟨velvaDisagree_not, velvaDisagree_raised⟩,
    fun s p => ⟨fun h => done_eq (if_pos (Bool.and_eq_true_iff.mpr h)), fun h => done_eq (if_neg (mt Bool.and_eq_true_iff.mp h))⟩,
    fun s => ⟨fun hd hm => ?_, fun hd hm => ?_, fun hd => ?_⟩,
    fun s => ⟨fun h => happens_eq (if_pos (Bool.and_eq_true_iff.mpr h)), fun h => happens_eq (if_neg (mt Bool.and_eq_true_iff.mp h))⟩,
    fun s p => ⟨fun h => happens_eq (if_pos (Bool.and_eq_true_iff.mpr h)), fun h => happens_eq (if_neg (mt Bool.and_eq_true_iff.mp h))⟩⟩
  · exact happens_eq ((if_pos (Bool.and_eq_true_iff.mpr hd)).trans (if_pos (searchMay_iff.mpr hm)))
  · exact happens_eq ((if_pos (Bool.and_eq_true_iff.mpr hd)).trans (if_neg (mt searchMay_iff.mp hm)))
  · exact happens_eq (if_neg (mt Bool.and_eq_true_iff.mp hd))

/-! ### VLV_RC_CMD and VLV_GCMD (R446, R449) -/

theorem takesWrites_vlvRcCmd : TakesWrites VLV_RC_CMD 0x11 := takesWrites_of (by decide)
theorem takesWrites_vlvGcmd : TakesWrites VLV_GCMD 0x11 := takesWrites_of (by decide)

theorem rcStart_rule (o : Origin) (s : State) : writeRule o VLV_RC_CMD (word (at_ 1 28)) s =
    { pre := chk (!s.isHead || !s.vlvEn || s.vlv.rcBusy) .eState, app := startSearch } := rfl

theorem rcAbort_rule (o : Origin) (s : State) : writeRule o VLV_RC_CMD (word (at_ 2 28)) s =
    { pre := chk (!s.vlv.rcBusy) .eState, app := fun t => endSearch 5 t.vlv.rcLast t } := rfl

theorem searchNot_iff (s : State) : (!s.isHead || !s.vlvEn || s.vlv.rcBusy) = false ↔ (s.isHead = true ∧ s.vlvEn = true ∧ s.vlv.rcBusy = false) := by
  simp [and_assoc]

/-- FORGET's word for one entry (R449). -/
def forgetWord (k : Nat) : Word := word (at_ 1 28 + k)

theorem legal_forgetWord : ∀ k : BitVec 8, legal VLV_GCMD (forgetWord k.toNat) = true ∧ bits (forgetWord k.toNat) 31 28 = 1 ∧
    bits (forgetWord k.toNat) 7 0 = k.toNat := by decide

theorem gcmd_rule (o : Origin) (v : Word) (s : State) : writeRule o VLV_GCMD v s =
    { app := onVlv fun x => { x with table := if bits v 31 28 = 1 then adel x.table (bits v 7 0) else [] } } := rfl

/-- Settles O52: START and ABORT by the state of the search, FORGET always. -/
theorem velvaCommandsAct : Obligations.VelvaCommandsAct := by
  refine ⟨fun o s ho => ⟨fun h => ?_, fun h => ?_⟩, fun s => ⟨_, _, _, rfl, rfl, rfl, rfl⟩, fun o s ho => ⟨fun h => ?_, fun h => ?_⟩,
    fun o s ho => ⟨fun k => ?_, ?_⟩⟩
  · refine write_acts takesWrites_vlvRcCmd ho (fits_of_legal (by decide)) ?_ ?_ ?_ ?_ <;> rw [rcStart_rule]
    · rw [(searchNot_iff s).mpr h]
      rfl
    · simp only [if_true]
  · exact write_pre o VLV_RC_CMD 0x11 _ s .eState _ takesWrites_vlvRcCmd ho (rcStart_rule o s)
      (by rw [(Bool.not_eq_false _).mp (mt (searchNot_iff s).mp h)]; rfl) (by decide) rfl
  · refine write_acts takesWrites_vlvRcCmd ho (fits_of_legal (by decide)) ?_ ?_ ?_ ?_ <;> rw [rcAbort_rule]
    · rw [h]
      rfl
    · simp only [if_true]
      rfl
  · exact write_pre o VLV_RC_CMD 0x11 _ s .eState _ takesWrites_vlvRcCmd ho (rcAbort_rule o s) (by rw [h]; rfl) (by decide) rfl
  · obtain ⟨hl, hcmd, hk⟩ := legal_forgetWord k
    refine write_acts (v := forgetWord k.toNat) takesWrites_vlvGcmd ho (fits_of_legal hl) ?_ ?_ ?_ ?_ <;> rw [gcmd_rule]
    simp only [if_true, hcmd, hk]
    rfl
  · refine write_acts takesWrites_vlvGcmd ho (fits_of_legal (by decide)) ?_ ?_ ?_ ?_ <;> rw [gcmd_rule]
    rfl

end Sys2Proof.Machine
end

section
/-! Proofs about tenants, sessions and egress (21_tenants_sessions.md). -/

namespace Sys2Proof.Machine

/-! ### SES_CMD (R462) -/

theorem takesWrites_sesCmd : TakesWrites SES_CMD 0x12 := takesWrites_of (by decide)

/-- A staged entry that WRITE turns away. -/
def stageRefused (stage : Option (List Word)) : Bool :=
  match stage with
  | some ws => entryBad ws
  | none => false

theorem sesCmd_rule (o : Origin) (v : Word) (s : State) : writeRule o SES_CMD v s =
    { pre := s.sesCode (bits v 31 28)
      bad := bits v 31 28 == 0 || (bits v 31 28 == 1 && stageRefused s.egr.stage)
      app := sesCmd (bits v 31 28) } := rfl

/-- The session selected is that of SES_SEL, whatever SES_CMD takes. -/
theorem sesSel_setReg_sesCmd (v : Word) (s : State) : (s.setReg SES_CMD v).fld SES_SEL 11 0 = s.fld SES_SEL 11 0 :=
  congrArg (bits · 11 0) (memGet_memPut_ne _ _ _ _ _ (by decide))

/-- A command whose code is OK, its effect given at the selected session. -/
theorem sesCmd_ok {o : Origin} {v : Word} {s x : State} {k : Nat} (ho : Open o 0x12 s) (hk : bits v 31 28 = k) (hf : Fits SES_CMD v)
    (hc : s.sesCode k = .ok) (hbad : (k == 0 || (k == 1 && stageRefused s.egr.stage)) = false)
    (hx : sesCmd k (s.setReg SES_CMD (s.written SES_CMD v)) = x) : done (regWrite o SES_CMD v s) = .next (wrote o s x) := by
  subst hk
  refine write_acts takesWrites_sesCmd ho hf ?_ ?_ ?_ ?_ <;> rw [sesCmd_rule]
  · exact hc
  · exact hbad
  · simp only [if_true]
    exact hx

/-- A command that its code turns away. -/
theorem sesCmd_away {o : Origin} {v : Word} {s : State} {k : Nat} {c : Code} (ho : Open o 0x12 s) (hk : bits v 31 28 = k)
    (hc : s.sesCode k = c) (hne : c ≠ .ok) : done (regWrite o SES_CMD v s) = .next (turnedAway o c s) := by
  subst hk
  exact write_pre o SES_CMD 0x12 v s c _ takesWrites_sesCmd ho (sesCmd_rule o v s) hc hne rfl

theorem sesCode_write_iff (s : State) : ((s.ses (s.fld SES_SEL 11 0)).live || s.egr.stage.isNone) = true ↔
    (s.egr.stage = none ∨ (s.ses (s.fld SES_SEL 11 0)).live = true) := by
  rw [Bool.or_eq_true, Option.isNone_iff_eq_none, or_comm]

theorem sesCode_write_some {s : State} {ws : List Word} (hw : s.egr.stage = some ws) (hl : (s.ses (s.fld SES_SEL 11 0)).live = false) :
    s.sesCode 1 = .ok :=
  if_neg (mt (sesCode_write_iff s).mp (by rw [hw, hl]; simp))

/-- The session that WRITE makes of a staged entry. -/
def stagedSession (ws : List Word) (s : State) : Session :=
  { st := .off, words := ws, seq := bits (nth 0 ws 2) 31 16, roc := (nth 0 ws 3).toNat, ipId := bits s.draw.1 15 0 }

theorem sesWriteEntry_some {n : Nat} {s : State} {ws : List Word} (hw : s.egr.stage = some ws) : sesWriteEntry n s =
    onEgr (fun g => { g with stage := none, sessions := aput g.sessions n (stagedSession ws s) }) s.draw.2 := by
  rw [sesWriteEntry, hw]
  rfl

/-- Another live session of ON's SSRC, whose tenant or key is the same. -/
theorem sesTwin_iff (s : State) (n : Nat) (x : Session) :
    (s.egr.sessions.any fun p => p.1 != n && p.2.live && p.2.ssrc == x.ssrc &&
      (p.2.tenant == x.tenant || s.tenKey p.2.tenant == s.tenKey x.tenant)) = true ↔
    ∃ p ∈ s.egr.sessions, p.1 ≠ n ∧ p.2.live = true ∧ p.2.ssrc = x.ssrc ∧
      (p.2.tenant = x.tenant ∨ s.tenKey p.2.tenant = s.tenKey x.tenant) := by
  simp [and_assoc]

theorem sesShut_iff (s : State) (x : Session) :
    (!s.flag (TEN_CFG x.tenant) 31 || (x.src == 0 && !s.flag (ENC_CFG x.chan) 31)) = true ↔
    (s.flag (TEN_CFG x.tenant) 31 = false ∨ (x.src = 0 ∧ s.flag (ENC_CFG x.chan) 31 = false)) := by
  simp

/-! ### SES_STAGE and TEN_MPUB (R459, R462) -/

theorem winWriteCode_sesStage (ws : List Word) (s : State) :
    s.winWriteCode SES_STAGE ws = (lenCode 4096 ws.length).first (firstCode [chk s.closing .eState, chk (ws.length != 24) .eLen]) := rfl

theorem sesStage_ok {ws : List Word} {s : State} (hc : s.closing = false) (h : ws.length = 24) : s.winWriteCode SES_STAGE ws = .ok := by
  rw [winWriteCode_sesStage, hc, h]
  rfl

theorem sesStage_eLen {ws : List Word} {s : State} (hc : s.closing = false) (h : ws.length ≠ 24) : s.winWriteCode SES_STAGE ws = .eLen := by
  rw [winWriteCode_sesStage, hc, bne_iff_ne.mpr h]
  rcases lenCode_cases 4096 ws.length with hl | hl <;> rw [hl] <;> rfl

theorem takesWrites_tenMpub : TakesWrites TEN_MPUBR 0x12 := takesWrites_of (by decide)

theorem tenMpub_rule (o : Origin) (v : Word) (s : State) : writeRule o TEN_MPUBR v s =
    { pre := chk ((List.range 8).any fun g => bit v g && s.maskBusy g) .eState, app := publishMasks v } := rfl

theorem masksBusy_iff (v : Word) (s : State) : ((List.range 8).any fun g => bit v g && s.maskBusy g) = true ↔
    ∃ g, g < 8 ∧ bit v g = true ∧ s.maskBusy g = true := by
  simp

/-! ### Packets (R466 to R472) -/

theorem hostPacket_idle {s : State} (h : s.egr.host = [] ∨ s.serves = false) : hostPacket s = s := by
  rw [hostPacket]
  split
  · rfl
  · next hj => exact if_pos (by rw [h.resolve_left (by rw [hj]; exact List.cons_ne_nil _ _)]; rfl)

theorem egressShut_iff (s : State) : (decide (s.egrTok < 0) || !s.serves) = true ↔ (s.egrTok < 0 ∨ s.serves = false) := by
  simp

section Send
variable {s x : State} {n k : Nat} {f : SFrame} {rest : List SFrame}

theorem sendPacket_shut (h : s.egrTok < 0 ∨ s.serves = false) : sendPacket (k + 1) s = s := if_pos ((egressShut_iff s).mpr h)

theorem sendPacket_none (ht : 0 ≤ s.egrTok) (hs : s.serves = true) (hp : pick s = (none, x)) : sendPacket (k + 1) s = x := by
  rw [sendPacket, if_neg (mt (egressShut_iff s).mp (by simp [hs, ht])), hp]

variable (ht : 0 ≤ s.egrTok) (hs : s.serves = true) (hp : pick s = (some n, x)) (hq : (x.ses n).queue = f :: rest)
include ht hs hp hq

theorem sendPacket_exhausted (hr : 2 ^ 32 ≤ (x.ses n).roc) : sendPacket (k + 1) s = sendPacket k (ivEnd n 1 x) := by
  rw [sendPacket, if_neg (mt (egressShut_iff s).mp (by simp [hs, ht])), hp]
  dsimp only
  rw [hq]
  exact if_pos hr

theorem sendPacket_begun (hr : (x.ses n).roc < 2 ^ 32) (hb : f.begun = true) : sendPacket (k + 1) s = sendOne n f rest x := by
  rw [sendPacket, if_neg (mt (egressShut_iff s).mp (by simp [hs, ht])), hp]
  dsimp only
  rw [hq]
  exact (if_neg (Nat.not_le.mpr hr)).trans (if_pos hb)

theorem sendPacket_first {z : State} (hr : (x.ses n).roc < 2 ^ 32) (hb : f.begun = false)
    (hi : indexCheck (x.tenKey (x.ses n).tenant) (x.ses n).ssrc ((x.ses n).roc * 65536 + (x.ses n).seq) x = .ok z) :
    sendPacket (k + 1) s = sendOne n { f with key := x.tenKey (x.ses n).tenant } rest (tenApply (x.ses n).tenant z) := by
  rw [sendPacket, if_neg (mt (egressShut_iff s).mp (by simp [hs, ht])), hp]
  dsimp only
  rw [hq]
  dsimp only
  rw [if_neg (Nat.not_le.mpr hr), if_neg (by rw [hb]; decide), hi]

theorem sendPacket_indexed {r : Nat} (hr : (x.ses n).roc < 2 ^ 32) (hb : f.begun = false)
    (hi : indexCheck (x.tenKey (x.ses n).tenant) (x.ses n).ssrc ((x.ses n).roc * 65536 + (x.ses n).seq) x = .error r) :
    sendPacket (k + 1) s = sendPacket k (ivEnd n (r - 4) (onSes n (fun x => { x with why := r }) x)) := by
  rw [sendPacket, if_neg (mt (egressShut_iff s).mp (by simp [hs, ht])), hp]
  dsimp only
  rw [hq]
  dsimp only
  rw [if_neg (Nat.not_le.mpr hr), if_neg (by rw [hb]; decide), hi]

end Send

/-! ### The tick and a stall (R473, R475) -/

theorem tickOff_iff (s : State) : (!s.live || !s.handedOver) = true ↔ (s.live = false ∨ s.handedOver = false) := by
  simp

theorem sesStall_due {s : State} {n : Nat} {f : SFrame} {rest : List SFrame} (hq : (s.ses n).queue = f :: rest)
    (h : (s.ses n).st = .sending ∧ (s.ses n).src = 0 ∧ (!f.begun) = true) : sesStall n s =
    raiseN 0x1E3 n (requestIdr (s.ses n).chan (dropQueued (some 5) n
      (onSes n (fun x => { x with st := .stalled, stalls := x.stalls + 1 }) s))) := by
  rw [sesStall, hq]
  exact if_pos h

theorem sesStall_empty {s : State} {n : Nat} (hq : (s.ses n).queue = []) : sesStall n s = s := by
  rw [sesStall, hq]

theorem sesStall_not {s : State} {n : Nat} {f : SFrame} {rest : List SFrame} (hq : (s.ses n).queue = f :: rest)
    (h : ¬ ((s.ses n).st = .sending ∧ (s.ses n).src = 0 ∧ (!f.begun) = true)) : sesStall n s = s := by
  rw [sesStall, hq]
  exact if_neg h

/-- A session has a stall to report: it sends live frames, and its oldest frame has sent no packet. -/
def StallDue (n : Nat) (s : State) : Prop :=
  s.live = true ∧ (s.ses n).st = .sending ∧ (s.ses n).src = 0 ∧ ∃ f, (s.ses n).queue.head? = some f ∧ f.begun = false

theorem stall_due {s : State} {n : Nat} (h : StallDue n s) : (if s.live then sesStall n s else s) =
    raiseN 0x1E3 n (requestIdr (s.ses n).chan (dropQueued (some 5) n
      (onSes n (fun x => { x with st := .stalled, stalls := x.stalls + 1 }) s))) := by
  obtain ⟨hl, hst, hsrc, f, hf, hb⟩ := h
  obtain ⟨rest, hq⟩ := List.head?_eq_some_iff.mp hf
  rw [if_pos hl]
  exact sesStall_due hq ⟨hst, hsrc, by rw [hb]; rfl⟩

theorem stall_not {s : State} {n : Nat} (h : ¬ StallDue n s) : (if s.live then sesStall n s else s) = s := by
  split
  · next hl =>
    cases hq : (s.ses n).queue with
    | nil => exact sesStall_empty hq
    | cons f rest =>
      refine sesStall_not hq fun hc => h ?_
      obtain ⟨hst, hsrc, hb⟩ := hc
      exact ⟨hl, hst, hsrc, f, by rw [hq]; rfl, by simpa using hb⟩
  · rfl

/-- Settles O53: commands, packets, the tick and stalls; a session that is OFF only after the frame being sent, and only while that
frame's key is held, is log entry 52. -/
theorem sessionsAndEgressWork : Obligations.SessionsAndEgressWork := by
  refine ⟨fun ws s ho => ⟨fun h => ?_, fun h => ?_⟩,
    fun o s ho => ⟨fun ws hw hl hb => ?_, fun ws hw hl hb => ?_, fun h => ?_, fun h => ?_, fun h => ?_, fun h1 h2 => ?_, fun h => ?_,
      fun h => ?_, fun h => ?_⟩,
    fun s => ⟨fun h => ?_, fun hst ht hs => ?_, fun hst ht hs => ?_⟩, fun n s => ⟨rfl, fun h => if_pos h, fun h => if_neg h⟩,
    fun o v s ho => ⟨fun h => ?_, fun h hf => ?_⟩, fun s => ⟨rfl, rfl, hostPacket_idle⟩,
    fun s x n k f rest ht hs hp hq => ⟨sendPacket_exhausted ht hs hp hq, sendPacket_begun ht hs hp hq,
      fun z => sendPacket_first ht hs hp hq, fun r => sendPacket_indexed ht hs hp hq⟩,
    fun s k => ⟨sendPacket_shut, fun x => sendPacket_none⟩,
    fun s => ⟨fun hl hh => happens_eq (if_neg (mt (tickOff_iff s).mp (by simp [hl, hh]))), fun h => happens_eq (if_pos ((tickOff_iff s).mpr h))⟩,
    fun s n => ⟨fun h => happens_eq (stall_due h), fun h => happens_eq (stall_not h)⟩⟩
  · exact win_ok SES_STAGE 0x12 s ws (by decide) ho.1 (sesStage_ok ho.2.2 h)
  · exact win_away SES_STAGE 0x12 s .eLen ws (by decide) ho.1 (sesStage_eLen ho.2.2 h) (by decide)
  · refine sesCmd_ok ho (by decide : _ = 1) (fits_of_legal (by decide)) (sesCode_write_some hw hl) (by rw [hw]; exact hb) ?_
    rw [sesCmd, sesSel_setReg_sesCmd]
    exact sesWriteEntry_some hw
  · exact write_bad o SES_CMD 0x12 _ s _ takesWrites_sesCmd ho (sesCmd_rule ..) (sesCode_write_some hw hl) (by rw [hw]; exact hb) rfl
  · exact sesCmd_away ho (by decide : _ = 1) (if_pos ((sesCode_write_iff s).mpr h)) (by decide)
  · refine sesCmd_ok ho (by decide : _ = 2) (fits_of_legal (by decide)) h rfl ?_
    rw [sesCmd, sesSel_setReg_sesCmd]
  · exact sesCmd_away ho (by decide : _ = 2) rfl h
  · refine sesCmd_ok ho (by decide : _ = 3) (fits_of_legal (by decide)) (if_neg (by simp [h1, h2])) rfl ?_
    rw [sesCmd, sesSel_setReg_sesCmd]
  · exact sesCmd_away ho (by decide : _ = 3) (if_pos (by simpa using h)) (by decide)
  · refine sesCmd_ok ho (by decide : _ = 4) (fits_of_legal (by decide)) (if_neg (by simp [h])) rfl ?_
    rw [sesCmd, sesSel_setReg_sesCmd]
    rfl
  · exact sesCmd_away ho (by decide : _ = 4) (if_pos (by simpa using h)) (by decide)
  · exact if_pos (Bool.or_eq_true_iff.mpr (h.imp bne_iff_ne.mpr (sesTwin_iff s _ _).mpr))
  · refine (if_neg fun hc => ?_).trans (if_pos ((sesShut_iff s _).mpr hs))
    exact (Bool.or_eq_true_iff.mp hc).elim (fun h => bne_iff_ne.mp h hst) (mt (sesTwin_iff s _ _).mp ht)
  · refine (if_neg fun hc => ?_).trans (if_neg (mt (sesShut_iff s _).mp hs))
    exact (Bool.or_eq_true_iff.mp hc).elim (fun h => bne_iff_ne.mp h hst) (mt (sesTwin_iff s _ _).mp ht)
  · exact write_pre o TEN_MPUBR 0x12 v s .eState _ takesWrites_tenMpub ho (tenMpub_rule o v s)
      (by rw [(masksBusy_iff v s).mpr h]; rfl) (by decide) rfl
  · refine write_acts takesWrites_tenMpub ho hf ?_ ?_ ?_ ?_ <;> rw [tenMpub_rule]
    · rw [Bool.eq_false_iff.mpr (mt (masksBusy_iff v s).mp h)]
      rfl
    · simp only [if_true]

end Sys2Proof.Machine
end

section
/-! Proofs about the Cellar's media (22_cellar.md): openings, medium commands, formats, protection. -/

namespace Sys2Proof.Machine

/-! ### Openings and medium commands (R478, R479) -/

theorem mediumOpenDone_iff (s : State) : (s.clk.waiting || s.inRind) = true ↔ (s.clk.waiting = true ∨ s.inRind = true) := Bool.or_eq_true_iff

theorem exec_mediumOpenDone_held {s : State} {m : Fin 2} {op : MediumOpen} (h : s.clk.waiting = true ∨ s.inRind = true) :
    exec (.mediumOpenDone m op) s = .next (after s s) := by
  rw [exec_mediumOpenDone, execMediumOpenDone]
  exact happens_eq (if_pos ((mediumOpenDone_iff s).mpr h))

theorem exec_mediumOpenDone_free {s : State} {m : Fin 2} {op : MediumOpen} (hw : s.clk.waiting = false) (hr : s.inRind = false) :
    exec (.mediumOpenDone m op) s = .next (after s (mediumOpened m.val op s)) := by
  rw [exec_mediumOpenDone, execMediumOpenDone]
  exact happens_eq (if_neg (by rw [hw, hr]; exact Bool.false_ne_true))

section Command
variable {s : State} {m e : Nat} {w : Bool}

theorem mediumUsed_iff (s : State) (m : Nat) :
    (s.live && ((s.med m).st == .opening || (s.med m).st == .ready || (s.med m).st == .full || (s.med m).st == .unformatted)) = true ↔
    (s.live = true ∧ ((s.med m).st = .opening ∨ (s.med m).st = .ready ∨ (s.med m).st = .full ∨ (s.med m).st = .unformatted)) := by
  simp [or_assoc]

/-- A command that failed is counted, in the medium's counter and in the failures in a row. -/
def commandFailed (m : Nat) (w : Bool) (s : State) : State :=
  onMed m (fun y => { y with fails := y.fails + 1 }) (s.count (CEL_MCNT m) (if w then 31 else 23) (if w then 24 else 16))

theorem mediumCommand_third (h : 3 ≤ ((commandFailed m w s).med m).fails) : mediumCommand m false w e s =
    mediumGone m (if w then 4 else 1) (setMed m .failed (commandFailed m w s)) :=
  (if_neg Bool.false_ne_true).trans (if_pos h)

theorem mediumCommand_counted (h : ((commandFailed m w s).med m).fails < 3)
    (hw : ¬ (w = true ∧ e < 16 ∧ ((commandFailed m w s).strm e).dest = m + 1)) : mediumCommand m false w e s = commandFailed m w s :=
  (if_neg Bool.false_ne_true).trans ((if_neg (Nat.not_le.mpr h)).trans (if_neg hw))


end Command

section Commands
variable {s : State} {m : Fin 2} {good w : Bool} {e : Fin 17}

theorem exec_mediumCommand_used (h : s.live = true ∧ ((s.med m.val).st = .opening ∨ (s.med m.val).st = .ready ∨ (s.med m.val).st = .full ∨
    (s.med m.val).st = .unformatted)) {x : State} (hx : mediumCommand m.val good w e.val s = x) :
    exec (.mediumCommandDone m good w e) s = .next (after s x) := by
  rw [exec_mediumCommandDone, execMediumCommandDone]
  exact happens_eq ((if_pos ((mediumUsed_iff s m.val).mpr h)).trans hx)

theorem exec_mediumCommand_unused (h : ¬ (s.live = true ∧ ((s.med m.val).st = .opening ∨ (s.med m.val).st = .ready ∨
    (s.med m.val).st = .full ∨ (s.med m.val).st = .unformatted))) :
    exec (.mediumCommandDone m good w e) s = .next (after s s) := by
  rw [exec_mediumCommandDone, execMediumCommandDone]
  exact happens_eq (if_neg (mt (mediumUsed_iff s m.val).mp h))

end Commands

/-! ### CEL_CMD and CEL_WCMD (R479 to R481, R490) -/

theorem takesWrites_celCmd : TakesWrites CEL_CMD 0x13 := takesWrites_of (by decide)
theorem takesWrites_celWcmd : TakesWrites CEL_WCMD 0x13 := takesWrites_of (by decide)

theorem celWord_bits : ∀ m : Fin 2, ∀ k : Fin 5, bits (celWord k.val m) 31 28 = k.val ∧ bits (celWord k.val m) 0 0 = m.val := by decide

theorem legal_celCmd : ∀ m : Fin 2, legal CEL_CMD (celWord 1 m) = true ∧ legal CEL_CMD (celWord 2 m) = true ∧
    legal CEL_CMD (celWord 3 m) = true ∧ legal CEL_CMD (celWord 4 m) = true := by decide

theorem celCmd_rule (o : Origin) (v : Word) (s : State) : writeRule o CEL_CMD v s =
    { pre := s.celCmdCode o (bits v 31 28) (bits v 0 0), app := celCmd (bits v 31 28) (bits v 0 0) } := rfl

theorem celWcmd_rule (o : Origin) (v : Word) (s : State) : writeRule o CEL_WCMD v s =
    { bad := decide ((s.med (bits v 24 24)).nw ≤ bits v 16 0), app := protect (bits v 24 24) (bits v 16 0) (bits v 31 28 == 1) } := rfl

/-- A medium command that its code lets through. -/
theorem celCmd_ok {o : Origin} {m : Fin 2} {s : State} (k : Fin 5) (ho : Open o 0x13 s) (hf : Fits CEL_CMD (celWord k.val m))
    (hc : s.celCmdCode o k.val m.val = .ok) : done (regWrite o CEL_CMD (celWord k.val m) s) =
      .next (wrote o s (celCmd k.val m.val (s.setReg CEL_CMD (s.written CEL_CMD (celWord k.val m))))) := by
  obtain ⟨hcmd, hm⟩ := celWord_bits m k
  refine write_acts takesWrites_celCmd ho hf ?_ ?_ ?_ ?_ <;> rw [celCmd_rule]
  · rw [hcmd, hm]
    exact hc
  · simp only [if_true, hcmd, hm]

/-- A medium command that its code turns away. -/
theorem celCmd_away {o : Origin} {m : Fin 2} {s : State} (k : Fin 5) (ho : Open o 0x13 s) (hc : s.celCmdCode o k.val m.val = .eState) :
    done (regWrite o CEL_CMD (celWord k.val m) s) = .next (turnedAway o .eState s) := by
  obtain ⟨hcmd, hm⟩ := celWord_bits m k
  refine write_pre o CEL_CMD 0x13 _ s .eState _ takesWrites_celCmd ho (celCmd_rule ..) ?_ (by decide) rfl
  rw [hcmd, hm]
  exact hc

theorem formattable_iff (s : State) (m : Nat) : ((s.med m).st == .ready || (s.med m).st == .full || (s.med m).st == .unformatted) = true ↔
    ((s.med m).st = .ready ∨ (s.med m).st = .full ∨ (s.med m).st = .unformatted) := by
  simp [or_assoc]

theorem formatRefused_iff (o : Origin) (m : Nat) (s : State) : (isVat o || !((s.med m).st == .ready || (s.med m).st == .full ||
      (s.med m).st == .unformatted) || s.medUsed m || decide (wheelsOf (s.med m).capMiB < 64)) = false ↔
    (isVat o = false ∧ ((s.med m).st = .ready ∨ (s.med m).st = .full ∨ (s.med m).st = .unformatted) ∧ s.medUsed m = false ∧
      64 ≤ wheelsOf (s.med m).capMiB) := by
  rw [Bool.or_eq_false_iff, Bool.or_eq_false_iff, Bool.or_eq_false_iff, Bool.not_eq_false', formattable_iff, decide_eq_false_iff_not,
    Nat.not_lt, and_assoc, and_assoc]

theorem celCmdCode_format_ok {o : Origin} {m : Nat} {s : State} (h : isVat o = false ∧ ((s.med m).st = .ready ∨ (s.med m).st = .full ∨
    (s.med m).st = .unformatted) ∧ s.medUsed m = false ∧ 64 ≤ wheelsOf (s.med m).capMiB) : s.celCmdCode o 1 m = .ok := by
  rw [State.celCmdCode, (formatRefused_iff o m s).mpr h]
  rfl

theorem celCmdCode_format_eState {o : Origin} {m : Nat} {s : State} (h : ¬ (isVat o = false ∧ ((s.med m).st = .ready ∨
    (s.med m).st = .full ∨ (s.med m).st = .unformatted) ∧ s.medUsed m = false ∧ 64 ≤ wheelsOf (s.med m).capMiB)) :
    s.celCmdCode o 1 m = .eState := by
  rw [State.celCmdCode, (Bool.not_eq_false _).mp (mt (formatRefused_iff o m s).mp h)]
  rfl

theorem wheelWord_bits (k : Fin 5) (m : Fin 2) (w : BitVec 17) : bits (wheelWord k.val m w) 31 28 = k.val ∧
    bits (wheelWord k.val m w) 24 24 = m.val ∧ bits (wheelWord k.val m w) 16 0 = w.toNat := by
  have hk := k.isLt
  have hm := m.isLt
  have hw := w.isLt
  rw [wheelWord, bits_word, bits_word, bits_word]
  simp only [at_]
  omega

section Wheel
variable {o : Origin} {m : Fin 2} {w : BitVec 17} {s : State} (k : Fin 5) (ho : Open o 0x13 s)
include ho

theorem celWcmd_ok (hw : w.toNat < (s.med m.val).nw) (hf : Fits CEL_WCMD (wheelWord k.val m w)) :
    done (regWrite o CEL_WCMD (wheelWord k.val m w) s) = .next (wrote o s (protect m.val w.toNat (k.val == 1)
      (s.setReg CEL_WCMD (s.written CEL_WCMD (wheelWord k.val m w))))) := by
  obtain ⟨hk, hm, hwl⟩ := wheelWord_bits k m w
  refine write_acts takesWrites_celWcmd ho hf ?_ ?_ ?_ ?_ <;> rw [celWcmd_rule]
  · simp only [hm, hwl, decide_eq_false_iff_not]
    omega
  · simp only [if_true, hk, hm, hwl]

theorem celWcmd_away (hw : (s.med m.val).nw ≤ w.toNat) :
    done (regWrite o CEL_WCMD (wheelWord k.val m w) s) = .next (turnedAway o .eRange s) := by
  obtain ⟨hk, hm, hwl⟩ := wheelWord_bits k m w
  refine write_bad o CEL_WCMD 0x13 _ s _ takesWrites_celWcmd ho (celWcmd_rule ..) rfl ?_ rfl
  simp only [hm, hwl, decide_eq_true_eq]
  exact hw

end Wheel

/-! ### The end of a format (R480) -/

theorem formatGone_iff (s : State) (m : Nat) : (!((s.med m).st == .ready || (s.med m).st == .full || (s.med m).st == .unformatted)) = false ↔
    ((s.med m).st = .ready ∨ (s.med m).st = .full ∨ (s.med m).st = .unformatted) := by
  rw [Bool.not_eq_false', formattable_iff]

/-- The new format number: the one drawn, or the next one where that is the old. -/
def newFormat (old drawn : Nat) : Nat := if drawn = old then (drawn + 1) % 2 ^ 32 else drawn

theorem newFormat_ne (old drawn : Nat) : newFormat old drawn ≠ old := by
  rw [newFormat]
  split <;> omega

theorem formatDone_gone {s : State} {m : Nat} (hf : s.cel.fmt = some m)
    (h : ¬ ((s.med m).st = .ready ∨ (s.med m).st = .full ∨ (s.med m).st = .unformatted)) :
    formatDone s = endOp .eState (onCel (fun c => { c with fmt := none }) s) := by
  rw [formatDone, hf]
  exact if_pos ((Bool.not_eq_false _).mp (mt (formatGone_iff s m).mp h))

theorem formatDone_here {s : State} {m : Nat} (hf : s.cel.fmt = some m)
    (h : (s.med m).st = .ready ∨ (s.med m).st = .full ∨ (s.med m).st = .unformatted) :
    formatDone s = endOp .ok (setMed m .ready (onCel (fun c => { c with fmt := none }) (onMed m (fun y => { y with
      format := newFormat (s.med m).format s.draw.1.toNat, nw := wheelsOf y.capMiB, wheels := [], lastOpen := none, wseq := 0
      fmtUnit := Config.unitId % 2 ^ 64, fmtHi := word s.ptpS, fmtLo := word s.ptpNs }) s.draw.2))) := by
  rw [formatDone, hf]
  exact if_neg (Bool.eq_false_iff.mp ((formatGone_iff s m).mpr h))

/-- Settles O54: media, their commands, formats and protection; the format of a medium that has gone meanwhile is log entry 53. -/
theorem cellarMediaCommands : Obligations.CellarMediaCommands := by
  refine ⟨fun s => ⟨rfl, rfl⟩,
    fun s m op => ⟨exec_mediumOpenDone_held, exec_mediumOpenDone_free, fun h => if_pos (bne_iff_ne.mpr h),
      fun h hg => (if_neg (by rw [h]; decide)).trans (if_pos (by rw [hg]; rfl))⟩,
    fun s m w e => ⟨fun h good => exec_mediumCommand_unused h, fun h => exec_mediumCommand_used h rfl,
      fun h h3 => exec_mediumCommand_used h (mediumCommand_third h3),
      fun h h3 hw => exec_mediumCommand_used h (mediumCommand_counted h3 hw),
      fun h h3 hw => exec_mediumCommand_used h ((if_neg Bool.false_ne_true).trans ((if_neg (Nat.not_le.mpr h3)).trans (if_pos hw)))⟩,
    fun o m s ho => ⟨fun h => celCmd_ok 1 ho (fits_of_legal (legal_celCmd m).1) (celCmdCode_format_ok h),
      fun h => celCmd_away 1 ho (celCmdCode_format_eState h),
      celCmd_ok 2 ho (fits_of_legal (legal_celCmd m).2.1) rfl, celCmd_ok 3 ho (fits_of_legal (legal_celCmd m).2.2.1) rfl,
      celCmd_ok 4 ho (fits_of_legal (legal_celCmd m).2.2.2) rfl⟩,
    fun m s => ⟨fun h => if_pos h, fun h => if_neg h, fun h => if_pos h, fun h => if_neg h⟩,
    fun s => ⟨fun h => ?_, fun m hl hf => ⟨fun h => happens_eq ((if_pos hl).trans (formatDone_gone hf h)),
      fun h => ⟨_, newFormat_ne _ _, happens_eq ((if_pos hl).trans (formatDone_here hf h))⟩⟩⟩,
    fun o m w s ho => ⟨celWcmd_ok 1 ho, celWcmd_ok 2 ho, fun h => ⟨celWcmd_away 1 ho h, celWcmd_away 2 ho h⟩⟩,
    fun m k b s => ⟨fun h => ?_, fun h => ?_⟩⟩
  · refine happens_eq ?_
    rcases h with h | h
    · exact if_neg (by rw [h]; decide)
    · rw [formatDone, h]
      exact ite_self s
  · rw [protect, if_pos (Option.isSome_iff_ne_none.mpr h)]
  · rw [protect, h]
    rfl

end Sys2Proof.Machine
end

section
/-! Proofs about the Cellar's retrieval and its network jobs (22_cellar.md, R501 to R503). -/

namespace Sys2Proof.Machine

/-! ### CEL_RCMD (R501) -/

theorem takesWrites_celRcmd : TakesWrites CEL_RCMD 0x13 := takesWrites_of (by decide)

theorem retStart_rule (o : Origin) (s : State) : writeRule o CEL_RCMD (word (at_ 1 28)) s =
    { pre := chk (s.cel.ret.st == 1 || !((s.med (s.fld CEL_RSEL 31 31)).st == .ready || (s.med (s.fld CEL_RSEL 31 31)).st == .full)) .eState
      app := retStart } := rfl

theorem retStop_rule (o : Origin) (s : State) : writeRule o CEL_RCMD (word (at_ 2 28)) s = { app := retStop } := rfl

theorem retRefused_iff (s : State) (m : Nat) :
    (s.cel.ret.st == 1 || !((s.med m).st == .ready || (s.med m).st == .full)) = false ↔
    (s.cel.ret.st ≠ 1 ∧ ((s.med m).st = .ready ∨ (s.med m).st = .full)) := by
  rw [Bool.or_eq_false_iff, Bool.not_eq_false', Bool.or_eq_true, beq_iff_eq, beq_iff_eq, beq_eq_false_iff_ne]

theorem retStop_takes {o : Origin} {s x : State} (ho : Open o 0x13 s)
    (hx : retStop (s.setReg CEL_RCMD (s.written CEL_RCMD (word (at_ 2 28)))) = x) : exec (.retStop o) s = .next (wrote o s x) := by
  refine write_acts takesWrites_celRcmd ho (fits_of_legal (by decide)) ?_ ?_ ?_ ?_ <;> rw [retStop_rule]
  simp only [if_true]
  exact hx

/-! ### The pages of a retrieval (R501) -/

section Page
variable {s : State}

/-- A retrieval reads its next page: in an engine that serves, outside a power failure. -/
def Retrieving (s : State) : Prop := s.serves = true ∧ s.cel.ret.st = 1 ∧ s.cel.pf = false

theorem retIdle_iff (s : State) : (s.cel.ret.st ≠ 1 ∨ s.cel.pf = true) ↔ ¬ (s.cel.ret.st = 1 ∧ s.cel.pf = false) := by
  rw [not_and_or, Bool.not_eq_false]

theorem pageFilled_idle (h : ¬ Retrieving s) : (if s.serves then pageFilled s else s) = s := by
  split
  · next hs => exact if_pos ((retIdle_iff s).mpr fun hr => h ⟨hs, hr⟩)
  · rfl

theorem pageFilled_end (h : Retrieving s) (hw : s.cel.ret.wheels = []) : (if s.serves then pageFilled s else s) = retEnd 1 s := by
  obtain ⟨hs, hr⟩ := h
  rw [if_pos hs, pageFilled, if_neg (not_not_intro hr ∘ (retIdle_iff s).mp), hw]

variable {k : Nat} {t : List Nat}

theorem pageFilled_full (h : Retrieving s) (hw : s.cel.ret.wheels = k :: t) (hf : 4 ≤ s.cp.pages.length) :
    (if s.serves then pageFilled s else s) = s := by
  obtain ⟨hs, hr⟩ := h
  rw [if_pos hs, pageFilled, if_neg (not_not_intro hr ∘ (retIdle_iff s).mp), hw]
  exact if_pos hf

/-- The state with the retrieval's next page in a buffer. -/
def pageTaken (k : Nat) (s : State) : State :=
  { s with cp := { s.cp with pages := s.cp.pages ++ [⟨s.pageWords s.cel.ret.med k s.cel.ret.page, s.cel.ret.pseq + 1⟩] } }

/-- The retrieval goes on to the wheels `t`. -/
def wheelPassed (k : Nat) (t : List Nat) (s : State) : State :=
  onRet (fun q => { q with pseq := s.cel.ret.pseq + 1, stallTold := false, wheels := t, page := 0 }) (pageTaken k s)

variable (h : Retrieving s) (hw : s.cel.ret.wheels = k :: t) (hf : s.cp.pages.length < 4)
include h hw hf

theorem pageFilled_within (hp : s.cel.ret.page < ((s.med s.cel.ret.med).wheel k).npages) : (if s.serves then pageFilled s else s) =
    onRet (fun q => { q with pseq := s.cel.ret.pseq + 1, stallTold := false, page := q.page + 1 }) (pageTaken k s) := by
  obtain ⟨hs, hr⟩ := h
  rw [if_pos hs, pageFilled, if_neg (not_not_intro hr ∘ (retIdle_iff s).mp), hw]
  refine (if_neg (Nat.not_le.mpr hf)).trans ?_
  simp only [decide_eq_false (Nat.not_le.mpr hp), Bool.false_and, Bool.false_eq_true, if_false]
  rfl

theorem pageFilled_wheel (hp : ((s.med s.cel.ret.med).wheel k).npages ≤ s.cel.ret.page) (ht : t ≠ []) :
    (if s.serves then pageFilled s else s) = wheelPassed k t s := by
  obtain ⟨hs, hr⟩ := h
  rw [if_pos hs, pageFilled, if_neg (not_not_intro hr ∘ (retIdle_iff s).mp), hw]
  refine (if_neg (Nat.not_le.mpr hf)).trans ?_
  simp only [decide_eq_true hp, Bool.true_and, if_true, List.isEmpty_iff, if_neg ht]
  rfl

theorem pageFilled_last (hp : ((s.med s.cel.ret.med).wheel k).npages ≤ s.cel.ret.page) (ht : t = []) :
    (if s.serves then pageFilled s else s) = retEnd 1 (wheelPassed k t s) := by
  obtain ⟨hs, hr⟩ := h
  rw [if_pos hs, pageFilled, if_neg (not_not_intro hr ∘ (retIdle_iff s).mp), hw]
  refine (if_neg (Nat.not_le.mpr hf)).trans ?_
  simp only [decide_eq_true hp, Bool.true_and, if_true, List.isEmpty_iff, if_pos ht]
  rfl

end Page

theorem retStalls_iff (s : State) : (s.cel.ret.st = 1 ∧ 4 ≤ s.cp.pages.length ∧ (!s.cel.ret.stallTold) = true) ↔
    (s.cel.ret.st = 1 ∧ 4 ≤ s.cp.pages.length ∧ s.cel.ret.stallTold = false) := by
  rw [Bool.not_eq_true']

/-! ### Network jobs (R502) -/

theorem takesWrites_celNcmd (j : Fin 8) : TakesWrites (CEL_NCMD j.val) 0x13 := takesWrites_of (by revert j; decide)

theorem legal_celNcmd : ∀ j : Fin 8, legal (CEL_NCMD j.val) (word (at_ 1 28)) = true ∧ legal (CEL_NCMD j.val) (word (at_ 2 28)) = true := by
  decide

theorem jobStart_rule (o : Origin) (j : Fin 8) (s : State) : writeRule o (CEL_NCMD j.val) (word (at_ 1 28)) s =
    { pre := s.jobCode j.val 1, app := jobStart j.val } := by
  fin_cases j <;> rfl

theorem jobStop_rule (o : Origin) (j : Fin 8) (s : State) : writeRule o (CEL_NCMD j.val) (word (at_ 2 28)) s = { app := jobStop j.val } := by
  fin_cases j <;> rfl

/-- A START that E_STATE turns away: the job runs, its session is of another source or does not wait for frames, or another job
sends to it. -/
theorem jobRefused_iff (s : State) (j : Nat) : ((nth {} s.cel.jobs j).st == 1 || (s.ses (s.jobSes j)).src != 1 ||
      !((s.ses (s.jobSes j)).st == .waitIdr || (s.ses (s.jobSes j)).st == .sending) ||
      (List.range 8).any fun i => i != j && (nth {} s.cel.jobs i).st == 1 && s.jobSes i == s.jobSes j) = true ↔
    ((nth {} s.cel.jobs j).st = 1 ∨ (s.ses (s.jobSes j)).src ≠ 1 ∨
      ((s.ses (s.jobSes j)).st ≠ .waitIdr ∧ (s.ses (s.jobSes j)).st ≠ .sending) ∨
      ∃ i, i < 8 ∧ i ≠ j ∧ (nth {} s.cel.jobs i).st = 1 ∧ s.jobSes i = s.jobSes j) := by
  simp [or_assoc, and_assoc]

theorem jobCode_eCtx {s : State} {j : Nat} (h : s.flag (TEN_CFG (s.ses (s.jobSes j)).tenant) 31 = false) : s.jobCode j 1 = .eCtx :=
  if_pos (by rw [h]; rfl)

theorem jobCode_enabled {s : State} {j : Nat} {b : Bool} (h : s.flag (TEN_CFG (s.ses (s.jobSes j)).tenant) 31 = true)
    (hb : ((nth {} s.cel.jobs j).st == 1 || (s.ses (s.jobSes j)).src != 1 ||
      !((s.ses (s.jobSes j)).st == .waitIdr || (s.ses (s.jobSes j)).st == .sending) ||
      (List.range 8).any fun i => i != j && (nth {} s.cel.jobs i).st == 1 && s.jobSes i == s.jobSes j) = b) :
    s.jobCode j 1 = chk b .eState :=
  (if_neg (by rw [h]; decide)).trans (congrArg (chk · .eState) hb)

/-- Settles O56: retrieval and network jobs; which wheels a retrieval takes is log entry 53. -/
theorem cellarRetrieves : Obligations.CellarRetrieves := by
  refine ⟨fun o s ho => ⟨fun h => ?_, fun h => ?_, fun h => retStop_takes ho (if_pos h), fun h => retStop_takes ho (if_neg h)⟩,
    fun s => ⟨fun h => happens_eq (pageFilled_idle h), fun h hw => happens_eq (pageFilled_end h hw), fun h hw hf => happens_eq ?_,
      fun k t h hw hf => ⟨fun hp => happens_eq (pageFilled_within h hw hf hp), fun hp ht => happens_eq (pageFilled_wheel h hw hf hp ht),
        fun hp ht => happens_eq (pageFilled_last h hw hf hp ht)⟩⟩,
    fun s => ⟨fun h => happens_eq ((if_pos h.1).trans (if_pos ((retStalls_iff s).mpr h.2))), fun h => happens_eq ?_⟩,
    fun o j s ho => ⟨fun h => ?_, fun h => ?_, ?_⟩,
    fun j s => ⟨jobCode_eCtx, fun h hs => jobCode_enabled h ((jobRefused_iff s j).mpr hs),
      fun h hs => jobCode_enabled h (Bool.eq_false_iff.mpr (mt (jobRefused_iff s j).mp hs))⟩,
    fun j s => ⟨fun h => if_pos h, fun h => if_neg h⟩⟩
  · refine write_acts takesWrites_celRcmd ho (fits_of_legal (by decide)) ?_ ?_ ?_ ?_ <;> rw [retStart_rule]
    · rw [(retRefused_iff s _).mpr h]
      rfl
    · simp only [if_true]
      rfl
  · exact write_pre o CEL_RCMD 0x13 _ s .eState _ takesWrites_celRcmd ho (retStart_rule o s)
      (by rw [(Bool.not_eq_false _).mp (mt (retRefused_iff s _).mp h)]; rfl) (by decide) rfl
  · obtain ⟨k, t, hkt⟩ := List.exists_cons_of_ne_nil hw
    exact pageFilled_full h hkt hf
  · split
    · next hl => exact if_neg fun hr => h ⟨hl, (retStalls_iff s).mp hr⟩
    · rfl
  · refine write_acts (takesWrites_celNcmd j) ho (fits_of_legal (legal_celNcmd j).1) ?_ ?_ ?_ ?_ <;> rw [jobStart_rule]
    · exact h
    · simp only [if_true]
  · exact write_pre o (CEL_NCMD j.val) 0x13 _ s _ _ (takesWrites_celNcmd j) ho (jobStart_rule o j s) rfl h rfl
  · refine write_acts (takesWrites_celNcmd j) ho (fits_of_legal (legal_celNcmd j).2) ?_ ?_ ?_ ?_ <;> rw [jobStop_rule]
    simp only [if_true]

end Sys2Proof.Machine
end

section
/-! Proofs about the receivers of the serial ports (23_serial_ports.md). -/

namespace Sys2Proof.Machine

/-! ### Received characters (R506 to R509) -/

/-- An enabled receiver that no measurement and no sending of its own keeps from storing. -/
def Hears (u : Nat) (s : State) : Prop :=
  s.live = true ∧ s.serEn u = true ∧ s.flag (UART_ABR u) 31 = false ∧ (s.flag (UART_CFG u) 26 = false ∨ s.serDe u = false)

theorem deaf_iff (u : Nat) (s : State) :
    (!s.live || !s.serEn u || s.flag (UART_ABR u) 31 || (s.flag (UART_CFG u) 26 && s.serDe u)) = false ↔ Hears u s := by
  rw [Hears, Bool.or_eq_false_iff, Bool.or_eq_false_iff, Bool.or_eq_false_iff, Bool.and_eq_false_iff, Bool.not_eq_false',
    Bool.not_eq_false', and_assoc, and_assoc]

theorem serReceive_deaf {u : Nat} {b : List Nat} {s : State} (h : ¬ Hears u s) : serReceive u b s = s :=
  if_pos ((Bool.not_eq_false _).mp (mt (deaf_iff u s).mp h))

section Hearing
variable {u : Nat} {b : List Nat} {s : State} (h : Hears u s)
include h

theorem serReceive_none (hd : serDecode (s.reg (UART_CFG u)) b = none) : serReceive u b s = s := by
  rw [serReceive, (deaf_iff u s).mpr h, hd]
  rfl

theorem serReceive_some {c : SerChar} (hd : serDecode (s.reg (UART_CFG u)) b = some c) : serReceive u b s = serStore u c s := by
  rw [serReceive, (deaf_iff u s).mpr h, hd]
  rfl

end Hearing

/-- What a character adds when it is a break. -/
def breakTold (u : Nat) (c : SerChar) (s : State) : State := if c.brk then serEvent u 3 0 s else s

/-! ### Measurements (R514) -/

theorem measureOff_iff (u : Nat) (s : State) : (!s.live || !s.serEn u || !s.flag (UART_ABR u) 31) = false ↔
    (s.live = true ∧ s.serEn u = true ∧ s.flag (UART_ABR u) 31 = true) := by
  simp [and_assoc]

/-- The character that a measurement awaits, received clean. -/
def cleanChar (ch : Nat) (d : Option SerChar) : Bool :=
  match d with
  | some c => c.data == ch && !c.noise && !c.parity && !c.frame && !c.brk
  | none => false

theorem cleanChar_iff (ch : Nat) (d : Option SerChar) : cleanChar ch d = true ↔
    ∃ c, d = some c ∧ c.data = ch ∧ c.noise = false ∧ c.parity = false ∧ c.frame = false ∧ c.brk = false := by
  cases d with
  | none => simp [cleanChar]
  | some c => simp [cleanChar, and_assoc]

/-- The divisor that a measurement of `t` network clocks gives. -/
def measuredDiv (u t : Nat) (s : State) : Nat :=
  let p := abrP (s.reg (UART_CFG u)) (s.fld (UART_ABR u) 7 0)
  if p = 0 then 0 else (2 * (16 * t) + p) / (2 * p)

theorem measureGood_iff (u t : Nat) (b : List Nat) (s : State) :
    (decide (667 ≤ measuredDiv u t s) && decide (measuredDiv u t s ≤ 6666667) &&
      cleanChar (s.fld (UART_ABR u) 7 0) (serDecode (s.reg (UART_CFG u)) b)) = true ↔
    (667 ≤ measuredDiv u t s ∧ measuredDiv u t s ≤ 6666667 ∧ ∃ c, serDecode (s.reg (UART_CFG u)) b = some c ∧
      c.data = s.fld (UART_ABR u) 7 0 ∧ c.noise = false ∧ c.parity = false ∧ c.frame = false ∧ c.brk = false) := by
  rw [Bool.and_eq_true, Bool.and_eq_true, decide_eq_true_eq, decide_eq_true_eq, cleanChar_iff, and_assoc]

theorem serMeasured_unarmed {u t : Nat} {b : List Nat} {s : State}
    (h : ¬ (s.live = true ∧ s.serEn u = true ∧ s.flag (UART_ABR u) 31 = true)) : serMeasured u t b s = s :=
  if_pos ((Bool.not_eq_false _).mp (mt (measureOff_iff u s).mp h))

theorem serMeasured_armed {u t : Nat} {b : List Nat} {s : State}
    (h : s.live = true ∧ s.serEn u = true ∧ s.flag (UART_ABR u) 31 = true) : serMeasured u t b s =
    if decide (667 ≤ measuredDiv u t s) && decide (measuredDiv u t s ≤ 6666667) &&
      cleanChar (s.fld (UART_ABR u) 7 0) (serDecode (s.reg (UART_CFG u)) b) then
      serEventData u 5 (measuredDiv u t s % 2 ^ 23) ((s.setFld (UART_ABR u) 31 31 0).setFld (UART_DIV u) 22 0 (measuredDiv u t s))
    else serEvent u 6 (sat 0xFFFF t) s :=
  if_neg (Bool.eq_false_iff.mp ((measureOff_iff u s).mpr h))

theorem takesWrites_uartAbr (u : Fin 4) : TakesWrites (UART_ABR u.val) 0x14 := takesWrites_of (by revert u; decide)

theorem uartAbr_rule (o : Origin) (u : Fin 4) (v : Word) (s : State) : writeRule o (UART_ABR u.val) v s =
    { bad := bit v 31 && decide (abrP (s.reg (UART_CFG u.val)) (bits v 7 0) < 4) } := by
  fin_cases u <;> rfl

theorem abrUnfit_iff (v : Word) (p : Nat) : (bit v 31 && decide (p < 4)) = true ↔ (bit v 31 = true ∧ p < 4) := by
  rw [Bool.and_eq_true, decide_eq_true_eq]

/-! ### Idle lines (R515) -/

theorem idleNot_iff (u : Nat) (s : State) :
    (!s.live || !s.serEn u || s.fld (UART_CFG u) 15 8 == 0 || (s.ser u).idleTold) = false ↔
    (s.live = true ∧ s.serEn u = true ∧ s.fld (UART_CFG u) 15 8 ≠ 0 ∧ (s.ser u).idleTold = false) := by
  simp [and_assoc]

/-- Settles O57: what a receiver stores and tells; that a dropped character adds no flag counts is log entry 54. -/
theorem uartsReceive : Obligations.UartsReceive := by
  refine ⟨fun s u b => ⟨fun h => done_eq (serReceive_deaf h), fun h hd => done_eq (serReceive_none h hd),
      fun c h hd => done_eq (serReceive_some h hd)⟩,
    fun s u c => ⟨fun h => congrArg (breakTold u c) (if_pos h),
      fun h hl => congrArg (breakTold u c) ((if_neg (Nat.not_le.mpr h)).trans (if_pos hl)),
      fun h hl => congrArg (breakTold u c) ((if_neg (Nat.not_le.mpr h)).trans (if_neg hl))⟩,
    fun s u t b => ⟨fun h => done_eq (serMeasured_unarmed h),
      fun h hg => done_eq ((serMeasured_armed h).trans (if_pos ((measureGood_iff u.val t b s).mpr hg))),
      fun h hg => done_eq ((serMeasured_armed h).trans (if_neg (mt (measureGood_iff u.val t b s).mp hg)))⟩,
    fun s u => ⟨fun h => done_eq (if_neg (Bool.eq_false_iff.mp ((idleNot_iff u.val s).mpr h))),
      fun h => done_eq (if_pos ((Bool.not_eq_false _).mp (mt (idleNot_iff u.val s).mp h)))⟩,
    fun o u v s ho => ⟨fun h => ?_, fun h hf => ?_⟩⟩
  · exact write_bad o (UART_ABR u.val) 0x14 v s _ (takesWrites_uartAbr u) ho (uartAbr_rule o u v s) rfl ((abrUnfit_iff v _).mpr h) rfl
  · exact write_stores o (UART_ABR u.val) 0x14 v s _ _ (takesWrites_uartAbr u) ho hf (uartAbr_rule o u v s) rfl
      (Bool.eq_false_iff.mpr (mt (abrUnfit_iff v _).mp h))

end Sys2Proof.Machine
end

section
/-! Proofs about the transmitters of the serial ports (23_serial_ports.md). -/

namespace Sys2Proof.Machine

/-! ### UART_nTX (R511) -/

theorem takesWrites_uartTx (u : Fin 4) : TakesWrites (UART_TX u.val) 0x14 := takesWrites_of (by revert u; decide)

theorem uartTx_rule (o : Origin) (u : Fin 4) (v : Word) (s : State) : writeRule o (UART_TX u.val) v s =
    { pre := serTxPre u.val s, post := chk (serTxFull u.val 1 s) .eFull, store := false, app := serPush u.val [bits v 7 0] } := by
  fin_cases u <;> rfl

section Pre
variable {u : Nat} {s : State}

theorem serTxPre_disabled (h : s.serEn u = false) : serTxPre u s = .eCtx := by
  rw [serTxPre, h]
  rfl

theorem serTxPre_line (he : s.serEn u = true) (hl : s.serLine u = true) : serTxPre u s = .eState := by
  rw [serTxPre, he, hl]
  rfl

theorem serTxPre_may (he : s.serEn u = true) (hl : s.serLine u = false) : serTxPre u s = .ok := by
  rw [serTxPre, he, hl]
  rfl

end Pre

/-! ### UART_nTXW (R511) -/

/-- The checks of the words of UART_nTXW: their number, their values, the room in the queue. -/
def txwWords (u : Nat) (ws : List Word) (s : State) : List Code :=
  [chk (decide (64 < ws.length)) .eLen, chk (ws.any fun w => w.toNat != bits w 7 0) .eRange, chk (serTxFull u ws.length s) .eFull]

theorem winWriteCode_uartTxw (u : Fin 4) (ws : List Word) (s : State) : s.winWriteCode (UART_TXW u.val) ws =
    (lenCode 4096 ws.length).first (firstCode ((if (serTxPre u.val s).early then serTxPre u.val s else .ok) ::
      chk s.closing .eState :: serTxPre u.val s :: txwWords u.val ws s)) := by
  fin_cases u <;> rfl

theorem windowWrite_uartTxw (u : Fin 4) (ws : List Word) (s : State) :
    windowWrite (UART_TXW u.val) ws s = serPush u.val (ws.map fun w => bits w 7 0) s := by
  fin_cases u <;> rfl

theorem page_uartTxw : ∀ u : Fin 4, UART_TXW u.val / 0x10000 = 0x14 := by decide

theorem wideWord_iff (ws : List Word) : (ws.any fun w => w.toNat != bits w 7 0) = true ↔ ∃ w ∈ ws, w.toNat ≠ bits w 7 0 := by
  simp

section Txw
variable {u : Fin 4} {ws : List Word} {s : State}

theorem uartTxw_disabled (h : s.serEn u.val = false) : s.winWriteCode (UART_TXW u.val) ws = .eCtx := by
  rw [winWriteCode_uartTxw, serTxPre_disabled h]
  exact first_lenCode_early (c := .eCtx) (by decide)

variable (hc : s.closing = false)
include hc

theorem uartTxw_line (he : s.serEn u.val = true) (hl : s.serLine u.val = true) : s.winWriteCode (UART_TXW u.val) ws = .eState := by
  rw [winWriteCode_uartTxw, serTxPre_line he hl, hc]
  exact first_lenCode_early (c := .eState) (by decide)

variable (h : s.serEn u.val = true ∧ s.serLine u.val = false)
include h

theorem uartTxw_may : s.winWriteCode (UART_TXW u.val) ws = (lenCode 4096 ws.length).first (firstCode (txwWords u.val ws s)) := by
  rw [winWriteCode_uartTxw, serTxPre_may h.1 h.2, hc]
  rfl

theorem uartTxw_eLen (hn : ¬ (1 ≤ ws.length ∧ ws.length ≤ 64)) : s.winWriteCode (UART_TXW u.val) ws = .eLen := by
  rw [uartTxw_may hc h, txwWords]
  by_cases h64 : 64 < ws.length
  · rw [decide_eq_true h64]
    rcases lenCode_cases 4096 ws.length with hl | hl <;> rw [hl] <;> rfl
  · have h0 : ws.length = 0 := by omega
    rw [List.length_eq_zero_iff.mp h0]
    cases serTxFull u.val 0 s <;> rfl

variable (hn : 1 ≤ ws.length ∧ ws.length ≤ 64)
include hn

theorem uartTxw_fits : s.winWriteCode (UART_TXW u.val) ws =
    firstCode [chk (ws.any fun w => w.toNat != bits w 7 0) .eRange, chk (serTxFull u.val ws.length s) .eFull] := by
  rw [uartTxw_may hc h, txwWords, lenCode_in hn.1 (hn.2.trans (by decide)), first_ok_left, decide_eq_false (Nat.not_lt.mpr hn.2)]
  rfl

theorem uartTxw_eRange (hw : ∃ w ∈ ws, w.toNat ≠ bits w 7 0) : s.winWriteCode (UART_TXW u.val) ws = .eRange := by
  rw [uartTxw_fits hc h hn, (wideWord_iff ws).mpr hw]
  rfl

theorem uartTxw_room (hw : ¬ ∃ w ∈ ws, w.toNat ≠ bits w 7 0) :
    s.winWriteCode (UART_TXW u.val) ws = chk (serTxFull u.val ws.length s) .eFull := by
  rw [uartTxw_fits hc h hn, Bool.eq_false_iff.mpr (mt (wideWord_iff ws).mp hw), firstCode_chk _ _ _ (by decide), firstCode_singleton]
  rfl

end Txw

theorem uartTxw_away {u : Fin 4} {ws : List Word} {s : State} {c : Code} (ho : Open .host 0x14 s)
    (hc : s.winWriteCode (UART_TXW u.val) ws = c) (hne : c ≠ .ok) : exec (.uartTxwWrite u ws) s = .next (turnedAway .host c s) :=
  win_away (UART_TXW u.val) 0x14 s c ws (page_uartTxw u) ho.1 hc hne

theorem txRoom_full {u n : Nat} {s : State} (h : 64 < (s.ser u).txq.length + n) : chk (serTxFull u n s) .eFull = .eFull := by
  rw [serTxFull, decide_eq_true h]
  rfl

theorem txRoom_ok {u n : Nat} {s : State} (h : (s.ser u).txq.length + n ≤ 64) : chk (serTxFull u n s) .eFull = .ok := by
  rw [serTxFull, decide_eq_false (Nat.not_lt.mpr h)]
  rfl

/-! ### Sent characters and the drive enable (R512) -/

theorem sentNot_iff (u : Nat) (s : State) : ((s.ser u).tx.isNone || !s.live) = false ↔ (s.live = true ∧ (s.ser u).tx ≠ none) := by
  rw [Bool.or_eq_false_iff, Bool.not_eq_false', Option.isNone_eq_false_iff, Option.isSome_iff_ne_none, and_comm]

/-- The transmitter after a character's end: a report line's character is accounted, and the next starts. -/
def sentOn (u : Nat) (s : State) : State := serStart u (serLineStep u (onSer u (fun y => { y with tx := none }) s))

theorem serSent_not {u : Nat} {s : State} (h : ¬ (s.live = true ∧ (s.ser u).tx ≠ none)) : (if s.live then serSent u s else s) = s := by
  split
  · exact if_pos ((Bool.not_eq_false _).mp (mt (sentNot_iff u s).mp h))
  · rfl

theorem serSent_ends {u : Nat} {s : State} (h : s.live = true ∧ (s.ser u).tx ≠ none) : (if s.live then serSent u s else s) =
    if (s.ser u).txq.isEmpty then serEvent u 7 0 (sentOn u s) else sentOn u s :=
  (if_pos h.1).trans (if_neg (Bool.eq_false_iff.mp ((sentNot_iff u s).mpr h)))

theorem holdEnd_iff (u : Nat) (s : State) : ((s.ser u).de && (s.ser u).tx.isNone && (s.ser u).txq.isEmpty && s.live) = true ↔
    (s.live = true ∧ (s.ser u).de = true ∧ (s.ser u).tx = none ∧ (s.ser u).txq = []) := by
  rw [Bool.and_eq_true, Bool.and_eq_true, Bool.and_eq_true, Option.isNone_iff_eq_none, List.isEmpty_iff, and_comm, and_assoc]

/-! ### UART_nCTL -/

theorem takesWrites_uartCtl (u : Fin 4) : TakesWrites (UART_CTL u.val) 0x14 := takesWrites_of (by revert u; decide)

theorem legal_uartCtl : ∀ u : Fin 4, legal (UART_CTL u.val) 1 = true ∧ legal (UART_CTL u.val) 2 = true := by decide

theorem rxflush_rule (o : Origin) (u : Fin 4) (s : State) : writeRule o (UART_CTL u.val) 2 s =
    { store := false, app := onSer u.val (fun x => { x with rx := [] }) } := by
  fin_cases u <;> rfl

theorem txflush_rule (o : Origin) (u : Fin 4) (s : State) : writeRule o (UART_CTL u.val) 1 s =
    { store := false, app := serTxFlush u.val } := by
  fin_cases u <;> rfl

/-- Settles O58: transmit writes, sent characters, the drive enable, flushes; the time of kind 7 and the line that a flush cuts off
are log entry 54. -/
theorem uartsSend : Obligations.UartsSend := by
  refine ⟨fun o u v s ho => ⟨fun h => ?_, fun he hl => ?_, fun he hl hf hq => ?_, fun he hl hf hq => ?_⟩,
    fun u ws s ho => ⟨fun h => uartTxw_away ho (uartTxw_disabled h) (by decide),
      fun he hl => uartTxw_away ho (uartTxw_line ho.2.2 he hl) (by decide),
      fun h hn => uartTxw_away ho (uartTxw_eLen ho.2.2 h hn) (by decide),
      fun h hn hw => uartTxw_away ho (uartTxw_eRange ho.2.2 h hn hw) (by decide),
      fun h hn hw hq => uartTxw_away ho ((uartTxw_room ho.2.2 h hn hw).trans (txRoom_full hq)) (by decide), fun h hn hw hq => ?_⟩,
    fun u cs s => rfl,
    fun s u => ⟨fun h => done_eq (serSent_not h), fun h hq => done_eq ((serSent_ends h).trans (if_pos (List.isEmpty_iff.mpr hq))),
      fun h hq => done_eq ((serSent_ends h).trans (if_neg (mt List.isEmpty_iff.mp hq)))⟩,
    fun s u => ⟨fun h => done_eq ((if_pos h.1).trans (if_pos ((holdEnd_iff u.val s).mpr h))), fun h => done_eq ?_⟩,
    fun s u => ⟨fun h => done_eq (if_pos h), fun h => done_eq (if_neg (by rw [h]; exact Bool.false_ne_true))⟩,
    fun o u s ho => ⟨?_, ?_⟩⟩
  · exact write_pre o (UART_TX u.val) 0x14 v s .eCtx _ (takesWrites_uartTx u) ho (uartTx_rule o u v s) (serTxPre_disabled h) (by decide) rfl
  · exact write_pre o (UART_TX u.val) 0x14 v s .eState _ (takesWrites_uartTx u) ho (uartTx_rule o u v s) (serTxPre_line he hl)
      (by decide) rfl
  · exact write_post o (UART_TX u.val) 0x14 v s .eFull _ (takesWrites_uartTx u) ho hf (uartTx_rule o u v s) (serTxPre_may he hl) rfl
      (txRoom_full (Nat.succ_lt_succ hq)) (by decide) rfl
  · refine write_acts (takesWrites_uartTx u) ho hf ?_ ?_ ?_ ?_ <;> rw [uartTx_rule]
    · exact serTxPre_may he hl
    · exact txRoom_ok (Nat.succ_le_succ hq)
    · simp only [Bool.false_eq_true, if_false]
  · rw [← windowWrite_uartTxw]
    exact win_ok (UART_TXW u.val) 0x14 s ws (page_uartTxw u) ho.1 ((uartTxw_room ho.2.2 h hn hw).trans (txRoom_ok hq))
  · split
    · exact if_neg (mt (holdEnd_iff u.val s).mp h)
    · rfl
  · refine write_acts (takesWrites_uartCtl u) ho (fits_of_legal (legal_uartCtl u).2) ?_ ?_ ?_ ?_ <;> rw [rxflush_rule]
    simp only [Bool.false_eq_true, if_false]
  · refine write_acts (takesWrites_uartCtl u) ho (fits_of_legal (legal_uartCtl u).1) ?_ ?_ ?_ ?_ <;> rw [txflush_rule]
    simp only [Bool.false_eq_true, if_false]
    rfl

end Sys2Proof.Machine
end
